-- ==== Sys2Proof/Word.lean ====
section
/-! DEFINITION. The plainest types of the model: bytes, 32-bit parameter words, and a byte memory as one list in
canonical form. The block has no processor word; times are natural numbers of nanoseconds or microseconds. -/
namespace Sys2Proof

/-- One byte. -/
abbrev Byte := BitVec 8

/-- One 32-bit parameter or register word (R9). -/
abbrev Word := BitVec 32

end Sys2Proof
end

