-- ==== Sys2Proof/Machine/Map.lean ====
section
/-! DEFINITION. Two plain-data containers. `Map` holds the objects of one kind by number (tasks, channels, stations);
an object that is not listed is in its reset condition. `Mem` holds the bytes of one memory: addresses strictly rising,
and no entry equal to what an unlisted address reads as, which is 0 (log entry 3). -/
namespace Sys2Proof.Machine

/-- Objects of one kind by number, numbers strictly rising. -/
abbrev Map (α : Type) := List (Nat × α)

/-- The object at number `k`, if it is listed. -/
def Map.find {α : Type} (m : Map α) (k : Nat) : Option α :=
  match m with
  | [] => none
  | (j, a) :: r => if j = k then some a else Map.find r k

/-- The object at number `k`; `d` is the reset condition of an unlisted one. -/
def Map.getD {α : Type} (m : Map α) (k : Nat) (d : α) : α := (Map.find m k).getD d

/-- Puts object `a` at number `k`. -/
def Map.put {α : Type} (m : Map α) (k : Nat) (a : α) : Map α :=
  match m with
  | [] => [(k, a)]
  | (j, b) :: r => if k < j then (k, a) :: (j, b) :: r else if j = k then (k, a) :: r else (j, b) :: Map.put r k a

/-- Takes number `k` out of the list. -/
def Map.del {α : Type} (m : Map α) (k : Nat) : Map α := m.filter (fun e => e.1 != k)

/-- Changes the object at number `k`, starting from `d` when it is not listed. -/
def Map.upd {α : Type} (m : Map α) (k : Nat) (d : α) (f : α → α) : Map α := Map.put m k (f (Map.getD m k d))

/-- Changes every listed object. -/
def Map.mapV {α β : Type} (m : Map α) (f : Nat → α → β) : Map β := m.map (fun e => (e.1, f e.1 e.2))

/-- A byte memory: address and byte, addresses strictly rising, no byte equal to 0 listed. -/
abbrev Mem := List Host.Cell

/-- What an address that nothing has written reads as (log entry 3). -/
def Mem.blank : Byte := 0

/-- Reads the byte at address `a`. -/
def Mem.rd (m : Mem) (a : Nat) : Byte :=
  match m with
  | [] => Mem.blank
  | (j, b) :: r => if j = a then b else Mem.rd r a

/-- Writes byte `v` at address `a`, keeping the canonical form. -/
def Mem.wr (m : Mem) (a : Nat) (v : Byte) : Mem :=
  match m with
  | [] => if v = Mem.blank then [] else [(a, v)]
  | (j, b) :: r =>
    if a < j then (if v = Mem.blank then (j, b) :: r else (a, v) :: (j, b) :: r)
    else if j = a then (if v = Mem.blank then r else (a, v) :: r)
    else (j, b) :: Mem.wr r a v

/-- Whether the addresses of `m` all lie above `lo` and rise, with no blank byte listed. -/
def Mem.wfFrom (lo : Nat) (m : Mem) : Bool :=
  match m with
  | [] => true
  | (j, b) :: r => decide (lo ≤ j) && decide (b ≠ Mem.blank) && Mem.wfFrom (j + 1) r

/-- The canonical form. -/
def Mem.wf (m : Mem) : Bool := Mem.wfFrom 0 m

/-- Reads `n` bytes from address `a`. -/
def Mem.rdN (m : Mem) (a n : Nat) : List Byte := (List.range n).map (fun i => Mem.rd m (a + i))

/-- Writes the bytes `bs` from address `a` on. -/
def Mem.wrN (m : Mem) (a : Nat) (bs : List Byte) : Mem :=
  match bs with
  | [] => m
  | b :: r => Mem.wrN (Mem.wr m a b) (a + 1) r

/-- The memory that holds the bytes `bs` from address 0. -/
def Mem.ofBytes (bs : List Byte) : Mem := Mem.wrN [] 0 bs

/-- The bytes of `n`, least significant first (R7), `k` of them. -/
def leBytes (k n : Nat) : List Byte :=
  match k with
  | 0 => []
  | k + 1 => BitVec.ofNat 8 n :: leBytes k (n / 256)

/-- The number held by the bytes `bs`, least significant first. -/
def leNat (bs : List Byte) : Nat :=
  match bs with
  | [] => 0
  | b :: r => b.toNat + 256 * leNat r

/-- The number in `n` bytes from address `a`. -/
def Mem.rdLe (m : Mem) (a n : Nat) : Nat := leNat (Mem.rdN m a n)

/-- Writes number `v` in `n` bytes at address `a`. -/
def Mem.wrLe (m : Mem) (a n v : Nat) : Mem := Mem.wrN m a (leBytes n v)

/-- Bits `hi..lo` of the number `w`. -/
def bits (w hi lo : Nat) : Nat := w / 2 ^ lo % 2 ^ (hi + 1 - lo)

/-- Bit `i` of the number `w`. -/
def bit (w i : Nat) : Bool := w / 2 ^ i % 2 == 1

/-- 1 for true and 0 for false. -/
def b01 (b : Bool) : Nat := if b then 1 else 0

/-- `n` bits of two's complement read as an integer. -/
def signed (n w : Nat) : Int := if 2 ^ (n - 1) ≤ w % 2 ^ n then (w % 2 ^ n : Int) - (2 ^ n : Int) else (w % 2 ^ n : Int)

/-- The two's complement of an integer in `n` bits. -/
def unsigned (n : Nat) (i : Int) : Nat := (i % (2 ^ n : Int)).toNat

/-- `x - k`, 0 where `k` is larger, by way of the integers, so that the kernel never counts down from a large constant. -/
def cut (x k : Nat) : Nat := ((x : Int) - (k : Int)).toNat

/-- The smallest multiple of `d` at or above `n`, divided by `d`. -/
def cdiv (n d : Nat) : Nat := (n + d - 1) / d

end Sys2Proof.Machine
end

