-- ==== Sys2Proof/Machine/Types.lean ====
section
/-! DEFINITION. The names and records the commands carry: module states and roles, memory spaces and data types, block
operands, the configuration set with everything a package brings, mailbox requests, and what outside units deliver. -/
namespace Sys2Proof.Machine

/-! ### Names -/

/-- Module states with the codes of R393 and R340. -/
inductive MState | off | boot | selftest | stop | run | trip | service | fault
  deriving DecidableEq, Repr

/-- Redundancy roles (R1), codes of R338. -/
inductive RRole | solo | pairA | pairB | reserve | reserveProof
  deriving DecidableEq, Repr

/-- PAIR_STATE of R338, codes 0 to 7. -/
inductive PState | none | paired | degraded | alone | resyncSource | resyncTarget | joining | standby
  deriving DecidableEq, Repr

/-- Servo states of R328, codes 0 to 4. -/
inductive Servo | unlocked | locking | locked | holdover | grandmaster
  deriving DecidableEq, Repr

/-- PTP port states of R328, codes 0 to 5. -/
inductive PortSt | disabled | listening | master | slave | passive | faulty
  deriving DecidableEq, Repr

/-- SIDING_STATE of R142, codes 0 to 5. -/
inductive SidingSt | empty | loading | loaded | preparing | named | held
  deriving DecidableEq, Repr

/-- Task states of R77, codes 0 to 7. -/
inductive TaskSt | empty | halted | idle | ready | running | preempted | staged | suspended
  deriving DecidableEq, Repr

/-- Task classes of R54, codes 0 to 5. -/
inductive Cls | none | s | c | p | b | e
  deriving DecidableEq, Repr

/-- Engine status of R11. -/
inductive EngSt | active | reserve | failed | fenced | off
  deriving DecidableEq, Repr

/-- Power domain states of R475, codes 0 to 4. -/
inductive DomSt | off | on | offByMode | fenced | fault
  deriving DecidableEq, Repr

/-- CAN channel states of R280, codes 0 to 7. -/
inductive CanSt | off | integrating | errorActive | errorPassive | busOff | recovering | transition | standby
  deriving DecidableEq, Repr

/-- Station states of R314, codes 0 to 5. -/
inductive StaSt | disabled | starting | ok | missed | substitute | transition
  deriving DecidableEq, Repr

/-- Panel states of R387, codes 0 to 9. -/
inductive PanelSt | off | absent | identifying | idle | updating | compensating | recovering | tempHold | fault | transition
  deriving DecidableEq, Repr

/-- Slot states of R172, codes 0 to 4. -/
inductive SlotSt | empty | idle | checking | queued | running
  deriving DecidableEq, Repr

/-- Session states of R414, codes 0 to 2. -/
inductive SessSt | closed | opening | open
  deriving DecidableEq, Repr

/-- Spare states of R238, codes 0 to 2. -/
inductive SpareSt | reserve | inUse | failed
  deriving DecidableEq, Repr

/-- A line between pair members (ch. 14). -/
inductive Line | up | down
  deriving DecidableEq, Repr

/-- A station port. -/
inductive Port | a | b
  deriving DecidableEq, Repr

/-- Memory spaces of R88, codes 0 to 7. -/
inductive Space | inp | out | loc | glb | ret | con | sys | imm
  deriving DecidableEq, Repr

/-- Data types of R89. -/
inductive Ty | bool | i8 | i16 | i32 | i64 | u8 | u16 | u32 | u64 | f32 | f64 | q (f : Nat)
  deriving DecidableEq, Repr

/-- An operand reference (R87): space, type and the 23 bits of OFFSET. -/
structure Ref where
  sp  : Space
  ty  : Ty
  off : BitVec 23
  deriving DecidableEq, Repr

/-- A block as it stands in an image (R85, R86): its flag byte's bits, its operand references in order, its instance;
with the task whose job evaluates it. -/
structure Blk where
  task : Fin 256
  sat  : Bool := false
  en   : Bool := false
  optA : Bool := false
  optB : Bool := false
  ops  : List Ref := []
  inst : Option Nat := none
  deriving DecidableEq, Repr

/-! ### The configuration set (R141) -/

/-- A block of an image: opcode, flag byte, operand words, INST_ID when INST is set (R85). -/
structure Block where
  op    : Nat
  flags : Nat := 0
  ops   : List Nat := []
  inst  : Nat := 0
  deriving DecidableEq, Repr

/-- A block list with its LIST_DIR entry (R82). -/
structure BList where
  blocks    : List Block
  callDepth : Nat := 0
  wcCycles  : Nat := 0
  deriving DecidableEq, Repr

/-- An INST entry (R83). -/
structure InstEntry where
  id     : Nat
  opcode : Nat
  bytes  : Nat
  off    : Nat := 0
  iflags : Nat := 0
  deriving DecidableEq, Repr

/-- A VARS entry (R84). -/
structure VarEntry where
  id    : Nat
  loc   : Ref
  elems : Nat := 1
  flags : Nat := 0
  deriving DecidableEq, Repr

/-- A RETAIN descriptor (R127). -/
structure RetDesc where
  blockId : Nat
  sig     : Nat
  off     : Nat
  bytes   : Nat
  initOff : Nat := 0xFFFFFFFF
  deriving DecidableEq, Repr

/-- A field entry of a MIGRATE table (R135). -/
structure MigField where
  oldOff  : Nat
  newOff  : Nat
  oldTy   : Ty
  newTy   : Ty
  elems   : Nat
  deriving DecidableEq, Repr

/-- A MIGRATE table (R135). -/
structure MigTable where
  blockId : Nat
  oldSig  : Nat
  fields  : List MigField
  deriving DecidableEq, Repr

/-- A program image (R80, R81). `formBad` is the byte offset of a wrong MAGIC, version, CRC, length, directory or reserved
field, when one is wrong. -/
structure Image where
  no        : Nat
  formBad   : Option Nat := none
  fmtMajor  : Nat := 2
  fmtMinor  : Nat := 0
  bytes     : Nat := 64
  nSect     : Nat := 4
  id        : Nat := 0
  toolVer   : Nat := 0
  features  : Nat := 0
  codeBytes : Nat := 0
  conBytes  : Nat := 0
  locBytes  : Nat := 0
  instBytes : Nat := 0
  journalWc : Nat := 0
  lists     : List BList := []
  con       : Mem := []
  insts     : List InstEntry := []
  vars      : List VarEntry := []
  retain    : List RetDesc := []
  migrate   : List MigTable := []
  deriving DecidableEq, Repr

/-- Where a declared input comes from (R58): a record of the global capture from a byte offset on, or a global variable. -/
inductive Src
  | ai (c : Fin 24) | aoRb (c : Fin 8) | di (c : Fin 32) (off : Nat) | doRec (c : Fin 24) (off : Nat)
  | station (st : Fin 64) (off : Nat) | hart (h : Fin 32) (e : Fin 16) | hartRsp (h : Fin 32)
  | canObj (ch : Fin 4) (o : Fin 128) | canTx (ch : Fin 4) | cntr (n : Fin 512) | glb (off : Nat)
  deriving DecidableEq, Repr

/-- Where a declared output goes. -/
inductive Dst
  | ao (c : Fin 8) | dout (c : Fin 24) | station (st : Fin 64) (off : Nat)
  deriving DecidableEq, Repr

/-- An entry of an input declaration list: variable, element count, type, source, whether the merged image serves it, and
its initial value. -/
structure InDecl where
  varId  : Nat
  ty     : Ty
  elems  : Nat := 1
  src    : Src
  merged : Bool := false
  init   : Nat := 0
  deriving DecidableEq, Repr

/-- An entry of an output declaration list: variable, type, element count, destination, initial value and safe value. -/
structure OutDecl where
  varId : Nat
  ty    : Ty
  elems : Nat := 1
  dst   : Dst
  init  : Nat := 0
  safe  : Nat := 0
  deriving DecidableEq, Repr

/-- A merge-table entry (R343). -/
structure MergeEntry where
  varId : Nat
  rule  : Nat
  src   : Nat
  deriving DecidableEq, Repr

/-- A station substitute entry (R305). -/
structure SubstEntry where
  varId  : Nat
  elem   : Nat
  policy : Nat
  value  : Nat
  deriving DecidableEq, Repr

/-- A snapshot-table entry (R447). -/
structure SnapEntry where
  code : Nat
  refs : List Nat
  deriving DecidableEq, Repr

/-- A block-table entry of a Sage descriptor (R175). -/
structure SBlk where
  role   : Nat
  fmt    : Nat
  kind   : Nat
  rows   : Nat
  cols   : Nat
  off    : Nat
  stride : Nat
  lo     : Int := 0
  hi     : Int := 0
  deriving DecidableEq, Repr

/-- A Sage descriptor (R174). `formBad` is the offset of a wrong magic, format, CRC or reserved field. -/
structure Desc where
  slot     : Nat
  cls      : Nat
  n        : Nat
  m        : Nat := 0
  owner    : Nat := 0xFFFF
  dflags   : Nat := 0
  iterCap  : Nat := 0
  checkInt : Nat := 0
  refine   : Nat := 0
  fallback : Nat := 0
  tolAbsPri : Int := 0
  tolRelPri : Int := 0
  tolAbsDua : Int := 0
  tolRelDua : Int := 0
  singThr  : Int := 0
  rho      : Int := 0
  sigma    : Int := 0
  alpha    : Int := 0
  epsP     : Int := 0
  epsD     : Int := 0
  marginUs : Nat := 0
  safeOff  : Nat := 0xFFFFFFFF
  descId   : Nat := 0
  blks     : List SBlk := []
  safe     : List (List Int) := []
  formBad  : Option Nat := none
  deriving DecidableEq, Repr

/-- A layout field (R374). -/
structure LField where
  kind  : Nat
  flags : Nat := 0
  x     : Nat
  y     : Nat
  w     : Nat
  h     : Nat
  fg    : Nat := 0
  bg    : Nat := 15
  font  : Nat := 0
  varId : Nat := 0
  fmt   : Nat := 0
  symOff : Nat := 0
  deriving DecidableEq, Repr

/-- A waveform entry: the phases in order, 0, +1 or −1 (R371). `bad` says a phase code 0b11 or a phase at or beyond LEN
stands in it. -/
structure WEntry where
  phases : List Int
  bad    : Bool := false
  deriving DecidableEq, Repr

/-- A waveform table (R371): entries by index, main entries 0 to 2047 and unknown entries from 2048 on; unlisted: LEN 0. -/
structure WTable where
  formBad : Option Nat := none
  bandLo  : List Int := []
  tMin    : Int := 0
  tMax    : Int := 0
  entries : Map WEntry := []
  deriving DecidableEq, Repr

/-- A display layout of one panel (R374): fields by number and the bitmap area's 4-bit pixels. -/
structure Layout where
  fields : Map LField := []
  bitmap : List Nat := []
  deriving DecidableEq, Repr

/-- A configuration set. `words` holds the parameter values the package carries, by index × 256 + subindex; a parameter that
is not carried takes the reset value of its map. The order and layout of the sections inside a package is not in the
spec; the model holds the items of R141 (log entry 6). `declLoad` holds, per engine subindex of 0x2002, the declared busy
cycles of each tick of its hyperperiod (R46, R47). -/
structure ConfigSet where
  setId    : Nat := 0
  words    : Map Nat := []
  images   : List Image := []
  inLists  : Map (List InDecl) := []
  outLists : Map (List OutDecl) := []
  timers   : List (Nat × Nat) := []
  merge    : List MergeEntry := []
  subst    : List SubstEntry := []
  snaps    : List SnapEntry := []
  descs    : List Desc := []
  layouts  : Map Layout := []
  waves    : Map WTable := []
  declLoad : Map (List Nat) := []
  initGlb  : Mem := []
  initLoc  : Map Mem := []
  deriving DecidableEq, Repr

/-- What the bytes of a loaded package decode to: unreadable at an offset, or a set, with the verdict on its signature. -/
structure Package where
  unreadable : Option Nat := none
  signed     : Bool := true
  set        : ConfigSet := {}
  deriving DecidableEq, Repr

/-! ### What the outside world delivers -/

/-- Who sent a mailbox message: a UDP address and port, or an endpoint pair of the service port (R396, R397). -/
inductive Peer | udp (addr port : Nat) | usb (pair : Fin 2)
  deriving DecidableEq, Repr

/-- A mailbox command as Maruth takes it from a session's command ring (R399, R411): ns since the command before it, session, tag, payload;
for SESSION_OPEN, which has no session yet, its source. -/
structure Req where
  dt      : Nat := 0
  sess    : Nat
  tag     : Nat := 0
  payload : List Byte := []
  src     : Peer := .usb 0
  deriving DecidableEq, Repr

/-- A CAN frame (R282, R288): extended flag, identifier as placed in bits 28..0, DLC code, data, FDF, BRS, ESI, remote. -/
structure CanFrame where
  ext  : Bool := false
  id   : Nat
  dlc  : Nat := 0
  data : List Byte := []
  fdf  : Bool := false
  brs  : Bool := false
  esi  : Bool := false
  rtr  : Bool := false
  deriving DecidableEq, Repr

/-- The PDU of a ZSL IN frame (R307). -/
structure ZIn where
  version  : Nat := 1
  type     : Nat := 2
  flags    : Nat := 0
  station  : Nat
  tn       : Nat
  blockLen : Nat
  configId : Nat
  echoDig  : Nat := 0
  block    : List Byte := []
  digest   : Nat
  deriving DecidableEq, Repr

/-- A partner heartbeat (R340). `crcOk` is the verdict on all its segments. -/
structure HB where
  role     : Nat
  mstate   : Nat
  tn       : Nat
  pstate   : Nat
  flags    : Nat := 0
  setId    : Nat := 0
  digest   : Nat := 0
  tSend    : Nat := 0
  snapshot : List Byte := []
  events   : List (Nat × Nat) := []
  crcOk    : Bool := true
  deriving DecidableEq, Repr

/-- A beacon or witness answer (R350). -/
structure Beacon where
  role   : Nat
  pstate : Nat
  mstate : Nat
  flags  : Nat := 0
  tn     : Nat
  lastA  : Nat := 0
  lastB  : Nat := 0
  setId  : Nat := 0
  deriving DecidableEq, Repr

/-- The outcome a partner reports for a Sage job (R222): status code of R203, iteration count, result blocks x, y, z. -/
structure SOut where
  code : Nat
  iter : Nat
  res  : List (List Int) := []
  deriving DecidableEq, Repr

/-- A force-table entry (R154); `expiry` none stands for 0xFFFFFFFFFFFFFFFF. Beside the fields of R154 it keeps whether SERVICE set it
and when, in µs, which R157 goes by. -/
structure Force where
  varId   : Nat
  elem    : Nat
  fkind   : Nat
  flags   : Nat := 0
  session : Nat := 0xFF
  value   : Nat := 0
  expiry  : Option Nat := none
  svc     : Bool := false
  setAt   : Nat := 0
  deriving DecidableEq, Repr

/-- A CAN transmit request as it takes effect (R282): buffer, frame, arm operand, tag. -/
structure CanReq where
  ch    : Nat
  buf   : Nat
  frame : CanFrame
  arm   : Nat
  tag   : Nat
  deriving DecidableEq, Repr

/-- What a command or the module has ordered for a later boundary. -/
inductive Effect
  | params (es : List (Nat × Nat))
  | varWrite (varId first : Nat) (vals : List Nat)
  | forceSet (f : Force)
  | forceClear (varId elem fkind sess : Nat)
  | taskResume (t : Nat)
  | diReset (mask : Nat)
  | holdAck (g : Nat)
  | loopCheck (kind ch value : Nat)
  | cntClear (first count : Nat)
  | cntThreshold (k source limit : Nat)
  | slotSubmit (slot deadlineUs sess tag : Nat)
  | deadlineTest (slot us : Nat)
  | canTx (r : CanReq) (sess tag : Nat)
  | enterStop | enterService | enterAlone | repairParity (key : Nat)
  | enterRun (warm : Bool) (cause : Nat)
  | shed (on : Bool)
  | partnerShed (on : Bool)
  | throwCancel
  | named (tn : Nat) (forcesBlock staged : Bool)
  | loaded
  deriving DecidableEq, Repr

/-- What a pair member proposes to its partner (R162, R415, R484). -/
inductive Proposal
  | throw (tn : Nat) (forcesBlock staged : Bool)
  | load (p : Package)
  | cmd (tnA : Nat) (e : Effect)
  deriving DecidableEq, Repr

/-- A raw level change of a digital input (R254): channel, instant in µs of module time, new level. -/
structure Edge where
  c    : Nat
  t    : Nat
  high : Bool
  deriving DecidableEq, Repr

/-- A corrected error met by a scrub pass or a self-test: memory kind (0 image SRAM, 1 DRAM, 2 MRAM, 3 CE local, 4 SE
local), engine number for kinds 3 and 4, bank or macro, row, column or sector, whether it is a column, physical address of R13. -/
structure Hit where
  kind : Nat
  num  : Nat := 0
  bank : Nat := 0
  unit : Nat
  col  : Bool := false
  addr : Nat
  deriving DecidableEq, Repr

/-- Identity store of a panel (R386). -/
structure PanelId where
  magicOk : Bool := true
  crcOk   : Bool := true
  width   : Nat
  height  : Nat
  serial  : Nat
  deriving DecidableEq, Repr

/-- Findings of start-up (R467 to R471) that come from outside the model's state: boot copies, self-test results, supply,
panel identity, temperatures, and the cause of word 0 of POWER_UP. -/
structure StartUp where
  cause    : Nat := 0
  boot1Ok  : Bool := true
  boot2Ok  : Bool := true
  ceFail   : List Nat := []
  seFail   : List Nat := []
  fatal    : Bool := false
  tcxoFail : Option Nat := none
  holdup   : Nat := 100
  rows     : List Hit := []
  groupsDead : List Nat := []
  railFail : Bool := false
  setOk    : Bool := true
  panel1   : Option PanelId := none
  vlA      : Nat := 24000
  vlB      : Nat := 24000
  heater   : Bool := false
  deriving DecidableEq, Repr

/-- What a module heard while it listened (R473). -/
structure Heard where
  hbState     : Option Nat := none
  beaconState : Option Nat := none
  sameRole    : Bool := false
  witnessOk   : Bool := false
  deriving DecidableEq, Repr

/-- A best-master data set carried by an Announce message, reduced to what the default algorithm compares (R318). -/
structure Gm where
  prio1    : Nat
  clkClass : Nat
  accuracy : Nat := 0xFE
  variance : Nat := 0xFFFF
  prio2    : Nat
  identity : Nat
  steps    : Nat := 0
  deriving DecidableEq, Repr

/-- A retain-directory entry (R129). -/
structure DirEntry where
  blockId : Nat
  sig     : Nat
  off     : Nat
  bytes   : Nat
  valid   : Bool := true
  deriving DecidableEq, Repr

/-- A retain directory (R129): SET_ID, entries, and whether its header and CRC check. -/
structure RetDir where
  setId   : Nat := 0
  entries : List DirEntry := []
  crcOk   : Bool := false
  deriving DecidableEq, Repr

/-- State of a task as it crosses (R77, R359). -/
structure TaskCopy where
  task      : Nat
  st        : TaskSt
  ovrConsec : Nat := 0
  skip      : Bool := false
  ovrTotal  : Nat := 0
  lastResp  : Nat := 0
  maxResp   : Nat := 0
  evtPend   : Nat := 0
  evtCount  : Nat := 0
  evtLost   : Nat := 0
  deriving DecidableEq, Repr

/-- State of a station as it crosses, with its held values (R314, R359). -/
structure StationCopy where
  st     : Nat
  code   : StaSt
  miss   : Nat := 0
  good   : Nat := 0
  useSub : Bool := false
  last   : Option (List Byte) := none
  deriving DecidableEq, Repr

/-- Presentation, status word and published bank of a slot as they cross (R359): word, tag and iteration count of the current and of the
latched presentation, the elements of the published result blocks. -/
structure SlotCopy where
  slot      : Nat
  cur       : Nat × Nat × Nat := (0, 0, 0)
  latched   : Nat × Nat × Nat := (0, 0, 0)
  last      : Nat := 0
  pubBank   : Bool := false
  published : Bool := false
  store     : List (Nat × Int) := []
  deriving DecidableEq, Repr

/-- An armed hardware timer event as it crosses: event, instance, task, TN_ev (R120, R359). -/
structure TimerCopy where
  no   : Nat
  inst : Nat
  task : Nat
  tnEv : Nat
  deriving DecidableEq, Repr

/-- Part of the state that crosses in a re-synchronisation or a checkpoint (R359). A `full` part replaces the memories as a whole; else
`pages` names the 4 KiB pages it replaces, those of RET after those of GLB, and every other cell is written as it stands. The lists of
tasks, stations, slots, timers and the directory stand for the whole of each when they are present. -/
structure StatePart where
  full  : Bool := false
  pages : List Nat := []
  glb   : List Host.Cell := []
  ret   : List Host.Cell := []
  insts : List (Nat × Nat × List Byte) := []
  locs  : List (Nat × List Host.Cell) := []
  outs  : List (Nat × List Host.Cell) := []
  forces : Option (List Force) := none
  tasks : List TaskCopy := []
  stations : List StationCopy := []
  slots : List SlotCopy := []
  timers : Option (List TimerCopy) := none
  dir   : Option RetDir := none
  deriving DecidableEq, Repr

/-- A segment of the re-synchronisation stream (R359): the source's main set, a base page, or the journal of one tick. -/
inductive ResyncSeg
  | mainSet (s : ConfigSet)
  | base (p : StatePart) (last : Bool)
  | journal (tn nw sd : Nat) (p : StatePart)
  deriving DecidableEq, Repr

end Sys2Proof.Machine
end

