-- ==== Sys2Proof/Syntax.lean ====
section
/-! DEFINITION. The commands of the block: one constructor per row of spec/opcode_table.json, in the table's order. A row that
happens outside the jobs carries `dt`, the ns that have passed since the command before it (log entry 5); a row that is a
block carries the block as its image holds it; a row that is a mailbox command carries the request as taken from its ring. -/
namespace Sys2Proof

open Sys2Proof.Machine

/-- A command of the block. -/
inductive Instr
  /-- R39: At every tick boundary the Timetable commits staged outputs, refreshes the field-side watchdogs, captures inputs and applies any substitution and throw catch-up, in that order. Operands: busy cycles measured per engine subindex of 0x2002 in the tick that ends. -/
  | boundary (dt : Nat) (busy : List (Nat × Nat))
  /-- R268: At B + T_tick/4 of its test boundary, the switch of a channel that is commanded on opens for OP_WIDTH. -/
  | offPulseStart (dt : Nat) (c : Fin 24)
  /-- R268: At the end of the off-pulse the readback sampled 20 µs before the end sets or clears STUCK_ON. Operands: readback 20 µs before the end. -/
  | offPulseEnd (dt : Nat) (c : Fin 24) (rb : Bool)
  /-- R41: At B + O_rel a due task's declared inputs are copied into its input image and its job becomes ready on its CE. -/
  | taskRelease (dt : Nat) (t : Fin 256)
  /-- R120: At B(TN_ev) + O_rel an armed hardware timer event releases its bound task with EVT_CAUSE bit 6. Operands: event number EVT_NO. -/
  | hwTimerEvent (dt : Nat) (e : Fin 4096)
  /-- R308: At B + T_ZSL_TX the OUT frames of all enabled stations leave in ascending station order. -/
  | zslOutTransmit (dt : Nat)
  /-- R315: At the reply cut-off each station's exchange is judged good or missed, and its state, inputs and dropout counting are updated. -/
  | zslCutoff (dt : Nat)
  /-- R343: At B + T_SNAP the merged input image for TN is built from the local values and the partner's snapshot by the merge rules. -/
  | mergedImageBuild (dt : Nat)
  /-- R350: A pair member sends its beacon to GROUP_MAC after the ZSL window. -/
  | beaconSend (dt : Nat)
  /-- R107: Block: logical or bitwise AND of 2–16 inputs. -/
  | and (b : Blk)
  /-- R107: Block: logical or bitwise OR of 2–16 inputs. -/
  | or (b : Blk)
  /-- R107: Block: logical or bitwise XOR of 2–16 inputs. -/
  | xor (b : Blk)
  /-- R107: Block: logical or bitwise NOT. -/
  | not (b : Blk)
  /-- R99: Block: shift left. -/
  | shl (b : Blk)
  /-- R99: Block: logical shift right. -/
  | shr (b : Blk)
  /-- R99: Block: arithmetic shift right. -/
  | asr (b : Blk)
  /-- R99: Block: rotate left. -/
  | rol (b : Blk)
  /-- R99: Block: rotate right. -/
  | ror (b : Blk)
  /-- R99: Block: read bit n. -/
  | bitget (b : Blk)
  /-- R99: Block: set or clear bit n. -/
  | bitset (b : Blk)
  /-- R107: Block: population count. -/
  | popcnt (b : Blk)
  /-- R107: Block: compare equal. -/
  | eq (b : Blk)
  /-- R107: Block: compare not equal. -/
  | ne (b : Blk)
  /-- R107: Block: compare less than. -/
  | lt (b : Blk)
  /-- R107: Block: compare less or equal. -/
  | le (b : Blk)
  /-- R107: Block: compare greater than. -/
  | gt (b : Blk)
  /-- R107: Block: compare greater or equal. -/
  | ge (b : Blk)
  /-- R107: Block: select a or b by g. -/
  | sel (b : Blk)
  /-- R107: Block: select input k, with k clamped. -/
  | mux (b : Blk)
  /-- R107: Block: minimum of 2–8 inputs. -/
  | min (b : Blk)
  /-- R107: Block: maximum of 2–8 inputs. -/
  | max (b : Blk)
  /-- R512: Block: clamp x between mn and mx. -/
  | limit (b : Blk)
  /-- R107: Block: copy a value or a whole array. -/
  | move (b : Blk)
  /-- R106: Block: read an array element by index, with a range check. -/
  | ldx (b : Blk)
  /-- R106: Block: write an array element by index, with a range check. -/
  | stx (b : Blk)
  /-- R512: Block: read the status byte of a declared input. -/
  | getst (b : Blk)
  /-- R99: Block: integer sum with clamping or wrapping. -/
  | add (b : Blk)
  /-- R99: Block: integer difference. -/
  | sub (b : Blk)
  /-- R99: Block: integer product. -/
  | mul (b : Blk)
  /-- R100: Block: integer division, with defined division-by-zero results. -/
  | div (b : Blk)
  /-- R100: Block: integer remainder. -/
  | mod (b : Blk)
  /-- R99: Block: integer negation. -/
  | neg (b : Blk)
  /-- R99: Block: integer absolute value. -/
  | abs (b : Blk)
  /-- R101: Block: saturating Q addition. -/
  | qadd (b : Blk)
  /-- R101: Block: saturating Q subtraction. -/
  | qsub (b : Blk)
  /-- R101: Block: Q multiplication with one rounding. -/
  | qmul (b : Blk)
  /-- R101: Block: Q division with one rounding. -/
  | qdiv (b : Blk)
  /-- R101: Block: Q negation. -/
  | qneg (b : Blk)
  /-- R101: Block: Q absolute value. -/
  | qabs (b : Blk)
  /-- R101: Block: conversion from one Q format to another. -/
  | qscale (b : Blk)
  /-- R102: Block: IEEE float addition. -/
  | fadd (b : Blk)
  /-- R102: Block: IEEE float subtraction. -/
  | fsub (b : Blk)
  /-- R102: Block: IEEE float multiplication. -/
  | fmul (b : Blk)
  /-- R102: Block: IEEE float division. -/
  | fdiv (b : Blk)
  /-- R102: Block: correctly rounded square root. -/
  | fsqrt (b : Blk)
  /-- R102: Block: float absolute value. -/
  | fabs (b : Blk)
  /-- R102: Block: float negation. -/
  | fneg (b : Blk)
  /-- R102: Block: exponential within 1 ulp. -/
  | fexp (b : Blk)
  /-- R102: Block: natural logarithm within 1 ulp. -/
  | fln (b : Blk)
  /-- R102: Block: sine within 1 ulp. -/
  | fsin (b : Blk)
  /-- R102: Block: cosine within 1 ulp. -/
  | fcos (b : Blk)
  /-- R102: Block: atan2(a, b) within 1 ulp. -/
  | fatan2 (b : Blk)
  /-- R103: Block: type conversion. -/
  | cvt (b : Blk)
  /-- R512: Block: linear scaling from raw to engineering units. -/
  | scale (b : Blk)
  /-- R512: Block: linear scaling from engineering to raw units. -/
  | unscale (b : Blk)
  /-- R512: Block: piecewise linear interpolation over a table in CON. -/
  | lint (b : Blk)
  /-- R114: Block: native on-delay timer. -/
  | ton (b : Blk)
  /-- R114: Block: native off-delay timer. -/
  | tof (b : Blk)
  /-- R114: Block: native pulse timer. -/
  | tp (b : Blk)
  /-- R114: Block: native retriggerable pulse timer. -/
  | tpulse (b : Blk)
  /-- R114: Block: native retentive timer. -/
  | tret (b : Blk)
  /-- R121: Block: ZG-640 compatible on-delay timer that counts periods. -/
  | tons (b : Blk)
  /-- R121: Block: ZG-640 compatible off-delay timer. -/
  | tofs (b : Blk)
  /-- R121: Block: ZG-640 compatible pulse timer. -/
  | tps (b : Blk)
  /-- R125: Block: up counter. -/
  | ctu (b : Blk)
  /-- R125: Block: down counter. -/
  | ctd (b : Blk)
  /-- R125: Block: up-down counter. -/
  | ctud (b : Blk)
  /-- R125: Block: 64-bit wide up counter. -/
  | ctw (b : Blk)
  /-- R123: Block: rising-edge detection. -/
  | rtrig (b : Blk)
  /-- R123: Block: falling-edge detection. -/
  | ftrig (b : Blk)
  /-- R123: Block: rising- and falling-edge detection. -/
  | edge2 (b : Blk)
  /-- R108: Block: float PID controller. -/
  | pid (b : Blk)
  /-- R108: Block: fixed-point PID controller. -/
  | pidq (b : Blk)
  /-- R109: Block: first-order lag. -/
  | lag1 (b : Blk)
  /-- R109: Block: lead-lag filter. -/
  | leadlag (b : Blk)
  /-- R109: Block: rate limiter. -/
  | ramp (b : Blk)
  /-- R109: Block: dead band. -/
  | deadb (b : Blk)
  /-- R109: Block: moving average. -/
  | mavg (b : Blk)
  /-- R109: Block: clamped integrator. -/
  | integ (b : Blk)
  /-- R108: Block: sequence step. -/
  | step (b : Blk)
  /-- R108: Block: sequence transition. -/
  | trans (b : Blk)
  /-- R108: Block: sequence reset. -/
  | seqrst (b : Blk)
  /-- R108: Block: high and low alarm with hysteresis. -/
  | almhl (b : Blk)
  /-- R108: Block: alarm on and off delay. -/
  | almdly (b : Blk)
  /-- R108: Block: alarm inhibit. -/
  | alminh (b : Blk)
  /-- R108: Block: alarm shelving. -/
  | almshv (b : Blk)
  /-- R108: Block: first-out alarm. -/
  | almfo (b : Blk)
  /-- R108: Block: 1oo2 boolean voting. -/
  | v1oo2 (b : Blk)
  /-- R108: Block: 2oo3 boolean voting. -/
  | v2oo3 (b : Blk)
  /-- R108: Block: 1oo2 analogue selection. -/
  | v1oo2a (b : Blk)
  /-- R108: Block: 2oo3 analogue median selection. -/
  | v2oo3a (b : Blk)
  /-- R108: Block: shutdown latch. -/
  | sdl (b : Blk)
  /-- R200: Block: requests a Sage submission that takes effect at job completion. -/
  | sgsub (b : Blk)
  /-- R201: Block: collects the latched Sage presentation into the result arrays. -/
  | sgcol (b : Blk)
  /-- R202: Block: reads the slot's current status word. -/
  | sgstat (b : Blk)
  /-- R282: Block: requests a CAN transmission, a tick-armed transmission or an abort. -/
  | cantx (b : Blk)
  /-- R290: Block: reads a received CAN object record from the input image. -/
  | canrx (b : Blk)
  /-- R248: Block: queues a HART command on a rising trig and reads its response. -/
  | hcmd (b : Blk)
  /-- R247: Block: reads a HART device variable from the input image. -/
  | hvar (b : Blk)
  /-- R456: Block: requests a program mark record in Thyme. -/
  | tmark (b : Blk)
  /-- R465: Block: reads a performance counter snapshot from the input image. -/
  | cntrd (b : Blk)
  /-- R512: Block: writes text into a panel field. -/
  | ptext (b : Blk)
  /-- R376: Block: writes a value into a panel field. -/
  | pfield (b : Blk)
  /-- R512: Block: forward jump. -/
  | jmp (b : Blk)
  /-- R512: Block: conditional forward jump when g is TRUE. -/
  | jmpc (b : Blk)
  /-- R512: Block: conditional forward jump when g is FALSE. -/
  | jmpn (b : Blk)
  /-- R512: Block: bounded backward loop. -/
  | loopb (b : Blk)
  /-- R96: Block: calls another list of the same image. -/
  | call (b : Blk)
  /-- R96: Block: returns from a called list, or completes the job in the entry list. -/
  | ret (b : Blk)
  /-- R107: Block: no operation. -/
  | nop (b : Blk)
  /-- R514: The job's journal flush ends: shadow bank and journal become current, commit at completion starts, and Sage submissions, marks and HART/CAN requests are handed on. -/
  | jobEnd (dt : Nat) (t : Fin 256)
  /-- R69: The deadline unit finds a job of class C, P, B or E unfinished, stops it, commits nothing and applies the overrun handling of its class. -/
  | jobDeadline (dt : Nat) (t : Fin 256)
  /-- R18: An uncorrectable memory error in a word aborts the job that read it, or marks a retained block invalid. Operands: physical address, and the task whose job read the word. -/
  | eccUncorrectable (dt : Nat) (addr : Nat) (job : Option (Fin 256))
  /-- R16: A patrol scrub pass of SRAM, DRAM or MRAM corrects errors and spares weak rows, columns or sectors. Operands: 0 image SRAM, 1 DRAM, 2 MRAM; corrected errors met. -/
  | scrubPass (dt : Nat) (kind : Fin 3) (hits : List Hit)
  /-- R20: A parity error in a configuration register is repaired from the shadow at the next boundary, or handled as an engine failure. Operands: none: a configuration register; an engine: 0–23 CEn, 24–31 SE(n−24). -/
  | parityError (dt : Nat) (addr : Nat) (eng : Option Nat)
  /-- R23: A CE failure is detected, a reserve CE is loaded, and the interrupted job is moved, re-executed, adopted or treated as an overrun. -/
  | ceFailed (dt : Nat) (n : Fin 24)
  /-- R167: A failed Sage engine is substituted by the reserve SE, and its running job restarts from its submitted operands. -/
  | seFailed (dt : Nat) (e : Fin 8)
  /-- R27: A mismatch between SV0 and SV1 takes the module to FAULT within one tick. -/
  | lockstepMismatch (dt : Nat)
  /-- R27: A running TCXO that drifts beyond its limit is identified with the cold spare and replaced, or leads to FAULT when no spare is left. Operands: the oscillator the cold spare shows to be faulty. -/
  | tcxoDrift (dt : Nat) (bad : Fin 3)
  /-- R511: A TCXO whose output stops is dropped by its clock monitor, with a phase-continuous switch or FAULT. -/
  | tcxoStopped (dt : Nat) (n : Fin 3)
  /-- R476: A domain supply outside ±5 % or a stopped domain clock for 10 µs leads to the consequence of R28. -/
  | domainFault (dt : Nat) (n : Fin 12)
  /-- R478: One logic input below 18 V for 10 ms is reported, and nothing else changes. -/
  | logicInputLost (dt : Nat) (p : Port) (mv : Nat)
  /-- R478: A lost logic input that returns is reported. -/
  | logicInputRestored (dt : Nat) (p : Port) (mv : Nat)
  /-- R148: Throw preparation completes, and SIDING_STATE becomes NAMED. -/
  | preparationDone (dt : Nat)
  /-- R148: Catch-up finishes; after confirmation the selector word is written, the set switches and staged items enter TRANSITION. -/
  | catchupDone (dt : Nat)
  /-- R150: At B + C_throw an unfinished catch-up or a missing partner DONE postpones the throw. -/
  | throwCatchupLimit (dt : Nat)
  /-- R163: The partner's DONE for the throw attempt arrives on either line. -/
  | throwDoneReceived (dt : Nat) (tn : Nat) (l : Line)
  /-- R162: A throw, load or command proposal from the partner is received and confirmed. -/
  | throwProposalReceived (dt : Nat) (p : Proposal)
  /-- R162: A throw proposal not confirmed within 100 ms is not named. -/
  | throwProposalTimeout (dt : Nat)
  /-- R162: A confirmed pair command such as a force takes effect in both members at B(TN_a + 2), or is refused without confirmation. -/
  | pairCommandEffect (dt : Nat) (confirmed : Bool)
  /-- R160: A staged item in TRANSITION meets its success condition and settles. Operands: item order of R160 minus 1, object. -/
  | stagedSettled (dt : Nat) (item : Fin 8) (obj : Nat)
  /-- R161: A staged item not settled at its maximum settling time triggers a rollback throw. -/
  | stagedSettleFail (dt : Nat) (item : Fin 8) (obj : Nat)
  /-- R156: A force is removed at the first boundary at or after its EXPIRY. -/
  | forceExpired (dt : Nat)
  /-- R190: The input unit finishes copying and checking submitted operands, and the job is queued or rejected. -/
  | sageInputCheckDone (dt : Nat) (s : Fin 64)
  /-- R207: An engine takes the earliest-deadline queued job and starts loading its working set. -/
  | sageJobStart (dt : Nat) (e : Fin 8)
  /-- R208: A Sage job ends: it publishes by flipping PUB_BANK, or ends with an error and its fallback. -/
  | sageJobEnd (dt : Nat) (e : Fin 8)
  /-- R218: At t_dl an unpublished job ends as DEADLINE_MISS, and its engine stops within 2 µs. -/
  | sageDeadline (dt : Nat) (s : Fin 64)
  /-- R222: The partner's Sage outcome message or result blocks arrive. -/
  | sageOutcomeReceived (dt : Nat) (s : Fin 64) (tag digest : Nat) (o : SOut)
  /-- R222: At t_ag the agreed outcome is fixed, including adoption of the partner's result. -/
  | sageAgreement (dt : Nat) (s : Fin 64)
  /-- R230: An AI conversion completes, is filtered, and updates the channel status and value. Operands: current in 0.5 µA, limiter active, terminal voltage outside its limits. -/
  | aiConversion (dt : Nat) (c : Fin 24) (counts : Nat) (limiter miswire : Bool)
  /-- R239: A 100 ms comparison of the spare front end against a channel ends, and may substitute or advise. -/
  | spareComparison (dt : Nat) (c : Fin 24) (diffUa : Nat)
  /-- R240: An AI channel substitution completes with the first new sample from the spare. Operands: first new sample. -/
  | aiSubstitutionDone (dt : Nat) (c : Fin 24) (counts : Nat)
  /-- R234: An AO readback sample updates the OPEN_LOOP, COMPLIANCE_LOW and EXT_DRIVE verification. -/
  | aoReadbackSample (dt : Nat) (c : Fin 8) (rb : Nat) (headroomMv : Int)
  /-- R241: A faulty AO driver is replaced make-before-break by the spare driver. -/
  | aoDrvFault (dt : Nat) (c : Fin 8)
  /-- R237: No refresh within T_AF drives the AO group to its strap level. -/
  | aoWatchdogExpired (dt : Nat) (g : Fin 2)
  /-- R242: FA+ below 20.4 V is reported. -/
  | faLow (dt : Nat) (mv : Nat)
  /-- R242: FA+ below 16 V raises the field-supply sag event. -/
  | faSag (dt : Nat) (mv : Nat)
  /-- R242: FA+ below 12 V resets the analogue field side. -/
  | faReset (dt : Nat) (mv : Nat)
  /-- R242: FA+ above 18 V for 50 ms restarts and recalibrates the analogue field side. -/
  | faRecovered (dt : Nat) (mv : Nat)
  /-- R246: A HART response frame completes and updates the HART record or response ring. Operands: device and communication status bytes, response data. -/
  | hartResponse (dt : Nat) (h : Fin 32) (dev comm : Nat) (data : List Byte)
  /-- R245: A HART transaction gets no response within its window and is retried or marked NO_RESPONSE. -/
  | hartNoResponse (dt : Nat) (h : Fin 32)
  /-- R246: A received burst-mode frame updates its HART record. -/
  | hartBurstFrame (dt : Nat) (h : Fin 32) (e : Fin 16) (cmd dev comm : Nat) (data : List Byte)
  /-- R254: At every 100 µs sample instant the DI filter, counters, pulse-catch and comparator test run. -/
  | diSample (dt : Nat) (raw : BitVec 32) (edges : List Edge) (testFail : BitVec 32)
  /-- R260: A DI group's field logic loses its supply, and all its inputs read FALSE with GROUP_RESET. -/
  | diGroupSupplyLost (dt : Nat) (g : Fin 4)
  /-- R260: A DO readback sample updates EXT_HIGH and SW_FAULT. Operands: readback, limiter active, sensed mA by channel. -/
  | doReadbackSample (dt : Nat) (rb limiting : BitVec 24) (ma : List Nat)
  /-- R266: A limiter active for 1 ms, or a thermal switch-off, opens the DO switch with OVERLOAD. -/
  | doOverload (dt : Nat) (c : Fin 24)
  /-- R266: Under retry mode, the switch closes again every 1 s while it is commanded on. -/
  | doOverloadRetry (dt : Nat) (c : Fin 24)
  /-- R269: A 10 ms current window is learned into the band or checked against it for LOAD_DEV. -/
  | doLoadWindow (dt : Nat) (c : Fin 24) (ma : Nat)
  /-- R270: A DO group above 4.0 A for 100 ms is reported. -/
  | doGroupCurrent (dt : Nat) (g : Fin 3)
  /-- R265: No refresh within T_SF drives each DO channel to WD_SAFE. -/
  | doWatchdogExpired (dt : Nat) (g : Fin 3)
  /-- R272: FD+ of a group below 19.2 V is reported. -/
  | fdLow (dt : Nat) (g : Fin 3) (mv : Nat)
  /-- R272: FD+ below 16 V raises EVT_CAUSE bit 5 for the group's error task. -/
  | fdSag (dt : Nat) (g : Fin 3) (mv : Nat)
  /-- R272: FD+ below 12 V opens all switches and resets the group's field logic. -/
  | fdReset (dt : Nat) (g : Fin 3) (mv : Nat)
  /-- R272: FD+ above 18 V for 50 ms restarts the group under resume or hold-safe. -/
  | fdRecovered (dt : Nat) (g : Fin 3) (mv : Nat)
  /-- R288: A received CAN frame is stored in a matching object or ring, or rate-limited or discarded. Operands: ns from its SOF to now. -/
  | canFrameReceived (dt : Nat) (ch : Fin 4) (age : Nat) (f : CanFrame)
  /-- R283: At each arbitration the controller offers the pending buffer chosen by SCHED. -/
  | canArbitration (dt : Nat) (ch : Fin 4)
  /-- R287: A transmitted frame completes and its buffer status becomes SENT. Operands: loop delay measured in the frame, in mtq. -/
  | canFrameSent (dt : Nat) (ch : Fin 4) (tdcv : Option Nat)
  /-- R286: A frame that loses arbitration is retried, unless an abort is pending. -/
  | canArbitrationLost (dt : Nat) (ch : Fin 4)
  /-- R293: A bus error or violation updates TEC/REC, the error state and the violation counts. Operands: violation class minus 1, identifier received, counter steps ISO 11898-1 gives. -/
  | canBusError (dt : Nat) (ch : Fin 4) (cls : Fin 6) (id : Option Nat) (dTec dRec : Nat)
  /-- R294: 128 occurrences of 11 recessive bits complete recovery to ERROR_ACTIVE. -/
  | canRecoveryDone (dt : Nat) (ch : Fin 4)
  /-- R280: 11 recessive bits after a channel start end INTEGRATING. -/
  | canIntegrated (dt : Nat) (ch : Fin 4)
  /-- R312: A station IN frame is checked and taken into the global capture for TN, or discarded. Operands: source MAC, network-layer sequence number. -/
  | zslInFrame (dt : Nat) (p : Port) (src seq : Nat) (z : ZIn)
  /-- R341: A forwarded IN frame from the partner is received over a line. -/
  | zslInForward (dt : Nat) (l : Line) (z : ZIn) (valid : Bool)
  /-- R317: A station port's link goes down or up. -/
  | netLinkChange (dt : Nat) (p : Port) (up : Bool)
  /-- R300: A source silent for 400 ms is removed from the duplicate-discard table. -/
  | sourceAged (dt : Nat) (src : Nat)
  /-- R301: A frame received on one port in HSR mode is forwarded cut-through to the other, with transparent-clock correction. Operands: ingress port; addressed to this module alone; found faulty; messageType of a PTP event message. -/
  | hsrForward (dt : Nat) (p : Port) (src seq : Nat) (onlyMe faulty : Bool) (ptp : Option Nat)
  /-- R302: An ARP request for IP_ADDR is answered. -/
  | arpRequest (dt : Nat) (p : Port) (ip : Nat)
  /-- R302: An ICMP echo request to IP_ADDR is answered. -/
  | icmpEcho (dt : Nat) (p : Port) (ip src : Nat)
  /-- R316: An IPv4 reassembly not complete in 100 ms is dropped. -/
  | ipReassemblyTimeout (dt : Nat) (id : Nat)
  /-- R517: A Sync (with its Follow_Up) on the SLAVE port forms an offset measurement that drives the servo transitions. Operands: origin time with corrections, receive stamp. -/
  | ptpSync (dt : Nat) (p : Port) (t1 t2 : Nat) (seq srcId : Nat) (oneStep : Bool)
  /-- R517: A Delay_Resp or peer-delay exchange completes and updates the path delay. Operands: the four stamps with corrections. -/
  | ptpDelayExchange (dt : Nat) (p : Port) (t1 t2 t3 t4 : Nat)
  /-- R517: A Delay_Req or Pdelay_Req is sent at the LOG_DELAY interval. -/
  | ptpDelayReqSend (dt : Nat) (p : Port)
  /-- R325: A received Pdelay_Req is answered with Pdelay_Resp, one-step or two-step. -/
  | ptpPdelayReqReceived (dt : Nat) (p : Port) (seq srcId t2 : Nat)
  /-- R318: A received Announce feeds the best master clock algorithm. -/
  | ptpAnnounceReceived (dt : Nat) (p : Port) (gm : Gm)
  /-- R330: An announce timeout takes the servo to HOLDOVER, or to GRANDMASTER where allowed. -/
  | ptpAnnounceTimeout (dt : Nat)
  /-- R330: No Sync for 4 sync intervals takes LOCKED to HOLDOVER. -/
  | ptpSyncTimeout (dt : Nat)
  /-- R325: As master, the module sends Sync and Announce at their intervals. -/
  | ptpSyncSend (dt : Nat) (p : Port)
  /-- R326: A two-step stamp missing 1 ms after its event message suppresses the follow-up. -/
  | ptpTsMissing (dt : Nat) (p : Port)
  /-- R319: On loss of the SLAVE port's LAN, the time engine moves to the PASSIVE port without a step. -/
  | ptpPortChanged (dt : Nat)
  /-- R330: HOLDOVER lasting HOLD_WARN is recorded once. -/
  | holdoverLong (dt : Nat)
  /-- R334: The learned frequency correction is saved to MRAM every hour while LOCKED. -/
  | freqCorrectionSave (dt : Nat)
  /-- R340: A partner heartbeat is received, checked and compared against the own output digest. -/
  | heartbeatReceived (dt : Nat) (l : Line) (hb : HB)
  /-- R345: The partner's per-task CRCs after a mismatch are received. Operands: task and CRC-32C. -/
  | taskDigestsReceived (dt : Nat) (l : Line) (ds : List (Nat × Nat))
  /-- R346: The tie-break self-test ends, and its outcome leads to FAULT, ALONE or DISAGREE. Operands: built-in checks of R346; the partner's outcome. -/
  | tiebreakSelftestDone (dt : Nat) (builtinOk : Bool) (partnerFail : Bool)
  /-- R347: 16 consecutive ticks with equal digests clear DISAGREE. -/
  | disagreeCleared (dt : Nat)
  /-- R347: DISAGREE_LIMIT ticks of DISAGREE make PAIR_B the re-synchronisation target. -/
  | disagreeLimitReached (dt : Nat)
  /-- R349: A line without heartbeats for N_HB ticks, or with its link down, is a path fault. -/
  | pathFault (dt : Nat) (l : Line)
  /-- R349: 16 consecutive valid heartbeats restore a line. -/
  | pathRestored (dt : Nat) (l : Line)
  /-- R351: N_HB ticks without a heartbeat on either line presume the partner failed and send a witness query. -/
  | partnerPresumedFailed (dt : Nat)
  /-- R350: A reserve answers a witness query with the last beacon TNs it saw. -/
  | witnessQuery (dt : Nat) (b : Beacon)
  /-- R352: A witness answer confirms the failure (ALONE) or leads to DEGRADED. -/
  | witnessAnswer (dt : Nat) (b : Beacon)
  /-- R352: No witness answer within 2 ticks leads to DEGRADED. -/
  | witnessTimeout (dt : Nat)
  /-- R352: In DEGRADED the witness query is repeated every 100 ticks. -/
  | witnessRepeat (dt : Nat)
  /-- R353: A partner beacon is received and may make a DEGRADED member withdraw. -/
  | beaconReceived (dt : Nat) (b : Beacon)
  /-- R354: A partner TRIP or FAULT announcement takes the member ALONE at the next boundary. -/
  | partnerAnnouncement (dt : Nat) (l : Line) (trip : Bool)
  /-- R357: N_HB ticks of differing heartbeat TN make one member withdraw to STOP. -/
  | pairTnSkew (dt : Nat) (l : Line)
  /-- R358: A partner asks for a task's instance states, locals and staging, and is answered. -/
  | adoptionRequest (dt : Nat) (l : Line) (t : Fin 256)
  /-- R358: The partner's adoption answer arrives before the commit boundary and is committed. -/
  | adoptionAnswer (dt : Nat) (l : Line) (t : Fin 256) (tn : Nat) (p : StatePart)
  /-- R359: A base page or journal segment of the re-synchronisation stream is received and applied. -/
  | resyncDataReceived (dt : Nat) (s : ResyncSeg)
  /-- R360: No adoption within RESYNC_LIMIT restarts re-synchronisation once, then fails it. -/
  | resyncTimeout (dt : Nat)
  /-- R361: A reserve applies a completely received checkpoint and acknowledges it. -/
  | checkpointReceived (dt : Nat) (tn : Nat) (base : Bool) (p : StatePart) (set : Option ConfigSet)
  /-- R361: A checkpoint acknowledgement arrives at the pair member, or its gap is detected. -/
  | checkpointAck (dt : Nat) (tn : Nat)
  /-- R362: A reserve called by a member entering ALONE starts its switch-in. Operands: role of the lost member. -/
  | reserveCallReceived (dt : Nat) (role : RRole)
  /-- R362: The reserve has applied its state image and loaded the engines, and it enters JOINING. -/
  | reserveImageLoaded (dt : Nat)
  /-- R362: An Up line not linked 5 s after the call makes the reserve use the Down line. -/
  | reserveLinkTimeout (dt : Nat)
  /-- R349: An Up or Down line links or loses its link, with SFP identification at link start. -/
  | lineLinkChange (dt : Nat) (l : Line) (up sfpOk : Bool)
  /-- R364: Every PROOF_PERIOD a reserve with a valid checkpoint enters RESERVE_PROOF. -/
  | proofRunStart (dt : Nat)
  /-- R364: After PROOF_LEN the proof run passes or fails and the reserve returns to STANDBY. -/
  | proofRunEnd (dt : Nat) (loopOk : Bool)
  /-- R373: At each frame boundary the DWE starts, advances or ends line waveforms and starts queued regions. -/
  | displayFrame (dt : Nat)
  /-- R373: The panel temperature is read every 10 s and may hold waveforms in TEMP_HOLD. -/
  | panelTempRead (dt : Nat) (p : Fin 2) (c : Int)
  /-- R381: After 10 s without regions, tile rows with |L| ≥ COMP_THR are compensated. -/
  | ledgerCompensation (dt : Nat) (p : Fin 2)
  /-- R382: The display rails go down after 2 s without any waveform. -/
  | railIdleOff (dt : Nat)
  /-- R383: A rail out of regulation for 100 µs stops every waveform at once and switches the rails off. -/
  | railFault (dt : Nat)
  /-- R383: The DWE tries the rails again 10 s after a rail fault. -/
  | railRetry (dt : Nat) (ok : Bool)
  /-- R383: A failed boost phase is replaced by the spare phase. -/
  | boostPhaseSwitched (dt : Nat)
  /-- R386: PNL_PRES_N falls, and the identity store is read and checked. -/
  | panelInserted (dt : Nat) (panel : PanelId)
  /-- R386: PNL_PRES_N rises, panel 1 stops and becomes ABSENT. -/
  | panelRemoved (dt : Nat)
  /-- R390: The recovery of journalled lines ends, and the first full render starts. -/
  | dispRecovered (dt : Nat) (p : Fin 2)
  /-- R411: A mailbox message arrives and passes the tag, form, session, sequence and outstanding checks, or gets its cached response. Operands: one datagram or bulk transfer. -/
  | messageArrival (dt : Nat) (src : Peer) (bytes : List Byte)
  /-- R408: A session without a command for 3 × KEEPALIVE_S is closed. -/
  | sessionKeepaliveTimeout (dt : Nat) (s : Fin 48)
  /-- R408: A sealed open without SESSION_CONFIRM within 5 s is closed. -/
  | sessionConfirmTimeout (dt : Nat) (s : Fin 48)
  /-- R417: An unlock reaches its granted duration, and the session returns to its open role. -/
  | unlockExpired (dt : Nat) (s : Fin 48)
  /-- R419: A path closed for failed unlocks opens again after 15 min. Operands: 0 password, 1 challenge. -/
  | unlockLockoutEnd (dt : Nat) (path : Fin 2)
  /-- R412: A UDP source blocked for malformed messages is unblocked after 60 s. -/
  | sourceBlockEnd (dt : Nat) (addr : Nat)
  /-- R397: Detaching the service-port cable closes sessions 46 and 47. -/
  | usbDetach (dt : Nat)
  /-- R404: Space returns in a session's event share, and EVENTS_LOST is sent first. -/
  | eventSpaceFreed (dt : Nat) (s : Fin 48) (bytes : Nat)
  /-- R403: A data event is sent 10 ms after its first entry if it is not full earlier. -/
  | eventBatchTimeout (dt : Nat) (s : Fin 48) (ring : Nat)
  /-- R405: Command 0x0101: opens a session with a granted role and optional sealing. -/
  | sessionOpen (q : Req)
  /-- R409: Command 0x0102: confirms a sealed session. -/
  | sessionConfirm (q : Req)
  /-- R408: Command 0x0103: closes the session after the response. -/
  | sessionClose (q : Req)
  /-- R408: Command 0x0104: empty command that keeps the session open. -/
  | keepalive (q : Req)
  /-- R417: Command 0x0110: raises the session role by password on the service port. -/
  | unlockPassword (q : Req)
  /-- R418: Command 0x0111: issues an unlock challenge nonce. -/
  | unlockChallenge (q : Req)
  /-- R418: Command 0x0112: grants an unlock when the HMAC under the vessel key matches. -/
  | unlockResponse (q : Req)
  /-- R417: Command 0x0113: ends the session's unlock. -/
  | relock (q : Req)
  /-- R416: Command 0x0120: engages the field lock and drops ENGINEER and SERVICE sessions. -/
  | fieldLockEngage (q : Req)
  /-- R416: Command 0x0121: releases the field lock from the service port in STOP. -/
  | fieldLockRelease (q : Req)
  /-- R419: Command 0x0122: stores a new password. -/
  | setPassword (q : Req)
  /-- R419: Command 0x0123: stores a new vessel key. -/
  | setVesselKey (q : Req)
  /-- R419: Command 0x0124: stores a new link key. -/
  | setLinkKey (q : Req)
  /-- R427: Command 0x0201: returns the module, redundancy, siding and servo states and TN. -/
  | stateGet (q : Req)
  /-- R138: Command 0x0202: cold or warm restart from STOP into RUN. -/
  | restart (q : Req)
  /-- R76: Command 0x0203: takes the module from RUN or TRIP to STOP at the next boundary. -/
  | stop (q : Req)
  /-- R427: Command 0x0204: enters SERVICE from the next boundary. -/
  | serviceEnter (q : Req)
  /-- R394: Command 0x0205: returns to STOP from the next boundary. -/
  | serviceExit (q : Req)
  /-- R76: Command 0x0206: takes the module through BOOT and the full start-up. -/
  | reset (q : Req)
  /-- R428: Command 0x0301: starts a segmented package load. -/
  | setLoadBegin (q : Req)
  /-- R428: Command 0x0302: delivers one package segment. -/
  | setLoadData (q : Req)
  /-- R143: Command 0x0303: checks, stores and loads the package as the siding set and reports. -/
  | setLoadEnd (q : Req) (pkg : Package)
  /-- R147: Command 0x0304: names a points throw at a future boundary. -/
  | throw (q : Req)
  /-- R428: Command 0x0305: cancels a named throw before the selector write. -/
  | throwCancel (q : Req)
  /-- R428: Command 0x0306: empties the siding set. -/
  | sidingClear (q : Req)
  /-- R428: Command 0x0307: reads the last load or throw report from an offset. -/
  | reportRead (q : Req)
  /-- R431: Command 0x0401: resumes a SUSPENDED task. -/
  | taskResume (q : Req)
  /-- R431: Command 0x0402: reads a task's table and state. -/
  | taskRead (q : Req)
  /-- R431: Command 0x0403: returns an image header. -/
  | imageInfo (q : Req)
  /-- R431: Command 0x0501: reads variables with their statuses. -/
  | varRead (q : Req)
  /-- R431: Command 0x0502: writes a host-written GLB variable at the next boundary. -/
  | varWrite (q : Req)
  /-- R154: Command 0x0503: sets an input or output force. -/
  | forceSet (q : Req)
  /-- R431: Command 0x0504: removes a force. -/
  | forceClear (q : Req)
  /-- R431: Command 0x0505: lists force-table entries. -/
  | forceList (q : Req)
  /-- R256: Command 0x0601: resets DI edge counters at the next boundary. -/
  | diCountReset (q : Req)
  /-- R269: Command 0x0602: starts load-signature learning on a DO channel. -/
  | doLearn (q : Req)
  /-- R272: Command 0x0603: acknowledges hold-safe recovery of a DO group. -/
  | holdAck (q : Req)
  /-- R432: Command 0x0604: queues a HART command from a host. -/
  | hartSend (q : Req)
  /-- R432: Command 0x0605: drives a loop-check value on an on-board output in SERVICE. -/
  | loopCheck (q : Req)
  /-- R432: Command 0x0701: requests a host transmission on a TB2 buffer. -/
  | canTx (q : Req)
  /-- R285: Command 0x0702: aborts a TB2 buffer's request. -/
  | canAbort (q : Req)
  /-- R289: Command 0x0703: reads a CAN object, optionally clearing NEW. -/
  | canObjRead (q : Req)
  /-- R294: Command 0x0704: starts manual bus-off recovery. -/
  | canRecover (q : Req)
  /-- R403: Command 0x0705: subscribes to CAN receive rings. -/
  | canSubscribe (q : Req)
  /-- R324: Command 0x0801: subscribes to timestamp rings. -/
  | tsSubscribe (q : Req)
  /-- R432: Command 0x0802: returns the servo status. -/
  | timeGet (q : Req)
  /-- R333: Command 0x0803: sets the module clock as grandmaster in STOP. -/
  | timeSet (q : Req)
  /-- R204: Command 0x0901: writes input blocks of a host-owned Sage slot. -/
  | slotWrite (q : Req)
  /-- R204: Command 0x0902: submits a host Sage job with a deadline. -/
  | slotSubmit (q : Req)
  /-- R433: Command 0x0903: reads slot blocks and the status word. -/
  | slotRead (q : Req)
  /-- R224: Command 0x0904: arms a shortened deadline for one Sage job. -/
  | deadlineTest (q : Req)
  /-- R452: Command 0x0A01: reads Thyme records from a SEQ. -/
  | thymeRead (q : Req)
  /-- R455: Command 0x0A02: subscribes to Thyme records. -/
  | thymeSubscribe (q : Req)
  /-- R457: Command 0x0A03: clears Thyme records below a recorded CLEAR_REQUEST. -/
  | thymeClear (q : Req)
  /-- R460: Command 0x0B01: requests a counter snapshot at the next boundary. -/
  | cntSnapshot (q : Req)
  /-- R464: Command 0x0B02: reads counter snapshot values. -/
  | cntRead (q : Req)
  /-- R461: Command 0x0B03: clears counters at the next boundary. -/
  | cntClear (q : Req)
  /-- R462: Command 0x0B04: overrides a threshold comparator. -/
  | cntThreshold (q : Req)
  /-- R434: Command 0x0C01: reads the display interrupted-update journal. -/
  | dispJournalRead (q : Req)
  /-- R434: Command 0x0C02: reads panel DC ledger values. -/
  | ledgerRead (q : Req)
  /-- R434: Command 0x0D01: calls the reserve from an ALONE member. -/
  | reserveCall (q : Req)
  /-- R434: Command 0x0D02: starts a reserve proof run. -/
  | proofStart (q : Req)
  /-- R434: Command 0x0D03: starts re-synchronisation with PAIR_B as target. -/
  | pairResync (q : Req)
  /-- R490: Command 0x0E01: carries out an advised substitution. -/
  | substitute (q : Req)
  /-- R490: Command 0x0E02: returns a unit from its spare after its check. -/
  | spareRestore (q : Req) (checkOk : Bool)
  /-- R434: Command 0x0E03: reads bytes from the physical map. -/
  | diagRead (q : Req)
  /-- R437: Command 0x0F01: reads parameters coherently from one boundary. -/
  | paramRead (q : Req)
  /-- R438: Command 0x0F02: writes live parameters, all or none, effective at the next boundary. -/
  | paramWrite (q : Req)
  /-- R439: Command 0x0F03: returns a parameter word's field descriptor. -/
  | paramDescribe (q : Req)
  /-- R459: A 48-bit counter wraps to 0 and sets its sticky overflow bit. -/
  | cntWrap (dt : Nat) (n : Fin 512)
  /-- R467: After the logic supply has held 18 V for 10 ms, the module boots, self-tests, loads its set and decides its restart. -/
  | powerUp (dt : Nat) (r : StartUp)
  /-- R469: The ZG-960-CX memory heaters stop at −20 °C and start-up proceeds. -/
  | heaterRunEnd (dt : Nat) (secs : Nat)
  /-- R473: After listening 2 s the module decides its redundancy role from CFG_ROLE and what it heard. -/
  | roleNegotiation (dt : Nat) (h : Heard)
  /-- R474: With AUTO_RUN the module enters RUN from STOP once it is TIME_OK. -/
  | autoRun (dt : Nat)
  /-- R474: TIME_OK not reached within AUTORUN_WAIT leaves the module in STOP. -/
  | autorunTimeout (dt : Nat)
  /-- R479: The logic bus below 17.0 V for 50 µs starts the power-fail sequence: no releases, jobs stopped, instance save. -/
  | powerFailWarning (dt : Nat)
  /-- R479: 10 ms after the warning, safe values are committed, a trip frame is sent in SOLO, and the state is written to MRAM before the domains go off. -/
  | powerFailSafeCommit (dt : Nat)
  /-- R482: Every 10 ms T_DIE is read and the thermal stage is entered or left. -/
  | thermalSample (dt : Nat) (die board mem : Int)
  /-- R486: The wear ledgers are updated every hour and checked against their advisory values. Operands: mean bank and boost temperatures, new ledger readings. -/
  | wearLedgerUpdate (dt : Nat) (capC boostC : Int) (nandPe mramWr : Nat) (tcxoPpb : Int) (drift : List Int)
  /-- R486: The wear ledgers are copied to NAND once a day. -/
  | wearLedgerNandCopy (dt : Nat)
  /-- R489: A NAND program or erase failure retires the block and rewrites its data to a spare. -/
  | nandBlockFailure (dt : Nat) (blk : Nat)
  /-- R9: A write to a live parameter without behaviour of its own applies at the next tick boundary. -/
  | paramRegisterWrite (dt : Nat) (index sub : Nat) (value : Word)
  /-- R242: FA+ rising back to 21.0 V or more clears the FA_LOW warning. -/
  | faLowCleared (dt : Nat) (mv : Nat)
  /-- R272: FD+ of a DO group rising back to 20.0 V or more clears FIELD_LOW and FD_LOW. -/
  | fdLowCleared (dt : Nat) (g : Fin 3) (mv : Nat)
  /-- R272: FD+ of a DO group rising back to 17 V or more clears FIELD_SAG, and SW_FAULT and STUCK_ON evaluation resumes. -/
  | fdSagCleared (dt : Nat) (g : Fin 3) (mv : Nat)
  /-- R260: A DI group's field logic regains its supply and restarts, and GROUP_RESET clears after its first 100 samples are filtered. -/
  | diGroupSupplyRestored (dt : Nat) (g : Fin 4)
  /-- R240: An AI front-end monitor reports a fault, the channel shows AFE_FAULT, and substitution onto the spare starts, or SPARE_EXHAUSTED is recorded. -/
  | afeMonitorFault (dt : Nat) (c : Fin 24)
  /-- R241: The make-before-break transfer of an AO channel to the spare driver completes, SUBSTITUTING clears, and held commits apply. -/
  | aoSubstitutionDone (dt : Nat) (c : Fin 8)
  /-- R318: As E2E master, the module receives a Delay_Req and answers with a Delay_Resp carrying its receive stamp. -/
  | ptpDelayReqReceived (dt : Nat) (p : Port) (seq srcId t4 : Nat)
  /-- R302: A frame on a station port that is not ZSL, PTP, ARP, ICMP, UDP to port 47960 or redundancy traffic, or that is oversized, is dropped and counted in INGRESS_DROPPED. -/
  | unsupportedFrameReceived (dt : Nat) (p : Port)
  /-- R317: In HSR mode the module's own frames stop returning around the ring, RING_OPEN is set, and HSR_RING_OPEN is recorded. Operands: false: the frames return again. -/
  | hsrRingOpen (dt : Nat) (isOpen : Bool)
  /-- R473: Every 10 s while two modules claim the same pair role, the module records ROLE_CONFLICT and stays in STOP. -/
  | roleConflict (dt : Nat)
  /-- R392: PD11 returns after a loss, every panel line becomes UNKNOWN, and the ledger restarts from its MRAM mirror. -/
  | domainRestored (dt : Nat)
  deriving DecidableEq, Repr

end Sys2Proof
end

