-- ==== Sys2Proof/Config.lean ====
section
/-! DEFINITION. What an implementation fixes and the spec leaves open: constants without a body, so that no proof can see
their value. Each is named in a log entry. -/
namespace Sys2Proof.Config

/-- A fresh random byte string of the given length, by the count of free values drawn (R405, R418; log entry 11). -/
opaque freeBytes : Nat → Nat → List (BitVec 8)

/-- A free number below the given bound when bounded, by the count of free values drawn and the operands (log entry 2). -/
opaque freeNat : Nat → List Nat → Nat

/-- A free integer, by the count of free values drawn and the operands (log entry 2). -/
opaque freeInt : Nat → List Int → Int

/-- Which of the results within 1 ulp the fixed algorithm of the CE hardware gives (R102; log entry 14): opcode, format width,
operands. -/
opaque transc : Nat → Nat → Nat → Nat → Nat

/-- Output of a control block whose formula the spec does not state (R108, R109; log entry 15): opcode, operands, instance
state, sample time. -/
opaque ctlOut : Nat → List Nat → List (BitVec 8) → Nat → Nat

/-- State a control block keeps after an evaluation (R108, R109; log entry 15): opcode, operands, instance state, sample time. -/
opaque ctlState : Nat → List Nat → List (BitVec 8) → Nat → List (BitVec 8)

/-- The FACT block a factorisation of a class builds from its factor sources (R173; log entry 19): class, sources. -/
opaque sageFactor : Nat → List (List Int) → List Int

/-- Saturation events of that factorisation (R183; log entry 19). -/
opaque sageFactorSat : Nat → List (List Int) → Nat

/-- Solution from a factor (R211, R213; log entry 19): class, FACT, right-hand sides. -/
opaque sageSolve : Nat → List Int → List (List Int) → List Int

/-- Saturation events of that solve (R183; log entry 19). -/
opaque sageSolveSat : Nat → List Int → List (List Int) → Nat

/-- The 64-bit digest of a job's result blocks (R222; log entry 19). -/
opaque sageDigest : List (List Int) → Nat

/-- State of the first-order filter of an analogue input after a conversion (R228 fixes its time constant, not its arithmetic; log
entry 23): FILTER code, RATE code, state before, sample. -/
opaque aiFilter : Nat → Nat → Nat → Nat → Nat

/-- A pixel of the built-in fonts (R375 gives their cells, not their glyphs; log entry 26): font, character, row, column. -/
opaque glyph : Nat → Nat → Nat → Nat → Bool

/-- Residence time in ns of a frame that the transparent clock forwards (R327), by the count of free values drawn (log entry 2). -/
opaque residence : Nat → Int

/-- Frequency correction in ppb the servo learns at a sync interval (R329 states no law; log entry 32), by the count of free values
drawn, the correction before and the offset. -/
opaque servoFreq : Nat → Int → Int → Int

/-- The filtered offset in ns after a measurement (R328 states no filter; log entry 32), by the count of free values drawn and the
offset. -/
opaque servoFilter : Nat → Int → Int

/-- A byte that a diagnostic read finds where the spec states no layout of the region (R13; log entry 2), by the count of free values
drawn and the address. -/
opaque diagByte : Nat → Nat → BitVec 8

/-- Length of a bar whose value is a NaN (R375 states none; log entry 26), by the long side. -/
opaque barNan : Nat → Nat

end Sys2Proof.Config
end

