-- ==== Sys2Proof/Machine/Crypto.lean ====
section
/-! DEFINITION. The checksums and ciphers the spec names: CRC-32C (R306), CRC-64 ECMA-182 (R344), SHA-256, HMAC, HKDF and
PBKDF2 (R409, R417, R418) and AES-256-GCM (R409), as the public standards define them. -/
namespace Sys2Proof.Machine

/-! ### Checksums -/

/-- One byte into the reflected CRC-32C register. -/
def crc32cByte (r : BitVec 32) (b : Byte) : BitVec 32 :=
  (List.range 8).foldl (fun x _ => if x.getLsbD 0 then (x >>> 1) ^^^ 0x82F63B78#32 else x >>> 1)
    (r ^^^ b.setWidth 32)

/-- CRC-32C: Castagnoli polynomial, reflected, initial value and final XOR all ones (R306). -/
def crc32c (bs : List Byte) : Nat := ((bs.foldl crc32cByte 0xFFFFFFFF#32) ^^^ 0xFFFFFFFF#32).toNat

/-- One byte into the CRC-64 register. -/
def crc64Byte (r : BitVec 64) (b : Byte) : BitVec 64 :=
  (List.range 8).foldl (fun x _ => if x.getLsbD 63 then (x <<< 1) ^^^ 0x42F0E1EBA9EA3693#64 else x <<< 1)
    (r ^^^ ((b.setWidth 64) <<< 56))

/-- CRC-64 with the ECMA-182 polynomial, initial value and final XOR all ones (R344). -/
def crc64 (bs : List Byte) : Nat := ((bs.foldl crc64Byte (BitVec.allOnes 64)) ^^^ BitVec.allOnes 64).toNat

/-! ### SHA-256 -/

/-- The bytes of a number, most significant first. -/
def beBytes (k n : Nat) : List Byte := (leBytes k n).reverse

/-- The number in the bytes `bs`, most significant first. -/
def beNat (bs : List Byte) : Nat := bs.foldl (fun a b => a * 256 + b.toNat) 0

/-- Initial hash value. -/
def sha256Init : List Word :=
  [0x6a09e667, 0xbb67ae85, 0x3c6ef372, 0xa54ff53a, 0x510e527f, 0x9b05688c, 0x1f83d9ab, 0x5be0cd19]

/-- Round constants. -/
def sha256K : List Word :=
  [0x428a2f98, 0x71374491, 0xb5c0fbcf, 0xe9b5dba5, 0x3956c25b, 0x59f111f1, 0x923f82a4, 0xab1c5ed5, 0xd807aa98, 0x12835b01,
   0x243185be, 0x550c7dc3, 0x72be5d74, 0x80deb1fe, 0x9bdc06a7, 0xc19bf174, 0xe49b69c1, 0xefbe4786, 0x0fc19dc6, 0x240ca1cc,
   0x2de92c6f, 0x4a7484aa, 0x5cb0a9dc, 0x76f988da, 0x983e5152, 0xa831c66d, 0xb00327c8, 0xbf597fc7, 0xc6e00bf3, 0xd5a79147,
   0x06ca6351, 0x14292967, 0x27b70a85, 0x2e1b2138, 0x4d2c6dfc, 0x53380d13, 0x650a7354, 0x766a0abb, 0x81c2c92e, 0x92722c85,
   0xa2bfe8a1, 0xa81a664b, 0xc24b8b70, 0xc76c51a3, 0xd192e819, 0xd6990624, 0xf40e3585, 0x106aa070, 0x19a4c116, 0x1e376c08,
   0x2748774c, 0x34b0bcb5, 0x391c0cb3, 0x4ed8aa4a, 0x5b9cca4f, 0x682e6ff3, 0x748f82ee, 0x78a5636f, 0x84c87814, 0x8cc70208,
   0x90befffa, 0xa4506ceb, 0xbef9a3f7, 0xc67178f2]

/-- Rotation to the right by `n`. -/
def rotr (x : Word) (n : Nat) : Word := x.rotateRight n

/-- Grows the message schedule, newest word first, by `n` words. -/
def sha256Expand (n : Nat) (w : List Word) : List Word :=
  match n with
  | 0 => w
  | n + 1 =>
    let a := w.getD 14 0
    let b := w.getD 1 0
    let s0 := rotr a 7 ^^^ rotr a 18 ^^^ (a >>> 3)
    let s1 := rotr b 17 ^^^ rotr b 19 ^^^ (b >>> 10)
    sha256Expand n ((w.getD 15 0 + s0 + w.getD 6 0 + s1) :: w)

/-- The eight working words of the compression. -/
structure ShaRegs where
  a : Word
  b : Word
  c : Word
  d : Word
  e : Word
  f : Word
  g : Word
  h : Word

/-- One round. -/
def sha256Round (v : ShaRegs) (kw : Word × Word) : ShaRegs :=
  let s1 := rotr v.e 6 ^^^ rotr v.e 11 ^^^ rotr v.e 25
  let ch := (v.e &&& v.f) ^^^ (~~~v.e &&& v.g)
  let t1 := v.h + s1 + ch + kw.1 + kw.2
  let s0 := rotr v.a 2 ^^^ rotr v.a 13 ^^^ rotr v.a 22
  let mj := (v.a &&& v.b) ^^^ (v.a &&& v.c) ^^^ (v.b &&& v.c)
  { a := t1 + s0 + mj, b := v.a, c := v.b, d := v.c, e := v.d + t1, f := v.e, g := v.f, h := v.g }

/-- One 64-byte block into the hash value. -/
def sha256Block (hs : List Word) (blk : List Byte) : List Word :=
  let w0 := (List.range 16).map (fun i => BitVec.ofNat 32 (beNat ((blk.drop (4 * i)).take 4)))
  let w := (sha256Expand 48 w0.reverse).reverse
  let v0 : ShaRegs := ⟨hs.getD 0 0, hs.getD 1 0, hs.getD 2 0, hs.getD 3 0, hs.getD 4 0, hs.getD 5 0, hs.getD 6 0, hs.getD 7 0⟩
  let v := (sha256K.zip w).foldl sha256Round v0
  List.zipWith (· + ·) hs [v.a, v.b, v.c, v.d, v.e, v.f, v.g, v.h]

/-- The next `n` blocks of a padded message. -/
def sha256Blocks (n : Nat) (hs : List Word) (m : List Byte) : List Word :=
  match n with
  | 0 => hs
  | n + 1 => sha256Blocks n (sha256Block hs (m.take 64)) (m.drop 64)

/-- SHA-256 of the bytes `m`. -/
def sha256 (m : List Byte) : List Byte :=
  let zeros := (119 - m.length % 64) % 64
  let p := m ++ (0x80#8 :: List.replicate zeros 0#8) ++ beBytes 8 (8 * m.length)
  (sha256Blocks (p.length / 64) sha256Init p).flatMap (fun w => beBytes 4 w.toNat)

/-- HMAC-SHA-256. -/
def hmac (key m : List Byte) : List Byte :=
  let k0 := if key.length > 64 then sha256 key else key
  let k := k0 ++ List.replicate (64 - k0.length) 0#8
  sha256 (k.map (· ^^^ 0x5c#8) ++ sha256 (k.map (· ^^^ 0x36#8) ++ m))

/-- The blocks T(i) of HKDF-Expand, from block `i` on. -/
def hkdfBlocks (n i : Nat) (prk prev info : List Byte) : List Byte :=
  match n with
  | 0 => []
  | n + 1 =>
    let t := hmac prk (prev ++ info ++ [BitVec.ofNat 8 i])
    t ++ hkdfBlocks n (i + 1) prk t info

/-- HKDF-SHA-256, extract then expand to `len` bytes. -/
def hkdf (salt ikm info : List Byte) (len : Nat) : List Byte :=
  (hkdfBlocks (cdiv len 32) 1 (hmac salt ikm) [] info).take len

/-- `n` further iterations of PBKDF2 from U and the running XOR. -/
def pbkdf2Iter (n : Nat) (pw u x : List Byte) : List Byte :=
  match n with
  | 0 => x
  | n + 1 =>
    let v := hmac pw u
    pbkdf2Iter n pw v (List.zipWith (· ^^^ ·) x v)

/-- PBKDF2-HMAC-SHA-256, one block of 32 bytes, `c` iterations. -/
def pbkdf2 (pw salt : List Byte) (c : Nat) : List Byte :=
  let u := hmac pw (salt ++ beBytes 4 1)
  pbkdf2Iter (c - 1) pw u u

/-! ### AES-256-GCM -/

/-- Product in GF(2^8) of AES. -/
def gfMul (a b : BitVec 8) : BitVec 8 :=
  ((List.range 8).foldl (fun (p : BitVec 8 × BitVec 8) i =>
    (if b.getLsbD i then p.1 ^^^ p.2 else p.1,
     if p.2.getLsbD 7 then (p.2 <<< 1) ^^^ 0x1b#8 else p.2 <<< 1)) (0#8, a)).1

/-- The inverse in GF(2^8), 0 for 0: the 254th power. -/
def gfInv (a : BitVec 8) : BitVec 8 :=
  let a2 := gfMul a a
  let a4 := gfMul a2 a2
  let a8 := gfMul a4 a4
  let a16 := gfMul a8 a8
  let a32 := gfMul a16 a16
  let a64 := gfMul a32 a32
  let a128 := gfMul a64 a64
  gfMul (gfMul (gfMul a2 a4) (gfMul a8 a16)) (gfMul (gfMul a32 a64) a128)

/-- The S-box of AES. -/
def aesSub (b : Byte) : Byte :=
  let x := gfInv b
  x ^^^ x.rotateLeft 1 ^^^ x.rotateLeft 2 ^^^ x.rotateLeft 3 ^^^ x.rotateLeft 4 ^^^ 0x63#8

/-- XOR of two byte strings. -/
def xorBytes (a b : List Byte) : List Byte := List.zipWith (· ^^^ ·) a b

/-- Grows the AES-256 key schedule, newest word first, from word number `i`. -/
def aesExpand (n i : Nat) (rc : Byte) (w : List (List Byte)) : List (List Byte) :=
  match n with
  | 0 => w
  | n + 1 =>
    let t := w.headD []
    let u :=
      if i % 8 = 0 then xorBytes ((t.drop 1 ++ t.take 1).map aesSub) [rc, 0, 0, 0]
      else if i % 8 = 4 then t.map aesSub else t
    aesExpand n (i + 1) (if i % 8 = 0 then gfMul rc 2 else rc) (xorBytes (w.getD 7 []) u :: w)

/-- The fifteen round keys. -/
def aesKeys (key : List Byte) : List (List Byte) :=
  let w := (aesExpand 52 8 1 ((List.range 8).map (fun i => (key.drop (4 * i)).take 4)).reverse).reverse
  (List.range 15).map (fun r => ((w.drop (4 * r)).take 4).flatten)

/-- ShiftRows on a state of sixteen bytes, column by column. -/
def aesShift (s : List Byte) : List Byte := (List.range 16).map (fun i => s.getD ((i + 4 * (i % 4)) % 16) 0)

/-- MixColumns on one column. -/
def aesMixCol (c : List Byte) : List Byte :=
  let a := fun i => c.getD (i % 4) 0
  (List.range 4).map (fun i => gfMul 2 (a i) ^^^ gfMul 3 (a (i + 1)) ^^^ a (i + 2) ^^^ a (i + 3))

/-- MixColumns. -/
def aesMix (s : List Byte) : List Byte := (List.range 4).flatMap (fun j => aesMixCol ((s.drop (4 * j)).take 4))

/-- One block under the round keys `ks`. -/
def aesBlock (ks : List (List Byte)) (b : List Byte) : List Byte :=
  let s := ((ks.drop 1).take 13).foldl (fun s k => xorBytes (aesMix (aesShift (s.map aesSub))) k) (xorBytes b (ks.getD 0 []))
  xorBytes (aesShift (s.map aesSub)) (ks.getD 14 [])

/-- Product in GF(2^128) of GCM. -/
def ghashMul (x y : BitVec 128) : BitVec 128 :=
  ((List.range 128).foldl (fun (p : BitVec 128 × BitVec 128) i =>
    (if x.getLsbD (127 - i) then p.1 ^^^ p.2 else p.1,
     if p.2.getLsbD 0 then (p.2 >>> 1) ^^^ (0xe1#128 <<< 120) else p.2 >>> 1)) (0#128, y)).1

/-- `n` blocks of sixteen bytes into the hash, the last one padded with zeros. -/
def ghashBlocks (n : Nat) (h acc : BitVec 128) (bs : List Byte) : BitVec 128 :=
  match n with
  | 0 => acc
  | n + 1 =>
    let b := bs.take 16
    let v := BitVec.ofNat 128 (beNat (b ++ List.replicate (16 - b.length) 0#8))
    ghashBlocks n h (ghashMul (acc ^^^ v) h) (bs.drop 16)

/-- The key stream of counter mode from counter value `i` on, XORed to `bs`. -/
def gcmCtr (n i : Nat) (ks : List (List Byte)) (iv bs : List Byte) : List Byte :=
  match n with
  | 0 => []
  | n + 1 => xorBytes (bs.take 16) (aesBlock ks (iv ++ beBytes 4 i)) ++ gcmCtr n (i + 1) ks iv (bs.drop 16)

/-- The tag over associated data and ciphertext. -/
def gcmTag (ks : List (List Byte)) (iv aad ct : List Byte) : List Byte :=
  let h := BitVec.ofNat 128 (beNat (aesBlock ks (List.replicate 16 0#8)))
  let g := ghashBlocks (cdiv ct.length 16) h (ghashBlocks (cdiv aad.length 16) h 0 aad) ct
  let s := ghashBlocks 1 h g (beBytes 8 (8 * aad.length) ++ beBytes 8 (8 * ct.length))
  xorBytes (beBytes 16 s.toNat) (aesBlock ks (iv ++ beBytes 4 1))

/-- AES-256-GCM: ciphertext followed by the sixteen-byte tag (R409). -/
def gcmSeal (key iv aad pt : List Byte) : List Byte :=
  let ks := aesKeys key
  let ct := gcmCtr (cdiv pt.length 16) 2 ks iv pt
  ct ++ gcmTag ks iv aad ct

/-- Opens a sealed payload: the plaintext, or none when the tag fails (R409). -/
def gcmOpen (key iv aad msg : List Byte) : Option (List Byte) :=
  let ks := aesKeys key
  let ct := msg.take (msg.length - 16)
  if msg.length < 16 then none
  else if gcmTag ks iv aad ct = msg.drop (msg.length - 16) then some (gcmCtr (cdiv ct.length 16) 2 ks iv ct)
  else none

end Sys2Proof.Machine
end

