-- ==== Sys2Proof/Machine/Params.lean ====
section
/-! DEFINITION. The parameter maps of every chapter as one table of words and their fields (R9, R440), and the checks and
descriptors that come from it. Indices above the first of an array follow it one by one. -/
namespace Sys2Proof.Machine

/-- Change kinds of R439: read-only, live, throw-only, staged, clear-by-zero. -/
inductive PKind | ro | live | thr | stg | cz
  deriving DecidableEq, Repr

/-- A field of a parameter word: bits, R89 type code, change kind, write role, reset value, least and greatest value,
whether 0 is allowed as well. -/
structure PField where
  hi   : Nat
  lo   : Nat
  ty   : Nat
  kind : PKind
  role : Nat
  rst  : Nat
  mn   : Int
  mx   : Int
  zero : Bool
  deriving DecidableEq, Repr

/-- A parameter word: first index, number of indices, first and last subindex, fields from the highest bits down. -/
structure PWord where
  ix     : Nat
  n      : Nat
  s0     : Nat
  s1     : Nat
  fields : List PField
  deriving DecidableEq, Repr

/-- Part 1 of the parameter maps. -/
def paramTable1 : List PWord := [
  -- 0x1000: MARUTH_MAJOR, MARUTH_MINOR, MARUTH_PATCH, ORDER_CODE
  ⟨0x1000, 1, 1, 1, [⟨31, 24, 5, .ro, 0, 0, 0, 255, false⟩, ⟨23, 16, 5, .ro, 0, 0, 0, 255, false⟩, ⟨15, 8, 5, .ro, 0, 0, 0, 255, false⟩, ⟨0, 0, 0, .ro, 0, 0, 0, 1, false⟩]⟩,
  -- 0x1000: SERIAL_LO
  ⟨0x1000, 1, 2, 2, [⟨31, 0, 7, .ro, 0, 0, 0, 4294967295, false⟩]⟩,
  -- 0x1000: SERIAL_HI
  ⟨0x1000, 1, 3, 3, [⟨31, 0, 7, .ro, 0, 0, 0, 4294967295, false⟩]⟩,
  -- 0x1000: HW_REV
  ⟨0x1000, 1, 4, 4, [⟨15, 0, 6, .ro, 0, 0, 0, 65535, false⟩]⟩,
  -- 0x1000: N_PARAMS
  ⟨0x1000, 1, 5, 5, [⟨31, 0, 7, .ro, 0, 0, 0, 4294967295, false⟩]⟩,
  -- 0x1001: RUN_ROLE, MODULE_STATE
  ⟨0x1001, 1, 1, 1, [⟨6, 4, 5, .ro, 0, 0, 0, 7, false⟩, ⟨2, 0, 5, .ro, 0, 1, 0, 7, false⟩]⟩,
  -- 0x1003: IMG_FMT_MAJOR
  ⟨0x1003, 1, 1, 1, [⟨15, 0, 6, .ro, 0, 2, 0, 65535, false⟩]⟩,
  -- 0x1003: IMG_FMT_MAX
  ⟨0x1003, 1, 2, 2, [⟨15, 0, 6, .ro, 0, 0, 0, 65535, false⟩]⟩,
  -- 0x1003: DESC_FMT
  ⟨0x1003, 1, 3, 3, [⟨15, 0, 6, .ro, 0, 1, 0, 65535, false⟩]⟩,
  -- 0x1100: FIELD_LOCK, VKEY_SET, PW_SET, LKEY_SET, RECORD_REQ, DEFAULT_CEIL
  ⟨0x1100, 1, 1, 1, [⟨16, 16, 0, .ro, 0, 0, 0, 1, false⟩, ⟨15, 15, 0, .ro, 0, 0, 0, 1, false⟩, ⟨14, 14, 0, .ro, 0, 0, 0, 1, false⟩, ⟨13, 13, 0, .ro, 0, 0, 0, 1, false⟩, ⟨2, 2, 0, .live, 2, 0, 0, 1, false⟩, ⟨1, 0, 5, .live, 2, 0, 0, 3, false⟩]⟩,
  -- 0x1100: MAX_UNLOCK_S
  ⟨0x1100, 1, 2, 2, [⟨31, 0, 7, .live, 2, 43200, 3600, 43200, false⟩]⟩,
  -- 0x1100: VKEY_ID
  ⟨0x1100, 1, 3, 3, [⟨31, 0, 7, .ro, 0, 0, 0, 4294967295, false⟩]⟩,
  -- 0x1100: LKEY_ID
  ⟨0x1100, 1, 4, 4, [⟨31, 0, 7, .ro, 0, 0, 0, 4294967295, false⟩]⟩,
  -- 0x1101: ACL_ADDR
  ⟨0x1101, 1, 1, 32, [⟨31, 0, 7, .live, 2, 0, 0, 4294967295, false⟩]⟩,
  -- 0x1102: VALID, CEIL, PREFIX
  ⟨0x1102, 1, 1, 32, [⟨8, 8, 0, .live, 2, 0, 0, 1, false⟩, ⟨7, 6, 5, .live, 2, 0, 0, 3, false⟩, ⟨5, 0, 5, .live, 2, 0, 0, 32, false⟩]⟩,
  -- 0x1110: TRANSPORT, SSTATE, ROLE, CEIL, SEALED, UNLOCKED, MALF_10S, OUTSTANDING
  ⟨0x1110, 48, 1, 1, [⟨31, 30, 5, .ro, 0, 0, 0, 3, false⟩, ⟨29, 28, 5, .ro, 0, 0, 0, 3, false⟩, ⟨27, 26, 5, .ro, 0, 0, 0, 3, false⟩, ⟨25, 24, 5, .ro, 0, 0, 0, 3, false⟩, ⟨23, 23, 0, .ro, 0, 0, 0, 1, false⟩, ⟨22, 22, 0, .ro, 0, 0, 0, 1, false⟩, ⟨15, 8, 5, .ro, 0, 0, 0, 255, false⟩, ⟨7, 0, 5, .ro, 0, 0, 0, 255, false⟩]⟩,
  -- 0x1110: PEER_ADDR
  ⟨0x1110, 48, 2, 2, [⟨31, 0, 7, .ro, 0, 0, 0, 4294967295, false⟩]⟩,
  -- 0x1110: PEER_PORT, KEEPALIVE_S
  ⟨0x1110, 48, 3, 3, [⟨31, 16, 6, .ro, 0, 0, 0, 65535, false⟩, ⟨15, 0, 6, .ro, 0, 0, 0, 65535, false⟩]⟩,
  -- 0x1110: UNLOCK_LEFT_S
  ⟨0x1110, 48, 4, 4, [⟨31, 0, 7, .ro, 0, 0, 0, 4294967295, false⟩]⟩,
  -- 0x2000: TICK_CODE
  ⟨0x2000, 1, 1, 1, [⟨2, 0, 5, .stg, 2, 2, 0, 5, false⟩]⟩,
  -- 0x2000: T_ZSL_TX
  ⟨0x2000, 1, 2, 2, [⟨31, 0, 7, .thr, 2, 20, 10, 4294967295, false⟩]⟩,
  -- 0x2000: T_ZSL_RX
  ⟨0x2000, 1, 3, 3, [⟨31, 0, 7, .thr, 2, 150, 0, 4294967295, false⟩]⟩,
  -- 0x2000: T_SNAP
  ⟨0x2000, 1, 4, 4, [⟨31, 0, 7, .thr, 2, 120, 0, 4294967295, false⟩]⟩,
  -- 0x2001: TN_LO
  ⟨0x2001, 1, 1, 1, [⟨31, 0, 7, .ro, 0, 0, 0, 4294967295, false⟩]⟩,
  -- 0x2001: TN_HI
  ⟨0x2001, 1, 2, 2, [⟨31, 0, 7, .ro, 0, 0, 0, 4294967295, false⟩]⟩,
  -- 0x2001: THROW_PENDING, HOLDOVER, TIME_OK, TT_STATE
  ⟨0x2001, 1, 3, 3, [⟨4, 4, 0, .ro, 0, 0, 0, 1, false⟩, ⟨3, 3, 0, .ro, 0, 0, 0, 1, false⟩, ⟨2, 2, 0, .ro, 0, 0, 0, 1, false⟩, ⟨1, 0, 5, .ro, 0, 0, 0, 3, false⟩]⟩,
  -- 0x2002: DECL_LOAD
  ⟨0x2002, 1, 1, 38, [⟨15, 0, 6, .ro, 0, 0, 0, 65535, false⟩]⟩,
  -- 0x2003: PEAK_LOAD
  ⟨0x2003, 1, 1, 38, [⟨15, 0, 6, .cz, 2, 0, 0, 65535, false⟩]⟩,
  -- 0x2004: RESERVE_CE
  ⟨0x2004, 1, 1, 1, [⟨23, 0, 7, .thr, 2, 12585984, 0, 16777215, false⟩]⟩,
  -- 0x2010: MISMATCH_POLICY, POWERUP_POLICY
  ⟨0x2010, 1, 1, 1, [⟨2, 2, 0, .live, 2, 0, 0, 1, false⟩, ⟨1, 0, 5, .live, 2, 0, 0, 1, false⟩]⟩]

/-- Part 2 of the parameter maps. -/
def paramTable2 : List PWord := [
  -- 0x2011: INST_LOST, MISMATCH, CAUSE, TYPE
  ⟨0x2011, 1, 1, 1, [⟨5, 5, 0, .ro, 0, 0, 0, 1, false⟩, ⟨4, 4, 0, .ro, 0, 0, 0, 1, false⟩, ⟨3, 2, 5, .ro, 0, 0, 0, 3, false⟩, ⟨1, 0, 5, .ro, 0, 0, 0, 3, false⟩]⟩,
  -- 0x2011: N_MIGRATED, N_KEPT
  ⟨0x2011, 1, 2, 2, [⟨31, 16, 6, .ro, 0, 0, 0, 65535, false⟩, ⟨15, 0, 6, .ro, 0, 0, 0, 65535, false⟩]⟩,
  -- 0x2011: N_DISCARDED, N_COLD_INIT
  ⟨0x2011, 1, 3, 3, [⟨31, 16, 6, .ro, 0, 0, 0, 65535, false⟩, ⟨15, 0, 6, .ro, 0, 0, 0, 65535, false⟩]⟩,
  -- 0x2011: T_OFF_LO
  ⟨0x2011, 1, 4, 4, [⟨31, 0, 7, .ro, 0, 0, 0, 4294967295, false⟩]⟩,
  -- 0x2011: T_OFF_HI
  ⟨0x2011, 1, 5, 5, [⟨31, 0, 7, .ro, 0, 0, 0, 4294967295, false⟩]⟩,
  -- 0x2020: C_THROW
  ⟨0x2020, 1, 1, 1, [⟨31, 0, 7, .live, 2, 150, 20, 4294967295, false⟩]⟩,
  -- 0x2020: FORCES_BLOCK, STAGED_POLICY
  ⟨0x2020, 1, 2, 2, [⟨1, 1, 0, .live, 2, 0, 0, 1, false⟩, ⟨0, 0, 0, .live, 2, 0, 0, 1, false⟩]⟩,
  -- 0x2021: POSTPONED, TRANSITION, ROLLBACK, SIDING_STATE
  ⟨0x2021, 1, 1, 1, [⟨23, 16, 5, .ro, 0, 0, 0, 255, false⟩, ⟨5, 5, 0, .ro, 0, 0, 0, 1, false⟩, ⟨4, 4, 0, .ro, 0, 0, 0, 1, false⟩, ⟨3, 0, 5, .ro, 0, 0, 0, 15, false⟩]⟩,
  -- 0x2021: THROW_TN_LO
  ⟨0x2021, 1, 2, 2, [⟨31, 0, 7, .ro, 0, 0, 0, 4294967295, false⟩]⟩,
  -- 0x2021: THROW_TN_HI
  ⟨0x2021, 1, 3, 3, [⟨31, 0, 7, .ro, 0, 0, 0, 4294967295, false⟩]⟩,
  -- 0x2021: MAIN_SET_ID
  ⟨0x2021, 1, 4, 4, [⟨31, 0, 7, .ro, 0, 0, 0, 4294967295, false⟩]⟩,
  -- 0x2021: SIDING_SET_ID
  ⟨0x2021, 1, 5, 5, [⟨31, 0, 7, .ro, 0, 0, 0, 4294967295, false⟩]⟩,
  -- 0x2100: N_OVR, OVR_POLICY, EVT_EN, COMMIT_MODE, CE, PRIORITY, CLASS
  ⟨0x2100, 256, 1, 1, [⟨31, 24, 5, .thr, 2, 3, 1, 255, false⟩, ⟨23, 22, 5, .thr, 2, 0, 0, 2, false⟩, ⟨21, 21, 0, .thr, 2, 0, 0, 1, false⟩, ⟨20, 20, 0, .thr, 2, 0, 0, 1, false⟩, ⟨12, 8, 5, .thr, 2, 0, 0, 23, false⟩, ⟨7, 3, 5, .thr, 2, 31, 0, 31, false⟩, ⟨2, 0, 5, .thr, 2, 0, 0, 5, false⟩]⟩,
  -- 0x2100: PERIOD_K
  ⟨0x2100, 256, 2, 2, [⟨31, 0, 7, .thr, 2, 0, 1, 10000, true⟩]⟩,
  -- 0x2100: O_REL
  ⟨0x2100, 256, 3, 3, [⟨31, 0, 7, .thr, 2, 0, 0, 4294967295, false⟩]⟩,
  -- 0x2100: DEADLINE
  ⟨0x2100, 256, 4, 4, [⟨31, 0, 7, .thr, 2, 0, 0, 4294967295, false⟩]⟩,
  -- 0x2100: R_WC
  ⟨0x2100, 256, 5, 5, [⟨31, 0, 7, .thr, 2, 0, 0, 4294967295, false⟩]⟩,
  -- 0x2100: IMAGE_NO, ENTRY
  ⟨0x2100, 256, 6, 6, [⟨31, 16, 6, .thr, 2, 0, 0, 65535, false⟩, ⟨15, 0, 6, .thr, 2, 0, 0, 65535, false⟩]⟩,
  -- 0x2100: IN_LIST, IN_BYTES
  ⟨0x2100, 256, 7, 7, [⟨31, 16, 6, .thr, 2, 0, 0, 65535, false⟩, ⟨15, 0, 6, .thr, 2, 0, 0, 32768, false⟩]⟩,
  -- 0x2100: OUT_LIST, OUT_BYTES
  ⟨0x2100, 256, 8, 8, [⟨31, 16, 6, .thr, 2, 0, 0, 65535, false⟩, ⟨15, 0, 6, .thr, 2, 0, 0, 16384, false⟩]⟩,
  -- 0x2100: FT_VALID, FT_TASK
  ⟨0x2100, 256, 9, 9, [⟨8, 8, 0, .thr, 2, 0, 0, 1, false⟩, ⟨7, 0, 5, .thr, 2, 0, 0, 255, false⟩]⟩,
  -- 0x2100: FENCE_VALID, FENCE_CE
  ⟨0x2100, 256, 10, 10, [⟨5, 5, 0, .thr, 2, 0, 0, 1, false⟩, ⟨4, 0, 5, .thr, 2, 0, 0, 31, false⟩]⟩,
  -- 0x2200: OVR_CONSEC, SKIP_PENDING, STATE
  ⟨0x2200, 256, 1, 1, [⟨23, 16, 5, .ro, 0, 0, 0, 255, false⟩, ⟨4, 4, 0, .ro, 0, 0, 0, 1, false⟩, ⟨3, 0, 5, .ro, 0, 0, 0, 15, false⟩]⟩,
  -- 0x2200: OVR_TOTAL
  ⟨0x2200, 256, 2, 2, [⟨31, 0, 7, .cz, 2, 0, 0, 4294967295, false⟩]⟩,
  -- 0x2200: LAST_RESP
  ⟨0x2200, 256, 3, 3, [⟨31, 0, 7, .ro, 0, 0, 0, 4294967295, false⟩]⟩,
  -- 0x2200: MAX_RESP
  ⟨0x2200, 256, 4, 4, [⟨31, 0, 7, .cz, 2, 0, 0, 4294967295, false⟩]⟩,
  -- 0x2200: EVT_PEND
  ⟨0x2200, 256, 5, 5, [⟨31, 0, 7, .ro, 0, 0, 0, 4294967295, false⟩]⟩,
  -- 0x2200: EVT_LOST
  ⟨0x2200, 256, 6, 6, [⟨31, 0, 7, .cz, 2, 0, 0, 4294967295, false⟩]⟩,
  -- 0x3000: FILTER, RATE, NE43_EN, FAIL_DIR, HART_MODE, MODE
  ⟨0x3000, 24, 1, 1, [⟨15, 13, 5, .thr, 2, 0, 0, 4, false⟩, ⟨12, 11, 5, .thr, 2, 0, 0, 3, false⟩, ⟨6, 6, 0, .thr, 2, 1, 0, 1, false⟩, ⟨5, 5, 0, .thr, 2, 0, 0, 1, false⟩, ⟨4, 3, 5, .stg, 2, 0, 0, 2, false⟩, ⟨2, 0, 5, .stg, 2, 0, 0, 2, false⟩]⟩,
  -- 0x3020: SAFE_SEL, FAIL_DIR, HART_EN, MODE
  ⟨0x3020, 8, 1, 1, [⟨5, 4, 5, .thr, 2, 0, 0, 2, false⟩, ⟨3, 3, 0, .thr, 2, 0, 0, 1, false⟩, ⟨2, 2, 0, .stg, 2, 0, 0, 1, false⟩, ⟨1, 0, 5, .stg, 2, 0, 0, 1, false⟩]⟩]

/-- Part 3 of the parameter maps. -/
def paramTable3 : List PWord := [
  -- 0x3020: SAFE_VALUE
  ⟨0x3020, 8, 2, 2, [⟨15, 0, 6, .thr, 2, 7000, 0, 44000, false⟩]⟩,
  -- 0x3030: T_AF
  ⟨0x3030, 1, 1, 2, [⟨31, 0, 7, .thr, 2, 10000, 0, 4294967295, false⟩]⟩,
  -- 0x3031: FDS_HIGH, SUBST_CH, SPARE_STATE
  ⟨0x3031, 1, 1, 5, [⟨7, 7, 0, .ro, 0, 0, 0, 1, false⟩, ⟨6, 2, 5, .ro, 0, 0, 0, 31, false⟩, ⟨1, 0, 5, .ro, 0, 0, 0, 3, false⟩]⟩,
  -- 0x3040: RANGE, ON_SPARE, STATUS
  ⟨0x3040, 24, 1, 1, [⟨23, 22, 5, .ro, 0, 0, 0, 3, false⟩, ⟨21, 21, 0, .ro, 0, 0, 0, 1, false⟩, ⟨7, 0, 5, .ro, 0, 10, 0, 255, false⟩]⟩,
  -- 0x3040: VALUE
  ⟨0x3040, 24, 2, 2, [⟨15, 0, 6, .ro, 0, 0, 0, 65535, false⟩]⟩,
  -- 0x3040: MEAS
  ⟨0x3040, 24, 3, 3, [⟨15, 0, 6, .ro, 0, 0, 0, 65535, false⟩]⟩,
  -- 0x3060: ON_SPARE, STATUS
  ⟨0x3060, 8, 1, 1, [⟨8, 8, 0, .ro, 0, 0, 0, 1, false⟩, ⟨7, 0, 5, .ro, 0, 10, 0, 255, false⟩]⟩,
  -- 0x3060: READBACK, COMMAND
  ⟨0x3060, 8, 2, 2, [⟨31, 16, 6, .ro, 0, 0, 0, 65535, false⟩, ⟨15, 0, 6, .ro, 0, 0, 0, 65535, false⟩]⟩,
  -- 0x3060: HEADROOM_MV
  ⟨0x3060, 8, 3, 3, [⟨15, 0, 6, .ro, 0, 0, 0, 65535, false⟩]⟩,
  -- 0x3100: FILTER_N, CNT_MODE, PCATCH, ENABLE
  ⟨0x3100, 32, 1, 1, [⟨15, 6, 6, .thr, 2, 30, 1, 1000, false⟩, ⟨3, 2, 5, .thr, 2, 0, 0, 3, false⟩, ⟨1, 1, 0, .thr, 2, 0, 0, 1, false⟩, ⟨0, 0, 0, .thr, 2, 0, 0, 1, false⟩]⟩,
  -- 0x3120: PC, VALUE, STATUS
  ⟨0x3120, 32, 1, 1, [⟨9, 9, 0, .ro, 0, 0, 0, 1, false⟩, ⟨8, 8, 0, .ro, 0, 0, 0, 1, false⟩, ⟨7, 0, 5, .ro, 0, 10, 0, 255, false⟩]⟩,
  -- 0x3120: COUNT
  ⟨0x3120, 32, 2, 2, [⟨31, 0, 7, .ro, 0, 0, 0, 4294967295, false⟩]⟩,
  -- 0x3120: TS_RISE
  ⟨0x3120, 32, 3, 4, [⟨31, 0, 7, .ro, 0, 0, 0, 4294967295, false⟩]⟩,
  -- 0x3120: TS_FALL
  ⟨0x3120, 32, 5, 6, [⟨31, 0, 7, .ro, 0, 0, 0, 4294967295, false⟩]⟩,
  -- 0x3140: OP_EN, LEARN_EN, SHARED, OVL_MODE, WD_SAFE, SAFE_VAL, ENABLE
  ⟨0x3140, 24, 1, 1, [⟨15, 15, 0, .thr, 2, 0, 0, 1, false⟩, ⟨14, 14, 0, .thr, 2, 0, 0, 1, false⟩, ⟨13, 13, 0, .thr, 2, 0, 0, 1, false⟩, ⟨12, 12, 0, .thr, 2, 0, 0, 1, false⟩, ⟨3, 2, 5, .thr, 2, 0, 0, 2, false⟩, ⟨1, 1, 0, .thr, 2, 0, 0, 1, false⟩, ⟨0, 0, 0, .thr, 2, 0, 0, 1, false⟩]⟩,
  -- 0x3160: CURRENT_MA, LATCHED, CMD, RB, STATUS
  ⟨0x3160, 24, 1, 1, [⟨31, 16, 6, .ro, 0, 0, 0, 65535, false⟩, ⟨10, 10, 0, .ro, 0, 0, 0, 1, false⟩, ⟨9, 9, 0, .ro, 0, 0, 0, 1, false⟩, ⟨8, 8, 0, .ro, 0, 0, 0, 1, false⟩, ⟨7, 0, 5, .ro, 0, 10, 0, 255, false⟩]⟩,
  -- 0x3160: LOAD_LO, LOAD_HI
  ⟨0x3160, 24, 2, 2, [⟨31, 16, 6, .ro, 0, 0, 0, 65535, false⟩, ⟨15, 0, 6, .ro, 0, 0, 0, 65535, false⟩]⟩,
  -- 0x3160: SW_CYCLES
  ⟨0x3160, 24, 3, 3, [⟨31, 0, 7, .ro, 0, 0, 0, 4294967295, false⟩]⟩,
  -- 0x3180: TYPE
  ⟨0x3180, 1, 1, 4, [⟨0, 0, 0, .thr, 2, 0, 0, 1, false⟩]⟩,
  -- 0x3181: T_SF
  ⟨0x3181, 1, 1, 3, [⟨31, 0, 7, .thr, 2, 10000, 0, 4294967295, false⟩]⟩,
  -- 0x3182: LOAD_MARGIN, RECOVERY, OP_PERIOD, OP_WIDTH
  ⟨0x3182, 1, 1, 3, [⟨23, 17, 5, .thr, 2, 20, 5, 50, false⟩, ⟨16, 16, 0, .thr, 2, 0, 0, 1, false⟩, ⟨15, 10, 5, .thr, 2, 10, 1, 60, false⟩, ⟨9, 0, 6, .thr, 2, 200, 100, 400, false⟩]⟩,
  -- 0x3184: ERR_VALID, ERR_TASK
  ⟨0x3184, 1, 1, 4, [⟨8, 8, 0, .thr, 2, 0, 0, 1, false⟩, ⟨7, 0, 5, .thr, 2, 0, 0, 255, false⟩]⟩,
  -- 0x3185: HOLD, FD_STATE, FD_MV
  ⟨0x3185, 1, 1, 3, [⟨18, 18, 0, .ro, 0, 0, 0, 1, false⟩, ⟨17, 16, 5, .ro, 0, 0, 0, 3, false⟩, ⟨15, 0, 6, .ro, 0, 0, 0, 65535, false⟩]⟩,
  -- 0x3400: ENABLE, POLL_CMD, RETRIES, STALE_N, BURST, ADDR
  ⟨0x3400, 32, 1, 16, [⟨31, 31, 0, .thr, 2, 0, 0, 1, false⟩, ⟨30, 29, 5, .thr, 2, 0, 0, 1, false⟩, ⟨28, 27, 5, .thr, 2, 1, 0, 3, false⟩, ⟨26, 24, 5, .thr, 2, 3, 1, 7, false⟩, ⟨23, 23, 0, .thr, 2, 0, 0, 1, false⟩, ⟨5, 0, 5, .thr, 2, 0, 0, 63, false⟩]⟩,
  -- 0x4000: TX_MEMBER, ERR_VALID, ERR_TASK, BUSOFF_MODE, SCHED, TERM, SIC, BRS_EN, FD_EN, MODE
  ⟨0x4000, 4, 1, 1, [⟨18, 17, 5, .thr, 2, 0, 0, 1, false⟩, ⟨16, 16, 0, .thr, 2, 0, 0, 1, false⟩, ⟨15, 8, 5, .thr, 2, 0, 0, 255, false⟩, ⟨7, 7, 0, .thr, 2, 0, 0, 1, false⟩, ⟨6, 6, 0, .thr, 2, 0, 0, 1, false⟩, ⟨5, 5, 0, .thr, 2, 0, 0, 1, false⟩, ⟨4, 4, 0, .thr, 2, 0, 0, 1, false⟩, ⟨3, 3, 0, .thr, 2, 0, 0, 1, false⟩, ⟨2, 2, 0, .thr, 2, 0, 0, 1, false⟩, ⟨1, 0, 5, .thr, 2, 0, 0, 2, false⟩]⟩,
  -- 0x4010: NBRP, NTSEG1, NTSEG2, NSJW
  ⟨0x4010, 4, 1, 1, [⟨30, 26, 5, .stg, 2, 0, 0, 31, false⟩, ⟨25, 18, 5, .stg, 2, 126, 1, 255, false⟩, ⟨17, 11, 5, .stg, 2, 31, 1, 127, false⟩, ⟨6, 0, 5, .stg, 2, 31, 0, 127, false⟩]⟩,
  -- 0x4010: DBRP, DTSEG1, DTSEG2, DSJW
  ⟨0x4010, 4, 2, 2, [⟨22, 18, 5, .stg, 2, 0, 0, 31, false⟩, ⟨17, 13, 5, .stg, 2, 14, 0, 31, false⟩, ⟨12, 9, 5, .stg, 2, 3, 0, 15, false⟩, ⟨3, 0, 5, .stg, 2, 3, 0, 15, false⟩]⟩,
  -- 0x4010: TDC_EN, TDC_AUTO, DRIFT_THR, TDCO
  ⟨0x4010, 4, 3, 3, [⟨31, 31, 0, .stg, 2, 0, 0, 1, false⟩, ⟨30, 30, 0, .stg, 2, 0, 0, 1, false⟩, ⟨14, 8, 5, .stg, 2, 4, 1, 127, false⟩, ⟨6, 0, 5, .stg, 2, 0, 0, 127, false⟩]⟩,
  -- 0x4020: TEC, REC, TDCV, TX_ACTIVE, STATE
  ⟨0x4020, 4, 1, 1, [⟨31, 24, 5, .ro, 0, 0, 0, 255, false⟩, ⟨23, 16, 5, .ro, 0, 0, 0, 255, false⟩, ⟨15, 8, 5, .ro, 0, 0, 0, 255, false⟩, ⟨5, 5, 0, .ro, 0, 0, 0, 1, false⟩, ⟨3, 0, 5, .ro, 0, 0, 0, 15, false⟩]⟩,
  -- 0x4020: BUSOFF_COUNT
  ⟨0x4020, 4, 2, 2, [⟨31, 0, 7, .cz, 2, 0, 0, 4294967295, false⟩]⟩]

/-- Part 4 of the parameter maps. -/
def paramTable4 : List PWord := [
  -- 0x4028: VIOL_COUNT
  ⟨0x4028, 4, 1, 7, [⟨31, 0, 7, .cz, 2, 0, 0, 4294967295, false⟩]⟩,
  -- 0x4030: OBJ_EN, IDE, ID
  ⟨0x4030, 4, 1, 1, [⟨31, 31, 0, .thr, 2, 0, 0, 1, false⟩, ⟨30, 30, 0, .thr, 2, 0, 0, 1, false⟩, ⟨28, 0, 7, .thr, 2, 0, 0, 536870911, false⟩]⟩,
  -- 0x4030: FMT, IDE_MASK, MASK
  ⟨0x4030, 4, 2, 2, [⟨31, 30, 5, .thr, 2, 0, 0, 2, false⟩, ⟨29, 29, 0, .thr, 2, 1, 0, 1, false⟩, ⟨28, 0, 7, .thr, 2, 536870911, 0, 536870911, false⟩]⟩,
  -- 0x4030: OBJ_EN, IDE, ID
  ⟨0x4030, 4, 3, 3, [⟨31, 31, 0, .thr, 2, 0, 0, 1, false⟩, ⟨30, 30, 0, .thr, 2, 0, 0, 1, false⟩, ⟨28, 0, 7, .thr, 2, 0, 0, 536870911, false⟩]⟩,
  -- 0x4030: FMT, IDE_MASK, MASK
  ⟨0x4030, 4, 4, 4, [⟨31, 30, 5, .thr, 2, 0, 0, 2, false⟩, ⟨29, 29, 0, .thr, 2, 1, 0, 1, false⟩, ⟨28, 0, 7, .thr, 2, 536870911, 0, 536870911, false⟩]⟩,
  -- 0x4100: OBJ_EN, IDE, ID
  ⟨0x4100, 512, 1, 1, [⟨31, 31, 0, .thr, 2, 0, 0, 1, false⟩, ⟨30, 30, 0, .thr, 2, 0, 0, 1, false⟩, ⟨28, 0, 7, .thr, 2, 0, 0, 536870911, false⟩]⟩,
  -- 0x4100: FMT, IDE_MASK, MASK
  ⟨0x4100, 512, 2, 2, [⟨31, 30, 5, .thr, 2, 0, 0, 2, false⟩, ⟨29, 29, 0, .thr, 2, 1, 0, 1, false⟩, ⟨28, 0, 7, .thr, 2, 536870911, 0, 536870911, false⟩]⟩,
  -- 0x4100: RATE_LIM
  ⟨0x4100, 512, 3, 3, [⟨15, 0, 6, .thr, 2, 0, 0, 65535, false⟩]⟩,
  -- 0x5000: PCP, TAG_EN, PORT_MODE
  ⟨0x5000, 1, 1, 1, [⟨11, 9, 5, .thr, 2, 6, 0, 7, false⟩, ⟨8, 8, 0, .thr, 2, 0, 0, 1, false⟩, ⟨1, 0, 5, .stg, 2, 0, 0, 1, false⟩]⟩,
  -- 0x5000: GROUP_MAC_LO
  ⟨0x5000, 1, 2, 2, [⟨31, 0, 7, .thr, 2, 0, 0, 4294967295, false⟩]⟩,
  -- 0x5000: GROUP_MAC_HI
  ⟨0x5000, 1, 3, 3, [⟨15, 0, 6, .thr, 2, 0, 0, 65535, false⟩]⟩,
  -- 0x5000: INGRESS_LIM
  ⟨0x5000, 1, 4, 4, [⟨31, 0, 7, .thr, 2, 10000, 100, 100000, false⟩]⟩,
  -- 0x5000: FWD_LOAD
  ⟨0x5000, 1, 5, 5, [⟨9, 0, 6, .thr, 2, 0, 0, 1023, false⟩]⟩,
  -- 0x5001: MODE_ACTIVE, SRC_FULL, RING_OPEN, LAN_FAULT_B, LAN_FAULT_A, LINK_B, LINK_A
  ⟨0x5001, 1, 1, 1, [⟨9, 8, 5, .ro, 0, 0, 0, 3, false⟩, ⟨5, 5, 0, .ro, 0, 0, 0, 1, false⟩, ⟨4, 4, 0, .ro, 0, 0, 0, 1, false⟩, ⟨3, 3, 0, .ro, 0, 0, 0, 1, false⟩, ⟨2, 2, 0, .ro, 0, 0, 0, 1, false⟩, ⟨1, 1, 0, .ro, 0, 0, 0, 1, false⟩, ⟨0, 0, 0, .ro, 0, 0, 0, 1, false⟩]⟩,
  -- 0x5001: DUP_DISCARDED
  ⟨0x5001, 1, 2, 2, [⟨31, 0, 7, .cz, 2, 0, 0, 4294967295, false⟩]⟩,
  -- 0x5001: INGRESS_DROPPED
  ⟨0x5001, 1, 3, 3, [⟨31, 0, 7, .cz, 2, 0, 0, 4294967295, false⟩]⟩,
  -- 0x5001: ZSL_LOAD
  ⟨0x5001, 1, 4, 4, [⟨31, 0, 7, .ro, 0, 0, 0, 4294967295, false⟩]⟩,
  -- 0x5008: IP_ADDR
  ⟨0x5008, 1, 1, 1, [⟨31, 0, 7, .thr, 2, 0, 0, 4294967295, false⟩]⟩,
  -- 0x5008: NETMASK
  ⟨0x5008, 1, 2, 2, [⟨31, 0, 7, .thr, 2, 0, 0, 4294967295, false⟩]⟩,
  -- 0x5008: GATEWAY
  ⟨0x5008, 1, 3, 3, [⟨31, 0, 7, .thr, 2, 0, 0, 4294967295, false⟩]⟩,
  -- 0x5100: ENABLE, ERR_VALID, M_GOOD, N_DROP, ERR_TASK
  ⟨0x5100, 64, 1, 1, [⟨31, 31, 0, .thr, 2, 0, 0, 1, false⟩, ⟨30, 30, 0, .thr, 2, 0, 0, 1, false⟩, ⟨23, 16, 5, .thr, 2, 8, 1, 255, false⟩, ⟨15, 8, 5, .thr, 2, 3, 1, 255, false⟩, ⟨7, 0, 5, .thr, 2, 0, 0, 255, false⟩]⟩,
  -- 0x5100: MAC_LO
  ⟨0x5100, 64, 2, 2, [⟨31, 0, 7, .thr, 2, 0, 0, 4294967295, false⟩]⟩,
  -- 0x5100: MAC_HI
  ⟨0x5100, 64, 3, 3, [⟨15, 0, 6, .thr, 2, 0, 0, 65535, false⟩]⟩,
  -- 0x5100: OUT_LEN, IN_LEN
  ⟨0x5100, 64, 4, 4, [⟨31, 16, 6, .thr, 2, 0, 0, 1400, false⟩, ⟨15, 0, 6, .thr, 2, 0, 0, 1400, false⟩]⟩,
  -- 0x5100: CONFIG_ID
  ⟨0x5100, 64, 5, 5, [⟨31, 0, 7, .thr, 2, 0, 0, 4294967295, false⟩]⟩,
  -- 0x5100: PATH_US, TURN_US
  ⟨0x5100, 64, 6, 6, [⟨31, 16, 6, .thr, 2, 0, 0, 65535, false⟩, ⟨15, 0, 6, .thr, 2, 0, 0, 65535, false⟩]⟩,
  -- 0x5140: MISS_CONSEC, GOOD_CONSEC, ECHO_ROLE, SAFE, CFG_MISMATCH, STATE
  ⟨0x5140, 64, 1, 1, [⟨23, 16, 5, .ro, 0, 0, 0, 255, false⟩, ⟨15, 8, 5, .ro, 0, 0, 0, 255, false⟩, ⟨7, 6, 5, .ro, 0, 0, 0, 3, false⟩, ⟨5, 5, 0, .ro, 0, 0, 0, 1, false⟩, ⟨4, 4, 0, .ro, 0, 0, 0, 1, false⟩, ⟨3, 0, 5, .ro, 0, 0, 0, 15, false⟩]⟩,
  -- 0x5140: MISS_TOTAL
  ⟨0x5140, 64, 2, 2, [⟨31, 0, 7, .cz, 2, 0, 0, 4294967295, false⟩]⟩,
  -- 0x5140: DROPOUTS
  ⟨0x5140, 64, 3, 3, [⟨31, 0, 7, .cz, 2, 0, 0, 4294967295, false⟩]⟩,
  -- 0x5140: ECHO_DIGEST
  ⟨0x5140, 64, 4, 4, [⟨31, 0, 7, .ro, 0, 0, 0, 4294967295, false⟩]⟩]

/-- Part 5 of the parameter maps. -/
def paramTable5 : List PWord := [
  -- 0x5200: TC_EN, SLAVE_ONLY, TWO_STEP, DELAY_MECH, TRANSPORT, DOMAIN
  ⟨0x5200, 1, 1, 1, [⟨12, 12, 0, .stg, 2, 1, 0, 1, false⟩, ⟨11, 11, 0, .stg, 2, 1, 0, 1, false⟩, ⟨10, 10, 0, .stg, 2, 0, 0, 1, false⟩, ⟨9, 9, 0, .stg, 2, 0, 0, 1, false⟩, ⟨8, 8, 0, .stg, 2, 0, 0, 1, false⟩, ⟨7, 0, 5, .stg, 2, 0, 0, 127, false⟩]⟩,
  -- 0x5200: ANNOUNCE_TO, LOG_DELAY, LOG_ANNOUNCE, LOG_SYNC
  ⟨0x5200, 1, 2, 2, [⟨31, 24, 5, .stg, 2, 3, 2, 10, false⟩, ⟨23, 16, 1, .stg, 2, 253, -7, 5, false⟩, ⟨15, 8, 1, .stg, 2, 0, -3, 4, false⟩, ⟨7, 0, 1, .stg, 2, 253, -7, 1, false⟩]⟩,
  -- 0x5200: PRIORITY1, PRIORITY2, CLOCK_CLASS
  ⟨0x5200, 1, 3, 3, [⟨31, 24, 5, .stg, 2, 128, 0, 255, false⟩, ⟨23, 16, 5, .stg, 2, 128, 0, 255, false⟩, ⟨15, 8, 5, .stg, 2, 248, 0, 255, false⟩]⟩,
  -- 0x5201: TCXO_ACTIVE, PORT_STATE_B, PORT_STATE_A, SLEWING, DIVERGED, SETTLED, SERVO_STATE
  ⟨0x5201, 1, 1, 1, [⟨17, 16, 5, .ro, 0, 0, 0, 3, false⟩, ⟨14, 12, 5, .ro, 0, 0, 0, 7, false⟩, ⟨10, 8, 5, .ro, 0, 0, 0, 7, false⟩, ⟨5, 5, 0, .ro, 0, 0, 0, 1, false⟩, ⟨4, 4, 0, .ro, 0, 0, 0, 1, false⟩, ⟨3, 3, 0, .ro, 0, 0, 0, 1, false⟩, ⟨2, 0, 5, .ro, 0, 0, 0, 7, false⟩]⟩,
  -- 0x5201: OFFSET_NS
  ⟨0x5201, 1, 2, 2, [⟨31, 0, 3, .ro, 0, 0, -2147483648, 2147483647, false⟩]⟩,
  -- 0x5201: FREQ_PPB
  ⟨0x5201, 1, 3, 3, [⟨31, 0, 3, .ro, 0, 0, -2147483648, 2147483647, false⟩]⟩,
  -- 0x5201: MEAN_PATH_NS
  ⟨0x5201, 1, 4, 4, [⟨31, 0, 7, .ro, 0, 0, 0, 4294967295, false⟩]⟩,
  -- 0x5201: GM_ID
  ⟨0x5201, 1, 5, 6, [⟨31, 0, 7, .ro, 0, 0, 0, 4294967295, false⟩]⟩,
  -- 0x5201: STEPS
  ⟨0x5201, 1, 7, 7, [⟨31, 0, 7, .cz, 2, 0, 0, 4294967295, false⟩]⟩,
  -- 0x5201: HOLD_S
  ⟨0x5201, 1, 8, 8, [⟨31, 0, 7, .ro, 0, 0, 0, 4294967295, false⟩]⟩,
  -- 0x5202: SLEW_RATE
  ⟨0x5202, 1, 1, 1, [⟨31, 0, 7, .thr, 2, 50000, 1000, 100000, false⟩]⟩,
  -- 0x5202: STEP_THR
  ⟨0x5202, 1, 2, 2, [⟨31, 0, 7, .thr, 2, 1000, 1, 1000000, false⟩]⟩,
  -- 0x5202: LOCK_THR
  ⟨0x5202, 1, 3, 3, [⟨31, 0, 7, .thr, 2, 1000, 100, 100000, false⟩]⟩,
  -- 0x5202: DIVERGE_THR
  ⟨0x5202, 1, 4, 4, [⟨31, 0, 7, .thr, 2, 1000, 10, 1000000, false⟩]⟩,
  -- 0x5202: HOLD_WARN
  ⟨0x5202, 1, 5, 5, [⟨31, 0, 7, .thr, 2, 60, 1, 86400, false⟩]⟩,
  -- 0x5203: ASYM_NS
  ⟨0x5203, 1, 1, 2, [⟨31, 0, 3, .thr, 2, 0, -2147483648, 2147483647, false⟩]⟩,
  -- 0x5203: PHY_LAT_PS
  ⟨0x5203, 1, 3, 6, [⟨31, 0, 7, .ro, 0, 0, 0, 4294967295, false⟩]⟩,
  -- 0x5300: RESERVE_AUTO, PATCH_VALID, PATCH_DO, N_HB, CFG_ROLE
  ⟨0x5300, 1, 1, 1, [⟨17, 17, 0, .thr, 2, 1, 0, 1, false⟩, ⟨16, 16, 0, .thr, 2, 0, 0, 1, false⟩, ⟨14, 10, 5, .thr, 2, 0, 0, 23, false⟩, ⟨9, 3, 5, .thr, 2, 3, 1, 100, false⟩, ⟨2, 0, 5, .thr, 2, 0, 0, 3, false⟩]⟩,
  -- 0x5300: PEER1_MAC_LO
  ⟨0x5300, 1, 2, 2, [⟨31, 0, 7, .thr, 2, 0, 0, 4294967295, false⟩]⟩,
  -- 0x5300: PEER1_MAC_HI
  ⟨0x5300, 1, 3, 3, [⟨15, 0, 6, .thr, 2, 0, 0, 65535, false⟩]⟩,
  -- 0x5300: PEER2_MAC_LO
  ⟨0x5300, 1, 4, 4, [⟨31, 0, 7, .thr, 2, 0, 0, 4294967295, false⟩]⟩,
  -- 0x5300: PEER2_MAC_HI
  ⟨0x5300, 1, 5, 5, [⟨15, 0, 6, .thr, 2, 0, 0, 65535, false⟩]⟩,
  -- 0x5300: K_CKPT
  ⟨0x5300, 1, 6, 6, [⟨31, 0, 7, .thr, 2, 100, 10, 10000, false⟩]⟩,
  -- 0x5300: CKPT_MBPS, CATCHUP_MBPS
  ⟨0x5300, 1, 7, 7, [⟨31, 16, 6, .thr, 2, 200, 10, 400, false⟩, ⟨15, 0, 6, .thr, 2, 400, 10, 600, false⟩]⟩,
  -- 0x5300: DISAGREE_LIMIT
  ⟨0x5300, 1, 8, 8, [⟨31, 0, 7, .thr, 2, 1000, 16, 1000000, false⟩]⟩,
  -- 0x5300: RESYNC_LIMIT
  ⟨0x5300, 1, 9, 9, [⟨31, 0, 7, .thr, 2, 30000, 1000, 600000, false⟩]⟩,
  -- 0x5300: PROOF_PERIOD
  ⟨0x5300, 1, 10, 10, [⟨31, 0, 7, .thr, 2, 604800, 3600, 2592000, true⟩]⟩,
  -- 0x5300: PROOF_LEN
  ⟨0x5300, 1, 11, 11, [⟨31, 0, 7, .thr, 2, 600, 60, 86400, false⟩]⟩,
  -- 0x5301: WITHDRAWN, SELFTEST_FAIL, CKPT_VALID, PARTNER_SEEN, DISAGREE, DOWN_OK, UP_OK, PAIR_STATE, RUN_ROLE
  ⟨0x5301, 1, 1, 1, [⟨13, 13, 0, .ro, 0, 0, 0, 1, false⟩, ⟨12, 12, 0, .ro, 0, 0, 0, 1, false⟩, ⟨11, 11, 0, .ro, 0, 0, 0, 1, false⟩, ⟨10, 10, 0, .ro, 0, 0, 0, 1, false⟩, ⟨9, 9, 0, .ro, 0, 0, 0, 1, false⟩, ⟨8, 8, 0, .ro, 0, 0, 0, 1, false⟩, ⟨7, 7, 0, .ro, 0, 0, 0, 1, false⟩, ⟨6, 3, 5, .ro, 0, 0, 0, 15, false⟩, ⟨2, 0, 5, .ro, 0, 0, 0, 7, false⟩]⟩,
  -- 0x5301: CKPT_TN_LO
  ⟨0x5301, 1, 2, 2, [⟨31, 0, 7, .ro, 0, 0, 0, 4294967295, false⟩]⟩]

/-- Part 6 of the parameter maps. -/
def paramTable6 : List PWord := [
  -- 0x5301: CKPT_TN_HI
  ⟨0x5301, 1, 3, 3, [⟨31, 0, 7, .ro, 0, 0, 0, 4294967295, false⟩]⟩,
  -- 0x5301: MISMATCHES
  ⟨0x5301, 1, 4, 4, [⟨31, 0, 7, .cz, 2, 0, 0, 4294967295, false⟩]⟩,
  -- 0x5301: PROOF_AGE_S
  ⟨0x5301, 1, 5, 5, [⟨31, 0, 7, .ro, 0, 4294967295, 0, 4294967295, false⟩]⟩,
  -- 0x6000: RESERVE_SE, SE_MODE
  ⟨0x6000, 1, 1, 1, [⟨3, 1, 5, .stg, 2, 7, 0, 7, false⟩, ⟨0, 0, 0, .stg, 2, 0, 0, 1, false⟩]⟩,
  -- 0x6001: FENCED_MASK, RESERVE_MASK, ACTIVE_MASK
  ⟨0x6001, 1, 1, 1, [⟨23, 16, 5, .ro, 0, 0, 0, 255, false⟩, ⟨15, 8, 5, .ro, 0, 0, 0, 255, false⟩, ⟨7, 0, 5, .ro, 0, 0, 0, 255, false⟩]⟩,
  -- 0x6100: ALT_SE, HOME_SE, USED
  ⟨0x6100, 64, 1, 1, [⟨6, 4, 5, .thr, 2, 0, 0, 7, false⟩, ⟨3, 1, 5, .thr, 2, 0, 0, 7, false⟩, ⟨0, 0, 0, .thr, 2, 0, 0, 1, false⟩]⟩,
  -- 0x6200: RUN_SE, FACTOR_VALID, PUB_BANK, SLOT_STATE
  ⟨0x6200, 64, 1, 1, [⟨11, 8, 5, .ro, 0, 15, 0, 15, false⟩, ⟨7, 7, 0, .ro, 0, 0, 0, 1, false⟩, ⟨6, 6, 0, .ro, 0, 0, 0, 1, false⟩, ⟨3, 0, 5, .ro, 0, 0, 0, 15, false⟩]⟩,
  -- 0x6200: LAST_STATUS, SAT_EVENTS
  ⟨0x6200, 64, 2, 2, [⟨31, 16, 6, .ro, 0, 0, 0, 65535, false⟩, ⟨15, 0, 6, .ro, 0, 0, 0, 65535, false⟩]⟩,
  -- 0x6200: FAIL_BLK, FAIL_ELEM
  ⟨0x6200, 64, 3, 3, [⟨31, 24, 5, .ro, 0, 0, 0, 255, false⟩, ⟨23, 0, 7, .ro, 0, 0, 0, 16777215, false⟩]⟩,
  -- 0x6200: FAIL_VALUE
  ⟨0x6200, 64, 4, 4, [⟨31, 0, 3, .ro, 0, 0, -2147483648, 2147483647, false⟩]⟩,
  -- 0x7000: PERSIST, MANDATORY, SEVERITY, FIXED_WORDS, RATE, BURST
  ⟨0x7000, 240, 1, 16, [⟨31, 31, 0, .thr, 2, 0, 0, 1, false⟩, ⟨30, 30, 0, .ro, 0, 0, 0, 1, false⟩, ⟨29, 28, 5, .thr, 2, 0, 0, 3, false⟩, ⟨27, 24, 5, .ro, 0, 0, 0, 15, false⟩, ⟨23, 8, 6, .thr, 2, 1000, 0, 65535, false⟩, ⟨7, 0, 5, .thr, 2, 16, 1, 255, false⟩]⟩,
  -- 0x70F0: PERSIST, MANDATORY, SEVERITY, FIXED_WORDS, RATE, BURST
  ⟨0x70F0, 15, 1, 16, [⟨31, 31, 0, .thr, 2, 0, 0, 1, false⟩, ⟨30, 30, 0, .ro, 0, 0, 0, 1, false⟩, ⟨29, 28, 5, .thr, 2, 0, 0, 3, false⟩, ⟨27, 24, 5, .ro, 0, 0, 0, 15, false⟩, ⟨23, 8, 6, .thr, 2, 1000, 0, 65535, false⟩, ⟨7, 0, 5, .thr, 2, 16, 1, 255, false⟩]⟩,
  -- 0x70FF: CONFIG
  ⟨0x70FF, 1, 1, 1, [⟨0, 0, 0, .thr, 2, 0, 0, 1, false⟩]⟩,
  -- 0x70FF: SEQ_LO
  ⟨0x70FF, 1, 2, 2, [⟨31, 0, 7, .ro, 0, 0, 0, 4294967295, false⟩]⟩,
  -- 0x70FF: SEQ_HI
  ⟨0x70FF, 1, 3, 3, [⟨31, 0, 7, .ro, 0, 0, 0, 4294967295, false⟩]⟩,
  -- 0x70FF: OLDEST_LO
  ⟨0x70FF, 1, 4, 4, [⟨31, 0, 7, .ro, 0, 0, 0, 4294967295, false⟩]⟩,
  -- 0x70FF: OLDEST_HI
  ⟨0x70FF, 1, 5, 5, [⟨31, 0, 7, .ro, 0, 0, 0, 4294967295, false⟩]⟩,
  -- 0x7100: SNAP_M
  ⟨0x7100, 1, 1, 1, [⟨15, 0, 6, .thr, 2, 0, 0, 10000, false⟩]⟩,
  -- 0x7100: PROG_MASK
  ⟨0x7100, 1, 2, 2, [⟨15, 0, 6, .thr, 2, 0, 0, 65535, false⟩]⟩,
  -- 0x7100: HOST_ROLE_15, HOST_ROLE_14, HOST_ROLE_13, HOST_ROLE_12, HOST_ROLE_11, HOST_ROLE_10, HOST_ROLE_9, HOST_ROLE_8, HOST_ROLE_7, HOST_ROLE_6, HOST_ROLE_5, HOST_ROLE_4, HOST_ROLE_3, HOST_ROLE_2, HOST_ROLE_1, HOST_ROLE_0
  ⟨0x7100, 1, 3, 3, [⟨31, 30, 5, .thr, 2, 0, 0, 3, false⟩, ⟨29, 28, 5, .thr, 2, 0, 0, 3, false⟩, ⟨27, 26, 5, .thr, 2, 0, 0, 3, false⟩, ⟨25, 24, 5, .thr, 2, 0, 0, 3, false⟩, ⟨23, 22, 5, .thr, 2, 0, 0, 3, false⟩, ⟨21, 20, 5, .thr, 2, 0, 0, 3, false⟩, ⟨19, 18, 5, .thr, 2, 0, 0, 3, false⟩, ⟨17, 16, 5, .thr, 2, 0, 0, 3, false⟩, ⟨15, 14, 5, .thr, 2, 0, 0, 3, false⟩, ⟨13, 12, 5, .thr, 2, 0, 0, 3, false⟩, ⟨11, 10, 5, .thr, 2, 0, 0, 3, false⟩, ⟨9, 8, 5, .thr, 2, 0, 0, 3, false⟩, ⟨7, 6, 5, .thr, 2, 0, 0, 3, false⟩, ⟨5, 4, 5, .thr, 2, 0, 0, 3, false⟩, ⟨3, 2, 5, .thr, 2, 0, 0, 3, false⟩, ⟨1, 0, 5, .thr, 2, 0, 0, 3, false⟩]⟩,
  -- 0x7100: SNAP_TN_LO
  ⟨0x7100, 1, 4, 4, [⟨31, 0, 7, .ro, 0, 0, 0, 4294967295, false⟩]⟩,
  -- 0x7100: SNAP_TN_HI
  ⟨0x7100, 1, 5, 5, [⟨31, 0, 7, .ro, 0, 0, 0, 4294967295, false⟩]⟩,
  -- 0x7110: ENABLE, SOURCE
  ⟨0x7110, 32, 1, 1, [⟨31, 31, 0, .thr, 2, 0, 0, 1, false⟩, ⟨15, 0, 6, .thr, 2, 0, 0, 65535, false⟩]⟩,
  -- 0x7110: LIMIT
  ⟨0x7110, 32, 2, 2, [⟨31, 0, 7, .thr, 2, 0, 0, 4294967295, false⟩]⟩,
  -- 0x7200: VALUE_LO
  ⟨0x7200, 512, 1, 1, [⟨31, 0, 7, .ro, 0, 0, 0, 4294967295, false⟩]⟩,
  -- 0x7200: STICKY, VALUE_HI
  ⟨0x7200, 512, 2, 2, [⟨31, 31, 0, .ro, 0, 0, 0, 1, false⟩, ⟨15, 0, 6, .ro, 0, 0, 0, 65535, false⟩]⟩,
  -- 0x7400: ENABLE, BALANCE, REST_LEVEL, VCOM_CODE
  ⟨0x7400, 2, 1, 1, [⟨15, 15, 0, .thr, 2, 0, 0, 1, false⟩, ⟨14, 13, 5, .thr, 2, 0, 0, 2, false⟩, ⟨12, 9, 5, .thr, 2, 15, 0, 15, false⟩, ⟨8, 0, 6, .thr, 2, 150, 30, 300, false⟩]⟩,
  -- 0x7400: WIDTH, HEIGHT
  ⟨0x7400, 1, 2, 2, [⟨31, 16, 6, .ro, 0, 296, 0, 65535, false⟩, ⟨15, 0, 6, .ro, 0, 128, 0, 65535, false⟩]⟩,
  -- 0x7401: WIDTH, HEIGHT
  ⟨0x7401, 1, 2, 2, [⟨31, 16, 6, .stg, 2, 0, 8, 2048, true⟩, ⟨15, 0, 6, .stg, 2, 0, 8, 1536, true⟩]⟩,
  -- 0x7400: COMP_THR, REDRAW_K
  ⟨0x7400, 2, 3, 3, [⟨31, 16, 6, .thr, 2, 256, 64, 32767, false⟩, ⟨15, 0, 6, .thr, 2, 100, 1, 10000, false⟩]⟩,
  -- 0x7408: MAX_LEDGER, BAND, RECOVERY, REGIONS, STATE
  ⟨0x7408, 2, 1, 1, [⟨31, 16, 6, .ro, 0, 0, 0, 65535, false⟩, ⟨12, 10, 5, .ro, 0, 0, 0, 7, false⟩, ⟨9, 9, 0, .ro, 0, 0, 0, 1, false⟩, ⟨8, 4, 5, .ro, 0, 0, 0, 31, false⟩, ⟨3, 0, 5, .ro, 0, 0, 0, 15, false⟩]⟩]

/-- Part 7 of the parameter maps. -/
def paramTable7 : List PWord := [
  -- 0x7408: TEMP_C, QUEUED, ACTIVE_LINES
  ⟨0x7408, 2, 2, 2, [⟨31, 24, 1, .ro, 0, 0, -128, 127, false⟩, ⟨23, 16, 5, .ro, 0, 0, 0, 255, false⟩, ⟨15, 0, 6, .ro, 0, 0, 0, 65535, false⟩]⟩,
  -- 0x7408: INTERRUPTS
  ⟨0x7408, 2, 3, 3, [⟨31, 0, 7, .cz, 2, 0, 0, 4294967295, false⟩]⟩,
  -- 0x7410: SPARE_PHASE, RAIL_FAULT, VCOM1_OK, VCOM0_OK, VGH_OK, VPOS_OK, VNEG_OK, VGL_OK
  ⟨0x7410, 1, 1, 1, [⟨7, 7, 0, .ro, 0, 0, 0, 1, false⟩, ⟨6, 6, 0, .ro, 0, 0, 0, 1, false⟩, ⟨5, 5, 0, .ro, 0, 0, 0, 1, false⟩, ⟨4, 4, 0, .ro, 0, 0, 0, 1, false⟩, ⟨3, 3, 0, .ro, 0, 0, 0, 1, false⟩, ⟨2, 2, 0, .ro, 0, 0, 0, 1, false⟩, ⟨1, 1, 0, .ro, 0, 0, 0, 1, false⟩, ⟨0, 0, 0, .ro, 0, 0, 0, 1, false⟩]⟩,
  -- 0x7800: SUBST_POLICY, AUTO_RUN
  ⟨0x7800, 1, 1, 1, [⟨1, 1, 0, .live, 2, 0, 0, 1, false⟩, ⟨0, 0, 0, .live, 2, 0, 0, 1, false⟩]⟩,
  -- 0x7800: AUTORUN_WAIT
  ⟨0x7800, 1, 2, 2, [⟨31, 0, 7, .live, 2, 300, 10, 3600, false⟩]⟩,
  -- 0x7800: DOMAIN_OFF, ERR_VALID, ERR_TASK
  ⟨0x7800, 1, 3, 3, [⟨14, 9, 5, .thr, 2, 0, 0, 63, false⟩, ⟨8, 8, 0, .thr, 2, 0, 0, 1, false⟩, ⟨7, 0, 5, .thr, 2, 0, 0, 255, false⟩]⟩,
  -- 0x7810: POWER_MW, STATE
  ⟨0x7810, 12, 1, 1, [⟨31, 16, 6, .ro, 0, 0, 0, 65535, false⟩, ⟨2, 0, 5, .ro, 0, 0, 0, 7, false⟩]⟩,
  -- 0x7820: T_DIE, T_BOARD, T_MEM, STAGE
  ⟨0x7820, 1, 1, 1, [⟨31, 24, 1, .ro, 0, 0, -128, 127, false⟩, ⟨23, 16, 1, .ro, 0, 0, -128, 127, false⟩, ⟨15, 8, 1, .ro, 0, 0, -128, 127, false⟩, ⟨2, 0, 5, .ro, 0, 0, 0, 7, false⟩]⟩,
  -- 0x7821: VL_A_MV, VL_B_MV
  ⟨0x7821, 1, 1, 1, [⟨31, 16, 6, .ro, 0, 0, 0, 65535, false⟩, ⟨15, 0, 6, .ro, 0, 0, 0, 65535, false⟩]⟩,
  -- 0x7821: HOLDUP_PCT, LB_OK, LA_OK
  ⟨0x7821, 1, 2, 2, [⟨15, 8, 5, .ro, 0, 0, 0, 255, false⟩, ⟨1, 1, 0, .ro, 0, 0, 0, 1, false⟩, ⟨0, 0, 0, .ro, 0, 0, 0, 1, false⟩]⟩,
  -- 0x7830: OP_HOURS
  ⟨0x7830, 1, 1, 1, [⟨31, 0, 7, .ro, 0, 0, 0, 4294967295, false⟩]⟩,
  -- 0x7830: LIFE_USED_PM
  ⟨0x7830, 1, 2, 2, [⟨15, 0, 6, .ro, 0, 0, 0, 65535, false⟩]⟩,
  -- 0x7830: CAP_EQ_H
  ⟨0x7830, 1, 3, 3, [⟨31, 0, 7, .ro, 0, 0, 0, 4294967295, false⟩]⟩,
  -- 0x7830: BOOST_EQ_H
  ⟨0x7830, 1, 4, 4, [⟨31, 0, 7, .ro, 0, 0, 0, 4294967295, false⟩]⟩,
  -- 0x7830: NAND_MAX_PE
  ⟨0x7830, 1, 5, 5, [⟨31, 0, 7, .ro, 0, 0, 0, 4294967295, false⟩]⟩,
  -- 0x7830: NAND_RETIRED, NAND_SPARE_LEFT
  ⟨0x7830, 1, 6, 6, [⟨31, 16, 6, .ro, 0, 0, 0, 65535, false⟩, ⟨15, 0, 6, .ro, 0, 7864, 0, 65535, false⟩]⟩,
  -- 0x7830: MRAM_MAX_WR
  ⟨0x7830, 1, 7, 7, [⟨31, 0, 7, .ro, 0, 0, 0, 4294967295, false⟩]⟩,
  -- 0x7830: MRAM_SPARE_LEFT
  ⟨0x7830, 1, 8, 8, [⟨15, 0, 6, .ro, 0, 256, 0, 65535, false⟩]⟩,
  -- 0x7830: TCXO_AGE_PPB
  ⟨0x7830, 1, 9, 9, [⟨31, 0, 3, .ro, 0, 0, -2147483648, 2147483647, false⟩]⟩,
  -- 0x7830: THERMAL_EVENTS
  ⟨0x7830, 1, 10, 10, [⟨31, 0, 7, .ro, 0, 0, 0, 4294967295, false⟩]⟩,
  -- 0x7840: AFE_DRIFT_UA
  ⟨0x7840, 32, 1, 1, [⟨15, 0, 2, .ro, 0, 0, -32768, 32767, false⟩]⟩]

/-- Every parameter word of the module (R440). -/
def paramTable : List PWord :=
  paramTable1 ++ paramTable2 ++ paramTable3 ++ paramTable4 ++ paramTable5 ++ paramTable6 ++ paramTable7

/-- The word at index `ix`, subindex `sub`, if the maps define it. -/
def paramAt (ix sub : Nat) : Option PWord :=
  paramTable.find? (fun w => decide (w.ix ≤ ix) && decide (ix < w.ix + w.n) && decide (w.s0 ≤ sub) && decide (sub ≤ w.s1))

/-- The highest subindex defined for an index (R436); none where the index does not exist. -/
def paramTop (ix : Nat) : Option Nat :=
  let ws := paramTable.filter (fun w => decide (w.ix ≤ ix) && decide (ix < w.ix + w.n))
  if ws.isEmpty then none else some (ws.foldl (fun m w => Nat.max m w.s1) 0)

/-- N_PARAMS (R441): subindices defined, subindex 0 excluded. -/
def nParams : Nat := paramTable.foldl (fun m w => m + w.n * (w.s1 - w.s0 + 1)) 0

/-- Codes whose records are mandatory (R446). -/
def mandatoryCodes : List Nat :=
  [0x0403, 0x0E30, 0x0E32, 0x0E03, 0x0E40, 0x0E51, 0x0110, 0x0114, 0x0115, 0x0116, 0x0A01, 0x0A02]

/-- Codes with reset SEVERITY CRITICAL (R507). -/
def criticalCodes : List Nat :=
  [0x0403, 0x0354, 0x0D13, 0x0E03, 0x0E04, 0x0E05, 0x0E13, 0x0E30, 0x0E32, 0x0E40, 0x0E44, 0x0E51]

/-- Codes with reset SEVERITY ERROR (R507). -/
def errorCodes : List Nat :=
  [0x0108, 0x0113, 0x0236, 0x0237, 0x0324, 0x0326, 0x0352, 0x0401, 0x0402, 0x0405, 0x0422, 0x0601, 0x0611, 0x0612,
   0x0622, 0x0640, 0x0650, 0x0652, 0x0653, 0x0655, 0x0662, 0x0701, 0x0822, 0x0825, 0x0830, 0x0833, 0x0910, 0x0911,
   0x0912, 0x0913, 0x0914, 0x0915, 0x0919, 0x0C05, 0x0C20, 0x0D05, 0x0D09, 0x0D10, 0x0D32, 0x0D44, 0x0D52, 0x0E07,
   0x0E14, 0x0E21, 0x0E43]

/-- Codes with reset SEVERITY WARNING (R507). -/
def warningCodes : List Nat :=
  [0x0102, 0x0103, 0x0104, 0x0105, 0x0106, 0x0107, 0x0110, 0x0111, 0x0115, 0x0116, 0x0233, 0x0234, 0x0235, 0x0238,
   0x0310, 0x0311, 0x0312, 0x0313, 0x0314, 0x0325, 0x0327, 0x0330, 0x0332, 0x0333, 0x0342, 0x0406, 0x0410, 0x0412,
   0x0413, 0x0414, 0x0415, 0x0420, 0x0421, 0x0430, 0x0602, 0x0604, 0x0610, 0x0620, 0x0621, 0x0630, 0x0631, 0x0632,
   0x0651, 0x0654, 0x0656, 0x0660, 0x0661, 0x0703, 0x0710, 0x0711, 0x0712, 0x0713, 0x0714, 0x0715, 0x0716, 0x0720,
   0x0721, 0x0730, 0x0731, 0x0732, 0x0800, 0x0802, 0x0804, 0x0806, 0x0807, 0x0808, 0x0809, 0x0820, 0x0823, 0x0826,
   0x0829, 0x082B, 0x0831, 0x0834, 0x0835, 0x0901, 0x0902, 0x0916, 0x091B, 0x091C, 0x0A01, 0x0A02, 0x0B01, 0x0C02,
   0x0C04, 0x0C10, 0x0C12, 0x0C14, 0x0C21, 0x0C30, 0x0D02, 0x0D04, 0x0D06, 0x0D07, 0x0D11, 0x0D21, 0x0D40, 0x0D41,
   0x0D45, 0x0D53, 0x0E02, 0x0E09, 0x0E10, 0x0E11, 0x0E12, 0x0E15, 0x0E22, 0x0E23, 0x0E31, 0x0E41, 0x0E50, 0x0E52,
   0x0E60, 0x0E61]

/-- Reset SEVERITY of a code (R507). -/
def sevReset (code : Nat) : Nat :=
  if criticalCodes.contains code then 3 else if errorCodes.contains code then 2 else if warningCodes.contains code then 1 else 0

/-- Fixed snapshot words of a code (R508), from the rule that names the code or from the table of R508. -/
def fixedWordsTable : List (Nat × Nat) := [
  (0x0100, 4), (0x0101, 1), (0x0110, 6), (0x0113, 1), (0x0116, 2), (0x0232, 2), (0x0233, 2), (0x0234, 2), (0x0310, 2), (0x0311, 2),
  (0x0312, 1), (0x0320, 4), (0x0321, 1), (0x0330, 2), (0x0331, 2), (0x0332, 2), (0x0333, 2), (0x0340, 6), (0x0341, 6), (0x0342, 6),
  (0x0343, 6), (0x0350, 2), (0x0351, 2), (0x0352, 2), (0x0401, 4), (0x0402, 4), (0x0403, 4), (0x0404, 4), (0x0405, 4), (0x0406, 4),
  (0x0410, 4), (0x0412, 4), (0x0413, 3), (0x0414, 1), (0x0415, 3), (0x0420, 4), (0x0421, 4), (0x0422, 4), (0x0430, 2), (0x0710, 4),
  (0x0711, 4), (0x0712, 4), (0x0713, 4), (0x0714, 4), (0x0715, 4), (0x0716, 4), (0x0720, 3), (0x0823, 4), (0x0901, 2), (0x0902, 3),
  (0x0910, 4), (0x0911, 3), (0x0912, 5), (0x0913, 5), (0x0914, 5), (0x0915, 5), (0x0916, 5), (0x0A01, 3), (0x0A02, 3), (0x0A04, 4),
  (0x0B01, 1), (0x0B02, 2), (0x0C13, 16), (0x0C30, 2), (0x0E01, 1), (0x0E06, 2), (0x0E08, 1), (0x0E10, 3), (0x0E11, 5), (0x0E12, 5),
  (0x0E13, 2), (0x0E14, 2), (0x0E15, 2), (0x0E16, 2), (0x0E21, 5), (0x0E22, 5), (0x0E23, 5), (0x0E44, 1), (0x0E50, 2), (0x0E60, 2)]

/-- FIXED_WORDS of a code (R508); program marks carry words 0 to 7 (R456). -/
def fixedWords (code : Nat) : Nat :=
  if 0x0F00 ≤ code ∧ code ≤ 0x0FEF then 8 else ((fixedWordsTable.find? (fun e => e.1 == code)).map (·.2)).getD 0

/-- Reset value of a policy word (R445, R507): PERSIST, MANDATORY, SEVERITY, FIXED_WORDS, RATE 1,000, BURST 16. -/
def policyReset (code : Nat) : Nat :=
  let m := mandatoryCodes.contains code
  256016 + (2 ^ 31 * b01 (m || sevReset code == 3) + 2 ^ 30 * b01 m + 2 ^ 28 * sevReset code + 2 ^ 24 * Nat.min 15 (fixedWords code))

/-- The reset word of a parameter: its fields' reset values (R9); policies by R507; panel 0 is enabled, panel 1 is not (R368). -/
def paramReset (ix sub : Nat) : Nat :=
  if 0x7000 ≤ ix ∧ ix < 0x70FF then policyReset (16 * cut ix 0x7000 + (sub - 1))
  else
    match paramAt ix sub with
    | none => 0
    | some w => w.fields.foldl (fun a f => a + 2 ^ f.lo * f.rst) (if ix = 0x7400 ∧ sub = 1 then 2 ^ 15 else 0)

/-- Whether a field's value keeps to its map (R438). -/
def PField.ok (f : PField) (word : Nat) : Bool :=
  let raw := bits word f.hi f.lo
  let v : Int := if 1 ≤ f.ty ∧ f.ty ≤ 4 then signed (f.hi + 1 - f.lo) raw else raw
  (decide (f.mn ≤ v) && decide (v ≤ f.mx)) || (f.zero && raw == 0)

/-- The bits of a word that its fields cover; the others are reserved. -/
def PWord.mask (w : PWord) : Nat := w.fields.foldl (fun a f => a + (2 ^ (f.hi + 1 - f.lo) - 1) * 2 ^ f.lo) 0

/-- The bits of a word that live writes may change. -/
def PWord.liveMask (w : PWord) : Nat :=
  w.fields.foldl (fun a f => if f.kind = .live then a + (2 ^ (f.hi + 1 - f.lo) - 1) * 2 ^ f.lo else a) 0

/-- Whether a word sets a reserved bit (R8). -/
def PWord.reservedSet (w : PWord) (v : Nat) : Bool := (v % 2 ^ 32) &&& (2 ^ 32 - 1 - w.mask) != 0

/-- Bytes of one field descriptor (R439). -/
def descField (hi lo ty kind role : Nat) : List Byte :=
  [BitVec.ofNat 8 hi, BitVec.ofNat 8 lo, BitVec.ofNat 8 ty, BitVec.ofNat 8 kind, BitVec.ofNat 8 role, 0, 0, 0]

/-- The code of a change kind (R439). -/
def PKind.code (k : PKind) : Nat := match k with | .ro => 0 | .live => 1 | .thr => 2 | .stg => 3 | .cz => 4

/-- The descriptors of a word from bit `top` − 1 down: its fields and, between them, the reserved bits (R439). -/
def descFields (top : Nat) (fs : List PField) : List (List Byte) :=
  match fs with
  | [] => if top = 0 then [] else [descField (top - 1) 0 0xFF 0 0]
  | f :: r =>
    (if f.hi + 1 < top then [descField (top - 1) (f.hi + 1) 0xFF 0 0] else [])
      ++ descField f.hi f.lo f.ty f.kind.code f.role :: descFields f.lo r
end Sys2Proof.Machine
end

