-- ==== Sys2Proof/Machine/State.lean ====
section
/-! DEFINITION. The state of the block, as plain data: every register, memory, table, queue, counter and mode the spec names,
grouped by subsystem, with the queue of commands that wait. Each field's text gives its width, what it is, the rule that
names it, and its value at reset. Objects of which there are many stand in a `Map` by number; one that is not listed has
the values its structure gives as defaults. -/
namespace Sys2Proof.Machine

/-- Why a step stops with a fault. Each is safe: the machine stops where the spec gives no effect at all. -/
inductive Fault
  /-- Raised by a block row whose operands an image could never hold (R95 refuses such an image). Safe. -/
  | illFormedBlock
  deriving DecidableEq, Repr

/-- Why a command has no meaning. -/
inductive Refusal
  /-- The command has no meaning in the model yet. Safe. -/
  | notModelled (mnemonic : String)
  deriving DecidableEq, Repr

/-! ### Tasks and jobs (chapters 3 to 5) -/

/-- A job's Sage submission (R197): slot, tag, operand arrays, which are read when the job completes. -/
structure SageReq where
  slot : Nat
  tag  : Nat
  refs : List Ref
  deriving DecidableEq, Repr

/-- A pending panel write of a job (R376): panel, field, text or value. -/
structure PanelWr where
  panel : Nat
  field : Nat
  text  : Option (List Byte) := none
  value : Nat := 0
  ty    : Ty := .i32
  fmt   : Nat := 0
  deriving DecidableEq, Repr

/-- A TMARK of a job (R456): code, evaluation time, words. -/
structure Mark where
  code  : Nat
  tEv   : Nat
  words : List Nat
  deriving DecidableEq, Repr

/-- An HCMD request of a job (R248). -/
structure HReq where
  h    : Nat
  addr : Nat
  cmd  : Nat
  data : List Byte
  tag  : Nat
  sess : Option Nat := none
  deriving DecidableEq, Repr

/-- One released job. -/
structure Job where
  /-- 64: tick number of the release boundary (R60). Reset 0. -/
  tn       : Nat := 0
  /-- 64: nominal release instant in µs of module time (R60). Reset 0. -/
  rel      : Nat := 0
  /-- 64: release instant in ns of the module clock (R41, R45). Reset 0. -/
  relNs    : Nat := 0
  /-- 64: deadline instant in µs of module time (R60). Reset 0. -/
  dl       : Nat := 0
  /-- bytes: input image, values (R58). Reset empty. -/
  image    : Mem := []
  /-- bytes: status byte per declared variable (R58). Reset empty. -/
  status   : List Nat := []
  /-- 64 bytes: system-variable space (R60, R91). Reset empty. -/
  sys      : Mem := []
  /-- bytes: output staging (R61). Reset empty. -/
  staging  : Mem := []
  /-- bytes: shadow bank of the task locals (R92). Reset empty. -/
  loc      : Mem := []
  /-- bytes per instance: shadow bank of the instance states (R92). Reset empty. -/
  insts    : Map (List Byte) := []
  /-- 8192 entries: write journal, newest first: RET flag, address, bytes (R93). Reset empty. -/
  journal  : List (Bool × Nat × List Byte) := []
  /-- 16: block list in execution (R96). Reset 0. -/
  list     : Nat := 0
  /-- 16: index of the next block (R96). Reset 0. -/
  idx      : Nat := 0
  /-- 7 deep: lists and indices to return to (R96). Reset empty. -/
  stack    : List (Nat × Nat) := []
  /-- number: cycles of the blocks completed, CYC (R112). Reset 0. -/
  cyc      : Nat := 0
  /-- flag: the ending block has ended, the flush is running (R514). Reset false. -/
  done     : Bool := false
  /-- list: native timer instances the job has evaluated (R119). Reset empty. -/
  evalInst : List Nat := []
  /-- list: CAN requests (R282). Reset empty. -/
  can      : List CanReq := []
  /-- list: HART requests (R248). Reset empty. -/
  hart     : List HReq := []
  /-- list: Sage submissions (R197). Reset empty. -/
  sage     : List SageReq := []
  /-- list: marks (R456). Reset empty. -/
  marks    : List Mark := []
  /-- list: panel writes (R376). Reset empty. -/
  panels   : List PanelWr := []
  deriving DecidableEq, Repr

/-- What a completed job leaves for its commit boundary (R42, R62). -/
structure Staged where
  /-- 64: TN of the commit boundary (R42). Reset 0. -/
  tn      : Nat
  /-- flag: committed at completion, only recorded for the digest (R63). Reset false. -/
  early   : Bool := false
  /-- flag: it carries outputs; else only requests of a job committed at completion (R63, R248). Reset true. -/
  outs    : Bool := true
  /-- bytes: the staging. Reset empty. -/
  bytes   : Mem := []
  /-- list: CAN requests of the job (R282). Reset empty. -/
  can     : List CanReq := []
  /-- list: HART requests of the job (R248). Reset empty. -/
  hart    : List HReq := []
  /-- list: panel writes of the job (R376). Reset empty. -/
  panels  : List PanelWr := []
  /-- list: native timer instances the job evaluated (R119). Reset empty. -/
  timers  : List Nat := []
  deriving DecidableEq, Repr

/-- One task context (R77). -/
structure Task where
  /-- 4: STATE (R77). Reset EMPTY. -/
  st         : TaskSt := .empty
  /-- 8: OVR_CONSEC (R77). Reset 0. -/
  ovrConsec  : Nat := 0
  /-- 1: SKIP_PENDING (R77). Reset 0. -/
  skip       : Bool := false
  /-- 32: OVR_TOTAL (R77). Reset 0. -/
  ovrTotal   : Nat := 0
  /-- 32: LAST_RESP in µs (R77). Reset 0. -/
  lastResp   : Nat := 0
  /-- 32: MAX_RESP in µs (R77). Reset 0. -/
  maxResp    : Nat := 0
  /-- 32: EVT_PEND (R77). Reset 0. -/
  evtPend    : Nat := 0
  /-- number: events recorded that the pending bits stand for (R67). Reset 0. -/
  evtCount   : Nat := 0
  /-- bits and number: events recorded since the last boundary, which the release of the next boundary serves (R65). Reset 0. -/
  evtNew     : Nat := 0
  /-- number: events in evtNew (R67). Reset 0. -/
  evtNewN    : Nat := 0
  /-- 64: first boundary that may serve the pending events, once no job is active at it (R67). Reset none. -/
  evtTn      : Option Nat := none
  /-- 64: TN of the boundary last served by a release or a skip, one for each boundary (R41, R68). Reset none. -/
  relTn      : Option Nat := none
  /-- 32: EVT_LOST (R77). Reset 0. -/
  evtLost    : Nat := 0
  /-- record: the active job, if one is (R41). Reset none. -/
  job        : Option Job := none
  /-- list: completed jobs that wait for their commit boundary (R62). Reset empty. -/
  staged     : List Staged := []
  /-- bytes: values last committed for the declared outputs (R61). Reset empty. -/
  committed  : Mem := []
  /-- flag: no job of the task has committed since a restart; its outputs stand at their safe values (R132). Reset false. -/
  atSafe     : Bool := false
  /-- flag: OVR_POLICY acts at the next boundary (R70). Reset false. -/
  limitAct   : Bool := false
  /-- bytes: task locals (R88, R92). Reset empty. -/
  loc        : Mem := []
  /-- bytes per instance: instance states (R83, R92). Reset empty. -/
  insts      : Map (List Byte) := []
  /-- flag: the next job is the first after a restart (R60). Reset false. -/
  firstRun   : Bool := false
  /-- flag: the next job is the first after a throw (R60). Reset false. -/
  firstThrow : Bool := false
  /-- flag: the previous release was skipped (R60). Reset false. -/
  skipped    : Bool := false
  /-- flag: TASK_SHED recorded in this episode (R482). Reset false. -/
  shedDone   : Bool := false
  /-- 16 each: SEQ of each CAN object seen at the previous release (R290). Reset empty. -/
  canSeen    : Map Nat := []
  deriving DecidableEq, Repr

/-- A hardware timer event (R118 to R120). -/
structure HwTimer where
  /-- flag: armed (R119). Reset false. -/
  armed : Bool := false
  /-- 64: the native timer instance that owns it (R118). Reset 0. -/
  inst  : Nat := 0
  /-- 8: bound task (R118). Reset 0. -/
  task  : Nat := 0
  /-- 64: TN_ev (R120). Reset 0. -/
  tnEv  : Nat := 0
  /-- 64: START of the timing whose event has been used, which a new start replaces (R120). Reset none. -/
  used  : Option Nat := none
  deriving DecidableEq, Repr

/-- The instance save area (R131). -/
structure InstSave where
  setId : Nat := 0
  tLast : Nat := 0
  valid : Bool := false
  insts : List (Nat × Nat × List Byte) := []
  deriving DecidableEq, Repr

/-! ### Memories -/

/-- The memories of the die and what is stored in MRAM and NAND (R13 to R15, R143, R144). -/
structure Memories where
  /-- 64 MiB: global variable memory (R14, R88). Reset: no byte written, reads 0 (DESIGN CHOICE, log 3). -/
  glb     : Mem := []
  /-- 8 MiB: retained memory, MRAM (R15, R88). Reset: no byte written, reads 0 (DESIGN CHOICE, log 3). -/
  ret     : Mem := []
  /-- record × 2: the two retain-directory slots (R129, R144). Reset: not intact (DESIGN CHOICE, log 4). -/
  dir0    : RetDir := {}
  /-- record: the second retain-directory slot (R144). Reset: not intact (DESIGN CHOICE, log 4). -/
  dir1    : RetDir := {}
  /-- record: instance save area (R131). Reset: VALID 0 (DESIGN CHOICE, log 4). -/
  save    : InstSave := {}
  /-- record: restart copy in NAND of a retained rewrite in progress (R136). Reset none. -/
  restartCopy : Option (Mem × RetDir) := none
  /-- package × 2: NAND slots 0 and 1 of the stored sets (R143, R144). Reset: empty (DESIGN CHOICE, log 4). -/
  nand0   : Option ConfigSet := none
  /-- package: NAND slot 1 (R144). Reset: empty (DESIGN CHOICE, log 4). -/
  nand1   : Option ConfigSet := none
  /-- 8 bytes: set selector word: NAND slot of the main set (R144). Reset slot 0 (DESIGN CHOICE, log 4). -/
  selMain : Fin 2 := 0
  /-- part of the selector word: NAND slot of the siding set (R144). Reset slot 1 (DESIGN CHOICE, log 4). -/
  selSide : Fin 2 := 1
  /-- part of the selector word: the current retain-directory slot (R144). Reset slot 0 (DESIGN CHOICE, log 4). -/
  selDir  : Fin 2 := 0
  /-- 64: module clock saved at power-fail, in ns (R330, R479). Reset 0 (DESIGN CHOICE, log 4). -/
  savedClock : Nat := 0
  /-- 32: frequency correction saved, in ppb (R334). Reset 0 (R334: with no correction saved it holds 0). -/
  savedFreq  : Int := 0
  /-- 2: TCXO the saved correction was learned on (R334). Reset none. -/
  savedTcxo  : Option Nat := none
  /-- bytes: display journal of MRAM, VALID and entries (R389). Reset invalid (DESIGN CHOICE, log 4). -/
  dispJournalValid : Bool := false
  /-- 64 × 2: panel serials at the stop (R389). Reset 0. -/
  dispSerial : List Nat := [0, 0]
  /-- 64: T_STOP (R389). Reset 0. -/
  dispTStop  : Nat := 0
  /-- 1664 entries: PANEL, BAND, LINE, STOP_PHASE, DISP_HASH, TGT_HASH (R389). Reset empty. -/
  dispEntries : List (Nat × Nat × Nat × Nat × Nat × Nat) := []
  /-- 16 each: ledger mirror in MRAM by panel × 2^16 + tile (R380, R389). Reset 0. -/
  ledgerMirror : Map Int := []
  /-- record: wear-ledger history in NAND: copies made (R486). Reset 0. -/
  wearCopies : List (List Int) := []
  deriving DecidableEq, Repr

/-! ### Sets and throws (chapter 6) -/

/-- The configuration sets and the throw in progress. -/
structure Sets where
  /-- set: the main set (R141). Reset: the empty set (DESIGN CHOICE, log 4). -/
  main     : ConfigSet := {}
  /-- set: the siding set (R141). Reset none. -/
  side     : Option ConfigSet := none
  /-- 4: SIDING_STATE (R142). Reset EMPTY. -/
  siding   : SidingSt := .empty
  /-- record: siding load in progress: TOTAL_BYTES, SET_ID, bytes received (R428). Reset none. -/
  load     : Option (Nat × Nat × Nat) := none
  /-- bytes: last load or throw report (R428 to R430). Reset empty. -/
  report   : List Byte := []
  /-- 64: boundary of the next throw attempt (R142). Reset 0. -/
  throwTn  : Nat := 0
  /-- flag: a throw is named (R148). Reset false. -/
  named    : Bool := false
  /-- flag: option FORCES_BLOCK of the named throw (R147). Reset false. -/
  fBlock   : Bool := false
  /-- 8: POSTPONED (R142). Reset 0. -/
  postponed : Nat := 0
  /-- flag: an attempt runs its catch-up now (R148). Reset false. -/
  attempt  : Bool := false
  /-- flag: own catch-up finished (R163). Reset false. -/
  caughtUp : Bool := false
  /-- 64: TN of the partner's DONE (R163). Reset none. -/
  doneTn   : Option Nat := none
  /-- flag: throw back to a HELD set (R152). Reset false. -/
  toHeld   : Bool := false
  /-- flag: the attempt boundary delays releases to C_throw (R45, R151). Reset false. -/
  delayRel : Bool := false
  /-- session and tag of the THROW command that completes by event (R147). Reset none. -/
  origin   : Option (Nat × Nat) := none
  /-- number: entries of the change journal of earlier ticks still to apply (R148). Reset 0. -/
  chgOld   : Nat := 0
  /-- number: N_w, 8-byte entries journalled in this tick (R149). Reset 0. -/
  nW       : Nat := 0
  /-- number: S_d, bytes of instance states and locals of jobs completed in this tick (R149). Reset 0. -/
  sD       : Nat := 0
  /-- flag: ROLLBACK (R142). Reset false. -/
  rollback : Bool := false
  /-- list: staged items in TRANSITION: order of R160, object, instant in ns it entered (R160). Reset empty. -/
  trans    : List (Nat × Nat × Nat) := []
  /-- list: staged items a rollback still has to revert, in reverse table order: order of R160, object (R161). Reset empty. -/
  revert   : List (Nat × Nat) := []
  /-- set: the old set a rollback reverts to, while staged items are still to revert (R161). Reset none. -/
  revertTo : Option ConfigSet := none
  /-- flag: a staged item did not settle back in this rollback (R161). Reset false. -/
  revertBad : Bool := false
  /-- 512 entries: the force table (R154). Reset empty. -/
  forces   : List Force := []
  /-- list: live parameter values by index × 256 + subindex (R9, R414). Reset: the maps' reset values. -/
  live     : Map Nat := []
  /-- list: outputs that only a set before the main set declares: with the last committed bytes until the boundary after the throw,
  without any, standing at their safe value, from then on (R153). Reset empty. -/
  release  : List (OutDecl × Option (List Byte)) := []
  /-- 64: TN from which the main set releases tasks (R45). Reset 0. -/
  mainTn   : Nat := 0
  /-- flag: CFG_ROLE of a throw in STOP takes effect at the next restart (R337). Reset false. -/
  roleDue  : Bool := false
  deriving DecidableEq, Repr

/-! ### Module, time and engines (chapters 1, 2, 13, 19) -/

/-- The supervisor's own state. -/
structure Sup where
  /-- 3: MODULE_STATE (R393, R441). Reset BOOT, 0b001. -/
  mstate   : MState := .boot
  /-- 3: RUN_ROLE (R338, R441). Reset SOLO, 0b000. -/
  role     : RRole := .solo
  /-- 64: module serial number (R441). Factory value: 0 (DESIGN CHOICE, log 7). -/
  serial   : Nat := 0
  /-- 48: the module's own station-network address (R301, R306). Factory value: 0 (DESIGN CHOICE, log 7). -/
  mac      : Nat := 0
  /-- 1: ORDER_CODE (R441). Factory value: 0, ZG-960-C (DESIGN CHOICE, log 7). -/
  orderCx  : Bool := false
  /-- 16: HW_REV (R441). Factory value: 0 (DESIGN CHOICE, log 7). -/
  hwRev    : Nat := 0
  /-- 8: MARUTH_MINOR (R441). Firmware value: 0 (DESIGN CHOICE, log 7). -/
  minor    : Nat := 0
  /-- 8: MARUTH_PATCH (R441). Firmware value: 0 (DESIGN CHOICE, log 7). -/
  patch    : Nat := 0
  /-- 16: IMG_FMT_MAX (R441). Firmware value: 0 (DESIGN CHOICE, log 7). -/
  imgFmtMax : Nat := 0
  /-- flag: the service port serves, from the end of the signature check (R393). Reset false. -/
  serving  : Bool := false
  /-- list: effects ordered for a boundary: TN, effect (R9, R162). Reset empty. -/
  due      : List (Nat × Effect) := []
  /-- list: pair commands that wait for the partner: TN_a, effect, session, tag (R426). Reset empty. -/
  pairCmds : List (Nat × Effect × Nat × Nat) := []
  /-- list: pair commands the partner has confirmed, which take effect at B(TN_a + 2): TN_a, effect, session, tag (R162). Reset empty. -/
  confirmed : List (Nat × Effect × Nat × Nat) := []
  /-- 2: restart type decided at power-up: 0 none, 1 cold, 2 warm (R472). Reset 0. -/
  restart  : Nat := 0
  /-- 1: INST_LOST (R137). Reset 0. -/
  instLost : Bool := false
  /-- 1: MISMATCH (R137). Reset 0. -/
  mismatch : Bool := false
  /-- 2: CAUSE (R137). Reset 0. -/
  cause    : Nat := 0
  /-- 2: TYPE (R137). Reset 0. -/
  rtype    : Nat := 0
  /-- 16: N_MIGRATED (R137). Reset 0. -/
  nMigrated : Nat := 0
  /-- 16: N_KEPT (R137). Reset 0. -/
  nKept    : Nat := 0
  /-- 16: N_DISCARDED (R137). Reset 0. -/
  nDiscarded : Nat := 0
  /-- 16: N_COLD_INIT (R137). Reset 0. -/
  nColdInit : Nat := 0
  /-- 64: T_OFF (R137). Reset 0. -/
  tOff     : Nat := 0
  /-- list: completions that wait: kind of command, session, tag (R423). Reset empty. -/
  waiting  : List (Nat × Nat × Nat) := []
  /-- session that entered SERVICE (R394). Reset none. -/
  svcSess  : Option Nat := none
  /-- list: loop-check values: kind, channel, value (R432). Reset empty. -/
  loopVals : List (Nat × Nat × Nat) := []
  /-- 64: instant of the power-fail warning in ns, while its sequence runs (R479). Reset none. -/
  powerFail : Option Nat := none
  /-- flag: releases have ceased after the safe commit of a power failure (R479). Reset false. -/
  refreshOff : Bool := false
  /-- record: findings of the start-up that waits for the heater run to end (R469). Reset none. -/
  heating  : Option StartUp := none
  /-- flag: the start-up in progress follows the RESET command (R467). Reset false. -/
  fromReset : Bool := false
  /-- flag: both boot copies failed, and only a power cycle leaves BOOT (R468). Reset false. -/
  bootFail : Bool := false
  /-- flag: start-up has come to role negotiation (R467 step 6). Reset false. -/
  roleWait : Bool := false
  /-- 64: instant in ns at which the module came to STOP by start-up, while it waits for AUTO_RUN (R474). Reset none. -/
  autoWait : Option Nat := none
  /-- flag: another module claims the same pair role (R473). Reset false. -/
  conflict : Bool := false
  /-- number: the model's own count of free values drawn, no state of the hardware (log 2). Reset 0 (DESIGN CHOICE, log 2). -/
  freeCtr  : Nat := 0
  deriving DecidableEq, Repr

/-- Timetable (chapter 2). -/
structure Timetable where
  /-- 64: TN of the last boundary (R31, R37). Reset 0. -/
  tn       : Nat := 0
  /-- 32: TN_HI latched by the last read of TN_LO (R37). Reset 0. -/
  tnHi     : Nat := 0
  /-- 3: tick period in force, code of TICK_CODE (R30). Reset 0b010. -/
  tickCode : Nat := 2
  /-- flag: boundaries are generated (R34, R37). Reset false. -/
  ticking  : Bool := false
  /-- flag: TN is to be derived afresh at the next boundary (R35). Reset false. -/
  rederive : Bool := false
  /-- 16 each: PEAK_LOAD per engine subindex (R37). Reset 0. -/
  peak     : Map Nat := []
  /-- 64: last boundary at which the module was in RUN, in µs (R131). Reset 0. -/
  tLastRun : Nat := 0
  /-- 4096 events: hardware timer events (R118). Reset idle. -/
  hwTimers : Map HwTimer := []
  deriving DecidableEq, Repr

/-- One station port's PTP side (R318, R328). -/
structure PtpPort where
  /-- 3: PORT_STATE (R328). Reset DISABLED. -/
  st       : PortSt := .disabled
  /-- 32: mean path delay or peer delay in ns, when a delay exchange has completed (R517). Reset none. -/
  delay    : Option Nat := none
  /-- record: best Announce received (R318). Reset none. -/
  gm       : Option Gm := none
  /-- 16: sequenceId of the next own event message (R324). Reset 0. -/
  seq      : Nat := 0
  /-- 2: messageType of the two-step event message that waits for its transmit stamp (R326). Reset none. -/
  stampDue : Option Nat := none
  deriving DecidableEq, Repr

/-- An entry of a timestamp ring (R324). -/
structure TsEntry where
  ts32   : Nat
  port   : Nat
  mtype  : Nat
  seq    : Nat
  ref64  : Nat
  srcId  : Nat
  domain : Nat
  flags  : Nat
  deriving DecidableEq, Repr

/-- Time engine (chapter 13). -/
structure TimeEng where
  /-- 64: module clock, ns since the PTP epoch (ch. 13, R31). Reset 0. -/
  clock    : Nat := 0
  /-- 16: fraction bits of the clock, which only the servo uses (ch. 13). Reset 0. -/
  frac     : Nat := 0
  /-- 3: SERVO_STATE (R328). Reset UNLOCKED. -/
  servo    : Servo := .unlocked
  /-- 1: SETTLED (R328). Reset 0. -/
  settled  : Bool := false
  /-- 1: DIVERGED (R328). Reset 0. -/
  diverged : Bool := false
  /-- 1: SLEWING (R328). Reset 0. -/
  slewing  : Bool := false
  /-- 32: OFFSET_NS (R328). Reset 0. -/
  offset   : Int := 0
  /-- 32: FREQ_PPB, frequency correction in force (R328). Reset 0. -/
  freq     : Int := 0
  /-- 32: frequency correction last learned in LOCKED (R334). Reset 0. -/
  learned  : Int := 0
  /-- 64: GM_ID (R328). Reset 0. -/
  gmId     : Nat := 0
  /-- flag: a master is selected (R330). Reset false. -/
  master   : Bool := false
  /-- 32: STEPS (R328). Reset 0. -/
  steps    : Nat := 0
  /-- 64: instant holdover began, ns (R328, R330). Reset 0. -/
  holdAt   : Nat := 0
  /-- 32: HOLD_S of the last holdover (R328). Reset 0. -/
  holdS    : Nat := 0
  /-- number: consecutive sync intervals within LOCK_THR (R330). Reset 0. -/
  inLock   : Nat := 0
  /-- number: sync intervals with the offset within 25 ns (R328). Reset 0. -/
  inBand   : Nat := 0
  /-- flag: the first offset after selection or after entry to UNLOCKED is due (R330). Reset true. -/
  firstOff : Bool := true
  /-- flag: HOLDOVER_LONG recorded for this holdover (R330). Reset false. -/
  longDone : Bool := false
  /-- record: PTP side of port A (R318). Reset disabled. -/
  portA    : PtpPort := {}
  /-- record: PTP side of port B (R318). Reset disabled. -/
  portB    : PtpPort := {}
  /-- 2: TCXO_ACTIVE (R328). Reset 0. -/
  tcxo     : Nat := 0
  /-- 2: the second running TCXO (R334). Reset 1 (DESIGN CHOICE, log 7). -/
  tcxo2    : Option Nat := some 1
  /-- 2: the cold spare (R27, R511). Reset 2 (DESIGN CHOICE, log 7). -/
  cold     : Option Nat := some 2
  /-- 1024 entries each: timestamp rings 120 to 123 (R324). Reset empty. -/
  rings    : Map (List TsEntry) := []
  deriving DecidableEq, Repr

/-- One engine of the module (R11). -/
structure Engine where
  /-- status: ACTIVE, RESERVE, FAILED, FENCED, OFF (R11). Reset OFF before power-up. -/
  st     : EngSt := .off
  /-- 5: engine that substituted it (R21). Reset none. -/
  subBy  : Option Nat := none
  /-- flag: SUBST_ADVISED pending (R22). Reset false. -/
  advised : Bool := false
  /-- flag: a substitution completes at the next boundary (R23). Reset false. -/
  due    : Bool := false
  /-- cause of a predictive or commanded substitution that waits for its boundary (R488, R489). Reset none. -/
  swap   : Option Nat := none
  /-- list: instants of corrected errors of its local memory within 24 h (R488). Reset empty. -/
  errs   : List Nat := []
  deriving DecidableEq, Repr

/-- Health, spares and power (chapter 19). -/
structure Health where
  /-- status of CE0 to CE23 (R11). Reset OFF. -/
  ce       : Map Engine := []
  /-- status of SE0 to SE7 (R11). Reset OFF. -/
  se       : Map Engine := []
  /-- status of SV0, SV1, IOS0 to IOS3, DWE, RDE, by number 0 to 7 (R11). Reset OFF. -/
  other    : Map Engine := []
  /-- 3 each: STATE of the twelve domains (R475). Reset OFF. -/
  dom      : Map DomSt := []
  /-- 16 each: POWER_MW (R475). Reset 0; the power drawn is no function of the commands and stays as it is. -/
  power    : Map Nat := []
  /-- flag each: CE cluster 0 or 1 waits for its fence plan at the next boundary (R25). Reset none. -/
  fenceDue : List Nat := []
  /-- flag each: CE clusters whose fence plan is in force (R25). Reset none. -/
  fencePlan : List Nat := []
  /-- flag: a substitution completed at this boundary, for the throw (R150). Reset false. -/
  substNow : Bool := false
  /-- 16: VL_A_MV (R477). Reset 0. -/
  vlA      : Nat := 0
  /-- 16: VL_B_MV (R477). Reset 0. -/
  vlB      : Nat := 0
  /-- 1: LA_OK (R477). Reset 0. -/
  laOk     : Bool := false
  /-- 1: LB_OK (R477). Reset 0. -/
  lbOk     : Bool := false
  /-- 8: HOLDUP_PCT (R477). Reset 0. -/
  holdup   : Nat := 0
  /-- 8: T_DIE (R485). Reset 0. -/
  tDie     : Int := 0
  /-- 8: T_BOARD (R485). Reset 0. -/
  tBoard   : Int := 0
  /-- 8: T_MEM (R485). Reset 0. -/
  tMem     : Int := 0
  /-- 3: STAGE (R482, R485). Reset 0. -/
  stage    : Nat := 0
  /-- 64: instant T_DIE reached 125 °C, ns (R482). Reset none. -/
  critAt   : Option Nat := none
  /-- flag: both pair members shed class B (R484). Reset false. -/
  shed     : Bool := false
  /-- flag: the partner's stage is 2 or higher (R484). Reset false. -/
  partnerShed : Bool := false
  /-- 32 each: wear ledgers 0x7830:01 to :0A (R486). Reset 0, spare counts 7864 and 256, OP_HOURS factory 0 (DESIGN CHOICE, log 7). -/
  opHours  : Nat := 0
  /-- 32: CAP_EQ_H in 0.1 h (R486). Reset 0. -/
  capEq    : Nat := 0
  /-- 32: BOOST_EQ_H in 0.1 h (R486). Reset 0. -/
  boostEq  : Nat := 0
  /-- number: consumption of the two capacitor ledgers beyond the 0.1 h shown, cap then boost (R486). Reset 0. -/
  eqFrac   : Nat × Nat := (0, 0)
  /-- 32: NAND_MAX_PE (R486). Reset 0. -/
  nandPe   : Nat := 0
  /-- 16: NAND_RETIRED (R486). Reset 0. -/
  nandRetired : Nat := 0
  /-- 16: NAND_SPARE_LEFT (R486). Reset 7864. -/
  nandSpare : Nat := 7864
  /-- 32: MRAM_MAX_WR in 10^6 (R486). Reset 0. -/
  mramWr   : Nat := 0
  /-- 16: MRAM_SPARE_LEFT (R486). Reset 256. -/
  mramSpare : Nat := 256
  /-- 32: TCXO_AGE_PPB (R486). Reset 0. -/
  tcxoAge  : Int := 0
  /-- 32: THERMAL_EVENTS (R486). Reset 0. -/
  thermEv  : Nat := 0
  /-- 16 each: AFE_DRIFT_UA (R486). Reset 0. -/
  drift    : Map Int := []
  /-- list: ledgers whose advisory value has been recorded (R487). Reset empty. -/
  advisories : List Nat := []
  /-- number each: spare rows, columns or sectors used per pool: kind and engine × 2^17 + bank × 2 + column (R17). Reset 0. -/
  spareUsed : Map Nat := []
  /-- list each: instants in ns and address of the corrected errors within 24 h of a row, column or sector, by pool × 2^32 + unit
  (R17). Reset empty. -/
  corrected : Map (List (Nat × Nat)) := []
  /-- list: NAND blocks retired (R489). Reset empty. -/
  retired  : List Nat := []
  /-- list: parameters whose parity error is repaired at the next boundary (R20). Reset empty. -/
  parity   : List Nat := []
  deriving DecidableEq, Repr

/-! ### Sage (chapters 7, 8) -/

/-- A presentation of a slot (R201): status word, tag and iteration count of the outcome; the source is in the word. -/
structure Pres where
  word : Nat := 0
  tag  : Nat := 0
  iter : Nat := 0
  deriving DecidableEq, Repr

/-- One problem slot (R172). -/
structure Slot where
  /-- 4: SLOT_STATE (R172). Reset EMPTY. -/
  st       : SlotSt := .empty
  /-- 4: RUN_SE (R172). Reset 0xF. -/
  runSe    : Nat := 15
  /-- 1: FACTOR_VALID (R172). Reset 0. -/
  factor   : Bool := false
  /-- 1: PUB_BANK (R172). Reset 0. -/
  pubBank  : Bool := false
  /-- flag: a job has published since the slot was cleared (R219). Reset false. -/
  published : Bool := false
  /-- 16: LAST_STATUS (R172). Reset 0. -/
  last     : Nat := 0
  /-- 16: SAT_EVENTS (R172). Reset 0. -/
  sat      : Nat := 0
  /-- 8: FAIL_BLK (R172). Reset 0. -/
  failBlk  : Nat := 0
  /-- 24: FAIL_ELEM (R172). Reset 0. -/
  failElem : Nat := 0
  /-- 32: FAIL_VALUE (R172). Reset 0. -/
  failVal  : Int := 0
  /-- 1: SRC_DIRTY (R209). Reset 0. -/
  dirty    : Bool := false
  /-- record: current status word, tag, iterations (R203). Reset NONE. -/
  cur      : Pres := {}
  /-- record: presentation latched at the owner's last release (R201). Reset NONE. -/
  latched  : Pres := {}
  /-- 8 MiB: slot storage by element: block index × 2^20 + element; result blocks of bank 1 add 2^19 (R179, R180). Reset 0. -/
  store    : Map Int := []
  /-- 64: t_dl in µs of the job (R217). Reset 0. -/
  dl       : Nat := 0
  /-- 3: HOME_SE of the placement the job was submitted under (R160, R170). Reset 0. -/
  home     : Nat := 0
  /-- 3: ALT_SE of that placement (R160, R170). Reset 0. -/
  alt      : Nat := 0
  /-- 32: tag of the job (R200). Reset 0. -/
  tag      : Nat := 0
  /-- session and tag of a host job (R204). Reset none. -/
  host     : Option (Nat × Nat) := none
  /-- record: submitted operands being checked (R190). Reset none. -/
  ops      : Option (List (List Int)) := none
  /-- phase of the running job: 0 load, 1 factorisation, 2 solve, 3 write-back (R208). Reset 0. -/
  phase    : Nat := 0
  /-- 64: instant in ns the job started (R221). Reset 0. -/
  startNs  : Nat := 0
  /-- flag: a job runs under a descriptor a throw cleared (R225). Reset false. -/
  orphan   : Bool := false
  /-- 32: TEST_US of an armed deadline test, and the TN from which it acts (R224). Reset none. -/
  test     : Option (Nat × Nat) := none
  /-- record: partner's outcome of the tag (R222). Reset none. -/
  partner  : Option (Nat × Nat × SOut) := none
  /-- record: own outcome that waits for agreement: code, iterations, digest (R222). Reset none. -/
  own      : Option (Nat × Nat × Nat) := none
  deriving DecidableEq, Repr

/-! ### Field I/O (chapters 9, 10) -/

/-- An analogue input (R231). -/
structure Ai where
  /-- 8: STATUS (R230, R231). Reset 0x0A. -/
  status   : Nat := 0x0A
  /-- 2: RANGE (R231). Reset 0. -/
  range    : Nat := 0
  /-- 1: ON_SPARE (R231). Reset 0. -/
  onSpare  : Bool := false
  /-- 16: VALUE (R231). Reset 0. -/
  value    : Nat := 0
  /-- 16: MEAS (R231). Reset 0. -/
  meas     : Nat := 0
  /-- number: filter state (R228). Reset 0. -/
  filt     : Nat := 0
  /-- flags: NE43 failure latched: 0 none, 1 low, 2 high (R230). Reset 0. -/
  ne43     : Nat := 0
  /-- flag and count: OPEN and conversions towards its change (R230). Reset false. -/
  isOpen   : Bool := false
  /-- number: conversions towards setting or clearing OPEN (R230). Reset 0. -/
  openCnt  : Nat := 0
  /-- flag: SHORT (R230). Reset false. -/
  short    : Bool := false
  /-- 64: instant the limiter last changed, ns (R230). Reset none. -/
  shortAt  : Option Nat := none
  /-- flag: MISWIRE (R230). Reset false. -/
  miswire  : Bool := false
  /-- 64: instant the terminal voltage last crossed its limits, ns (R230). Reset none. -/
  misAt    : Option Nat := none
  /-- flag: AFE_FAULT (R230). Reset false. -/
  afe      : Bool := false
  /-- flag: SUBSTITUTING (R230). Reset false. -/
  subst    : Bool := false
  /-- flag: mode change in TRANSITION (R160). Reset false. -/
  trans    : Bool := false
  /-- 16: value in the global capture (R40). Reset 0. -/
  cValue   : Nat := 0
  /-- 8: status in the global capture (R58). Reset 0x0A. -/
  cStatus  : Nat := 0x0A
  /-- number: consecutive comparisons above 24 µA (R239). Reset 0. -/
  driftN   : Nat := 0
  /-- flag: SUBST_ADVISED pending (R239). Reset false. -/
  advised  : Bool := false
  deriving DecidableEq, Repr

/-- An analogue output (R235). -/
structure Ao where
  /-- 8: STATUS (R230, R235). Reset 0x0A. -/
  status   : Nat := 0x0A
  /-- 1: ON_SPARE (R235). Reset 0. -/
  onSpare  : Bool := false
  /-- 16: READBACK (R235). Reset 0. -/
  rb       : Nat := 0
  /-- 16: COMMAND in force (R235). Reset 0. -/
  cmd      : Nat := 0
  /-- 16: HEADROOM_MV (R235). Reset 0. -/
  head     : Nat := 0
  /-- 16: value last committed by the logic side (R242). Reset 0. -/
  committed : Nat := 0
  /-- 16: readback in the global capture (R233). Reset 0. -/
  cRb      : Nat := 0
  /-- 8: status in the global capture (R58). Reset 0x0A. -/
  cStatus  : Nat := 0x0A
  /-- numbers: samples towards OPEN_LOOP, COMPLIANCE_LOW, EXT_DRIVE, up when the condition holds (R234). Reset 0. -/
  cnts     : List (Nat × Nat) := [(0, 0), (0, 0), (0, 0)]
  /-- flags: OPEN_LOOP, COMPLIANCE_LOW, EXT_DRIVE set (R234). Reset false. -/
  conds    : List Bool := [false, false, false]
  /-- flag: DRV_FAULT (R241). Reset false. -/
  drv      : Bool := false
  /-- flag: SUBSTITUTING (R241). Reset false. -/
  subst    : Bool := false
  /-- flag: mode change in TRANSITION (R160). Reset false. -/
  trans    : Bool := false
  /-- 16: commit held back during a transfer (R241). Reset none. -/
  heldCmd  : Option Nat := none
  deriving DecidableEq, Repr

/-- A HART poll entry's record (R246). -/
structure HRec where
  /-- 32 each: PV, SV, TV, QV, LOOP_MA as F32 (R246). Reset 0. -/
  vals   : List Nat := [0, 0, 0, 0, 0]
  /-- 32: UNITS (R246). Reset 0. -/
  units  : Nat := 0
  /-- 64: TS (R246). Reset 0. -/
  ts     : Nat := 0
  /-- 8: DEV_STATUS (R246). Reset 0. -/
  dev    : Nat := 0
  /-- 8: COMM_STATUS (R246). Reset 0. -/
  comm   : Nat := 0
  /-- flag: a good frame has arrived (R246). Reset false. -/
  good   : Bool := false
  /-- flag: every attempt of the last transaction failed (R246). Reset false. -/
  failed : Bool := false
  /-- 8: ST as of the last capture (R246). Reset 4 NO_VALUE. -/
  st     : Nat := 4
  /-- flag: the device is to be identified by command 0 at the entry's next turn (R244). Reset true. -/
  idDue  : Bool := true
  /-- 40: unique identifier of the device (R251). Reset none. -/
  ident  : Option Nat := none
  deriving DecidableEq, Repr

/-- An entry of a HART response ring (R248). -/
structure HResp where
  tag : Nat := 0
  cmd : Nat := 0
  rc  : Nat := 0
  st  : Nat := 0
  data : List Byte := []
  ts  : Nat := 0
  deriving DecidableEq, Repr

/-- A HART channel (R244, R248). -/
structure HChan where
  /-- record per entry: HART records (R246). Reset NO_VALUE. -/
  recs    : Map HRec := []
  /-- record per entry: HART records in the global capture (R246). Reset NO_VALUE. -/
  cRecs   : Map HRec := []
  /-- 4 entries: response ring in the global capture (R248). Reset empty. -/
  cRing   : List HResp := []
  /-- 4 entries: response ring, newest first (R248). Reset empty. -/
  ring    : List HResp := []
  /-- 4 entries: queued requests, first in first out (R248). Reset empty. -/
  queue   : List HReq := []
  /-- number: poll entry of the transaction in progress (R244). Reset 0. -/
  poll    : Nat := 0
  /-- flag: the transaction in progress is the request at the queue's front (R248). Reset false. -/
  reqNow  : Bool := false
  /-- number: poll transactions since the last inserted request (R248). Reset 0. -/
  polls   : Nat := 0
  /-- number: attempts already made in this transaction (R244). Reset 0. -/
  tries   : Nat := 0
  deriving DecidableEq, Repr

/-- A digital input (R254, R259). -/
structure Di where
  /-- number: integrator c of the filter (R254). Reset 0. -/
  c       : Nat := 0
  /-- flag: filtered state y (R254). Reset false. -/
  y       : Bool := false
  /-- 64: t_up (R254). Reset 0. -/
  tUp     : Nat := 0
  /-- 64: t_dn (R254). Reset 0. -/
  tDn     : Nat := 0
  /-- 64: last raw change to high (R254). Reset 0. -/
  lastUp  : Nat := 0
  /-- 64: last raw change to low (R254). Reset 0. -/
  lastDn  : Nat := 0
  /-- 64: TS_RISE (R259). Reset 0. -/
  tsRise  : Nat := 0
  /-- 64: TS_FALL (R259). Reset 0. -/
  tsFall  : Nat := 0
  /-- 32: COUNT (R256). Reset 0. -/
  count   : Nat := 0
  /-- flag: value of the first change of y since the last capture (R257). Reset none. -/
  caught  : Option Bool := none
  /-- flag: IN_FAULT (R260). Reset false. -/
  fault   : Bool := false
  /-- number: consecutive passed comparator tests while in IN_FAULT (R260). Reset 0. -/
  passes  : Nat := 0
  /-- 1: VALUE as captured (R259). Reset 0. -/
  value   : Bool := false
  /-- 1: PC as captured (R259). Reset 0. -/
  pc      : Bool := false
  /-- 8: STATUS as captured (R259, R260). Reset 0x0A. -/
  status  : Nat := 0x0A
  /-- 32: COUNT as captured (R259). Reset 0. -/
  cCount  : Nat := 0
  /-- 64: TS_RISE as captured (R259). Reset 0. -/
  cRise   : Nat := 0
  /-- 64: TS_FALL as captured (R259). Reset 0. -/
  cFall   : Nat := 0
  deriving DecidableEq, Repr

/-- A digital output (R262). -/
structure Do where
  /-- 8: STATUS (R260, R262). Reset 0x0A. -/
  status   : Nat := 0x0A
  /-- 1: CMD, command in force (R262). Reset 0. -/
  cmd      : Bool := false
  /-- 1: RB (R262). Reset 0. -/
  rb       : Bool := false
  /-- 16: CURRENT_MA (R262). Reset 0. -/
  ma       : Nat := 0
  /-- 1: LATCHED (R262). Reset 0. -/
  latched  : Bool := false
  /-- 16: LOAD_LO (R262). Reset 0. -/
  lo       : Nat := 0
  /-- 16: LOAD_HI (R262). Reset 0. -/
  hi       : Nat := 0
  /-- 32: SW_CYCLES (R262). Reset 0. -/
  cycles   : Nat := 0
  /-- flag: the switch is closed (R266). Reset false. -/
  closed   : Bool := false
  /-- 1: value last committed by the logic side (R272). Reset 0. -/
  committed : Bool := false
  /-- flag: OVERLOAD (R266). Reset false. -/
  ovl      : Bool := false
  /-- 64: instant since which the switch is on without limiting, ns (R266). Reset none. -/
  onSince  : Option Nat := none
  /-- flag: under latched overload a commit of off has been seen (R266). Reset false. -/
  offSeen  : Bool := false
  /-- flag: SW_FAULT (R260). Reset false. -/
  swFault  : Bool := false
  /-- flag: EXT_HIGH (R260). Reset false. -/
  extHigh  : Bool := false
  /-- 1: readback in the global capture (R262). Reset 0. -/
  cRb      : Bool := false
  /-- 16: current in the global capture (R262). Reset 0. -/
  cMa      : Nat := 0
  /-- 8: status in the global capture (R58). Reset 0x0A. -/
  cStatus  : Nat := 0x0A
  /-- number: samples towards EXT_HIGH or SW_FAULT (R260). Reset 0. -/
  cnt      : Nat := 0
  /-- number: samples towards clearing EXT_HIGH or SW_FAULT (R260). Reset 0. -/
  clr      : Nat := 0
  /-- flag: STUCK_ON (R268). Reset false. -/
  stuck    : Bool := false
  /-- flag: an off-pulse is running (R268). Reset false. -/
  pulse    : Bool := false
  /-- 64: blanking ends, ns (R260). Reset 0. -/
  blankTo  : Nat := 0
  /-- flag: LOAD_DEV (R260). Reset false. -/
  loadDev  : Bool := false
  /-- number: consecutive windows out of, or back in, the band (R260). Reset 0. -/
  devCnt   : Nat := 0
  /-- record: learning: on-periods left, I_min, I_max, session, tag (R269). Reset none. -/
  learn    : Option (Nat × Option Nat × Nat × Nat × Nat) := none
  /-- flag: the running on-period began after the learning did (R269). Reset false. -/
  learnOn  : Bool := false
  /-- record: smallest and largest window mean of the running on-period (R269). Reset none. -/
  learnCur : Option (Nat × Nat) := none
  /-- 64: instant of the last switch-on, ns (R269). Reset 0. -/
  onAt     : Nat := 0
  /-- flag: forced to the watchdog's safe state by the field side (R265). Reset false. -/
  wd       : Bool := false
  deriving DecidableEq, Repr

/-- The field side: channels and groups (chapters 9, 10). -/
structure Field where
  /-- 24 inputs (R231). Reset OFF. -/
  ai       : Map Ai := []
  /-- 8 outputs (R235). Reset OFF. -/
  ao       : Map Ao := []
  /-- 2 each: SPARE_STATE of AI groups 0 to 2 and AO groups 3, 4 (R238). Reset RESERVE. -/
  spare    : Map SpareSt := []
  /-- 5 each: SUBST_CH (R238). Reset 0. -/
  substCh  : Map Nat := []
  /-- 1 each: FDS_HIGH strap of AO group 0, 1 (R238). Reset 0. -/
  fdsHigh  : Map Bool := []
  /-- flag each: AO group driven to its strap level by its watchdog (R237). Reset false. -/
  aoWd     : Map Bool := []
  /-- 64 each: last watchdog refresh of AO groups 0, 1 and DO groups 2 to 4, ns (R237, R265). Reset 0. -/
  refresh  : Map Nat := []
  /-- 2: FA+ state: 0 OK, 1 below 20.4 V, 2 below 16 V, 3 reset (R242). Reset 0. -/
  fa       : Nat := 0
  /-- 16: FA+ in mV (R242). Reset 0. -/
  faMv     : Nat := 0
  /-- 32 HART channels (R244). Reset idle. -/
  hart     : Map HChan := []
  /-- 32 inputs (R259). Reset OFF. -/
  di       : Map Di := []
  /-- number each: samples still to filter after a DI group restarted; 101 while its supply is lost (R260). Reset 0. -/
  diDown   : Map Nat := []
  /-- 24 outputs (R262). Reset OFF. -/
  dout     : Map Do := []
  /-- 2 each: FD_STATE of the DO groups (R273). Reset OK. -/
  fd       : Map Nat := []
  /-- 16 each: FD_MV (R273). Reset 0. -/
  fdMv     : Map Nat := []
  /-- 1 each: HOLD (R273). Reset 0. -/
  hold     : Map Bool := []
  /-- flag each: the logic side re-initialises the DO group at the next boundary (R272). Reset false. -/
  reinit   : Map Bool := []
  deriving DecidableEq, Repr

/-! ### CAN (chapter 11) -/

/-- A transmit buffer (R281, R287). -/
structure TxBuf where
  /-- 8: ST (R287). Reset IDLE. -/
  st      : Nat := 0
  /-- 8: FLAGS, bit 0 ABORT_LATE, bit 1 REPLACED (R287). Reset 0. -/
  flags   : Nat := 0
  /-- 32: TAG (R287). Reset 0. -/
  tag     : Nat := 0
  /-- frame to send (R282). Reset none. -/
  frame   : Option CanFrame := none
  /-- 64: TN at which an ARMED buffer is raised (R282). Reset 0. -/
  armTn   : Nat := 0
  /-- flag: its frame is in arbitration or in progress (R283). Reset false. -/
  busy    : Bool := false
  /-- flag: an abort is pending (R285). Reset false. -/
  abort   : Bool := false
  /-- request held until the frame in progress ends (R284). Reset none. -/
  held    : Option CanReq := none
  /-- sessions and tags of the host requests that complete by event (R432). Reset none. -/
  host    : List (Nat × Nat) := []
  /-- flag: its next offer is a retransmission (R286). Reset false. -/
  retry   : Bool := false
  deriving DecidableEq, Repr

/-- A received frame as stored (R289, R290). -/
structure RxFrame where
  frame : CanFrame
  seq   : Nat := 0
  ts    : Nat := 0
  deriving DecidableEq, Repr

/-- A message object (R288, R289). -/
structure CanObj where
  /-- slot 0 and slot 1 (R289). Reset none. -/
  slot0  : Option RxFrame := none
  /-- slot 1 (R289). Reset none. -/
  slot1  : Option RxFrame := none
  /-- 16: SEQ (R289). Reset 0. -/
  seq    : Nat := 0
  /-- 1: NEW (R289). Reset 0. -/
  isNew  : Bool := false
  /-- number: token bucket in units of 10^-6 token, and the instant in µs it was filled to (R292). Reset full. -/
  tokens : Nat := 4000000
  /-- 64: instant of the last refill, µs (R292). Reset 0. -/
  tokAt  : Nat := 0
  /-- record captured at the last boundary (R290). Reset none. -/
  cap    : Option RxFrame := none
  deriving DecidableEq, Repr

/-- A CAN channel (R280). -/
structure CanCh where
  /-- 4: STATE (R280). Reset OFF. -/
  st      : CanSt := .off
  /-- 8: TEC (R280). Reset 0. -/
  tec     : Nat := 0
  /-- 8: REC (R280). Reset 0. -/
  recCnt  : Nat := 0
  /-- 8: TDCV (R280). Reset 0. -/
  tdcv    : Nat := 0
  /-- 8: TDCV_REF (R279). Reset none. -/
  tdcvRef : Option Nat := none
  /-- 1: TX_ACTIVE (R280). Reset 0. -/
  txActive : Bool := false
  /-- 32: BUSOFF_COUNT (R280). Reset 0. -/
  busoffs : Nat := 0
  /-- 32 each: VIOL_COUNT of classes 1 to 7 (R280). Reset 0. -/
  viol    : Map Nat := []
  /-- 48 buffers (R281). Reset IDLE. -/
  tx      : Map TxBuf := []
  /-- 8 each: transmit status record as captured at the last boundary: ST, FLAGS, TAG (R287). Reset IDLE. -/
  txCap   : Map (Nat × Nat × Nat) := []
  /-- 128 objects (R288). Reset empty. -/
  objs    : Map CanObj := []
  /-- 256 entries × 2: receive rings (R291). Reset empty. -/
  ring0   : List RxFrame := []
  /-- second receive ring (R291). Reset empty. -/
  ring1   : List RxFrame := []
  /-- 16 × 2: entries counted by each ring (R291). Reset 0. -/
  ringSeq : Nat × Nat := (0, 0)
  /-- flag: settings of a throw apply after the frame in progress (R296). Reset false. -/
  setDue  : Bool := false
  /-- flag: this member has taken over transmission (R295). Reset false. -/
  takeover : Bool := false
  deriving DecidableEq, Repr

/-! ### Station network (chapter 12) -/

/-- A station (R314). -/
structure Station where
  /-- 4: STATE (R314). Reset DISABLED. -/
  st       : StaSt := .disabled
  /-- 8: MISS_CONSEC (R314). Reset 0. -/
  miss     : Nat := 0
  /-- 8: GOOD_CONSEC (R314). Reset 0. -/
  good     : Nat := 0
  /-- 2: ECHO_ROLE (R314). Reset 0. -/
  echoRole : Nat := 0
  /-- 1: SAFE (R314). Reset 0. -/
  safe     : Bool := false
  /-- 1: CFG_MISMATCH (R314). Reset 0. -/
  mismatch : Bool := false
  /-- 32: MISS_TOTAL (R314). Reset 0. -/
  missTotal : Nat := 0
  /-- 32: DROPOUTS (R314). Reset 0. -/
  dropouts : Nat := 0
  /-- 32: ECHO_DIGEST (R314). Reset 0. -/
  echoDig  : Nat := 0
  /-- record: the good IN frame of the current TN, own or forwarded (R312, R313). Reset none. -/
  now      : Option ZIn := none
  /-- bytes: last good IN block (R315). Reset none. -/
  last     : Option (List Byte) := none
  /-- flag: SUBSTITUTE or STARTING serve the substitutes (R315). Reset false. -/
  useSub   : Bool := false
  /-- 32: DIGEST of the OUT frame sent last, and its TN (R306). Reset 0. -/
  outDig   : Nat := 0
  /-- 64: TN of the last good frame (R346). Reset 0. -/
  lastTn   : Nat := 0
  /-- number: good exchanges since TRANSITION began (R160). Reset 0. -/
  settle   : Nat := 0
  deriving DecidableEq, Repr

/-- Station network (chapter 12). -/
structure Net where
  /-- 2: MODE_ACTIVE (R298). Reset PRP. -/
  mode     : Nat := 0
  /-- 1: SRC_FULL (R298). Reset 0. -/
  srcFull  : Bool := false
  /-- 1: RING_OPEN (R298). Reset 0. -/
  ringOpen : Bool := false
  /-- 1: LAN_FAULT_A (R298). Reset 0. -/
  lanA     : Bool := false
  /-- 1: LAN_FAULT_B (R298). Reset 0. -/
  lanB     : Bool := false
  /-- number: ticks without a valid reply on A while B received them, and the reverse (R298). Reset 0. -/
  quietA   : Nat := 0
  /-- number: ticks without a valid reply on B while A received them (R298). Reset 0. -/
  quietB   : Nat := 0
  /-- flag: a valid reply arrived on port A in this tick (R298). Reset false. -/
  heardA   : Bool := false
  /-- flag: a valid reply arrived on port B in this tick (R298). Reset false. -/
  heardB   : Bool := false
  /-- 1: LINK_A (R298). Reset 0. -/
  linkA    : Bool := false
  /-- 1: LINK_B (R298). Reset 0. -/
  linkB    : Bool := false
  /-- 32: DUP_DISCARDED (R298). Reset 0. -/
  dups     : Nat := 0
  /-- 32: INGRESS_DROPPED (R298). Reset 0. -/
  dropped  : Nat := 0
  /-- 16: own sequence counter, one per frame pair (R299). Reset 0. -/
  seq      : Nat := 0
  /-- 256 sources: highest number, window of 64, last heard in ns (R300). Reset empty. -/
  sources  : Map (Nat × List Nat × Nat) := []
  /-- list: source and number of frames forwarded, per direction (R301). Reset empty. -/
  forwarded : List (Nat × Nat × Nat) := []
  /-- 64 stations (R314). Reset DISABLED. -/
  stations : Map Station := []
  /-- 64: TN of the last boundary whose OUT frames were sent (R309). Reset none. -/
  outTn    : Option Nat := none
  /-- 64: TN whose cut-off has been taken (R315). Reset none. -/
  cutTn    : Option Nat := none
  /-- number: frames admitted beyond ZSL and PTP in the running second, per port (R302). Reset 0. -/
  ingress  : Nat × Nat := (0, 0)
  /-- 64: second the ingress count belongs to (R302). Reset 0. -/
  ingSec   : Nat := 0
  /-- number: ticks in a row with at least one good exchange (R352). Reset 0. -/
  goodTicks : Nat := 0
  /-- 64: TN of the last good IN frame that carried the partner's ECHO_ROLE (R352). Reset none. -/
  partnerEcho : Option Nat := none
  deriving DecidableEq, Repr

/-! ### Redundancy (chapter 14) -/

/-- Redundancy engine (chapter 14). -/
structure Pair where
  /-- 4: PAIR_STATE (R338). Reset NONE. -/
  st        : PState := .none
  /-- 1: WITHDRAWN (R338). Reset 0. -/
  withdrawn : Bool := false
  /-- 1: SELFTEST_FAIL (R338). Reset 0. -/
  stFail    : Bool := false
  /-- 1: CKPT_VALID (R338). Reset 0. -/
  ckptValid : Bool := false
  /-- 1: PARTNER_SEEN: TN of the partner's last beacon (R338). Reset none. -/
  beaconTn  : Option Nat := none
  /-- record: the partner's last beacon (R353). Reset none. -/
  beacon    : Option Beacon := none
  /-- 1: DISAGREE (R338). Reset 0. -/
  disagree  : Bool := false
  /-- 1: UP_OK (R338). Reset 0. -/
  upOk      : Bool := false
  /-- 1: DOWN_OK (R338). Reset 0. -/
  downOk    : Bool := false
  /-- flag: link of the Up line (R349). Reset false. -/
  upLink    : Bool := false
  /-- flag: link of the Down line (R349). Reset false. -/
  downLink  : Bool := false
  /-- number: ticks without a heartbeat, Up and Down (R349). Reset 0. -/
  missUp    : Nat := 0
  /-- number: ticks without a heartbeat on the Down line (R349). Reset 0. -/
  missDown  : Nat := 0
  /-- number: consecutive valid heartbeats, Up (R349). Reset 0. -/
  goodUp    : Nat := 0
  /-- number: consecutive valid heartbeats, Down (R349). Reset 0. -/
  goodDown  : Nat := 0
  /-- 64: CKPT_TN (R338). Reset 0. -/
  ckptTn    : Nat := 0
  /-- 32: MISMATCHES (R338). Reset 0. -/
  mismatches : Nat := 0
  /-- 64: instant of the last passed proof run, s (R338). Reset none, PROOF_AGE_S 0xFFFFFFFF. -/
  proofAt   : Option Nat := none
  /-- record: the partner's heartbeat of the current TN (R340). Reset none. -/
  hb        : Option HB := none
  /-- record: the last heartbeat of the partner ever valid (R343). Reset none. -/
  lastHb    : Option HB := none
  /-- 64: TN of the last valid heartbeat (R351). Reset 0. -/
  hbTn      : Nat := 0
  /-- number: consecutive ticks in which a heartbeat's TN differed (R357). Reset 0. -/
  skew      : Nat := 0
  /-- 64: own output digest of the last boundary (R344). Reset 0. -/
  digest    : Nat := 0
  /-- 32 each: own per-task CRC-32C of that commit (R345). Reset empty. -/
  taskDig   : List (Nat × Nat) := []
  /-- list: tasks whose digests differed (R346). Reset empty. -/
  diffTasks : List Nat := []
  /-- flag: a mismatch was found in this tick (R345). Reset false. -/
  mismNow   : Bool := false
  /-- number: consecutive ticks with equal digests in DISAGREE (R347). Reset 0. -/
  equal     : Nat := 0
  /-- number: consecutive ticks of DISAGREE (R347). Reset 0. -/
  disTicks  : Nat := 0
  /-- list: events recorded for this TN, to send: EVT_CAUSE bit, object (R66, R340). Reset empty. -/
  events    : List (Nat × Nat) := []
  /-- list: events of this member sent with the snapshot of this TN (R66). Reset empty. -/
  sentEvts  : List (Nat × Nat) := []
  /-- flag: the partner announced TRIP (R354). Reset false. -/
  partnerTrip : Bool := false
  /-- flag: the module forms the merged image of this TN already (R343). Reset false. -/
  merged    : Bool := false
  /-- 64: TN of the witness query, and whether one is out (R351, R352). Reset none. -/
  queryTn   : Option Nat := none
  /-- 64: TN of the last repeat of the query in DEGRADED (R352). Reset 0. -/
  repeatTn  : Nat := 0
  /-- bytes: merged image: value bytes by variable (R343). Reset empty. -/
  mergedVal : Map (List Byte × Nat) := []
  /-- 64 × 2: TN of the last beacon of PAIR_A and PAIR_B a reserve saw (R350). Reset 0. -/
  lastA     : Nat := 0
  /-- 64: TN of the last beacon of PAIR_B (R350). Reset 0. -/
  lastB     : Nat := 0
  /-- 64: TN at which this re-synchronisation began, and its second try (R360). Reset 0. -/
  resyncTn  : Nat := 0
  /-- flag: the re-synchronisation has been restarted once (R360). Reset false. -/
  resyncTwo : Bool := false
  /-- flag: base applied (R359). Reset false. -/
  baseDone  : Bool := false
  /-- 64: last tick of the journal applied (R359). Reset 0. -/
  jrnTn     : Nat := 0
  /-- list: the last journal segment, not yet applied: TN, N_w, S_d, part (R359). Reset none. -/
  jrnLast   : Option (Nat × Nat × Nat × StatePart) := none
  /-- record: checkpoint sent and not acknowledged yet: TN, pages, 18,432 among them for a base (R361). Reset none. -/
  ckptOut   : Option (Nat × List Nat) := none
  /-- flag: a full base is owed to the reserve (R361). Reset false. -/
  baseOwed  : Bool := false
  /-- list: GLB and RET pages dirtied since the last acknowledged checkpoint (R361). Reset empty. -/
  dirty     : List Nat := []
  /-- flag: the main set or the force table changed since the last checkpoint (R361). Reset false. -/
  setDirty  : Bool := false
  /-- record: state image of a reserve (R361). Reset empty. -/
  image     : StatePart := {}
  /-- role of the lost member a reserve replaces (R362). Reset none. -/
  lostRole  : Option RRole := none
  /-- 64: instant of the reserve call, ns (R362). Reset none. -/
  callAt    : Option Nat := none
  /-- flag: the reserve uses the Down line (R362). Reset false. -/
  useDown   : Bool := false
  /-- 64: instant a proof run began, ns (R364). Reset none. -/
  proofRun  : Option Nat := none
  /-- flag: the proof run has failed (R364). Reset false. -/
  proofBad  : Bool := false
  /-- flag each: SFP rejected, Up and Down (R496). Reset false. -/
  sfpBad    : Bool := false
  /-- list: adoptions asked for: task, TN of the commit boundary, TN of the job's release, failed CE (R358). Reset empty. -/
  adopting  : List (Nat × Nat × Nat × Nat) := []
  /-- flag: the last boundary was an adoption, whose releases come at B + max(O_rel, C_throw) (R359). Reset false. -/
  adoptRel  : Bool := false
  /-- flag: PATCH_DO switched on (R362). Reset false. -/
  patch     : Bool := false
  /-- list: tasks whose results the partner has asked for and whose job has not completed (R358). Reset empty. -/
  asked     : List Nat := []
  /-- list: writes of this tick that a re-synchronisation source journals: RET flag, address, bytes (R359). Reset empty. -/
  jrn       : List (Bool × Nat × List Byte) := []
  /-- list: tasks whose jobs completed in this tick, for the same journal (R359). Reset empty. -/
  jrnTasks  : List Nat := []
  /-- flag: the base of this re-synchronisation has been sent (R359). Reset false. -/
  baseSent  : Bool := false
  /-- 32: SET_ID in this member's own heartbeat of this TN (R164). Reset 0. -/
  hbSet     : Nat := 0
  deriving DecidableEq, Repr

/-! ### Display (chapter 15) -/

/-- A line's state word (R370). -/
structure Ln where
  /-- 6: index of the phase running (R373). Reset 0. -/
  phase : Nat := 0
  /-- 7: phases of the running waveform; 0: none runs (R373). Reset 0. -/
  len   : Nat := 0
  /-- 3: band of the running waveform (R373). Reset 0. -/
  band  : Nat := 0
  /-- flag: the displayed memory of the line is UNKNOWN (R370). Reset false. -/
  unknown : Bool := false
  /-- flag: a waveform starts at the next frame boundary (R379). Reset false. -/
  start : Bool := false
  /-- flag: the running waveform is the refresh of a compensation (R381). Reset false. -/
  refresh : Bool := false
  /-- flag: the line is one of the display journal and still to be recovered (R390). Reset false. -/
  journal : Bool := false
  deriving DecidableEq, Repr

/-- A region (R378): its panel, the lines it waits for or has started, the alarm mark. -/
structure Region where
  panel : Nat
  lines : List Nat
  alarm : Bool := false
  deriving DecidableEq, Repr

/-- A compensation in progress (R381): tile rows, frames of step 1 driven, tiles charged so far, and whether step 2 runs. -/
structure Comp where
  rows  : List Nat
  frame : Nat := 0
  tiles : List Nat := []
  drive : Bool := false
  deriving DecidableEq, Repr

/-- A panel (R370, R387). -/
structure Panel where
  /-- 4: STATE (R387). Reset OFF. -/
  st        : PanelSt := .off
  /-- 8: TEMP_C (R387). Reset 0. -/
  temp      : Int := 0
  /-- 32: INTERRUPTS (R387). Reset 0. -/
  interrupts : Nat := 0
  /-- 1: RECOVERY (R387). Reset 0. -/
  recovery  : Bool := false
  /-- flag: panel temperature outside the table (R373). Reset false. -/
  tempHold  : Bool := false
  /-- flag: a panel is on the connector (R384, R386). Reset false. -/
  present   : Bool := false
  /-- flag: the identity store did not match (R386). Reset false. -/
  idFault   : Bool := false
  /-- flag: the panel's geometry change is in TRANSITION (R160). Reset false. -/
  trans     : Bool := false
  /-- 64: SERIAL last seen (R386). Reset 0. -/
  serial    : Nat := 0
  /-- flag: identified (R386). Reset false. -/
  identified : Bool := false
  /-- 4 bits per pixel: frame memory, by y × 2^16 + x; unlisted: 15 (R370; DESIGN CHOICE, log 3). Reset 15. -/
  frame     : Map Nat := []
  /-- 4 bits per pixel: displayed memory (R370). Reset 15 (DESIGN CHOICE, log 3); every line UNKNOWN at power-up (R390). -/
  shown     : Map Nat := []
  /-- 4 bits per pixel: active copy (R370). Reset 15 (DESIGN CHOICE, log 3). -/
  active    : Map Nat := []
  /-- state word per line (R370). Reset idle. -/
  lines     : Map Ln := []
  /-- value last rendered per bound field (R377). Reset none. -/
  rendered  : Map Nat := []
  /-- last panel write per unbound field (R376). Reset none. -/
  written   : Map PanelWr := []
  /-- 16 per tile, by tile row × 256 + tile column: ledger (R380). Reset 0. -/
  ledger    : Map Int := []
  /-- record: compensation in progress (R381). Reset none. -/
  comp      : Option Comp := none
  /-- 64: instant since which the panel has no queued or started region, ns (R381). Reset 0. -/
  quietAt   : Nat := 0
  deriving DecidableEq, Repr

/-- Display engine (chapter 15). -/
structure Disp where
  /-- 2 panels (R387). Reset OFF. -/
  panels   : Map Panel := []
  /-- queue of regions that wait, alarms ahead (R378). Reset empty. -/
  queue    : List Region := []
  /-- 16 regions started (R378). Reset empty. -/
  started  : List Region := []
  /-- 6 flags: VGL, VNEG, VPOS, VGH, VCOM0, VCOM1 in regulation (R387). Reset 0. -/
  rails    : Bool := false
  /-- 64: instant the rails started, ns (R382). Reset 0. -/
  railAt   : Nat := 0
  /-- flag: a rail fault holds, and the rails are tried again (R383). Reset false. -/
  railDown : Bool := false
  /-- 64: instant of the last rail fault or try, ns (R383). Reset 0. -/
  downAt   : Nat := 0
  /-- 1: RAIL_FAULT (R387). Reset 0. -/
  railFault : Bool := false
  /-- 1: SPARE_PHASE (R387). Reset 0. -/
  sparePhase : Bool := false
  /-- 64: instant the last waveform ended, ns (R382). Reset 0. -/
  waveAt   : Nat := 0
  /-- flag: stop phases fixed by a power-fail warning (R388). Reset false. -/
  stopping : Bool := false
  /-- number: frames of 0 V still to drive at the stop (R388). Reset 0. -/
  zeros    : Nat := 0
  deriving DecidableEq, Repr

/-! ### Mailboxes (chapters 16, 17) -/

/-- A session (R414, R401, R405). -/
structure Session where
  /-- 2: SSTATE (R414). Reset CLOSED. -/
  st       : SessSt := .closed
  /-- 2: TRANSPORT and peer (R414). Reset none. -/
  peer     : Option Peer := none
  /-- 2: ROLE held (R414). Reset VIEW. -/
  role     : Nat := 0
  /-- 2: CEIL (R414). Reset VIEW. -/
  ceil     : Nat := 0
  /-- 1: SEALED (R414). Reset 0. -/
  sealed   : Bool := false
  /-- record: unlock: role it raised to, end instant in ns (R417). Reset none. -/
  unlock   : Option Nat := none
  /-- 2: ROLE_REQ of the open (R406). Reset 0. -/
  roleReq  : Nat := 0
  /-- 16: KEEPALIVE_S (R414). Reset 0. -/
  keepalive : Nat := 0
  /-- 64: instant of the last command, ns (R408). Reset 0. -/
  lastCmd  : Nat := 0
  /-- 64: instant of the open, ns (R408). Reset 0. -/
  openedAt : Nat := 0
  /-- 32: last host SEQUENCE taken (R401). Reset 0. -/
  hostSeq  : Nat := 0
  /-- 32: next module SEQUENCE (R401). Reset 1. -/
  modSeq   : Nat := 1
  /-- 8 entries: command ring: CMD, TAG, SEQUENCE, payload (R402, R410). Reset empty. -/
  ring     : List (Nat × Nat × Nat × List Byte) := []
  /-- 8 entries: cached responses: SEQUENCE and message (R401, R402). Reset empty. -/
  cache    : List (Nat × List Byte) := []
  /-- list: instants of malformed messages in the last 10 s (R412). Reset empty. -/
  malf     : List Nat := []
  /-- list: instants of tag failures in the last 10 s (R409). Reset empty. -/
  tagFail  : List Nat := []
  /-- 72 bytes: K_hm, K_mh, IV_hm, IV_mh (R409). Reset empty. -/
  keys     : List Byte := []
  /-- record: challenge nonce: bytes, role, duration, end of validity in ns (R418). Reset none. -/
  nonce    : Option (List Byte × Nat × Nat × Nat) := none
  /-- 13 flags: rings 112 to 124 subscribed, by bit (R403). Reset 0. -/
  subs     : Nat := 0
  /-- 256 KiB: bytes of its event share in use (R402, R404). Reset 0. -/
  evBytes  : Nat := 0
  /-- 32: events dropped, and entries dropped per ring (R404). Reset 0. -/
  evLost   : Nat := 0
  /-- 32 each: entries dropped by ring number (R404). Reset 0. -/
  entLost  : Map Nat := []
  /-- list by ring: entries gathered for the next data event (R403). Reset empty. -/
  batch    : Map (List (List Byte)) := []
  deriving DecidableEq, Repr

/-- Mailbox access state (R414 to R419). -/
structure Mbx where
  /-- 48 sessions (R414). Reset CLOSED. -/
  sess     : Map Session := []
  /-- 1: FIELD_LOCK (R414). Reset 0. -/
  lock     : Bool := false
  /-- record: stored password: salt and PBKDF2 hash (R417). Reset none. -/
  pw       : Option (List Byte × List Byte) := none
  /-- 32 bytes: vessel key K_V (R419). Reset none. -/
  vkey     : Option (List Byte) := none
  /-- 32 bytes: link key K_L (R419). Reset none. -/
  lkey     : Option (List Byte) := none
  /-- list per path: instants of failed unlocks within 15 min: 0 password, 1 challenge (R419). Reset empty. -/
  fails    : Map (List Nat) := []
  /-- 64 per path: end of a lockout, ns (R419). Reset none. -/
  lockout  : Map Nat := []
  /-- list per source: instants of malformed messages without a session (R412). Reset empty. -/
  srcMalf  : Map (List Nat) := []
  /-- 64 per source: end of the block, ns (R412). Reset none. -/
  blocked  : Map Nat := []
  /-- list: SESSION_OPEN messages that wait to be taken: source, tag, payload (R405, R411). Reset empty. -/
  opens    : List (Peer × Nat × List Byte) := []
  deriving DecidableEq, Repr

/-! ### Thyme and counters (chapter 18) -/

/-- A Thyme record (R442); its SET_ID, RFLAGS and words as stored. -/
structure Rec where
  seq    : Nat
  time   : Nat
  tn     : Nat
  code   : Nat
  source : Nat
  supp   : Nat := 0
  sev    : Nat := 0
  setId  : Nat := 0
  rflags : Nat := 0
  words  : List Nat := []
  deriving DecidableEq, Repr

/-- A code's rate-limit bucket (R448). -/
structure Bucket where
  /-- number: b in units where a record costs 10^8 (R448). Full at power-up. -/
  b    : Nat := 1600000000
  /-- 64: t_last in µs (R448). Reset 0. -/
  last : Nat := 0
  /-- 16: s, records suppressed (R448). Reset 0. -/
  supp : Nat := 0
  deriving DecidableEq, Repr

/-- Thyme (chapter 18). -/
structure Thyme where
  /-- 64: SEQ the next record will take (R445, R449). Reset 0. -/
  seq      : Nat := 0
  /-- 64: SEQ_BASE in the parameter store (R449). Reset 0 (R449 names the first power-up with SEQ_BASE 0). -/
  seqBase  : Nat := 0
  /-- ring: volatile store, newest first (R450). Reset empty. -/
  vol      : List Rec := []
  /-- 16384 records: persistent section, newest first (R450). Reset empty. -/
  per      : List Rec := []
  /-- bucket per code (R448). Reset full. -/
  buckets  : Map Bucket := []
  /-- 1: configuration in force, Thyme-L (R445). Reset Thyme-S. -/
  large    : Bool := false
  deriving DecidableEq, Repr

/-- Performance counters (chapter 18). -/
structure Counters where
  /-- 48 each: 512 counters (R459). Reset 0. -/
  val      : Map Nat := []
  /-- 1 each: sticky overflow bits (R459). Reset 0. -/
  sticky   : List Nat := []
  /-- 48 each: the snapshot (R460). Reset 0. -/
  snap     : Map Nat := []
  /-- 1 each: sticky bits in the snapshot (R460). Reset 0. -/
  snapStk  : List Nat := []
  /-- 64: SNAP_TN (R463). Reset 0. -/
  snapTn   : Nat := 0
  /-- list: CNT_SNAPSHOT commands that wait: session, tag (R460). Reset empty. -/
  waiting  : List (Nat × Nat) := []
  /-- list: counters whose wrap is still to be recorded (R459). Reset empty. -/
  wrapDue  : List Nat := []
  /-- record each: comparator values in force by CNT_THRESHOLD: source, limit (R462). Reset none. -/
  cmpOver  : Map (Nat × Nat) := []
  deriving DecidableEq, Repr

/-! ### What leaves the module -/

/-- A message that leaves the module, or a signal to a unit outside: the model's own record of it (log entry 8). -/
inductive Out
  | mbx (peer : Peer) (msg : List Byte)
  | zsl (station tn flags cfg : Nat) (block : List Byte) (digest : Nat)
  | heartbeat (tn : Nat) (hb : HB)
  | beacon (type : Nat) (b : Beacon)
  | announce (trip : Bool)
  | sageOutcome (slot tag code iter digest : Nat) (res : List (List Int))
  | proposal (p : Proposal)
  | confirm (ok : Bool)
  | done (tn : Nat)
  | adoptAsk (t : Nat)
  | adoptAnswer (t tn : Nat) (p : StatePart)
  | taskDigests (ds : List (Nat × Nat))
  | resync (s : ResyncSeg)
  | checkpoint (tn : Nat) (base : Bool) (p : StatePart) (set : Option ConfigSet)
  | ckptAck (tn : Nat)
  | reserveCall (role : RRole)
  | can (ch buf : Nat) (f : CanFrame)
  | hart (h addr cmd : Nat) (data : List Byte)
  | forwardIn (z : ZIn)
  | hsrFwd (port src seq : Nat) (corr : Option Int)
  | ptp (port type seq : Nat) (value : Int)
  | arp (port ip : Nat)
  | icmp (port ip src : Nat)
  | maintenance (code unit : Nat)
  deriving DecidableEq, Repr

/-! ### The block -/

/-- Everything the block holds but the queue of commands. -/
structure Chip where
  sup   : Sup := {}
  tt    : Timetable := {}
  time  : TimeEng := {}
  tasks : Map Task := []
  mem   : Memories := {}
  sets  : Sets := {}
  hlth  : Health := {}
  slots : Map Slot := []
  io    : Field := {}
  can   : Map CanCh := []
  net   : Net := {}
  pair  : Pair := {}
  disp  : Disp := {}
  mbx   : Mbx := {}
  thy   : Thyme := {}
  cnt   : Counters := {}
  /-- messages sent, newest first; no state of the hardware (log entry 8). Reset empty. -/
  out   : List Out := []
  deriving DecidableEq, Repr

/-- The state: the block, the block as it stood after the commit step of the last boundary, from which PARAM_READ reads
(R437), and the commands that wait, first in first out. -/
structure State where
  chip    : Chip := {}
  snap    : Chip := {}
  pending : List Instr := []
  deriving DecidableEq, Repr

/-- The module right after reset, before its start-up runs: module state BOOT (R441), every field at the value its text
gives, the queue empty. -/
def State.reset : State := {}

end Sys2Proof.Machine
end

