-- ==== Sys2Proof/Machine/Read.lean ====
section
/-! DEFINITION. Reading the block: the codes of its modes and states, the parameters of the main set and the live
parameters, and every parameter word as a host reads it (R440), the read-only ones computed from the state. -/
namespace Sys2Proof.Machine

/-! ### Codes -/

/-- Module state codes (R393). -/
def MState.code (m : MState) : Nat :=
  match m with
  | .off => 0 | .boot => 1 | .selftest => 2 | .stop => 3 | .run => 4 | .trip => 5 | .service => 6 | .fault => 7

/-- Redundancy role codes (R338). -/
def RRole.code (r : RRole) : Nat :=
  match r with | .solo => 0 | .pairA => 1 | .pairB => 2 | .reserve => 3 | .reserveProof => 4

/-- PAIR_STATE codes (R338). -/
def PState.code (p : PState) : Nat :=
  match p with
  | .none => 0 | .paired => 1 | .degraded => 2 | .alone => 3 | .resyncSource => 4 | .resyncTarget => 5 | .joining => 6 | .standby => 7

/-- SIDING_STATE codes (R142). -/
def SidingSt.code (x : SidingSt) : Nat :=
  match x with | .empty => 0 | .loading => 1 | .loaded => 2 | .preparing => 3 | .named => 4 | .held => 5

/-- SERVO_STATE codes (R328). -/
def Servo.code (x : Servo) : Nat :=
  match x with | .unlocked => 0 | .locking => 1 | .locked => 2 | .holdover => 3 | .grandmaster => 4

/-- PTP port state codes (R328). -/
def PortSt.code (x : PortSt) : Nat :=
  match x with | .disabled => 0 | .listening => 1 | .master => 2 | .slave => 3 | .passive => 4 | .faulty => 5

/-- Task state codes (R77). -/
def TaskSt.code (x : TaskSt) : Nat :=
  match x with
  | .empty => 0 | .halted => 1 | .idle => 2 | .ready => 3 | .running => 4 | .preempted => 5 | .staged => 6 | .suspended => 7

/-- CAN channel state codes (R280). -/
def CanSt.code (x : CanSt) : Nat :=
  match x with
  | .off => 0 | .integrating => 1 | .errorActive => 2 | .errorPassive => 3 | .busOff => 4 | .recovering => 5
  | .transition => 6 | .standby => 7

/-- Station state codes (R314). -/
def StaSt.code (x : StaSt) : Nat :=
  match x with | .disabled => 0 | .starting => 1 | .ok => 2 | .missed => 3 | .substitute => 4 | .transition => 5

/-- Panel state codes (R387). -/
def PanelSt.code (x : PanelSt) : Nat :=
  match x with
  | .off => 0 | .absent => 1 | .identifying => 2 | .idle => 3 | .updating => 4 | .compensating => 5 | .recovering => 6
  | .tempHold => 7 | .fault => 8 | .transition => 9

/-- Slot state codes (R172). -/
def SlotSt.code (x : SlotSt) : Nat :=
  match x with | .empty => 0 | .idle => 1 | .checking => 2 | .queued => 3 | .running => 4

/-- Session state codes (R414). -/
def SessSt.code (x : SessSt) : Nat := match x with | .closed => 0 | .opening => 1 | .open => 2

/-- Spare state codes (R238). -/
def SpareSt.code (x : SpareSt) : Nat := match x with | .reserve => 0 | .inUse => 1 | .failed => 2

/-- Power domain state codes (R475). -/
def DomSt.code (x : DomSt) : Nat := match x with | .off => 0 | .on => 1 | .offByMode => 2 | .fenced => 3 | .fault => 4

/-- Task class of a CLASS code (R54). -/
def clsOf (n : Nat) : Cls :=
  match n with | 1 => .s | 2 => .c | 3 => .p | 4 => .b | 5 => .e | _ => .none

/-! ### Parameters -/

/-- A parameter word of a set: the value the package carries, else its reset value (R9). -/
def setWord (cs : ConfigSet) (ix sub : Nat) : Nat := (Map.find cs.words (ix * 256 + sub)).getD (paramReset ix sub)

/-- A field of a parameter word of a set. -/
def setFld (cs : ConfigSet) (ix sub hi lo : Nat) : Nat := bits (setWord cs ix sub) hi lo

/-- A field of a parameter word of the main set. -/
def cfg (c : Chip) (ix sub hi lo : Nat) : Nat := setFld c.sets.main ix sub hi lo

/-- A flag of the main set. -/
def cfgb (c : Chip) (ix sub i : Nat) : Bool := bit (setWord c.sets.main ix sub) i

/-- A live parameter word (R9). -/
def liveWord (c : Chip) (ix sub : Nat) : Nat := (Map.find c.sets.live (ix * 256 + sub)).getD (paramReset ix sub)

/-- A field of a live parameter. -/
def live (c : Chip) (ix sub hi lo : Nat) : Nat := bits (liveWord c ix sub) hi lo

/-! ### Time -/

/-- The tick period of a TICK_CODE in µs (R30). -/
def tickUs (code : Nat) : Nat :=
  match code with | 0 => 250 | 1 => 500 | 2 => 1000 | 3 => 2000 | 4 => 5000 | _ => 10000

/-- T_tick in µs. -/
def tTick (c : Chip) : Nat := tickUs c.tt.tickCode

/-- The instant B(TN) in ns (R31). -/
def bNs (c : Chip) (tn : Nat) : Nat := tn * tTick c * 1000

/-- Module time in µs (R111). -/
def mTime (c : Chip) : Nat := c.time.clock / 1000

/-- The time engine is LOCKED, in HOLDOVER or grandmaster (R37, R33). -/
def timeOk (c : Chip) : Bool :=
  match c.time.servo with | .locked => true | .holdover => true | .grandmaster => true | _ => false

/-- Boundaries are generated (R34). -/
def hasBoundaries (c : Chip) : Bool :=
  match c.sup.mstate with | .stop => true | .run => true | .trip => true | .service => true | _ => false

/-- The module state is RUN. -/
def inRun (c : Chip) : Bool := c.sup.mstate == .run

/-- The role is PAIR_A or PAIR_B. -/
def isPair (c : Chip) : Bool := c.sup.role == .pairA || c.sup.role == .pairB

/-- The role is RESERVE or RESERVE_PROOF. -/
def isReserve (c : Chip) : Bool := c.sup.role == .reserve || c.sup.role == .reserveProof

/-- Frame time in units of 0.001 µs of a block of `b` bytes (R311). -/
def zslFrameNs (cs : ConfigSet) (b : Nat) : Nat :=
  let h := if bit (setWord cs 0x5000 1) 8 then 4 else 0
  Nat.max (8 + 14 + h + 28 + b + 6 + 4 + 12) 84 * 8

/-- The enabled stations of a set, in ascending order. -/
def enabledStations (cs : ConfigSet) : List Nat := (List.range 64).filter (fun st => bit (setWord cs (0x5100 + st) 1) 31)

/-- The ZSL load of a set in the direction of `lens`, in ns (R311). -/
def zslLoadNs (cs : ConfigSet) (hi lo : Nat) : Nat :=
  let us := tickUs (setFld cs 0x2000 1 2 0)
  (enabledStations cs).foldl (fun a st => a + zslFrameNs cs (setFld cs (0x5100 + st) 4 hi lo)) 0
    + (if setFld cs 0x5000 1 1 0 = 1 then setFld cs 0x5000 5 9 0 * us else 0)

/-- ZSL_LOAD: the worse direction in 0.1 % of T_tick (R298, R311). -/
def zslLoad (cs : ConfigSet) : Nat :=
  let us := tickUs (setFld cs 0x2000 1 2 0)
  Nat.max (zslLoadNs cs 31 16) (zslLoadNs cs 15 0) / us

/-- Capacity per tick of the engine at subindex `sub` of 0x2002, in cycles (R46). -/
def engCapacity (us sub : Nat) : Nat :=
  if sub ≤ 0x18 then 1000 * us else if sub ≤ 0x20 then 800 * us else if sub ≤ 0x24 then 500 * us
  else if sub = 0x25 then 400 * us else 1000 * us

/-- DECL_LOAD of an engine: its worst tick in 0.1 % of its capacity (R37). -/
def declLoad (cs : ConfigSet) (sub : Nat) : Nat :=
  (Map.getD cs.declLoad sub []).foldl Nat.max 0 * 1000 / engCapacity (tickUs (setFld cs 0x2000 1 2 0)) sub

/-! ### Parameter words as read -/

/-- Engines with one of the given states as a mask. -/
def engMask (m : Map Engine) (n : Nat) (p : EngSt → Bool) : Nat :=
  (List.range n).foldl (fun a i => a + b01 (p (Map.getD m i {}).st) * 2 ^ i) 0

/-- First four bytes of SHA-256 of a key; 0 without one (R414). -/
def keyId (k : Option (List Byte)) : Nat := match k with | none => 0 | some b => leNat ((sha256 b).take 4)

/-- Malformed messages of a session in the last 10 s (R412). -/
def malf10 (c : Chip) (ss : Session) : Nat := (ss.malf.filter (fun t => decide (c.time.clock < t + 10000000000))).length

/-- TRANSPORT code of a session (R414). -/
def transportCode (p : Option Peer) : Nat :=
  match p with | none => 0 | some (.udp _ _) => 1 | some (.usb i) => 2 + i.val

/-- Seconds left of a session's unlock (R414). -/
def unlockLeft (c : Chip) (ss : Session) : Nat :=
  match ss.unlock with | none => 0 | some t => (t - c.time.clock) / 1000000000

/-- A session word (R414). -/
def sessWord (c : Chip) (s sub : Nat) : Nat :=
  let ss := Map.getD c.mbx.sess s {}
  match sub with
  | 1 => transportCode ss.peer * 2 ^ 30 + ss.st.code * 2 ^ 28 + ss.role * 2 ^ 26 + ss.ceil * 2 ^ 24 + b01 ss.sealed * 2 ^ 23
      + b01 ss.unlock.isSome * 2 ^ 22 + Nat.min 255 (malf10 c ss) * 256 + ss.ring.length
  | 2 => (match ss.peer with | some (.udp a _) => a | _ => 0)
  | 3 => (match ss.peer with | some (.udp _ p) => p * 2 ^ 16 | _ => 0) + ss.keepalive
  | _ => unlockLeft c ss

/-- A task state word (R77). -/
def taskWord (c : Chip) (t sub : Nat) : Nat :=
  let k := Map.getD c.tasks t {}
  match sub with
  | 1 => k.ovrConsec * 2 ^ 16 + b01 k.skip * 16 + k.st.code
  | 2 => k.ovrTotal
  | 3 => k.lastResp
  | 4 => k.maxResp
  | 5 => k.evtPend ||| k.evtNew
  | _ => k.evtLost

/-- Spare words of AI groups 0 to 2 and AO groups 3, 4 (R238). -/
def spareWord (c : Chip) (g : Nat) : Nat :=
  b01 (decide (3 ≤ g) && Map.getD c.io.fdsHigh (g - 3) false) * 128 + Map.getD c.io.substCh g 0 * 4
    + (Map.getD c.io.spare g .reserve).code

/-- DI words (R259), as captured. -/
def diWord (c : Chip) (n sub : Nat) : Nat :=
  let d := Map.getD c.io.di n {}
  match sub with
  | 1 => b01 d.pc * 512 + b01 d.value * 256 + d.status
  | 2 => d.cCount
  | 3 => d.cRise % 2 ^ 32
  | 4 => d.cRise / 2 ^ 32
  | 5 => d.cFall % 2 ^ 32
  | _ => d.cFall / 2 ^ 32

/-- DO words (R262). -/
def doWord (c : Chip) (n sub : Nat) : Nat :=
  let d := Map.getD c.io.dout n {}
  match sub with
  | 1 => d.ma * 2 ^ 16 + b01 d.latched * 1024 + b01 d.cmd * 512 + b01 d.rb * 256 + d.status
  | 2 => d.lo * 2 ^ 16 + d.hi
  | _ => d.cycles

/-- CAN channel words (R280). -/
def canWord (c : Chip) (n sub : Nat) : Nat :=
  let h := Map.getD c.can n {}
  match sub with
  | 1 => h.tec * 2 ^ 24 + h.recCnt * 2 ^ 16 + h.tdcv * 256 + b01 h.txActive * 32 + h.st.code
  | _ => h.busoffs

/-- Network words (R298). -/
def netWord (c : Chip) (sub : Nat) : Nat :=
  let n := c.net
  match sub with
  | 1 => n.mode * 256 + b01 n.srcFull * 32 + b01 n.ringOpen * 16 + b01 n.lanB * 8 + b01 n.lanA * 4 + b01 n.linkB * 2 + b01 n.linkA
  | 2 => n.dups
  | 3 => n.dropped
  | _ => zslLoad c.sets.main

/-- Station words (R314). -/
def stationWord (c : Chip) (n sub : Nat) : Nat :=
  let t := Map.getD c.net.stations n {}
  match sub with
  | 1 => t.miss * 2 ^ 16 + t.good * 256 + t.echoRole * 64 + b01 t.safe * 32 + b01 t.mismatch * 16 + t.st.code
  | 2 => t.missTotal
  | 3 => t.dropouts
  | _ => t.echoDig

/-- Mean path delay of the SLAVE port (R328). -/
def meanPath (c : Chip) : Nat :=
  if c.time.portA.st = .slave then c.time.portA.delay.getD 0 else if c.time.portB.st = .slave then c.time.portB.delay.getD 0 else 0

/-- HOLD_S: seconds in the present or last holdover (R328). -/
def holdSecs (c : Chip) : Nat :=
  if c.time.servo = .holdover then (c.time.clock - c.time.holdAt) / 1000000000 else c.time.holdS

/-- Servo words (R328). -/
def timeWord (c : Chip) (sub : Nat) : Nat :=
  let t := c.time
  match sub with
  | 1 => t.tcxo * 2 ^ 16 + t.portB.st.code * 2 ^ 12 + t.portA.st.code * 256 + b01 t.slewing * 32 + b01 t.diverged * 16
      + b01 t.settled * 8 + t.servo.code
  | 2 => unsigned 32 t.offset
  | 3 => unsigned 32 t.freq
  | 4 => meanPath c
  | 5 => t.gmId % 2 ^ 32
  | 6 => t.gmId / 2 ^ 32
  | 7 => t.steps
  | _ => holdSecs c

/-- A beacon of the partner arrived in the last N_HB ticks (R338). -/
def partnerSeen (c : Chip) : Bool :=
  match c.pair.beaconTn with | none => false | some t => decide (c.tt.tn < t + cfg c 0x5300 1 9 3)

/-- Redundancy words (R338). -/
def pairWord (c : Chip) (sub : Nat) : Nat :=
  let p := c.pair
  match sub with
  | 1 => b01 p.withdrawn * 2 ^ 13 + b01 p.stFail * 2 ^ 12 + b01 p.ckptValid * 2 ^ 11 + b01 (partnerSeen c) * 2 ^ 10
      + b01 p.disagree * 512 + b01 p.downOk * 256 + b01 p.upOk * 128 + p.st.code * 8 + c.sup.role.code
  | 2 => p.ckptTn % 2 ^ 32
  | 3 => p.ckptTn / 2 ^ 32
  | 4 => p.mismatches
  | _ => match p.proofAt with | none => 0xFFFFFFFF | some t => Nat.min 0xFFFFFFFE (c.time.clock / 1000000000 - t)

/-- Slot words (R172). -/
def slotWord (c : Chip) (s sub : Nat) : Nat :=
  let x := Map.getD c.slots s {}
  match sub with
  | 1 => x.runSe * 256 + b01 x.factor * 128 + b01 x.pubBank * 64 + x.st.code
  | 2 => x.last * 2 ^ 16 + x.sat
  | 3 => x.failBlk * 2 ^ 24 + x.failElem
  | _ => unsigned 32 x.failVal

/-- The oldest SEQ still held in either store; the next SEQ while both are empty (R445). -/
def oldestSeq (c : Chip) : Nat :=
  (c.thy.vol ++ c.thy.per).foldl (fun m r => Nat.min m r.seq) c.thy.seq

/-- Panel words (R387). -/
def panelWord (c : Chip) (p sub : Nat) : Nat :=
  let x := Map.getD c.disp.panels p {}
  match sub with
  | 1 => x.ledger.foldl (fun m e => Nat.max m e.2.natAbs) 0 * 2 ^ 16
      + (match Map.find c.sets.main.waves p with
         | some w => Nat.min 7 ((w.bandLo.filter (fun b => decide (b ≤ x.temp))).length - 1) * 1024
         | none => 0)
      + b01 x.recovery * 512 + (c.disp.started.filter (fun r => r.panel == p)).length * 16 + x.st.code
  | 2 => unsigned 8 x.temp * 2 ^ 24 + Nat.min 255 (c.disp.queue.filter (fun r => r.panel == p)).length * 2 ^ 16
      + (x.lines.filter (fun e => e.2.len != 0)).length
  | _ => x.interrupts

/-- LIFE_USED_PM: the largest ratio of consumption to limit of the four life ledgers, per mille (R487). -/
def lifeUsed (c : Chip) : Nat :=
  let h := c.hlth
  Nat.max (Nat.max (h.capEq * 1000 / 50000) (h.boostEq * 1000 / 50000))
    (Nat.max (h.nandPe * 1000 / 100000) (h.mramWr * 1000 / 100000000))

/-- Wear ledger words (R486). -/
def wearWord (c : Chip) (sub : Nat) : Nat :=
  let h := c.hlth
  match sub with
  | 1 => h.opHours
  | 2 => lifeUsed c
  | 3 => h.capEq
  | 4 => h.boostEq
  | 5 => h.nandPe
  | 6 => h.nandRetired * 2 ^ 16 + h.nandSpare
  | 7 => h.mramWr
  | 8 => h.mramSpare
  | 9 => unsigned 32 h.tcxoAge
  | _ => h.thermEv

/-- Identity words (R441); MARUTH_MAJOR is 4 (R6). -/
def identWord (c : Chip) (sub : Nat) : Nat :=
  match sub with
  | 1 => 4 * 2 ^ 24 + c.sup.minor * 2 ^ 16 + c.sup.patch * 256 + b01 c.sup.orderCx
  | 2 => c.sup.serial % 2 ^ 32
  | 3 => c.sup.serial / 2 ^ 32
  | 4 => c.sup.hwRev
  | _ => nParams

/-- Access words (R414). -/
def accessWord (c : Chip) (sub : Nat) : Nat :=
  match sub with
  | 1 => b01 c.mbx.lock * 2 ^ 16 + b01 c.mbx.vkey.isSome * 2 ^ 15 + b01 c.mbx.pw.isSome * 2 ^ 14 + b01 c.mbx.lkey.isSome * 2 ^ 13
      + live c 0x1100 1 2 0
  | 3 => keyId c.mbx.vkey
  | 4 => keyId c.mbx.lkey
  | _ => liveWord c 0x1100 2

/-- Timetable status word 0x2001:03 (R37). -/
def ttState (c : Chip) : Nat :=
  b01 c.sets.named * 16 + b01 (decide (c.time.servo = .holdover)) * 8 + b01 (timeOk c) * 4
    + (if !c.tt.ticking then 0 else if inRun c then 2 else 1)

/-- Restart words (R137). -/
def restartWord (c : Chip) (sub : Nat) : Nat :=
  let u := c.sup
  match sub with
  | 1 => b01 u.instLost * 32 + b01 u.mismatch * 16 + u.cause * 4 + u.rtype
  | 2 => u.nMigrated * 2 ^ 16 + u.nKept
  | 3 => u.nDiscarded * 2 ^ 16 + u.nColdInit
  | 4 => u.tOff % 2 ^ 32
  | _ => u.tOff / 2 ^ 32

/-- SET_ID of the siding set; 0 when EMPTY (R142). -/
def sidingId (c : Chip) : Nat := match c.sets.side with | some s => s.setId % 2 ^ 32 | none => 0

/-- Throw words (R142). -/
def throwWord (c : Chip) (sub : Nat) : Nat :=
  let x := c.sets
  match sub with
  | 1 => x.postponed * 2 ^ 16 + b01 (!x.trans.isEmpty) * 32 + b01 x.rollback * 16 + x.siding.code
  | 2 => x.throwTn % 2 ^ 32
  | 3 => x.throwTn / 2 ^ 32
  | 4 => x.main.setId % 2 ^ 32
  | _ => sidingId c

/-- A policy word: the set's, with PERSIST and MANDATORY of mandatory codes and the read-only fields as R507 and R508 fix
them (R445). -/
def policyWord (cs : ConfigSet) (code : Nat) : Nat :=
  let w := setWord cs (0x7000 + code / 16) (code % 16 + 1)
  let r := policyReset code
  let m := mandatoryCodes.contains code
  2 ^ 31 * b01 (m || bit w 31) + 2 ^ 30 * b01 m
    + 2 ^ 28 * (if 0x0F00 ≤ code ∧ code ≤ 0x0FEF then bits w 29 28 else bits r 29 28) + 2 ^ 24 * bits r 27 24 + bits w 23 0

/-- The word at `ix`:`sub` as a host reads it; none where the maps define none. -/
def paramWord (c : Chip) (ix sub : Nat) : Option Nat :=
  match paramAt ix sub with
  | none => none
  | some w =>
    let ai := Map.getD c.io.ai (cut ix 0x3040) {}
    let ao := Map.getD c.io.ao (cut ix 0x3060) {}
    let k := cut ix w.ix
    some (
      if w.ix = 0x1000 then identWord c sub
      else if w.ix = 0x1001 then c.sup.role.code * 16 + c.sup.mstate.code
      else if w.ix = 0x1003 then (if sub = 1 then 2 else if sub = 2 then c.sup.imgFmtMax else 1)
      else if w.ix = 0x1100 then accessWord c sub
      else if w.ix = 0x1110 then sessWord c k sub
      else if w.ix = 0x2001 then (if sub = 1 then c.tt.tn % 2 ^ 32 else if sub = 2 then c.tt.tnHi else ttState c)
      else if w.ix = 0x2002 then declLoad c.sets.main sub
      else if w.ix = 0x2003 then Map.getD c.tt.peak sub 0
      else if w.ix = 0x2011 then restartWord c sub
      else if w.ix = 0x2021 then throwWord c sub
      else if w.ix = 0x2200 then taskWord c k sub
      else if w.ix = 0x3040 then
        (if sub = 1 then ai.range * 2 ^ 22 + b01 ai.onSpare * 2 ^ 21 + ai.status else if sub = 2 then ai.value else ai.meas)
      else if w.ix = 0x3060 then
        (if sub = 1 then b01 ao.onSpare * 256 + ao.status else if sub = 2 then ao.rb * 2 ^ 16 + ao.cmd else ao.head)
      else if w.ix = 0x3031 then spareWord c (sub - 1)
      else if w.ix = 0x3120 then diWord c k sub
      else if w.ix = 0x3160 then doWord c k sub
      else if w.ix = 0x3185 then
        b01 (Map.getD c.io.hold (sub - 1) false) * 2 ^ 18 + Map.getD c.io.fd (sub - 1) 0 * 2 ^ 16 + Map.getD c.io.fdMv (sub - 1) 0
      else if w.ix = 0x4020 then canWord c k sub
      else if w.ix = 0x4028 then Map.getD (Map.getD c.can k {}).viol sub 0
      else if w.ix = 0x5001 then netWord c sub
      else if w.ix = 0x5140 then stationWord c k sub
      else if w.ix = 0x5201 then timeWord c sub
      else if w.ix = 0x5301 then pairWord c sub
      else if w.ix = 0x6001 then
        engMask c.hlth.se 8 (fun e => e == .fenced || e == .off) * 2 ^ 16 + engMask c.hlth.se 8 (fun e => e == .reserve) * 256
          + engMask c.hlth.se 8 (fun e => e == .active)
      else if w.ix = 0x6200 then slotWord c k sub
      else if w.ix = 0x7000 ∨ w.ix = 0x70F0 then policyWord c.sets.main (cut ix 0x7000 * 16 + (sub - 1))
      else if w.ix = 0x70FF ∧ sub ≠ 1 then
        (if sub = 2 then c.thy.seq % 2 ^ 32 else if sub = 3 then c.thy.seq / 2 ^ 32
         else if sub = 4 then oldestSeq c % 2 ^ 32 else oldestSeq c / 2 ^ 32)
      else if w.ix = 0x7100 ∧ 4 ≤ sub then (if sub = 4 then c.cnt.snapTn % 2 ^ 32 else c.cnt.snapTn / 2 ^ 32)
      else if w.ix = 0x7200 then
        (let v := Map.getD c.cnt.snap k 0
         if sub = 1 then v % 2 ^ 32 else b01 (c.cnt.snapStk.contains k) * 2 ^ 31 + v / 2 ^ 32)
      else if w.ix = 0x7408 then panelWord c k sub
      else if w.ix = 0x7410 then
        b01 c.disp.sparePhase * 128 + b01 c.disp.railFault * 64 + (if c.disp.rails then 63 else 0)
      else if w.ix = 0x7810 then Map.getD c.hlth.power k 0 * 2 ^ 16 + (Map.getD c.hlth.dom k .off).code
      else if w.ix = 0x7820 then
        unsigned 8 c.hlth.tDie * 2 ^ 24 + unsigned 8 c.hlth.tBoard * 2 ^ 16 + unsigned 8 c.hlth.tMem * 256 + c.hlth.stage
      else if w.ix = 0x7821 then
        (if sub = 1 then c.hlth.vlA * 2 ^ 16 + c.hlth.vlB
         else c.hlth.holdup * 256 + b01 c.hlth.lbOk * 2 + b01 c.hlth.laOk)
      else if w.ix = 0x7830 then wearWord c sub
      else if w.ix = 0x7840 then unsigned 16 (Map.getD c.hlth.drift k 0)
      else if w.fields.any (fun f => f.kind == .live) then liveWord c ix sub
      else setWord c.sets.main ix sub)

end Sys2Proof.Machine
end

