-- ==== Sys2Proof/Machine/Ops.lean ====
section
/-! DEFINITION. The operations every family shares: the clock, free values, performance counters, Thyme records, messages to
sessions with their sequence numbers, sealing and event shares, subscriptions, sessions that close, events for error tasks,
and completions of commands that were answered ACCEPTED. -/
namespace Sys2Proof.Machine

open Sys2Proof

/-! ### Lifting, time, free values, counters -/

/-- A meaning that changes the block alone: neither the queue nor the latched block. -/
def lift (f : Chip → Chip) (s : State) : Host.Outcome State Fault Refusal := .next { s with chip := f s.chip }

/-- Notes a message that leaves the module. -/
def emit (o : Out) (c : Chip) : Chip := { c with out := o :: c.out }

/-- Counts one free value drawn. -/
def drawn (c : Chip) : Chip := { c with sup := { c.sup with freeCtr := c.sup.freeCtr + 1 } }

/-- Adds `k` to counter `n`; a wrap sets the sticky bit and owes a CNT_WRAP record (R459, log entry 12). -/
def bumpBy (n k : Nat) (c : Chip) : Chip :=
  let v := Map.getD c.cnt.val n 0 + k
  if v < 2 ^ 48 then { c with cnt := { c.cnt with val := Map.put c.cnt.val n v } }
  else
    { c with cnt := { c.cnt with
        val := Map.put c.cnt.val n (v % 2 ^ 48)
        sticky := if c.cnt.sticky.contains n then c.cnt.sticky else n :: c.cnt.sticky
        wrapDue := c.cnt.wrapDue ++ [n] } }

/-- Counts one event of counter `n` (R459). -/
def bump (n : Nat) (c : Chip) : Chip := bumpBy n 1 c

/-- Applies `f` when `p` holds. -/
def when (p : Bool) (f : Chip → Chip) (c : Chip) : Chip := if p then f c else c

/-- Applies `f` for every element of a list, in order. -/
def forAll {α : Type} (l : List α) (f : α → Chip → Chip) (c : Chip) : Chip := l.foldl (fun c a => f a c) c

/-- The two words of a 64-bit quantity, bits 31..0 first (R508). -/
def w64 (n : Nat) : List Nat := [n % 2 ^ 32, n / 2 ^ 32 % 2 ^ 32]

/-! ### Messages to sessions -/

/-- A session's record. -/
def sess (c : Chip) (s : Nat) : Session := Map.getD c.mbx.sess s {}

/-- Changes a session. -/
def updSess (s : Nat) (f : Session → Session) (c : Chip) : Chip :=
  { c with mbx := { c.mbx with sess := Map.upd c.mbx.sess s {} f } }

/-- A message header (R399). -/
def header (cmd s flags tag len status seq : Nat) : List Byte :=
  leBytes 2 cmd ++ leBytes 1 s ++ leBytes 1 flags ++ leBytes 4 tag ++ leBytes 2 len ++ leBytes 2 status ++ leBytes 4 seq

/-- The message of a session under its next SEQUENCE, sealed when the session is (R399, R409). -/
def frameMsg (ss : Session) (s cmd flags tag status : Nat) (payload : List Byte) : List Byte :=
  let sl := ss.sealed && ss.modSeq != 1
  let h := header cmd s (flags + (if sl then 4 else 0)) tag payload.length status ss.modSeq
  if sl then
    h ++ gcmSeal ((ss.keys.drop 32).take 32) ((ss.keys.drop 68).take 4 ++ leBytes 8 ss.modSeq) h payload
  else h ++ payload

/-- `k` frames leave on every station port whose link is up, under one number of the own sequence each (R299). -/
def netSend (k : Nat) (c : Chip) : Chip :=
  let c := when c.net.linkA (bumpBy 0x192 k) c
  let c := when c.net.linkB (bumpBy 0x193 k) c
  { c with net := { c.net with seq := (c.net.seq + k) % 65536 } }

/-- A mailbox message leaves: over UDP in frames of at most 1,500 bytes (R316), or over the service port. -/
def postMsg (p : Peer) (msg : List Byte) (c : Chip) : Chip :=
  emit (.mbx p msg) (match p with | .udp _ _ => netSend (cdiv (8 + msg.length) 1480) c | .usb _ => c)

/-- Sends one message of session `s` (flags 1 response, 2 event) under its next SEQUENCE; `close` closes a session whose
SEQUENCE would pass 0xFFFFFFFF (R401). A closed session gets nothing. -/
def sendWith (close : Nat → Chip → Chip) (s cmd flags tag status : Nat) (payload : List Byte) (c : Chip) : Chip :=
  let ss := sess c s
  match ss.st, ss.peer with
  | .closed, _ => c
  | _, none => c
  | _, some p =>
    if ss.modSeq > 0xFFFFFFFF then close s c
    else postMsg p (frameMsg ss s cmd flags tag status payload) (updSess s (fun x => { x with modSeq := x.modSeq + 1 }) c)

/-- Bytes an event takes of its session's event share (R402). -/
def eventCost (ss : Session) (len : Nat) : Nat := cdiv (16 + len + (if ss.sealed then 16 else 0)) 64 * 64

/-- Sends an event if the session's share of 256 KiB has room, else counts it as dropped: data entries by ring, other
events as events (R404). `ring` is the ring of a data event and its entries. -/
def eventWith (close : Nat → Chip → Chip) (s code tag status : Nat) (payload : List Byte) (ring : Option (Nat × Nat))
    (c : Chip) : Chip :=
  let ss := sess c s
  if ss.st = .closed then c
  else if ss.evBytes + eventCost ss payload.length ≤ 262144 then
    sendWith close s code 2 tag status payload
      (updSess s (fun x => { x with evBytes := x.evBytes + eventCost x payload.length }) c)
  else
    match ring with
    | none => bump 0x1C6 (updSess s (fun x => { x with evLost := x.evLost + 1 }) c)
    | some (r, n) =>
      let c := updSess s (fun x => { x with entLost := Map.upd x.entLost r 0 (· + n) }) c
      if r = 124 then bumpBy 0x1D6 n c else if 120 ≤ r then bumpBy 0x1A5 n c else c

/-- Most entries a data event of a ring holds (R403). -/
def batchMax (r : Nat) : Nat := if r = 124 then 32 else if 120 ≤ r then 128 else 51

/-- Event code of a ring's data events (R423). -/
def ringCode (r : Nat) : Nat := if r = 124 then 0x8AF0 else if 120 ≤ r then 0x88F0 + (r - 120) else 0x87F0 + (r - 112)

/-- Sends what a session has gathered of ring `r` (R403). -/
def flushWith (close : Nat → Chip → Chip) (s r : Nat) (c : Chip) : Chip :=
  let b := Map.getD (sess c s).batch r []
  if b.isEmpty then c
  else eventWith close s (ringCode r) 0 0 b.flatten (some (r, b.length))
    (updSess s (fun x => { x with batch := Map.del x.batch r }) c)

/-- Hands one entry of ring `r` to every session that subscribed to it; a full event is sent (R403). -/
def exportWith (close : Nat → Chip → Chip) (r : Nat) (entry : List Byte) (c : Chip) : Chip :=
  forAll (c.mbx.sess.filter (fun e => bit e.2.subs (r - 112))) (fun e c =>
    let c := updSess e.1 (fun x => { x with batch := Map.upd x.batch r [] (· ++ [entry]) }) c
    if (Map.getD (sess c e.1).batch r []).length < batchMax r then c else flushWith close e.1 r c) c

/-! ### Thyme -/

/-- A record's 128 bytes (R442), the snapshot words padded with zeros, the checksum over all else. -/
def recBytes (r : Rec) : List Byte :=
  let a := leBytes 8 r.seq ++ leBytes 8 r.time ++ leBytes 8 r.tn ++ leBytes 2 r.code ++ leBytes 2 r.source ++ leBytes 2 r.supp
    ++ leBytes 1 r.sev ++ leBytes 1 r.words.length ++ leBytes 4 r.setId ++ leBytes 1 r.rflags ++ List.replicate 23 0
  let b := (r.words ++ List.replicate (16 - r.words.length) 0).flatMap (leBytes 4)
  a ++ leBytes 4 (crc32c (a ++ b)) ++ b

/-- The snapshot words a code carries: the fixed ones, then those of its snapshot table, read now (R447). -/
def snapWords (c : Chip) (code : Nat) (ws : List Nat) : List Nat :=
  match c.sets.main.snaps.find? (fun e => e.code == code) with
  | none => ws.take 16
  | some e => (ws ++ e.refs.map (fun x => (paramWord c (x / 256) (x % 256)).getD 0)).take 16

/-- A bucket of one record less, in units of 10^-8 record. -/
def oneLess (v : Nat) : Nat := cut v 100000000

/-- The bucket test of R448: the bucket after it, and whether the record is emitted. -/
def bucketTest (b : Bucket) (rate burst t : Nat) (mand : Bool) : Bucket × Bool :=
  let v := Nat.min (b.b + rate * (t - b.last)) (100000000 * burst)
  if mand then ({ b with b := v, last := t, supp := 0 }, true)
  else if 100000000 ≤ v then ({ b := oneLess v, last := t, supp := 0 }, true)
  else ({ b := v, last := t, supp := Nat.min (b.supp + 1) 65535 }, false)

/-- Puts an emitted record into the stores under the next SEQ (R449, R450) and counts it. -/
def store (code src : Nat) (ws : List Nat) (time rflags supp : Nat) (forced : Bool) (c : Chip) : Chip × Rec :=
  let pol := policyWord c.sets.main code
  let per := bit pol 31 || forced
  let sev := bits pol 29 28
  let th := c.thy
  let r : Rec :=
    { seq := th.seq, time := time, tn := if bit rflags 1 then Nat.min c.tt.tn (time / (1000 * tTick c)) else c.tt.tn, code := code, source := src, supp := supp, sev := sev,
      setId := c.sets.main.setId % 2 ^ 32, rflags := rflags + b01 per, words := snapWords c code ws }
  let c := { c with thy := { th with
    seq := th.seq + 1
    seqBase := if th.seq = th.seqBase then th.seqBase + 4096 else th.seqBase
    vol := (r :: th.vol).take (if th.large then 1048576 else 8192)
    per := if per then (r :: th.per).take 16384 else th.per } }
  (when per (bump 0x1D5) (bump (0x1D0 + sev) c), r)

/-- Completions of a session that has closed go to nobody; the operations go on (R408). -/
def forget (s : Nat) (c : Chip) : Chip :=
  let own := fun x => if x = s then 0xFE else x
  let ownE := fun (e : Effect) => match e with
    | .slotSubmit sl us se tg => .slotSubmit sl us (own se) tg
    | .canTx r se tg => .canTx r (own se) tg
    | e => e
  { c with
    sup := { c.sup with
      waiting := c.sup.waiting.map (fun w => (w.1, own w.2.1, w.2.2))
      due := c.sup.due.map (fun e => (e.1, ownE e.2))
      pairCmds := c.sup.pairCmds.map (fun e => (e.1, ownE e.2.1, own e.2.2.1, e.2.2.2))
      confirmed := c.sup.confirmed.map (fun e => (e.1, ownE e.2.1, own e.2.2.1, e.2.2.2)) }
    sets := { c.sets with origin := c.sets.origin.map (fun o => (own o.1, o.2)) }
    cnt := { c.cnt with waiting := c.cnt.waiting.map (fun w => (own w.1, w.2)) }
    slots := Map.mapV c.slots (fun _ x => { x with host := x.host.map (fun o => (own o.1, o.2)) })
    can := Map.mapV c.can (fun _ h => { h with tx := Map.mapV h.tx (fun _ b => { b with host := b.host.map (fun o => (own o.1, o.2)) }) })
    io := { c.io with
      dout := Map.mapV c.io.dout (fun _ d => { d with learn := d.learn.map (fun l => (l.1, l.2.1, l.2.2.1, own l.2.2.2.1, l.2.2.2.2)) })
      hart := Map.mapV c.io.hart (fun _ h => { h with queue := h.queue.map (fun q => { q with sess := q.sess.map own }) }) } }

/-- The session that entered SERVICE is gone or has lost the role: STOP at the next boundary (R394). -/
def serviceEnds (s : Nat) (c : Chip) : Chip :=
  if c.sup.svcSess = some s ∧ c.sup.mstate = .service then
    { c with sup := { c.sup with svcSess := none, due := c.sup.due ++ [(c.tt.tn + 1, .enterStop)] } }
  else c

/-- Ends a session, discarding its rings and its unlock, and records the reason through `rec` (R408). -/
def closeWith (rec : Nat → Nat → List Nat → Chip → Chip) (s reason : Nat) (c : Chip) : Chip :=
  rec 0x0101 (0x0800 + s) [reason] (serviceEnds s (forget s { c with mbx := { c.mbx with sess := Map.del c.mbx.sess s } }))

/-- Codes of the conditions that make a proof run fail: overrun and trip, ECC error, engine and lockstep failures, failed self-test (R364). -/
def proofCodes : List Nat := [0x0401, 0x0403, 0x0E04, 0x0E10, 0x0E13, 0x0E14, 0x0E21, 0x0E30]

/-- A record of a code subject to its policy: the recorder after it, and the record, when the rate limit lets it through (R448 to R450). -/
def judgeRec (code src : Nat) (ws : List Nat) (time rflags : Nat) (forced : Bool) (c : Chip) : Chip × Option Rec :=
  let pol := policyWord c.sets.main code
  let b := (Map.find c.thy.buckets code).getD { b := 100000000 * bits pol 7 0, last := mTime c, supp := 0 }
  let (b', ok) := bucketTest b (bits pol 23 8) (bits pol 7 0) (mTime c) (bit pol 30)
  let c := { c with thy := { c.thy with buckets := Map.put c.thy.buckets code b' } }
  let c := when (c.sup.role == .reserveProof && proofCodes.contains code) (fun c => { c with pair := { c.pair with proofBad := true } }) c
  if ok then ((store code src ws time rflags b.supp forced c).1, some (store code src ws time rflags b.supp forced c).2)
  else (bump 0x1D4 c, none)

/-- Emits one record of a code subject to its policy, and exports it to the subscribers of ring 124. `fuel` bounds the
closing of sessions whose SEQUENCE is exhausted by that export; each closing removes one of the 48 sessions. -/
def recordF (fuel : Nat) (code src : Nat) (ws : List Nat) (time rflags : Nat) (forced : Bool) (c : Chip) : Chip :=
  let x := judgeRec code src ws time rflags forced c
  match x.2, fuel with
  | none, _ => x.1
  | some _, 0 => x.1
  | some r, n + 1 =>
    exportWith (closeWith (fun code src ws c => recordF n code src ws c.time.clock 0 false c) · 6) 124 (recBytes r) x.1

/-- Records a code with its unit and fixed words at the present instant (R442, R448). -/
def record (code src : Nat) (ws : List Nat) (c : Chip) : Chip := recordF 48 code src ws c.time.clock 0 false c

/-- Closes a session for a reason of R408. -/
def closeSession (s reason : Nat) (c : Chip) : Chip := closeWith record s reason c

/-- Sends an event to a session. -/
def event (s code tag status : Nat) (payload : List Byte) (c : Chip) : Chip :=
  eventWith (closeSession · 6) s code tag status payload none c

/-- Sends an event to every session that is open. -/
def eventAll (code : Nat) (payload : List Byte) (c : Chip) : Chip :=
  forAll (c.mbx.sess.filter (fun e => e.2.st == .open)) (fun e => event e.1 code 0 0 payload) c

/-- Hands an entry of ring `r` to its subscribers. -/
def exportRing (r : Nat) (entry : List Byte) (c : Chip) : Chip := exportWith (closeSession · 6) r entry c

/-- Sends what a session has gathered of ring `r`. -/
def flushRing (s r : Nat) (c : Chip) : Chip := flushWith (closeSession · 6) s r c

/-! ### Completions of commands answered ACCEPTED (R423) -/

/-- Sends the completion event of an ACCEPTED command. -/
def complete (cmd s tag status : Nat) (payload : List Byte) (c : Chip) : Chip := event s (cmd + 0x8000) tag status payload c

/-- Completes every waiting command of code `cmd`. -/
def completeAll (cmd status : Nat) (payload : List Byte) (c : Chip) : Chip :=
  let ws := c.sup.waiting.filter (fun w => w.1 == cmd)
  forAll ws (fun w => complete cmd w.2.1 w.2.2 status payload)
    { c with sup := { c.sup with waiting := c.sup.waiting.filter (fun w => w.1 != cmd) } }

/-- Makes a command wait for its completion. -/
def await (cmd s tag : Nat) (c : Chip) : Chip :=
  { c with sup := { c.sup with waiting := c.sup.waiting ++ [(cmd, s, tag)] } }

/-! ### Tasks and events for error tasks -/

/-- A task context. -/
def task (c : Chip) (t : Nat) : Task := Map.getD c.tasks t {}

/-- Changes a task context. -/
def updTask (t : Nat) (f : Task → Task) (c : Chip) : Chip := { c with tasks := Map.upd c.tasks t {} f }

/-- Class of a task of the main set. -/
def taskCls (c : Chip) (t : Nat) : Cls := clsOf (cfg c (0x2100 + t) 1 2 0)

/-- The CE that runs a task: its placement, or its fence placement while the fence plan of its CE's cluster is in force
(R24), and then the engine that substituted it (R21). -/
def taskCe (c : Chip) (t : Nat) : Nat :=
  let home := cfg c (0x2100 + t) 1 12 8
  let n := if c.hlth.fencePlan.contains (home / 12) && cfgb c (0x2100 + t) 0x0A 5 then cfg c (0x2100 + t) 0x0A 4 0 else home
  ((Map.getD c.hlth.ce n {}).subBy).getD n

/-- The task numbers of the main set that are not empty. -/
def usedTasks (c : Chip) : List Nat := (List.range 256).filter (fun t => taskCls c t != .none)

/-- Marks event bit `b` for task `t` on one member (R65), for the release of the next boundary: a suspended task only counts it
(R71). -/
def markEvt (b t : Nat) (c : Chip) : Chip :=
  updTask t (fun k =>
    if k.st = .suspended then { k with evtLost := (k.evtLost + 1) % 2 ^ 32 }
    else { k with evtNew := k.evtNew ||| 2 ^ b, evtNewN := k.evtNewN + 1 }) c

/-- Records an event of EVT_CAUSE bit `b` for task `t`; in a pair it also goes to the partner with the snapshot (R66). -/
def raiseEvt (b t : Nat) (c : Chip) : Chip :=
  let c := markEvt b t c
  if isPair c then { c with pair := { c.pair with events := c.pair.events ++ [(b, t)] } } else c

/-- Raises an event whose binding carries a valid flag (R513). -/
def raiseBound (valid : Bool) (b t : Nat) (c : Chip) : Chip := when valid (raiseEvt b t) c

/-! ### Time passes, and the comparators count it (R462) -/

/-- What comparator `k` compares under a set and the overrides: source and limit, a limit out of reach while it is off. -/
def comparator (cs : ConfigSet) (ov : Map (Nat × Nat)) (k : Nat) : Nat × Nat :=
  (Map.find ov k).getD
    (match Map.find cs.words ((0x7110 + k) * 256 + 1) with
     | none => (0, 2 ^ 64)
     | some w => (bits w 15 0, if bit w 31 then setWord cs (0x7110 + k) 2 else 2 ^ 64))

/-- Entries that ring `r` of R402 holds: kept ones, and those gathered for an event that is still to be sent; an event ring is counted in
its units of 64 bytes (log entry 35). -/
def ringFill (c : Chip) (r : Nat) : Nat :=
  let gathered := c.mbx.sess.foldl (fun m e => Nat.max m (Map.getD e.2.batch r []).length) 0
  if r < 96 then (if r % 2 = 0 then (sess c (r / 2)).ring.length else (sess c (r / 2)).cache.length)
  else if r < 112 then ((List.range 3).map (fun i => (sess c (3 * (r - 96) + i)).evBytes / 64)).sum
  else if r < 120 then
    let h := Map.getD c.can ((r - 112) / 2) {}
    (if r % 2 = 0 then h.ring0 else h.ring1).length + gathered
  else if r < 124 then (Map.getD c.time.rings r []).length
  else if r = 124 then gathered
  else 0

/-- The occupancy a SOURCE selects (R462). -/
def occupancy (c : Chip) (src : Nat) : Nat :=
  if src < 0x80 then ringFill c src
  else if src < 0x118 then ((usedTasks c).filter (fun t => (task c t).st == .ready && taskCe c t == cut src 0x100)).length
  else if src < 0x208 then
    (c.slots.filter (fun p => p.2.st == .queued && ((Map.getD c.hlth.se p.2.home {}).subBy).getD p.2.home == cut src 0x200)).length
  else if src < 0x302 then
    let link := if src = 0x300 then c.net.linkA else c.net.linkB
    if link && c.net.outTn == some c.tt.tn then
      (enabledStations c.sets.main).foldl (fun a st => a + zslFrameNs c.sets.main (setFld c.sets.main (0x5100 + st) 4 15 0)) 0
    else 0
  else if src = 0x400 then c.mbx.sess.foldl (fun a e => a + e.2.ring.length) c.mbx.opens.length
  else c.disp.queue.length

/-- A SOURCE of the table of R462. -/
def sourceOk (src : Nat) : Bool :=
  decide (src < 0x80) || (decide (0x100 ≤ src) && decide (src < 0x118)) || (decide (0x200 ≤ src) && decide (src < 0x208))
    || src == 0x300 || src == 0x301 || src == 0x400 || src == 0x500

/-- The comparators over `dt` ns, one count for each 1.0 GHz cycle (R462). -/
def countOver (dt : Nat) (c : Chip) : Chip :=
  forAll (List.range 32) (fun k c =>
    let (src, lim) := comparator c.sets.main c.cnt.cmpOver k
    when (decide (lim < occupancy c src)) (bumpBy (0x1E0 + k) dt) c) c

/-- Lets `dt` ns pass on the module clock (log entry 5). -/
def pass (dt : Nat) (c : Chip) : Chip :=
  let c := if dt = 0 then c else countOver dt c
  { c with time := { c.time with clock := c.time.clock + dt } }

end Sys2Proof.Machine
end

