-- ==== Sys2Proof/Machine/Operands.lean ====
section
/-! DEFINITION. What a block works on: data types and their ranges (R89), operand references (R87, R88, R90), the layout of an
input image (R58), the write journal and the shadow banks (R92, R93), reading an operand and writing one. -/
namespace Sys2Proof.Machine

/-! ### Types (R89) -/

/-- Bytes of a value. -/
def Ty.size (t : Ty) : Nat :=
  match t with
  | .bool => 1 | .i8 => 1 | .u8 => 1 | .i16 => 2 | .u16 => 2 | .i32 => 4 | .u32 => 4 | .f32 => 4 | .q _ => 4
  | .i64 => 8 | .u64 => 8 | .f64 => 8

/-- Bits of a value. -/
def Ty.width (t : Ty) : Nat := 8 * t.size

/-- The type is read as two's complement. -/
def Ty.sgn (t : Ty) : Bool :=
  match t with | .i8 => true | .i16 => true | .i32 => true | .i64 => true | .q _ => true | _ => false

/-- INTn. -/
def Ty.isI (t : Ty) : Bool := match t with | .i8 => true | .i16 => true | .i32 => true | .i64 => true | _ => false

/-- UINTn. -/
def Ty.isU (t : Ty) : Bool := match t with | .u8 => true | .u16 => true | .u32 => true | .u64 => true | _ => false

/-- INTn or UINTn. -/
def Ty.isInt (t : Ty) : Bool := t.isI || t.isU

/-- A Q format with at most 31 fraction bits. -/
def Ty.isQ (t : Ty) : Bool := match t with | .q f => decide (f ≤ 31) | _ => false

/-- Fraction bits of a Q format. -/
def Ty.frac (t : Ty) : Nat := match t with | .q f => f | _ => 0

/-- F32 or F64. -/
def Ty.isF (t : Ty) : Bool := match t with | .f32 => true | .f64 => true | _ => false

/-- An integer, a Q value or a float. -/
def Ty.isNum (t : Ty) : Bool := t.isInt || t.isQ || t.isF

/-- A defined type code. -/
def Ty.ok (t : Ty) : Bool := match t with | .q f => decide (f ≤ 31) | _ => true

/-- The raw value as an integer. -/
def Ty.int (t : Ty) (raw : Nat) : Int := if t.sgn then signed t.width raw else raw

/-- Largest value of an integer or Q type. -/
def Ty.hi (t : Ty) : Int := if t.sgn then (2 ^ (t.width - 1) : Int) - 1 else (2 ^ t.width : Int) - 1

/-- Smallest value of an integer or Q type. -/
def Ty.lo (t : Ty) : Int := if t.sgn then -(2 ^ (t.width - 1) : Int) else 0

/-- The nearest value in the type's range. -/
def Ty.clamp (t : Ty) (i : Int) : Int := if i < t.lo then t.lo else if t.hi < i then t.hi else i

/-- The raw value of an integer, clamped with `sat`, else wrapped (R99). -/
def Ty.raw (t : Ty) (sat : Bool) (i : Int) : Nat := unsigned t.width (if sat then t.clamp i else i)

/-! ### The layout of an input image (R58) -/

/-- Bytes of a declared input: a record of its chapter, or its elements. -/
def InDecl.bytes (d : InDecl) : Nat :=
  match d.src with
  | .hart _ _ => 40 | .hartRsp _ => 320 | .canObj _ _ => 80 | .canTx _ => 384 | .cntr _ => 8
  | _ => d.ty.size * d.elems

/-- Natural alignment of a declared input. -/
def InDecl.align (d : InDecl) : Nat :=
  match d.src with
  | .hart _ _ => 8 | .hartRsp _ => 8 | .canObj _ _ => 8 | .canTx _ => 4 | .cntr _ => 8
  | _ => d.ty.size

/-- Offset and length of each declared input from offset `a` on. -/
def inLayout (a : Nat) (ds : List InDecl) : List (InDecl × Nat) :=
  match ds with
  | [] => []
  | d :: r =>
    let o := cdiv a d.align * d.align
    (d, o) :: inLayout (o + d.bytes) r

/-- First byte after the values. -/
def inEnd (a : Nat) (ds : List InDecl) : Nat :=
  match ds with
  | [] => a
  | d :: r => inEnd (cdiv a d.align * d.align + d.bytes) r

/-- Offset of each declared output in the output staging, from offset `a` on. -/
def outLayout (a : Nat) (ds : List OutDecl) : List (OutDecl × Nat) :=
  match ds with
  | [] => []
  | d :: r =>
    let o := cdiv a d.ty.size * d.ty.size
    (d, o) :: outLayout (o + d.ty.size * d.elems) r

/-- First byte after the declared outputs. -/
def outEnd (a : Nat) (ds : List OutDecl) : Nat :=
  match ds with
  | [] => a
  | d :: r => outEnd (cdiv a d.ty.size * d.ty.size + d.ty.size * d.elems) r

/-- Input declaration list of task `t` in a set. -/
def inDecls (cs : ConfigSet) (t : Nat) : List InDecl := Map.getD cs.inLists (setFld cs (0x2100 + t) 7 31 16) []

/-- Output declaration list of task `t` in a set. -/
def outDecls (cs : ConfigSet) (t : Nat) : List OutDecl := Map.getD cs.outLists (setFld cs (0x2100 + t) 8 31 16) []

/-- The image a task executes. -/
def imageOf (cs : ConfigSet) (t : Nat) : Image :=
  (cs.images.find? (fun i => i.no == setFld cs (0x2100 + t) 6 31 16)).getD { no := 0 }

/-! ### What a block sees -/

/-- What a block of a running job sees: the block, the task's number, its job and its image. -/
structure Env where
  c   : Chip
  t   : Nat
  job : Job
  img : Image
  blk : Blk

/-- Evaluation time t_ev in µs of module time (R112). -/
def Env.tEv (e : Env) : Nat := e.job.rel + e.job.cyc / 1000

/-- The byte at `a` of GLB (`ret` false) or RET as the job reads it: its own journalled write, else the memory (R93). -/
def jrnByte (m : Memories) (j : List (Bool × Nat × List Byte)) (ret : Bool) (a : Nat) : Byte :=
  match j with
  | [] => Mem.rd (if ret then m.ret else m.glb) a
  | (r, b, bs) :: rest =>
    if r == ret && decide (b ≤ a) && decide (a < b + bs.length) then bs.getD (a - b) 0 else jrnByte m rest ret a

/-- `n` bytes from byte offset `a` of a memory space (R88); an immediate has none. -/
def Env.bytes (e : Env) (sp : Space) (a n : Nat) : List Byte :=
  match sp with
  | .inp => Mem.rdN e.job.image a n
  | .out => Mem.rdN e.job.staging a n
  | .loc => Mem.rdN e.job.loc a n
  | .glb => (List.range n).map (fun i => jrnByte e.c.mem e.job.journal false (a + i))
  | .ret => (List.range n).map (fun i => jrnByte e.c.mem e.job.journal true (a + i))
  | .con => Mem.rdN e.img.con a n
  | .sys => Mem.rdN e.job.sys a n
  | .imm => []

/-- Byte offset of an operand (R87). -/
def Ref.addr (r : Ref) : Nat := r.off.toNat * r.ty.size

/-- The raw value of an immediate (R90). -/
def Ref.imm (r : Ref) : Nat := unsigned r.ty.width r.off.toInt

/-- The raw value of a type, as a block reads it: any non-zero byte of a BOOL reads as TRUE (R89). -/
def Ty.norm (t : Ty) (raw : Nat) : Nat := match t with | .bool => if raw = 0 then 0 else 1 | _ => raw % 2 ^ t.width

/-- The raw value of element `i` of an operand (R106). -/
def Env.elem (e : Env) (r : Ref) (i : Nat) : Nat :=
  match r.sp with
  | .imm => r.ty.norm r.imm
  | sp => r.ty.norm (leNat (e.bytes sp (r.addr + i * r.ty.size) r.ty.size))

/-- The raw value of an operand (R87, R90). -/
def Env.val (e : Env) (r : Ref) : Nat := e.elem r 0

/-- Elements of the variable of which the operand is the LOCATION; 1 of any other operand (R84, R106). -/
def Env.elems (e : Env) (r : Ref) : Nat :=
  match e.img.vars.find? (fun v => v.loc == r) with | some v => v.elems | none => 1

/-- Status byte of the declared input variable in which an IN operand lies (R58, R512); none where it lies in none. -/
def Env.status (e : Env) (r : Ref) : Option Nat :=
  match r.sp with
  | .inp =>
    let l := inLayout 0 (inDecls e.c.sets.main e.t)
    (l.findIdx? (fun d => decide (d.2 ≤ r.addr) && decide (r.addr < d.2 + d.1.bytes))).map (fun i => e.job.status.getD i 0)
  | _ => none

/-- An input operand is healthy: outside IN always, in IN when its status byte is 0 (R108). -/
def Env.healthy (e : Env) (r : Ref) : Bool := (e.status r).getD 0 == 0

/-- Offset in the input image of the record the task declares from a source. -/
def Env.recOf (e : Env) (s : Src) : Option Nat :=
  ((inLayout 0 (inDecls e.c.sets.main e.t)).find? (fun d => d.1.src == s)).map (·.2)

/-- The space can be written by a job (R88). -/
def Space.writable (s : Space) : Bool := match s with | .out => true | .loc => true | .glb => true | .ret => true | _ => false

/-- The space costs the surcharge of R105. -/
def Space.slow (s : Space) : Bool := match s with | .glb => true | .ret => true | _ => false

/-! ### Writing -/

/-- Adds one piece to the write journal, newest first; a later write of the same place takes the entry over (R93). -/
def jrnPut (j : List (Bool × Nat × List Byte)) (ret : Bool) (a : Nat) (bs : List Byte) : List (Bool × Nat × List Byte) :=
  (ret, a, bs) :: j.filter (fun e => !(e.1 == ret && e.2.1 == a && decide (e.2.2.length ≤ bs.length)))

/-- The pieces of up to 8 bytes of a write at `a`; `n` bounds their number. -/
def pieces (n a : Nat) (bs : List Byte) : List (Nat × List Byte) :=
  match n with
  | 0 => []
  | n + 1 => if bs.isEmpty then [] else (a, bs.take 8) :: pieces n (a + 8) (bs.drop 8)

/-- Writes bytes at a byte offset of a space of the job: into the staging, the shadow bank or the journal (R61, R92, R93). -/
def Job.write (j : Job) (sp : Space) (a : Nat) (bs : List Byte) : Job :=
  match sp with
  | .out => { j with staging := Mem.wrN j.staging a bs }
  | .loc => { j with loc := Mem.wrN j.loc a bs }
  | .glb => { j with journal := (pieces bs.length a bs).foldl (fun l p => jrnPut l false p.1 p.2) j.journal }
  | .ret => { j with journal := (pieces bs.length a bs).foldl (fun l p => jrnPut l true p.1 p.2) j.journal }
  | _ => j

/-! ### Instances (R83, R92) -/

/-- State an instance holds after a cold start (R132): zeros; a SDL without OPT_A latched (R108); the event number of a native
timer, 0xFFFF without OPT_B (R115). -/
def instInit (cs : ConfigSet) (op : Nat) (optA optB : Bool) (id bytes : Nat) : List Byte :=
  if op = 0x0F01 then (if optA then 0 else 1) :: List.replicate 7 0
  else if 0x0701 ≤ op ∧ op ≤ 0x0705 then
    List.replicate 18 0
      ++ leBytes 2 (if optB then (cs.timers.findIdx? (fun e => e.1 == id)).getD 0xFFFF else 0xFFFF) ++ List.replicate 12 0
  else List.replicate bytes 0

/-- A little-endian field of an instance state. -/
def fld (b : List Byte) (o n : Nat) : Nat := leNat ((b.drop o).take n)

/-- Bit `i` of byte `o` of an instance state. -/
def flg (b : List Byte) (o i : Nat) : Bool := bit (fld b o 1) i

/-- A byte made of flags, bit 0 first. -/
def flagByte (l : List Bool) : List Byte := leBytes 1 ((List.range l.length).foldl (fun a i => a + b01 (l.getD i false) * 2 ^ i) 0)

/-- Pads or cuts a state to `n` bytes. -/
def padTo (n : Nat) (b : List Byte) : List Byte := (b ++ List.replicate (n - b.length) 0).take n

end Sys2Proof.Machine
end

