-- ==== Sys2Proof/Machine/Float.lean ====
section
/-! DEFINITION. IEEE 754 arithmetic in binary32 and binary64 with round to nearest even (R102): a number is taken apart into
an exact rational, the operation is exact, and the result is rounded once. -/
namespace Sys2Proof.Machine

/-- A binary format: precision in bits, and the exponent bias. -/
structure Fmt where
  p    : Nat
  bias : Nat
  w    : Nat
  deriving DecidableEq, Repr

/-- binary32. -/
def fmt32 : Fmt := { p := 24, bias := 127, w := 32 }

/-- binary64. -/
def fmt64 : Fmt := { p := 53, bias := 1023, w := 64 }

/-- The format of a float type. -/
def Ty.fmt (t : Ty) : Fmt := match t with | .f64 => fmt64 | _ => fmt32

/-- A float taken apart: a NaN, an infinity, or a sign and the number m · 2^e. -/
inductive Fv
  | nan
  | inf (neg : Bool)
  | num (neg : Bool) (m : Nat) (e : Int)
  deriving DecidableEq, Repr

/-- Takes a raw float apart. -/
def Fmt.dec (f : Fmt) (raw : Nat) : Fv :=
  let neg := bit raw (f.w - 1)
  let ex := bits raw (f.w - 2) (f.p - 1)
  let m := raw % 2 ^ (f.p - 1)
  if ex = 2 ^ (f.w - f.p) - 1 then (if m = 0 then .inf neg else .nan)
  else if ex = 0 then .num neg m (1 - (f.bias : Int) - ((f.p : Int) - 1))
  else .num neg (m + 2 ^ (f.p - 1)) ((ex : Int) - f.bias - ((f.p : Int) - 1))

/-- The canonical quiet NaN (R102). -/
def Fmt.nan (f : Fmt) : Nat := (2 ^ (f.w - f.p + 1) - 1) * 2 ^ (f.p - 2)

/-- An infinity. -/
def Fmt.inf (f : Fmt) (neg : Bool) : Nat := b01 neg * 2 ^ (f.w - 1) + (2 ^ (f.w - f.p) - 1) * 2 ^ (f.p - 1)

/-- A zero. -/
def Fmt.zero (f : Fmt) (neg : Bool) : Nat := b01 neg * 2 ^ (f.w - 1)

/-- `n / d` to the nearest integer, ties to even. -/
def rne (n d : Nat) : Nat :=
  let q := n / d
  let r := n % d
  if d < 2 * r ∨ (2 * r = d ∧ q % 2 = 1) then q + 1 else q

/-- `i / d` to the nearest integer, ties to even. -/
def rneInt (i : Int) (d : Nat) : Int := if i < 0 then -(rne i.natAbs d : Int) else rne i.natAbs d

/-- A fraction with a power of two brought to the denominator or the numerator. -/
def scale2 (n d : Nat) (e : Int) : Nat × Nat := if 0 ≤ e then (n * 2 ^ e.toNat, d) else (n, d * 2 ^ (-e).toNat)

/-- Exponent of a positive fraction: the largest e with 2^e ≤ n / d. -/
def exp2 (n d : Nat) : Int :=
  let e : Int := (Nat.log2 n : Int) - Nat.log2 d
  let x := scale2 n d (-e)
  if x.1 < x.2 then e - 1 else e

/-- An arithmetic event of R102, by its counter: invalid, overflow, division by zero, subnormal result. -/
inductive Fev | invalid | over | divZero | sub
  deriving DecidableEq, Repr

/-- Counter of an arithmetic event (R459). -/
def Fev.ctr (e : Fev) : Nat := match e with | .invalid => 0x080 | .over => 0x081 | .divZero => 0x082 | .sub => 0x083

/-- Rounds a sign and a fraction once to the format, with the events it raises. -/
def Fmt.round (f : Fmt) (neg : Bool) (n d : Nat) : Nat × List Fev :=
  if n = 0 then (f.zero neg, [])
  else
    let emin : Int := 1 - (f.bias : Int)
    let e := exp2 n d
    let u := (if e < emin then emin else e) - ((f.p : Int) - 1)
    let x := scale2 n d (-u)
    let m := rne x.1 x.2
    let body := (u + (f.p : Int) - 1 + f.bias - 1).toNat * 2 ^ (f.p - 1) + m
    if (2 ^ (f.w - f.p) - 1) * 2 ^ (f.p - 1) ≤ body then (f.inf neg, [.over])
    else (b01 neg * 2 ^ (f.w - 1) + body, if body < 2 ^ (f.p - 1) ∧ m ≠ 0 then [.sub] else [])

/-- Rounds a signed fraction; an exact zero takes the sign given. -/
def Fmt.roundInt (f : Fmt) (i : Int) (d : Nat) (zneg : Bool) : Nat × List Fev :=
  f.round (if i = 0 then zneg else decide (i < 0)) i.natAbs d

/-- The signed fraction of a finite float: numerator and denominator. -/
def ratOf (neg : Bool) (m : Nat) (e : Int) : Int × Nat :=
  let x := scale2 m 1 e
  (if neg then -(x.1 : Int) else x.1, x.2)

/-- Exact value of a finite raw float as a fraction; none for a NaN or an infinity. -/
def Fmt.rat (f : Fmt) (raw : Nat) : Option (Int × Nat) :=
  match f.dec raw with | .num s m e => some (ratOf s m e) | _ => none

/-- A signalling NaN. -/
def Fmt.snan (f : Fmt) (a : Nat) : Bool := f.dec a == .nan && !bit a (f.p - 2)

/-- The NaN result of a NaN operand: an event only where an operand is a signalling NaN (IEEE 754). -/
def Fmt.quiet (f : Fmt) (a b : Nat) : Nat × List Fev := (f.nan, if f.snan a || f.snan b then [.invalid] else [])

/-- A NaN result of an invalid operation. -/
def Fmt.bad (f : Fmt) : Nat × List Fev := (f.nan, [.invalid])

/-- Addition. -/
def Fmt.add (f : Fmt) (a b : Nat) : Nat × List Fev :=
  match f.dec a, f.dec b with
  | .nan, _ => f.quiet a b
  | _, .nan => f.quiet a b
  | .inf s, .inf t => if s = t then (f.inf s, []) else f.bad
  | .inf s, .num _ _ _ => (f.inf s, [])
  | .num _ _ _, .inf t => (f.inf t, [])
  | .num s m e, .num t n g =>
    let x := ratOf s m e
    let y := ratOf t n g
    f.roundInt (x.1 * y.2 + y.1 * x.2) (x.2 * y.2) (s && t)

/-- The sign bit turned over. -/
def Fmt.flip (f : Fmt) (a : Nat) : Nat := if bit a (f.w - 1) then cut a (2 ^ (f.w - 1)) else a + 2 ^ (f.w - 1)

/-- Subtraction. -/
def Fmt.sub (f : Fmt) (a b : Nat) : Nat × List Fev := f.add a (f.flip b)

/-- Multiplication. -/
def Fmt.mul (f : Fmt) (a b : Nat) : Nat × List Fev :=
  match f.dec a, f.dec b with
  | .nan, _ => f.quiet a b
  | _, .nan => f.quiet a b
  | .inf s, .inf t => (f.inf (s != t), [])
  | .inf s, .num t n _ => if n = 0 then f.bad else (f.inf (s != t), [])
  | .num s m _, .inf t => if m = 0 then f.bad else (f.inf (s != t), [])
  | .num s m e, .num t n g =>
    let x := scale2 (m * n) 1 (e + g)
    f.round (s != t) x.1 x.2

/-- Division. -/
def Fmt.div (f : Fmt) (a b : Nat) : Nat × List Fev :=
  match f.dec a, f.dec b with
  | .nan, _ => f.quiet a b
  | _, .nan => f.quiet a b
  | .inf _, .inf _ => f.bad
  | .inf s, .num t _ _ => (f.inf (s != t), [])
  | .num s _ _, .inf t => (f.zero (s != t), [])
  | .num s m e, .num t n g =>
    if n = 0 then (if m = 0 then f.bad else (f.inf (s != t), [.divZero]))
    else
      let x := scale2 m n (e - g)
      f.round (s != t) x.1 x.2

/-- Correctly rounded square root: twice the integer root of a number scaled beyond the precision, with a sticky bit. -/
def Fmt.sqrt (f : Fmt) (a : Nat) : Nat × List Fev :=
  match f.dec a with
  | .nan => f.quiet a a
  | .inf s => if s then f.bad else (f.inf false, [])
  | .num s m e =>
    if m = 0 then (f.zero s, [])
    else if s then f.bad
    else
      let k := 2 * f.p + 4 + (if e % 2 = 0 then 0 else 1)
      let n := m * 2 ^ k
      let r := Nat.sqrt n
      let v := 2 * r + (if r * r = n then 0 else 1)
      let x := scale2 v 2 ((e - k) / 2)
      f.round false x.1 x.2

/-- A raw float, any NaN as the canonical one. -/
def Fmt.canon (f : Fmt) (a : Nat) : Nat := match f.dec a with | .nan => f.nan | _ => a

/-- Absolute value; a NaN gives the canonical NaN. -/
def Fmt.abs (f : Fmt) (a : Nat) : Nat := match f.dec a with | .nan => f.nan | _ => a % 2 ^ (f.w - 1)

/-- Negation; a NaN gives the canonical NaN. -/
def Fmt.neg (f : Fmt) (a : Nat) : Nat := match f.dec a with | .nan => f.nan | _ => f.flip a

/-- The order of two floats: none with a NaN; −0 equals +0 (R102). -/
def Fmt.cmp (f : Fmt) (a b : Nat) : Option Ordering :=
  match f.dec a, f.dec b with
  | .nan, _ => none
  | _, .nan => none
  | .inf s, .inf t => some (if s = t then .eq else if s then .lt else .gt)
  | .inf s, .num _ _ _ => some (if s then .lt else .gt)
  | .num _ _ _, .inf t => some (if t then .gt else .lt)
  | .num s m e, .num t n g =>
    let x := ratOf s m e
    let y := ratOf t n g
    some (compare (x.1 * y.2) (y.1 * x.2))

/-- MIN of two floats (R102): the operand that is no NaN, and −0 below +0. -/
def Fmt.min (f : Fmt) (a b : Nat) : Nat :=
  match f.cmp a b with
  | none => if f.dec a = .nan then f.canon b else f.canon a
  | some .lt => a
  | some .gt => b
  | some .eq => if bit a (f.w - 1) then a else b

/-- MAX of two floats (R102). -/
def Fmt.max (f : Fmt) (a b : Nat) : Nat :=
  match f.cmp a b with
  | none => if f.dec a = .nan then f.canon b else f.canon a
  | some .lt => b
  | some .gt => a
  | some .eq => if bit a (f.w - 1) then b else a

/-- An integer as a float, rounded to nearest even. -/
def Fmt.ofInt (f : Fmt) (i : Int) : Nat × List Fev := f.roundInt i 1 false

/-- A fraction of 2^k as a float. -/
def Fmt.ofFix (f : Fmt) (i : Int) (k : Nat) : Nat × List Fev := f.roundInt i (2 ^ k) false

/-- A float times 2^k as an integer, toward zero or to nearest even; a NaN gives 0; an infinity gives a value beyond every
range (R103). -/
def Fmt.toInt (f : Fmt) (a : Nat) (k : Nat) (trunc : Bool) : Int :=
  match f.dec a with
  | .nan => 0
  | .inf s => if s then -(2 ^ 80 : Int) else 2 ^ 80
  | .num s m e =>
    let x := scale2 m 1 (e + k)
    let v : Int := if trunc then (x.1 / x.2 : Nat) else (rne x.1 x.2 : Nat)
    if s then -v else v

/-- A float of one format in the other, rounded to nearest even. -/
def Fmt.conv (f g : Fmt) (a : Nat) : Nat × List Fev :=
  match f.dec a with
  | .nan => (g.nan, if f.snan a then [.invalid] else [])
  | .inf s => (g.inf s, [])
  | .num s m e =>
    let x := scale2 m 1 e
    g.round s x.1 x.2

/-- Exact value of a raw number of any numeric type: a fraction; none for a NaN or an infinity. -/
def Ty.rat (t : Ty) (raw : Nat) : Option (Int × Nat) :=
  if t.isF then t.fmt.rat raw else some (t.int raw, 2 ^ t.frac)

/-- A result that only changes a sign, with the event of a subnormal one (R102). -/
def Fmt.keep (f : Fmt) (r : Nat) : Nat × List Fev :=
  (r, if bits r (f.w - 2) (f.p - 1) = 0 ∧ r % 2 ^ (f.p - 1) ≠ 0 then [.sub] else [])

/-- Counts the arithmetic events of a result. -/
def countEvs (evs : List Fev) (c : Chip) : Chip := forAll evs (fun e => bump e.ctr) c

end Sys2Proof.Machine
end

