-- ==== Sys2Proof/Machine/Commit.lean ====
section
/-! DEFINITION. Commits of outputs (chapters 3, 9, 10): the status a current output and a digital output show, a value that
reaches a channel, safe values, output forces, and the staging of a task. -/
namespace Sys2Proof.Machine

/-! ### Channels -/

/-- An analogue output. -/
def ao (c : Chip) (ch : Nat) : Ao := Map.getD c.io.ao ch {}

/-- An analogue input. -/
def ai (c : Chip) (ch : Nat) : Ai := Map.getD c.io.ai ch {}

/-- A digital output. -/
def dov (c : Chip) (ch : Nat) : Do := Map.getD c.io.dout ch {}

/-- A digital input. -/
def div (c : Chip) (ch : Nat) : Di := Map.getD c.io.di ch {}

/-- Mode of an analogue output: false OFF, true ON (R232). -/
def aoOn (c : Chip) (ch : Nat) : Bool := cfg c (0x3020 + ch) 1 1 0 == 1

/-- Status of an analogue output by the precedence of R230. -/
def aoStatus (c : Chip) (ch : Nat) (a : Ao) : Nat :=
  if a.trans then 0x08 else if a.subst then 0x07 else if !aoOn c ch then 0x0A else if a.drv then 0x12
  else if a.conds.getD 2 false then 0x13 else if a.conds.getD 0 false then 0x10 else if a.conds.getD 1 false then 0x11 else 0

/-- Changes an analogue output and brings its status up to date. -/
def updAo (ch : Nat) (f : Ao → Ao) (c : Chip) : Chip :=
  let a := f (ao c ch)
  { c with io := { c.io with ao := Map.put c.io.ao ch { a with status := aoStatus c ch a } } }

/-- A digital output is enabled (R263). -/
def doEn (c : Chip) (ch : Nat) : Bool := cfgb c (0x3140 + ch) 1 0

/-- OVL_MODE is latched (R263). -/
def ovlLatched (c : Chip) (ch : Nat) : Bool := cfgb c (0x3140 + ch) 1 12

/-- Supply state of a DO group: 0 OK, 1 LOW, 2 SAG, 3 OFF (R273). -/
def fdState (c : Chip) (g : Nat) : Nat := Map.getD c.io.fd g 0

/-- Status of a digital output by the precedence of R260. -/
def doStatus (c : Chip) (ch : Nat) (d : Do) : Nat :=
  let fd := fdState c (ch / 8)
  if !doEn c ch then 0x0A else if fd = 3 then 0x29 else if Map.getD c.io.hold (ch / 8) false then 0x2A
  else if d.ovl then 0x22 else if d.swFault then 0x24 else if d.stuck then 0x25 else if d.extHigh then 0x23
  else if fd = 2 then 0x28 else if d.loadDev then 0x26 else if fd = 1 then 0x27 else 0

/-- Changes a digital output and brings its status up to date. -/
def updDo (ch : Nat) (f : Do → Do) (c : Chip) : Chip :=
  let d := f (dov c ch)
  { c with io := { c.io with dout := Map.put c.io.dout ch { d with status := doStatus c ch d } } }

/-- Brings the status of the eight outputs of a DO group up to date. -/
def refreshGroup (g : Nat) (c : Chip) : Chip := forAll (List.range 8) (fun i => updDo (g * 8 + i) id) c

/-! ### Values that reach a channel -/

/-- A value committed to an analogue output: at most 44,000 counts (R233); held back in TRANSITION (R160) and during a
transfer to the spare driver (R241); no current while the channel is OFF or the field side is reset (R242). -/
def pushAo (ch v : Nat) (c : Chip) : Chip :=
  updAo ch (fun a =>
    let a := { a with committed := Nat.min v 44000 }
    if a.trans then a
    else if !aoOn c ch then { a with cmd := 0 }
    else if a.subst then { a with heldCmd := some a.committed }
    else if c.io.fa = 3 || Map.getD c.io.aoWd (ch / 4) false then a
    else { a with cmd := a.committed }) c

/-- Smallest and largest mean over what has been learned and the on-period that ends (R269). -/
def learnMerge (a : Option Nat × Nat) (b : Option (Nat × Nat)) : Option Nat × Nat :=
  match b with
  | none => a
  | some (lo, hi) => (some (Nat.min (a.1.getD lo) lo), Nat.max a.2 hi)

/-- An on-period of a channel ends: while it learns, a period of at least 200 ms counts, and the sixteenth sets the band, records
it and completes the command (R269). -/
def endPeriod (ch : Nat) (c : Chip) : Chip :=
  let d := dov c ch
  match d.learn with
  | some (left, mn, mx, s, tag) =>
    if !d.closed || !d.learnOn || decide (c.time.clock < d.onAt + 200000000) then
      updDo ch (fun d => { d with learnOn := false, learnCur := none }) c
    else
      let (mn, mx) := learnMerge (mn, mx) d.learnCur
      if 1 < left then
        updDo ch (fun d => { d with learn := some (left - 1, mn, mx, s, tag), learnOn := false, learnCur := none }) c
      else
        let m := cfg c 0x3182 (ch / 8 + 1) 23 17
        let lo := mn.getD 0 * (100 - m) / 100
        let hi := cdiv (mx * (100 + m)) 100
        let c := updDo ch (fun d => { d with learn := none, learnOn := false, learnCur := none, lo := lo, hi := hi, devCnt := 0 }) c
        complete 0x0602 s tag 0 (leBytes 2 lo ++ leBytes 2 hi) (record 0x0657 (0x0A20 + ch) [] c)
  | none => c

/-- A commit that reaches a digital output (R260, R266, R268, R269). -/
def reachDo (ch : Nat) (on : Bool) (c : Chip) : Chip :=
  let c := when (!on) (endPeriod ch) c
  let d := dov c ch
  let chg := d.cmd != on
  let d := { d with
    cmd := on
    wd := false
    blankTo := if chg then c.time.clock + 2000000 else d.blankTo
    cnt := if chg then 0 else d.cnt
    clr := if chg then 0 else d.clr }
  if on then
    let d := { d with extHigh := false }
    if d.pulse || (d.ovl && !d.offSeen) || d.closed then updDo ch (fun _ => d) c
    else
      bump (0x140 + ch) (updDo ch (fun _ => { d with
        closed := true, onAt := c.time.clock, onSince := some c.time.clock, latched := false, offSeen := false
        learnOn := d.learn.isSome, learnCur := none
        cycles := (d.cycles + 1) % 2 ^ 32 }) c)
  else
    updDo ch (fun _ => { d with
      swFault := false, closed := false, pulse := false, onSince := none
      ovl := d.ovl && ovlLatched c ch
      offSeen := d.offSeen || (d.ovl && ovlLatched c ch) }) c

/-- A value committed to a digital output; it does not reach a channel that is disabled, whose group has no supply, waits for
its initialisation, or holds its safe values (R272). -/
def pushDo (ch : Nat) (on : Bool) (c : Chip) : Chip :=
  let c := updDo ch (fun d => { d with committed := on }) c
  if !doEn c ch then updDo ch (fun d => { d with cmd := false, closed := false }) c
  else if fdState c (ch / 8) = 3 || Map.getD c.io.reinit (ch / 8) false || Map.getD c.io.hold (ch / 8) false then c
  else reachDo ch on c

/-! ### Safe values -/

/-- Safe value of an analogue output (R236). -/
def aoSafe (c : Chip) (ch : Nat) : Nat :=
  let w := 0x3020 + ch
  match cfg c w 1 5 4 with
  | 1 => cfg c w 2 15 0
  | 2 => (ao c ch).committed
  | _ => if cfgb c w 1 3 then 43000 else 7000

/-- Safe value of a digital output (R263). -/
def doSafe (c : Chip) (ch : Nat) : Bool := cfgb c (0x3140 + ch) 1 1

/-- A loop-check value of an output in SERVICE: kind 0 digital output, 1 current output (R432). -/
def loopVal (c : Chip) (kind ch : Nat) : Option Nat :=
  if c.sup.mstate = .service then
    (c.sup.loopVals.find? (fun e => e.1 == kind && e.2.1 == ch)).map (fun e => e.2.2)
  else none

/-- Commits the safe value of every on-board output, or in SERVICE its loop-check value (R34, R74, R393). -/
def safeCommit (c : Chip) : Chip :=
  let c := forAll (List.range 8) (fun ch c => pushAo ch ((loopVal c 1 ch).getD (aoSafe c ch)) c) c
  forAll (List.range 24) (fun ch c => pushDo ch (((loopVal c 0 ch).map (· != 0)).getD (doSafe c ch)) c) c

/-! ### The staging of a task -/

/-- The output forces put into a staging (R155). -/
def forceOut (fs : List Force) (l : List (OutDecl × Nat)) (m : Mem) : Mem :=
  l.foldl (fun m d =>
    (fs.filter (fun f => f.varId == d.1.varId && f.fkind == 1 && !bit f.flags 1 && decide (f.elem < d.1.elems))).foldl
      (fun m f => Mem.wrLe m (d.2 + f.elem * d.1.ty.size) d.1.ty.size f.value) m) m

/-- Commits the on-board outputs of a staging (R62). -/
def pushOuts (l : List (OutDecl × Nat)) (m : Mem) (c : Chip) : Chip :=
  forAll l (fun d c =>
    let v := Mem.rdLe m d.2 d.1.ty.size
    match d.1.dst with
    | .ao ch => pushAo ch.val (v % 65536) c
    | .dout ch => pushDo ch.val (v % 256 != 0) c
    | .station _ _ => c) c

/-- Safe values of a task's outputs as its staging would hold them: the channel's own for on-board outputs, the declared one
for station outputs (R70, R236). -/
def safeBytes (c : Chip) (t : Nat) : Mem :=
  (outLayout 0 (outDecls c.sets.main t)).foldl (fun m d =>
    let v := match d.1.dst with | .ao ch => aoSafe c ch.val | .dout ch => b01 (doSafe c ch.val) | .station _ _ => d.1.safe
    (List.range d.1.elems).foldl (fun m i => Mem.wrLe m (d.2 + i * d.1.ty.size) d.1.ty.size v) m) []

/-- The bytes of a staging that its declaration covers. -/
def stagingBytes (c : Chip) (t : Nat) (m : Mem) : List Byte := Mem.rdN m 0 (outEnd 0 (outDecls c.sets.main t))

/-- Commits a staging of task `t`: on-board outputs change, remote outputs are handed to the station link, and the values
become those last committed (R61, R62, R155). -/
def commitStaging (t : Nat) (m : Mem) (c : Chip) : Chip :=
  let l := outLayout 0 (outDecls c.sets.main t)
  let m := forceOut c.sets.forces l m
  updTask t (fun k => { k with committed := m, atSafe := false }) (pushOuts l m c)

/-- Commits the safe values of a task's outputs, which are then the values last committed (R70). -/
def commitSafe (t : Nat) (c : Chip) : Chip :=
  let l := outLayout 0 (outDecls c.sets.main t)
  let m := forceOut c.sets.forces l (safeBytes c t)
  updTask t (fun k => { k with committed := m, atSafe := false }) (pushOuts l m c)

end Sys2Proof.Machine
end

