-- ==== Sys2Proof/Machine/Modes.lean ====
section
/-! DEFINITION. What ends a job or changes the module state (chapters 3, 5, 8, 11): which ready job an engine runs, overruns and
their limits, leaving RUN with its instance save, the TRIP sequence of R74, and FAULT. -/
namespace Sys2Proof.Machine

/-! ### Records about tasks -/

/-- Words of a record about a task: task number, TN, CE (R69, R508). -/
def taskWords (c : Chip) (t tn : Nat) : List Nat := [t] ++ w64 tn ++ [taskCe c t]

/-- Records a code about a task. -/
def recTask (code t tn : Nat) (c : Chip) : Chip := record code (0x0700 + t) (taskWords c t tn) c

/-- Position of a class in the counter order S, C, P, B, E (R459). -/
def Cls.idx (k : Cls) : Nat := match k with | .s => 0 | .c => 1 | .p => 2 | .b => 3 | .e => 4 | .none => 0

/-! ### Order on an engine (R56, R57) -/

/-- Tasks of engine `n` in one of the given states. -/
def onCe (c : Chip) (n : Nat) (p : TaskSt → Bool) : List Nat :=
  (usedTasks c).filter (fun t => taskCe c t == n && p (task c t).st)

/-- The first task of a list by PRIORITY, then number. -/
def firstByPrio (c : Chip) (l : List Nat) : Option Nat :=
  l.foldl (fun b t =>
    match b with
    | none => some t
    | some u => if cfg c (0x2100 + t) 1 7 3 < cfg c (0x2100 + u) 1 7 3 then some t else b) none

/-- Brings the engine's running job up to date: a class B job gives way to another class, and the highest-ordered ready job
runs when none does. Only an ACTIVE engine runs jobs (R11). -/
def dispatch (n : Nat) (c : Chip) : Chip :=
  if (Map.getD c.hlth.ce n {}).st != .active then c
  else
  let ready := onCe c n (fun s => s == .ready)
  let other := ready.filter (fun t => taskCls c t != .b)
  match onCe c n (fun s => s == .running) with
  | r :: _ =>
    if taskCls c r = .b then
      match firstByPrio c other with
      | some t =>
        bump (0x068 + n) (updTask t (fun k => { k with st := .running }) (updTask r (fun k => { k with st := .preempted }) c))
      | none => c
    else c
  | [] =>
    match firstByPrio c other with
    | some t => updTask t (fun k => { k with st := .running }) c
    | none =>
      match firstByPrio c (onCe c n (fun s => s == .preempted)), firstByPrio c ready with
      | some t, _ => updTask t (fun k => { k with st := .running }) c
      | none, some t => updTask t (fun k => { k with st := .running }) c
      | none, none => c

/-! ### The end of a job (R93, R514) -/

/-- Pages of 4 KiB that a write of RET or GLB touches; pages of RET follow those of GLB (R361). -/
def pagesOf (ret : Bool) (a n : Nat) : List Nat :=
  (List.range ((a % 4096 + n + 4095) / 4096)).map (fun i => b01 ret * 16384 + a / 4096 + i)

/-- Notes dirtied pages for the next checkpoint. -/
def dirty (ps : List Nat) (c : Chip) : Chip :=
  { c with pair := { c.pair with dirty := ps.foldl (fun l p => if l.contains p then l else p :: l) c.pair.dirty } }

/-- Writes bytes to GLB or RET memory; a re-synchronisation source also journals them (R359). -/
def memWrite (ret : Bool) (a : Nat) (bs : List Byte) (c : Chip) : Chip :=
  dirty (pagesOf ret a bs.length) (when (c.pair.st == .resyncSource) (fun c =>
      { c with pair := { c.pair with jrn := c.pair.jrn ++ [(ret, a, bs)] } })
    (if ret then { c with mem := { c.mem with ret := Mem.wrN c.mem.ret a bs } }
     else { c with mem := { c.mem with glb := Mem.wrN c.mem.glb a bs } }))

/-- Flushes a job's write journal, oldest entry first, and makes its shadow bank current (R92, R93). -/
def flushJob (t : Nat) (j : Job) (c : Chip) : Chip :=
  let c := j.journal.foldr (fun e c => memWrite e.1 e.2.1 e.2.2 c) c
  let c := bumpBy (0x050 + taskCe c t) j.journal.length c
  updTask t (fun k => { k with loc := j.loc, insts := j.insts }) c

/-- The completed job's response time in µs, kept as last and longest (R77). -/
def response (t : Nat) (j : Job) (c : Chip) : Chip :=
  let r := (c.time.clock - j.relNs) / 1000
  updTask t (fun k => { k with ovrConsec := 0, lastResp := r, maxResp := Nat.max k.maxResp r }) c

/-- A job that has completed ends: its flush, its response time, its counter and its marks (R77, R93, R456, R514). -/
def finishJob (t : Nat) (j : Job) (c : Chip) : Chip :=
  let c := updTask t (fun k => { k with job := none }) (flushJob t j c)
  let c := bump (0x006 + (taskCls c t).idx) (response t j c)
  forAll j.marks (fun m => recordF 48 m.code (0x0700 + t) m.words (m.tEv * 1000) 2 false) c

/-- Flushes that run when the module leaves RUN run to their end; what the jobs staged is discarded with every other staging (R64, R74,
R514). -/
def finishJobs (c : Chip) : Chip :=
  forAll (usedTasks c) (fun t c =>
    match (task c t).job with
    | some j => if j.done then finishJob t j c else c
    | none => c) c

/-! ### Leaving RUN -/

/-- The instance state a task holds for an entry of its image. -/
def taskInst (cs : ConfigSet) (k : Task) (e : InstEntry) : List Byte :=
  (Map.find k.insts e.id).getD (instInit cs e.opcode (bit e.iflags 4) (bit e.iflags 3) e.id e.bytes)

/-- Writes the instance save area (R131). -/
def saveInsts (c : Chip) : Chip :=
  let l := (usedTasks c).flatMap (fun t =>
    let k := task c t
    ((imageOf c.sets.main t).insts.filter (fun e => (Map.find k.insts e.id).isSome)).map
      (fun e => (e.id, e.opcode, taskInst c.sets.main k e)))
  { c with mem := { c.mem with save := { setId := c.sets.main.setId, tLast := c.tt.tLastRun, valid := true, insts := l } } }

/-- Tells every session of a change of the module state (R423): cause 0 command, 1 TRIP, 2 FAULT, 3 start-up. -/
def setMState (m : MState) (cause : Nat) (c : Chip) : Chip :=
  let old := c.sup.mstate
  eventAll 0x82F0 (leBytes 1 old.code ++ leBytes 1 m.code ++ leBytes 1 cause ++ [0] ++ leBytes 8 c.tt.tn)
    { c with sup := { c.sup with mstate := m } }

/-- An entry of the list of dropped forces in a report (R429). -/
def forceRef (f : Force) : List Byte := leBytes 8 f.varId ++ leBytes 2 f.elem ++ leBytes 1 f.fkind ++ List.replicate 5 0

/-- A throw report (R430). -/
def throwReport (old new tn postponed staged : Nat) (drops : List Force) : List Byte :=
  leBytes 4 old ++ leBytes 4 new ++ leBytes 8 tn ++ leBytes 1 postponed ++ leBytes 1 staged ++ leBytes 2 drops.length
    ++ drops.flatMap forceRef

/-- The throw command ends with a status and a report, of which the event carries at most 254 entries (R430). -/
def endThrow (status old new tn staged : Nat) (drops : List Force) (c : Chip) : Chip :=
  let r := throwReport old new tn c.sets.postponed staged drops
  let o := c.sets.origin
  let c := { c with sets := { c.sets with report := r, origin := none } }
  match o with | some (s, tag) => complete 0x0304 s tag status (r.take 4084) c | none => c

/-- The siding set after a throw that is not taken: LOADED, or HELD for a throw back (R152, R165). -/
def unnameThrow (c : Chip) : Chip :=
  { c with sets := { c.sets with
    named := false, attempt := false, rollback := false, doneTn := none, caughtUp := false, throwTn := 0
    siding := if c.sets.toHeld then .held else .loaded } }

/-- A named throw is cancelled: the main set is unchanged, and its command ends with STATE_REFUSED (R165, R428). -/
def cancelThrow (code : Nat) (c : Chip) : Chip :=
  if c.sets.named then
    let tn := c.sets.throwTn
    endThrow 0x0301 c.sets.main.setId (sidingId c) tn 0 [] (record code 0x0300 [] (unnameThrow c))
  else c

/-- Every task but the empty ones is HALTED; its job and its staged outputs are discarded (R64, R78). -/
def haltTasks (dropped : Bool) (c : Chip) : Chip :=
  forAll (usedTasks c) (fun t c =>
    let c := match (task c t).job with | some j => when dropped (recTask 0x0406 t j.tn) c | none => c
    updTask t (fun k => { k with st := .halted, job := none, staged := [], skip := false, limitAct := false }) c) c

/-- Completion of a host's Sage job: the status word, the iterations, the tag (R433). -/
def sageDone (word iter tag : Nat) (host : Option (Nat × Nat)) (c : Chip) : Chip :=
  match host with
  | some (se, t) => complete 0x0902 se t 0 (leBytes 2 word ++ leBytes 2 0 ++ leBytes 4 iter ++ leBytes 4 tag) c
  | none => c

/-- Ends the running Sage jobs; a factorisation cancelled loses its factor, and the last code stays (R74, R225). -/
def cancelSage (c : Chip) : Chip :=
  forAll (c.slots.filter (fun e => e.2.st == .running)) (fun e c =>
    sageDone e.2.last e.2.cur.iter e.2.tag e.2.host
      { c with slots := Map.upd c.slots e.1 {} (fun x =>
          { x with st := .idle, factor := x.factor && x.phase != 1, host := none, orphan := false
                   cur := { x.cur with word := x.last } }) }) c

/-! ### CAN aborts (R285) -/

/-- Aborts a buffer's request. -/
def abortBuf (b : TxBuf) : TxBuf :=
  if b.busy then { b with abort := true, held := none }
  else if b.st = 1 || b.st = 2 then { b with st := 4, frame := none, held := none, abort := false }
  else { b with held := none }

/-- Completes the host requests of a buffer that has ended (R432). -/
def canHostDone (ch bf : Nat) (c : Chip) : Chip :=
  let b := Map.getD (Map.getD c.can ch {}).tx bf {}
  forAll b.host (fun h => complete 0x0701 h.1 h.2 0 (leBytes 1 b.st ++ leBytes 1 b.flags ++ leBytes 2 0))
    { c with can := Map.upd c.can ch {} (fun h => { h with tx := Map.upd h.tx bf {} (fun b => { b with host := [] }) }) }

/-- Aborts every request of every channel and disarms the armed buffers (R74, R297). -/
def abortCan (c : Chip) : Chip :=
  forAll c.can (fun e c =>
    forAll e.2.tx (fun b c =>
      let n := abortBuf b.2
      let c := { c with can := Map.upd c.can e.1 {} (fun h => { h with tx := Map.put h.tx b.1 n }) }
      when (n.st == 4 && b.2.st != 4) (canHostDone e.1 b.1) c) c) c

/-! ### TRIP and FAULT -/

/-- The pair partner is healthy: the pair runs as PAIRED, its last heartbeat, of this tick or the one before, shows RUN and no failed
self-test, and it has announced no trip (R75, R348). -/
def partnerHealthy (c : Chip) : Bool :=
  isPair c && c.pair.st == .paired && !c.pair.partnerTrip && decide (c.tt.tn ≤ c.pair.hbTn + 1)
    && (match c.pair.lastHb with | some h => h.mstate == 4 && !bit h.flags 0 | none => false)

/-- Bytes of a station's outputs that no task of the main set declares since the last throw (R153). -/
def releasedBytes (c : Chip) (st : Nat) (safe : Bool) : Mem :=
  c.sets.release.foldl (fun m d =>
    match d.1.dst with
    | .station s o =>
      let b := if safe then none else d.2
      if s.val = st then Mem.wrN m o (b.getD ((List.range d.1.elems).flatMap (fun _ => leBytes d.1.ty.size d.1.safe))) else m
    | _ => m) []

/-- Bytes of a station's outputs: those of every task's values last committed, or the safe values, also of a task that has not
committed since a restart (R132, R308). -/
def outBlock (c : Chip) (st : Nat) (safe : Bool) : List Byte :=
  let n := cfg c (0x5100 + st) 4 15 0
  let m := (usedTasks c).foldl (fun m t =>
    let src := if safe || (task c t).atSafe then safeBytes c t else (task c t).committed
    (outLayout 0 (outDecls c.sets.main t)).foldl (fun m d =>
      match d.1.dst with
      | .station s o => if s.val = st then Mem.wrN m o (Mem.rdN src d.2 (d.1.ty.size * d.1.elems)) else m
      | _ => m) m) (releasedBytes c st safe)
  Mem.rdN m 0 n

/-- DIGEST of an OUT frame: CRC-32C over its block (R306). -/
def outDigest (b : List Byte) : Nat := crc32c b

/-- ROLE of an OUT frame: 0 SOLO, 1 A, 2 B (R306). -/
def zslRole (c : Chip) : Nat := match c.sup.role with | .pairA => 1 | .pairB => 2 | _ => 0

/-- The unscheduled frames with the trip flag, to every enabled station, under the TN of the last boundary whose OUT frames
were sent; none where no OUT frame has been sent (R309). -/
def tripFrames (c : Chip) : Chip :=
  match c.net.outTn with
  | none => c
  | some tn =>
    forAll (enabledStations c.sets.main) (fun st c =>
      let b := outBlock c st true
      bump 0x19A (netSend 1 (emit (.zsl st tn (1 + 2 * zslRole c) (cfg c (0x5100 + st) 5 31 0) b (outDigest b)) c))) c

/-- What leaving RUN always does: the throw is cancelled (R165), the instances are saved when the module was in RUN (R131). -/
def leaveRun (c : Chip) : Chip :=
  let run := inRun c
  when run (fun c => saveInsts (finishJobs c)) (cancelThrow 0x0323 c)

/-- Steps 2 to 7 of R74. -/
def tripSequence (c : Chip) : Chip :=
  let c := cancelSage c
  let c := when (inRun c) (fun c => saveInsts (finishJobs c)) c
  let c := haltTasks false c
  let c := setMState .trip 1 { c with sets := { c.sets with release := [] } }
  let c := safeCommit c
  let c := abortCan c
  let c := when (!partnerHealthy c) tripFrames c
  let c := when (isPair c) (emit (.announce true)) c
  cancelThrow 0x0323 c

/-- TRIP by the deadline of a class S job or what R72 treats as one: WATCHDOG_TRIP, then the sequence. -/
def trip (t tn : Nat) (c : Chip) : Chip := tripSequence (recTask 0x0403 t tn c)

/-- FAULT (R25, R27, R28, R346): tasks halted, safe values, trip frames unless a healthy partner carries on, the announcement
to the partner, the instance save. -/
def enterFault (c : Chip) : Chip :=
  if c.sup.mstate = .fault then c
  else
    let c := cancelSage c
    let c := when (inRun c) (fun c => saveInsts (finishJobs c)) c
    let c := haltTasks false c
    let c := safeCommit c
    let c := abortCan c
    let c := when (!partnerHealthy c) tripFrames c
    let c := when (isPair c) (emit (.announce false)) c
    let c := cancelThrow 0x0323 c
    setMState .fault 2 c

/-! ### Overruns (R69 to R72) -/

/-- The limit of consecutive overruns is reached (R70, R71). -/
def overrunLimit (t tn : Nat) (c : Chip) : Chip :=
  if taskCls c t = .e then
    recTask 0x0405 t tn (updTask t (fun k => { k with st := .suspended }) c)
  else
    let c := recTask 0x0402 t tn (updTask t (fun k => { k with ovrConsec := 0, limitAct := true }) c)
    raiseBound (cfgb c (0x2100 + t) 9 8) 0 (cfg c (0x2100 + t) 9 7 0) c

/-- A job of task `t` that does not complete, treated as an overrun of its class; the engine takes its next job. -/
def overrun (t tn : Nat) (c : Chip) : Chip :=
  let cls := taskCls c t
  if cls = .s then
    bump 0x00B (trip t tn c)
  else
    let c := updTask t (fun k => { k with
      st := .idle, job := none, skip := cls != .e, ovrConsec := k.ovrConsec + 1, ovrTotal := (k.ovrTotal + 1) % 2 ^ 32 }) c
    let c := bump (0x00B + cls.idx) (recTask 0x0401 t tn c)
    let c := when (decide (cfg c (0x2100 + t) 1 31 24 ≤ (task c t).ovrConsec)) (overrunLimit t tn) c
    dispatch (taskCe c t) c

/-- A job lost with its engine: OVERRUN is the cause's own record, which of a class S job comes before WATCHDOG_TRIP (R23, R72). -/
def overrunLost (t tn : Nat) (c : Chip) : Chip := overrun t tn (when (taskCls c t == .s) (recTask 0x0401 t tn) c)

/-- A job ended for a reason other than its deadline, with the cause's own record first (R72). -/
def abortJob (t code src : Nat) (ws : List Nat) (c : Chip) : Chip :=
  match (task c t).job with
  | none => c
  | some j => overrun t j.tn (record code src ws c)

end Sys2Proof.Machine
end

