-- ==== Sys2Proof/Machine/Flow.lean ====
section
/-! DEFINITION. Running one block of a job (R85, R86, R96 to R98, R105): the form its operands must have, the enable input, the
cycles, the instance, the outputs, and the control-flow blocks themselves. -/
namespace Sys2Proof.Machine

/-- Where a job goes after a block (R96). -/
inductive Ctl | next | jump (i : Nat) | call (l : Nat) | ret
  deriving DecidableEq, Repr

/-- The form of a block: opcode, whether it names an instance, which options it has, how many of its operands are outputs
(or, where the outputs vary, inputs), whether its reads in GLB and RET cost nothing (R202), and the test its operands pass
(R86, R107). -/
structure Sig where
  op   : Nat
  inst : Bool := false
  optA : Bool := false
  optB : Bool := false
  nOut : Nat := 1
  nIn  : Option Nat := none
  free : Bool := false
  ok   : List Ref → List Ref → Bool

/-- What a block did: the bytes written at an offset from an operand, in order; its instance; its job and module side;
cycles; where the job goes. -/
structure BRes where
  wr   : List (Ref × Nat × List Byte) := []
  inst : Option (List Byte) := none
  job  : Job → Job := id
  eff  : Chip → Chip := id
  cyc  : Nat
  ctl  : Ctl := .next

/-- The operands without the enable input (R86). -/
def Blk.args (b : Blk) : List Ref := if b.en then b.ops.tail else b.ops

/-- How many operands of a block of a form are inputs. -/
def Sig.split (sg : Sig) (b : Blk) : Nat := sg.nIn.getD (b.args.length - sg.nOut)

/-- The input operands of a block of a form. -/
def Sig.ins (sg : Sig) (b : Blk) : List Ref := b.args.take (sg.split b)

/-- The output operands of a block of a form. -/
def Sig.outs (sg : Sig) (b : Blk) : List Ref := b.args.drop (sg.split b)

/-- An operand reference that an image may hold: a defined type; no float immediate; a BOOL immediate of 0 or 1 (R89, R90). -/
def Ref.ok (r : Ref) : Bool :=
  r.ty.ok && (match r.sp with
    | .imm => !r.ty.isF && (r.ty != .bool || decide (r.off.toNat ≤ 1))
    | _ => true)

/-- The block has the form R86 and R107 give its opcode: an image with any other block is refused (R95). -/
def Sig.good (sg : Sig) (b : Blk) : Bool :=
  b.inst.isSome == sg.inst && (sg.optA || !b.optA) && (sg.optB || !b.optB)
    && (!b.en || (match b.ops with | r :: _ => r.ty == .bool | [] => false))
    && b.ops.all Ref.ok && decide (sg.nOut ≤ b.args.length) && (sg.outs b).all (fun r => r.sp.writable)
    && sg.ok (sg.ins b) (sg.outs b)

/-- What a value is written as: a BOOL as 0 or 1 (R89). -/
def Ref.put (r : Ref) (raw : Nat) : Ref × Nat × List Byte := (r, 0, leBytes r.ty.size (r.ty.norm raw))

/-- Writes the raw values to the output operands in order. -/
def puts (outs : List Ref) (vs : List Nat) : List (Ref × Nat × List Byte) := (outs.zip vs).map (fun p => p.1.put p.2)

/-- The words of a record about a block of the job: image, list, block index, CE (R508). -/
def Env.words (e : Env) : List Nat := [e.img.no, e.job.list, e.job.idx, taskCe e.c e.t]

/-- Makes the record of a block's event, with its counter (R110). -/
def Env.note (e : Env) (code ctr : Nat) (c : Chip) : Chip := record code (0x0700 + e.t) e.words (bump ctr c)

/-- Cycles of the reads of a block in GLB and RET (R105). -/
def readCost (rs : List Ref) : Nat := 60 * (rs.filter (fun r => r.sp.slow)).length

/-- Where the job goes: the next block, another block, a called list, or back (R96). The RET of the entry list ends the job's
blocks, if it comes by the deadline (R514). -/
def Job.go (j : Job) (ct : Ctl) (now : Nat) : Job :=
  match ct with
  | .next => { j with idx := j.idx + 1 }
  | .jump i => { j with idx := i }
  | .call l => { j with list := l, idx := 0, stack := (j.list, j.idx + 1) :: j.stack }
  | .ret =>
    match j.stack with
    | (l, i) :: r => { j with list := l, idx := i, stack := r }
    | [] => if now ≤ j.dl * 1000 then { j with done := true } else j

/-- The instance state a block sees (R83). -/
def Env.inst (e : Env) (sg : Sig) : List Byte :=
  match e.blk.inst with
  | none => []
  | some id =>
    let bytes := match e.img.insts.find? (fun x => x.id == id) with | some x => x.bytes | none => 0
    (Map.find e.job.insts id).getD (instInit e.c.sets.main sg.op e.blk.optA e.blk.optB id bytes)

/-- The writes of a block done on its job, in order (R97). -/
def Job.writes (j : Job) (wr : List (Ref × Nat × List Byte)) : Job :=
  wr.foldl (fun j w => j.write w.1.sp (w.1.addr + w.2.1) w.2.2) j

/-- What a block sees when it runs for job `j` of its task. -/
def Blk.env (b : Blk) (j : Job) (c : Chip) : Env :=
  { c := c, t := b.task.val, job := j, img := imageOf c.sets.main b.task.val, blk := b }

/-- The block's enable input, where it has one (R86). -/
def Blk.enable (b : Blk) : List Ref := if b.en then b.ops.take 1 else []

/-- The enable input reads FALSE (R98). -/
def Blk.skips (b : Blk) (j : Job) (c : Chip) : Bool := b.enable.any (fun r => (b.env j c).val r == 0)

/-- The job after a skipped block: the cycles of the test of EN (R98, R105). -/
def Blk.passedBy (b : Blk) (j : Job) : Job := { j with cyc := j.cyc + 2 + readCost b.enable, idx := j.idx + 1 }

/-- The job with the instance a block leaves. -/
def Job.withInst (j : Job) (id : Option Nat) (st : Option (List Byte)) : Job :=
  match id, st with
  | some i, some v => { j with insts := Map.put j.insts i v }
  | _, _ => j

/-- The job after a block that comes to `r`: writes, instance, cycles with the surcharges of R105, and where the job goes (R96, R97). -/
def jobAfter (sg : Sig) (b : Blk) (j : Job) (r : BRes) (now : Nat) : Job :=
  let cyc := r.cyc + readCost (b.enable ++ if sg.free then [] else sg.ins b) + 2 * (r.wr.filter (fun w => w.1.sp.slow)).length
  ({ (r.job (j.writes r.wr)).withInst b.inst r.inst with cyc := j.cyc + cyc }).go r.ctl now

/-- The block after a block row that comes to `r`: its effect on the module, the blocks counted for the engine, the job; a journal
beyond 8,192 entries aborts the job (R110). -/
def chipAfter (sg : Sig) (b : Blk) (j : Job) (r : BRes) (c : Chip) : Chip :=
  let t := b.task.val
  let c1 := bump (0x038 + taskCe c t) (r.eff c)
  if 8192 < (r.job (j.writes r.wr)).journal.length then
    abortJob t 0x0422 (0x0700 + t) (b.env j c).words (bump 0x087 c1)
  else updTask t (fun k => { k with job := some (jobAfter sg b j r c.time.clock) }) c1

/-- One block of a running job; a block whose enable reads FALSE is skipped (R98). -/
def evalBlock (sg : Sig) (body : Env → List Ref → List Ref → List Byte → BRes) (b : Blk) (c : Chip) : Chip :=
  let t := b.task.val
  match (task c t).job with
  | none => c
  | some j =>
    if (task c t).st != .running || j.done then c
    else if b.skips j c then updTask t (fun k => { k with job := some (b.passedBy j) }) c
    else chipAfter sg b j (body (b.env j c) (sg.ins b) (sg.outs b) ((b.env j c).inst sg)) c

/-- A block row: a block of a form no image could hold faults; any other runs. -/
def runBlock (sg : Sig) (body : Env → List Ref → List Ref → List Byte → BRes) (b : Blk) (s : State) :
    Host.Outcome State Fault Refusal :=
  if sg.good b then lift (evalBlock sg body b) s else .fault .illFormedBlock

/-! ### Control flow (R96, R512) -/

/-- The operand is an immediate of the given type. -/
def Ref.isImm (r : Ref) (t : Ty) : Bool := r.sp == .imm && r.ty == t

/-- The first element of a list of operands, or an immediate 0. -/
def at_ (l : List Ref) (i : Nat) : Ref := l.getD i { sp := .imm, ty := .u8, off := 0 }

/-- JMP: the target lies ahead (R95). -/
def sigJmp : Sig := { op := 0x1601, nOut := 0, ok := fun i _ => i.length == 1 && (at_ i 0).isImm .u16 }

/-- JMP (R512). -/
def bodyJmp (e : Env) (ins _outs : List Ref) (_st : List Byte) : BRes := { cyc := 2, ctl := .jump (e.val (at_ ins 0)) }

/-- Form of JMPC. -/
def sigJmpc : Sig :=
  { op := 0x1602, nOut := 0, ok := fun i _ => i.length == 2 && (at_ i 0).ty == .bool && (at_ i 1).isImm .u16 }

/-- JMPC (R512): jumps when g is TRUE. -/
def bodyJmpc (e : Env) (ins _outs : List Ref) (_st : List Byte) : BRes :=
  { cyc := 3, ctl := if e.val (at_ ins 0) != 0 then .jump (e.val (at_ ins 1)) else .next }

/-- Form of JMPN. -/
def sigJmpn : Sig := { sigJmpc with op := 0x1603 }

/-- JMPN (R512): jumps when g is FALSE. -/
def bodyJmpn (e : Env) (ins _outs : List Ref) (_st : List Byte) : BRes :=
  { cyc := 3, ctl := if e.val (at_ ins 0) != 0 then .next else .jump (e.val (at_ ins 1)) }

/-- Form of LOOPB: limit and target immediates, a UINT16 counter in LOC. -/
def sigLoopb : Sig :=
  { op := 0x1604, nOut := 1
    ok := fun i o => i.length == 2 && (at_ i 0).isImm .u16 && (at_ i 1).isImm .u16 && (at_ o 0).sp == .loc && (at_ o 0).ty == .u16 }

/-- LOOPB (R512): raises cnt, then jumps back while cnt < limit; else cnt is 0 and the job goes on. -/
def bodyLoopb (e : Env) (ins outs : List Ref) (_st : List Byte) : BRes :=
  let n := (e.val (at_ outs 0) + 1) % 65536
  if n < e.val (at_ ins 0) then { wr := puts outs [n], cyc := 4, ctl := .jump (e.val (at_ ins 1)) }
  else { wr := puts outs [0], cyc := 4 }

/-- Form of CALL. -/
def sigCall : Sig := { op := 0x1605, nOut := 0, ok := fun i _ => i.length == 1 && (at_ i 0).isImm .u16 }

/-- CALL (R96): starts the named list of the same image. -/
def bodyCall (e : Env) (ins _outs : List Ref) (_st : List Byte) : BRes := { cyc := 6, ctl := .call (e.val (at_ ins 0)) }

/-- Form of RET. -/
def sigRet : Sig := { op := 0x1606, nOut := 0, ok := fun i _ => i.isEmpty }

/-- RET (R96). -/
def bodyRet (_e : Env) (_ins _outs : List Ref) (_st : List Byte) : BRes := { cyc := 4, ctl := .ret }

/-- Form of NOP. -/
def sigNop : Sig := { op := 0x1607, nOut := 0, ok := fun i _ => i.isEmpty }

/-- NOP (R107). -/
def bodyNop (_e : Env) (_ins _outs : List Ref) (_st : List Byte) : BRes := { cyc := 1 }

/-- Block JMP. -/
def execJmp (b : Blk) (s : State) : Host.Outcome State Fault Refusal := runBlock sigJmp bodyJmp b s

/-- Block JMPC. -/
def execJmpc (b : Blk) (s : State) : Host.Outcome State Fault Refusal := runBlock sigJmpc bodyJmpc b s

/-- Block JMPN. -/
def execJmpn (b : Blk) (s : State) : Host.Outcome State Fault Refusal := runBlock sigJmpn bodyJmpn b s

/-- Block LOOPB. -/
def execLoopb (b : Blk) (s : State) : Host.Outcome State Fault Refusal := runBlock sigLoopb bodyLoopb b s

/-- Block CALL. -/
def execCall (b : Blk) (s : State) : Host.Outcome State Fault Refusal := runBlock sigCall bodyCall b s

/-- Block RET. -/
def execRet (b : Blk) (s : State) : Host.Outcome State Fault Refusal := runBlock sigRet bodyRet b s

/-- Block NOP. -/
def execNop (b : Blk) (s : State) : Host.Outcome State Fault Refusal := runBlock sigNop bodyNop b s

end Sys2Proof.Machine
end

