-- ==== Sys2Proof/Machine/Logic.lean ====
section
/-! DEFINITION. The logic, bit, compare, select and move blocks (families 0x01 and 0x02 of R107): R97, R99, R101, R102, R106,
R512. -/
namespace Sys2Proof.Machine

/-! ### Operand forms -/

/-- All operands of a list have type `t`. -/
def allTy (t : Ty) (l : List Ref) : Bool := l.all (fun r => r.ty == t)

/-- Between `lo` and `hi` inputs and one output of one type that passes the test. -/
def sameTy (lo hi : Nat) (p : Ty → Bool) (i o : List Ref) : Bool :=
  decide (lo ≤ i.length) && decide (i.length ≤ hi) && o.length == 1 && p (at_ o 0).ty && allTy (at_ o 0).ty i

/-- BOOL or UINTn. -/
def Ty.isLogic (t : Ty) : Bool := t == .bool || t.isU

/-- Raw values of a list of operands. -/
def Env.vals (e : Env) (l : List Ref) : List Nat := l.map e.val

/-- One raw result written to the output. -/
def one (outs : List Ref) (v cyc : Nat) : BRes := { wr := puts outs [v], cyc := cyc }

/-! ### Logic (0x0101 to 0x0104) -/

/-- Cycles of AND, OR and XOR: 4, and 1 more per started group of 4 inputs beyond 4. -/
def logicCyc (n : Nat) : Nat := 4 + cdiv (n - 4) 4

/-- Form of AND, OR and XOR. -/
def sigLogic (op : Nat) : Sig := { op := op, ok := sameTy 2 16 Ty.isLogic }

/-- Folds an operation over the raw inputs. -/
def foldRaw (f : Nat → Nat → Nat) (l : List Nat) : Nat := match l with | [] => 0 | a :: r => r.foldl f a

/-- AND (R107). -/
def bodyAnd (e : Env) (ins outs : List Ref) (_st : List Byte) : BRes := one outs (foldRaw Nat.land (e.vals ins)) (logicCyc ins.length)

/-- OR (R107). -/
def bodyOr (e : Env) (ins outs : List Ref) (_st : List Byte) : BRes := one outs (foldRaw Nat.lor (e.vals ins)) (logicCyc ins.length)

/-- XOR (R107). -/
def bodyXor (e : Env) (ins outs : List Ref) (_st : List Byte) : BRes := one outs (foldRaw Nat.xor (e.vals ins)) (logicCyc ins.length)

/-- NOT of one value: the other truth value of a BOOL, every bit turned over otherwise. -/
def notRaw (t : Ty) (v : Nat) : Nat := match t with | .bool => 1 - v | _ => 2 ^ t.width - 1 - v

/-- Form of NOT. -/
def sigNot : Sig := { op := 0x0104, ok := sameTy 1 1 Ty.isLogic }

/-- NOT (R107). -/
def bodyNot (e : Env) (ins outs : List Ref) (_st : List Byte) : BRes := one outs (notRaw (at_ ins 0).ty (e.val (at_ ins 0))) 4

/-! ### Shifts and bits (R99) -/

/-- Form of a shift: a value, a UINT8 count, a result of the value's type. -/
def sigShift (op : Nat) (p : Ty → Bool) : Sig :=
  { op := op, ok := fun i o => i.length == 2 && p (at_ i 0).ty && (at_ i 1).ty == .u8 && (at_ o 0).ty == (at_ i 0).ty }

/-- SHL: a count of at least the width gives 0. -/
def shlRaw (w a n : Nat) : Nat := if w ≤ n then 0 else a * 2 ^ n % 2 ^ w

/-- SHR: a count of at least the width gives 0. -/
def shrRaw (w a n : Nat) : Nat := if w ≤ n then 0 else a / 2 ^ n

/-- ASR: a count of at least the width gives all sign bits. -/
def asrRaw (w a n : Nat) : Nat := unsigned w (signed w a / (2 ^ Nat.min n w : Int))

/-- ROL by the count modulo the width. -/
def rolRaw (w a n : Nat) : Nat := a * 2 ^ (n % w) % 2 ^ w + a / 2 ^ (w - n % w)

/-- ROR by the count modulo the width. -/
def rorRaw (w a n : Nat) : Nat := a / 2 ^ (n % w) + a % 2 ^ (n % w) * 2 ^ (w - n % w) % 2 ^ w

/-- A shift block by its operation on raw values. -/
def bodyShift (f : Nat → Nat → Nat → Nat) (e : Env) (ins outs : List Ref) : BRes :=
  one outs (f (at_ ins 0).ty.width (e.val (at_ ins 0)) (e.val (at_ ins 1))) 4

/-- SHL (R99). -/
def bodyShl (e : Env) (ins outs : List Ref) (_st : List Byte) : BRes := bodyShift shlRaw e ins outs

/-- SHR (R99). -/
def bodyShr (e : Env) (ins outs : List Ref) (_st : List Byte) : BRes := bodyShift shrRaw e ins outs

/-- ASR (R99). -/
def bodyAsr (e : Env) (ins outs : List Ref) (_st : List Byte) : BRes := bodyShift asrRaw e ins outs

/-- ROL (R99). -/
def bodyRol (e : Env) (ins outs : List Ref) (_st : List Byte) : BRes := bodyShift rolRaw e ins outs

/-- ROR (R99). -/
def bodyRor (e : Env) (ins outs : List Ref) (_st : List Byte) : BRes := bodyShift rorRaw e ins outs

/-- Form of BITGET. -/
def sigBitget : Sig :=
  { op := 0x010A, ok := fun i o => i.length == 2 && (at_ i 0).ty.isU && (at_ i 1).ty.isU && (at_ o 0).ty == .bool }

/-- BITGET: a bit number of at least the width reads FALSE (R99). -/
def bodyBitget (e : Env) (ins outs : List Ref) (_st : List Byte) : BRes :=
  let n := e.val (at_ ins 1)
  one outs (if (at_ ins 0).ty.width ≤ n then 0 else b01 (bit (e.val (at_ ins 0)) n)) 4

/-- Form of BITSET. -/
def sigBitset : Sig :=
  { op := 0x010B
    ok := fun i o => i.length == 3 && (at_ i 0).ty.isU && (at_ i 1).ty.isU && ((at_ i 2).ty.isU || (at_ i 2).ty == .bool)
      && (at_ o 0).ty == (at_ i 0).ty }

/-- A value with one bit set or cleared; unchanged when the number is at least the width (R99). -/
def bitsetRaw (w a n v : Nat) : Nat :=
  if w ≤ n then a else if v ≠ 0 then Nat.lor a (2 ^ n) else if bit a n then cut a (2 ^ n) else a

/-- BITSET (R99). -/
def bodyBitset (e : Env) (ins outs : List Ref) (_st : List Byte) : BRes :=
  one outs (bitsetRaw (at_ ins 0).ty.width (e.val (at_ ins 0)) (e.val (at_ ins 1)) (e.val (at_ ins 2))) 4

/-- Form of POPCNT. -/
def sigPopcnt : Sig := { op := 0x010C, ok := fun i o => i.length == 1 && (at_ i 0).ty.isU && (at_ o 0).ty == .u8 }

/-- Number of bits set among the lowest `w`. -/
def popRaw (w a : Nat) : Nat := ((List.range w).filter (fun i => bit a i)).length

/-- POPCNT (R107). -/
def bodyPopcnt (e : Env) (ins outs : List Ref) (_st : List Byte) : BRes := one outs (popRaw (at_ ins 0).ty.width (e.val (at_ ins 0))) 4

/-! ### Compares (0x0201 to 0x0206) -/

/-- The order of two raw values of a type; none with a NaN (R101, R102). -/
def Ty.cmp (t : Ty) (a b : Nat) : Option Ordering := if t.isF then t.fmt.cmp a b else some (compare (t.int a) (t.int b))

/-- Form of a compare: two operands of one type and a BOOL. -/
def sigCmp (op : Nat) (p : Ty → Bool) : Sig :=
  { op := op, ok := fun i o => i.length == 2 && p (at_ i 0).ty && (at_ i 1).ty == (at_ i 0).ty && (at_ o 0).ty == .bool }

/-- Cycles of a block that takes 6 on floats and 4 otherwise. -/
def fCyc (t : Ty) : Nat := if t.isF then 6 else 4

/-- A compare block by the orders in which it is TRUE; `nan` with a NaN operand. -/
def bodyCmp (p : Ordering → Bool) (nan : Bool) (e : Env) (ins outs : List Ref) : BRes :=
  let t := (at_ ins 0).ty
  one outs (b01 (match t.cmp (e.val (at_ ins 0)) (e.val (at_ ins 1)) with | some o => p o | none => nan)) (fCyc t)

/-- EQ (R102, R107). -/
def bodyEq (e : Env) (ins outs : List Ref) (_st : List Byte) : BRes := bodyCmp (· == .eq) false e ins outs

/-- NE (R102, R107). -/
def bodyNe (e : Env) (ins outs : List Ref) (_st : List Byte) : BRes := bodyCmp (· != .eq) true e ins outs

/-- LT (R102, R107). -/
def bodyLt (e : Env) (ins outs : List Ref) (_st : List Byte) : BRes := bodyCmp (· == .lt) false e ins outs

/-- LE (R102, R107). -/
def bodyLe (e : Env) (ins outs : List Ref) (_st : List Byte) : BRes := bodyCmp (· != .gt) false e ins outs

/-- GT (R102, R107). -/
def bodyGt (e : Env) (ins outs : List Ref) (_st : List Byte) : BRes := bodyCmp (· == .gt) false e ins outs

/-- GE (R102, R107). -/
def bodyGe (e : Env) (ins outs : List Ref) (_st : List Byte) : BRes := bodyCmp (· != .lt) false e ins outs

/-! ### Select, minimum, maximum, limit (0x0207 to 0x020B) -/

/-- Form of SEL. -/
def sigSel : Sig :=
  { op := 0x0207
    ok := fun i o => i.length == 3 && (at_ i 0).ty == .bool && allTy (at_ o 0).ty (i.drop 1) }

/-- SEL: b when g is TRUE (R107). -/
def bodySel (e : Env) (ins outs : List Ref) (_st : List Byte) : BRes :=
  one outs (if e.val (at_ ins 0) != 0 then e.val (at_ ins 2) else e.val (at_ ins 1)) 4

/-- Form of MUX. -/
def sigMux : Sig :=
  { op := 0x0208
    ok := fun i o => decide (3 ≤ i.length) && decide (i.length ≤ 17) && (at_ i 0).ty.isInt && allTy (at_ o 0).ty (i.drop 1) }

/-- An index brought into 0 to n − 1. -/
def clampIdx (k : Int) (n : Nat) : Nat := Nat.min k.toNat (n - 1)

/-- MUX: input k, with k clamped (R107). -/
def bodyMux (e : Env) (ins outs : List Ref) (_st : List Byte) : BRes :=
  let k := clampIdx ((at_ ins 0).ty.int (e.val (at_ ins 0))) (ins.length - 1)
  one outs (e.val (at_ ins (k + 1))) 6

/-- The smaller of two raw values of a type. -/
def Ty.min (t : Ty) (a b : Nat) : Nat := if t.isF then t.fmt.min a b else if t.int b < t.int a then b else a

/-- The larger of two raw values of a type. -/
def Ty.max (t : Ty) (a b : Nat) : Nat := if t.isF then t.fmt.max a b else if t.int a < t.int b then b else a

/-- Form of MIN and MAX. -/
def sigMinMax (op : Nat) : Sig := { op := op, ok := sameTy 2 8 Ty.isNum }

/-- MIN (R102, R107). -/
def bodyMin (e : Env) (ins outs : List Ref) (_st : List Byte) : BRes :=
  one outs (foldRaw (at_ ins 0).ty.min (e.vals ins)) (fCyc (at_ ins 0).ty)

/-- MAX (R102, R107). -/
def bodyMax (e : Env) (ins outs : List Ref) (_st : List Byte) : BRes :=
  one outs (foldRaw (at_ ins 0).ty.max (e.vals ins)) (fCyc (at_ ins 0).ty)

/-- Form of LIMIT. -/
def sigLimit : Sig := { op := 0x020B, ok := sameTy 3 3 Ty.isNum }

/-- y = MIN(MAX(x, mn), mx) (R512). -/
def limitRaw (t : Ty) (mn x mx : Nat) : Nat := t.min (t.max x mn) mx

/-- LIMIT (R512). -/
def bodyLimit (e : Env) (ins outs : List Ref) (_st : List Byte) : BRes :=
  one outs (limitRaw (at_ ins 0).ty (e.val (at_ ins 0)) (e.val (at_ ins 1)) (e.val (at_ ins 2))) (fCyc (at_ ins 0).ty)

/-! ### Moves (0x020C to 0x020F) -/

/-- Form of MOVE. -/
def sigMove : Sig := { op := 0x020C, ok := fun i o => i.length == 1 && (at_ o 0).ty == (at_ i 0).ty }

/-- MOVE: a value, or as many elements as both variables have (R107; log entry 16). -/
def bodyMove (e : Env) (ins outs : List Ref) (_st : List Byte) : BRes :=
  let a := at_ ins 0
  let y := at_ outs 0
  let n := Nat.min (e.elems a) (e.elems y)
  let bytes := (List.range n).flatMap (fun i => leBytes a.ty.size (e.elem a i))
  { wr := [(y, 0, bytes)], cyc := 4 + bytes.length / 32 }

/-- Form of LDX: an array in memory, a UINT16 index, a result of the array's type. -/
def sigLdx : Sig :=
  { op := 0x020D
    ok := fun i o => i.length == 2 && (at_ i 0).sp != .imm && (at_ i 1).ty == .u16 && (at_ o 0).ty == (at_ i 0).ty }

/-- LDX: element i; 0 beyond the variable's elements, with INDEX_RANGE (R106). -/
def bodyLdx (e : Env) (ins outs : List Ref) (_st : List Byte) : BRes :=
  let i := e.val (at_ ins 1)
  if i < e.elems (at_ ins 0) then one outs (e.elem (at_ ins 0) i) 6
  else { one outs 0 6 with eff := e.note 0x0421 0x086 }

/-- Form of STX: a value, a UINT16 index, an array of the value's type. -/
def sigStx : Sig :=
  { op := 0x020E, ok := fun i o => i.length == 2 && (at_ i 1).ty == .u16 && (at_ o 0).ty == (at_ i 0).ty }

/-- STX: writes element i; nothing beyond the variable's elements, with INDEX_RANGE (R106). -/
def bodyStx (e : Env) (ins outs : List Ref) (_st : List Byte) : BRes :=
  let i := e.val (at_ ins 1)
  let y := at_ outs 0
  if i < e.elems y then
    { wr := [(y, i * y.ty.size, leBytes y.ty.size (e.val (at_ ins 0)))], cyc := 6 }
  else { cyc := 6, eff := e.note 0x0421 0x086 }

/-- Form of GETST. -/
def sigGetst : Sig := { op := 0x020F, ok := fun i o => i.length == 1 && (at_ i 0).sp == .inp && (at_ o 0).ty == .u8 }

/-- GETST: the status byte of the declared input (R512). -/
def bodyGetst (e : Env) (ins outs : List Ref) (_st : List Byte) : BRes := one outs ((e.status (at_ ins 0)).getD 0) 4

/-! ### The rows -/

/-- Block AND. -/
def execAnd (b : Blk) (s : State) : Host.Outcome State Fault Refusal := runBlock (sigLogic 0x0101) bodyAnd b s

/-- Block OR. -/
def execOr (b : Blk) (s : State) : Host.Outcome State Fault Refusal := runBlock (sigLogic 0x0102) bodyOr b s

/-- Block XOR. -/
def execXor (b : Blk) (s : State) : Host.Outcome State Fault Refusal := runBlock (sigLogic 0x0103) bodyXor b s

/-- Block NOT. -/
def execNot (b : Blk) (s : State) : Host.Outcome State Fault Refusal := runBlock sigNot bodyNot b s

/-- Block SHL. -/
def execShl (b : Blk) (s : State) : Host.Outcome State Fault Refusal := runBlock (sigShift 0x0105 Ty.isInt) bodyShl b s

/-- Block SHR. -/
def execShr (b : Blk) (s : State) : Host.Outcome State Fault Refusal := runBlock (sigShift 0x0106 Ty.isInt) bodyShr b s

/-- Block ASR. -/
def execAsr (b : Blk) (s : State) : Host.Outcome State Fault Refusal := runBlock (sigShift 0x0107 Ty.isI) bodyAsr b s

/-- Block ROL. -/
def execRol (b : Blk) (s : State) : Host.Outcome State Fault Refusal := runBlock (sigShift 0x0108 Ty.isU) bodyRol b s

/-- Block ROR. -/
def execRor (b : Blk) (s : State) : Host.Outcome State Fault Refusal := runBlock (sigShift 0x0109 Ty.isU) bodyRor b s

/-- Block BITGET. -/
def execBitget (b : Blk) (s : State) : Host.Outcome State Fault Refusal := runBlock sigBitget bodyBitget b s

/-- Block BITSET. -/
def execBitset (b : Blk) (s : State) : Host.Outcome State Fault Refusal := runBlock sigBitset bodyBitset b s

/-- Block POPCNT. -/
def execPopcnt (b : Blk) (s : State) : Host.Outcome State Fault Refusal := runBlock sigPopcnt bodyPopcnt b s

/-- Block EQ. -/
def execEq (b : Blk) (s : State) : Host.Outcome State Fault Refusal := runBlock (sigCmp 0x0201 (fun _ => true)) bodyEq b s

/-- Block NE. -/
def execNe (b : Blk) (s : State) : Host.Outcome State Fault Refusal := runBlock (sigCmp 0x0202 (fun _ => true)) bodyNe b s

/-- Block LT. -/
def execLt (b : Blk) (s : State) : Host.Outcome State Fault Refusal := runBlock (sigCmp 0x0203 Ty.isNum) bodyLt b s

/-- Block LE. -/
def execLe (b : Blk) (s : State) : Host.Outcome State Fault Refusal := runBlock (sigCmp 0x0204 Ty.isNum) bodyLe b s

/-- Block GT. -/
def execGt (b : Blk) (s : State) : Host.Outcome State Fault Refusal := runBlock (sigCmp 0x0205 Ty.isNum) bodyGt b s

/-- Block GE. -/
def execGe (b : Blk) (s : State) : Host.Outcome State Fault Refusal := runBlock (sigCmp 0x0206 Ty.isNum) bodyGe b s

/-- Block SEL. -/
def execSel (b : Blk) (s : State) : Host.Outcome State Fault Refusal := runBlock sigSel bodySel b s

/-- Block MUX. -/
def execMux (b : Blk) (s : State) : Host.Outcome State Fault Refusal := runBlock sigMux bodyMux b s

/-- Block MIN. -/
def execMin (b : Blk) (s : State) : Host.Outcome State Fault Refusal := runBlock (sigMinMax 0x0209) bodyMin b s

/-- Block MAX. -/
def execMax (b : Blk) (s : State) : Host.Outcome State Fault Refusal := runBlock (sigMinMax 0x020A) bodyMax b s

/-- Block LIMIT. -/
def execLimit (b : Blk) (s : State) : Host.Outcome State Fault Refusal := runBlock sigLimit bodyLimit b s

/-- Block MOVE. -/
def execMove (b : Blk) (s : State) : Host.Outcome State Fault Refusal := runBlock sigMove bodyMove b s

/-- Block LDX. -/
def execLdx (b : Blk) (s : State) : Host.Outcome State Fault Refusal := runBlock sigLdx bodyLdx b s

/-- Block STX. -/
def execStx (b : Blk) (s : State) : Host.Outcome State Fault Refusal := runBlock sigStx bodyStx b s

/-- Block GETST. -/
def execGetst (b : Blk) (s : State) : Host.Outcome State Fault Refusal := runBlock sigGetst bodyGetst b s

end Sys2Proof.Machine
end

