-- ==== Sys2Proof/Machine/Transc.lean ====
section
/-! DEFINITION. The transcendental float blocks (R102): the exact result is computed in fixed point far beyond the precision of
binary64, and the block gives one of the floats within 1 ulp of it; which one is the hardware's fixed algorithm, a free value
of `Config` (log entry 14). -/
namespace Sys2Proof.Machine

/-- Fraction bits of the fixed-point computations. -/
def fxP : Nat := 1300

/-- A fraction in fixed point. -/
def fx (n : Int) (d : Nat) : Int := n * 2 ^ fxP / d

/-- Product in fixed point. -/
def fxMul (a b : Int) : Int := a * b / 2 ^ fxP

/-- Sum of t, t·z2/3, t·z2²/5, … with alternating signs when `alt`: the series of atan and atanh. -/
def atanSum (fuel i : Nat) (t z2 : Int) (alt : Bool) : Int :=
  match fuel with
  | 0 => 0
  | n + 1 => t / (2 * i + 1) + atanSum n (i + 1) (fxMul (if alt then -t else t) z2) z2 alt

/-- Sum of t, t·x/(i+1), t·x²/((i+1)(i+2)), …: the series of exp. -/
def expSum (fuel i : Nat) (t x : Int) : Int :=
  match fuel with
  | 0 => 0
  | n + 1 => t + expSum n (i + 1) (fxMul t x / (i + 1)) x

/-- The series of sin (`i` = 1, t = x) and cos (`i` = 0, t = 1): each term is the one before × −x2 / ((i+1)(i+2)). -/
def trigSum (fuel i : Nat) (t x2 : Int) : Int :=
  match fuel with
  | 0 => 0
  | n + 1 => t + trigSum n (i + 2) (-(fxMul t x2) / ((i + 1) * (i + 2))) x2

/-- atan of |z| below 0.21. -/
def fxAtanS (z : Int) : Int := atanSum 420 0 z (fxMul z z) true

/-- atanh of |z| up to 1/3. -/
def fxAtanh (z : Int) : Int := atanSum 420 0 z (fxMul z z) false

/-- π. -/
def fxPi : Int := 16 * fxAtanS (fx 1 5) - 4 * fxAtanS (fx 1 239)

/-- ln 2. -/
def fxLn2 : Int := 2 * fxAtanh (fx 1 3)

/-- t / (1 + √(1 + t²)): the tangent of half the angle. -/
def fxHalf (t : Int) : Int :=
  let one : Int := 2 ^ fxP
  t * 2 ^ fxP / (one + Nat.sqrt ((one * one + t * t).toNat))

/-- atan of 0 ≤ t ≤ 1. -/
def fxAtan (t : Int) : Int := 8 * fxAtanS (fxHalf (fxHalf (fxHalf t)))

/-- The floats within 1 ulp of the value n / d, as bodies without sign. -/
def Fmt.near (f : Fmt) (n d : Nat) : List Nat :=
  let r := (f.round false n d).1
  if r = f.inf false then [r]
  else
    let emin : Int := 1 - (f.bias : Int)
    let e := if n = 0 then emin else exp2 n d
    let u := (if e < emin then emin else e) - ((f.p : Int) - 1)
    let l := [r - 1, r, r + 1].filter (fun c =>
      match f.dec c with
      | .num _ m g =>
        -- |c − v| ≤ ulp (1 + 2^−100), scaled by 2^100 / ulp
        let x := scale2 m 1 (g - u)
        decide ((x.1 * d * 2 ^ 100 : Int) - (scale2 n 1 (-u)).1 * x.2 * 2 ^ 100 / (scale2 n 1 (-u)).2 ≤ (2 ^ 100 + 1) * (d * x.2)
          ∧ ((scale2 n 1 (-u)).1 * x.2 * 2 ^ 100 / (scale2 n 1 (-u)).2 : Int) - x.1 * d * 2 ^ 100 ≤ (2 ^ 100 + 1) * (d * x.2))
      | _ => false)
    l.dedup

/-- The block's result: the float of `near` that the hardware's algorithm gives, with its sign and events. -/
def Fmt.pick (f : Fmt) (op a b : Nat) (neg : Bool) (n d : Nat) : Nat × List Fev :=
  let l := f.near n d
  let r := l.getD (Config.transc op f.w a b % l.length) 0
  (b01 neg * 2 ^ (f.w - 1) + r, if r = f.inf false then [.over] else if 0 < r ∧ r < 2 ^ (f.p - 1) then [.sub] else [])

/-- FEXP. -/
def Fmt.exp (f : Fmt) (a : Nat) : Nat × List Fev :=
  match f.dec a with
  | .nan => f.quiet a a
  | .inf s => (if s then f.zero false else f.inf false, [])
  | .num s m e =>
    if m = 0 then f.ofInt 1
    else
      let x := ratOf s m e
      if 2000 * (x.2 : Int) < x.1 then (f.inf false, [.over])
      else
        let v := if x.1 < -2000 * (x.2 : Int) then -2000 * 2 ^ fxP else fx x.1 x.2
        let k := v / fxLn2
        let y := scale2 (expSum 400 0 (2 ^ fxP) (v - k * fxLn2)).toNat (2 ^ fxP) k
        f.pick 0x0508 a 0 false y.1 y.2

/-- FLN. -/
def Fmt.ln (f : Fmt) (a : Nat) : Nat × List Fev :=
  match f.dec a with
  | .nan => f.quiet a a
  | .inf s => if s then f.bad else (f.inf false, [])
  | .num s m e =>
    if m = 0 then (f.inf true, [.divZero])
    else if s then f.bad
    else
      let x := scale2 m 1 e
      if x.1 = x.2 then (f.zero false, [])
      else
        let k0 := exp2 x.1 x.2
        let y0 := scale2 x.1 x.2 (-k0)
        let big := decide (3 * y0.2 < 2 * y0.1)
        let k := if big then k0 + 1 else k0
        let y := if big then (y0.1, 2 * y0.2) else y0
        let v := 2 * fxAtanh (fx ((y.1 : Int) - y.2) (y.1 + y.2)) + k * fxLn2
        f.pick 0x0509 a 0 (decide (v < 0)) v.natAbs (2 ^ fxP)

/-- Sine of x, or cosine, as the quadrant's series: `q` quarter turns and the rest. -/
def fxTrig (q : Nat) (r : Int) : Int :=
  let x2 := fxMul r r
  match q % 4 with
  | 0 => trigSum 260 1 r x2
  | 1 => trigSum 260 0 (2 ^ fxP) x2
  | 2 => -trigSum 260 1 r x2
  | _ => -trigSum 260 0 (2 ^ fxP) x2

/-- FSIN (`q` 0) and FCOS (`q` 1). -/
def Fmt.trig (f : Fmt) (q a : Nat) : Nat × List Fev :=
  match f.dec a with
  | .nan => f.quiet a a
  | .inf _ => f.bad
  | .num s m e =>
    if m = 0 then (if q = 0 then (f.zero s, []) else f.ofInt 1)
    else
      let x := scale2 m 1 e
      let v := fx x.1 x.2
      let k := v / (fxPi / 2)
      let y := fxTrig (k.toNat + q) (v - k * fxPi / 2)
      f.pick (0x050A + q) a 0 (decide (y < 0) != (s && q == 0)) y.natAbs (2 ^ fxP)

/-- FATAN2 of ordinate `a` and abscissa `b`, with the IEEE 754 results for zeros and infinities. -/
def Fmt.atan2 (f : Fmt) (a b : Nat) : Nat × List Fev :=
  let at_ (neg : Bool) (v : Int) : Nat × List Fev := f.pick 0x050C a b neg v.natAbs (2 ^ fxP)
  match f.dec a, f.dec b with
  | .nan, _ => f.quiet a b
  | _, .nan => f.quiet a b
  | .inf s, .inf t => at_ s (if t then 3 * fxPi / 4 else fxPi / 4)
  | .inf s, .num _ _ _ => at_ s (fxPi / 2)
  | .num s _ _, .inf t => if t then at_ s fxPi else (f.zero s, [])
  | .num s m e, .num t n g =>
    if m = 0 then (if t then at_ s fxPi else (f.zero s, []))
    else if n = 0 then at_ s (fxPi / 2)
    else
      let x := scale2 m n (e - g)
      let phi := if x.1 ≤ x.2 then fxAtan (fx x.1 x.2) else fxPi / 2 - fxAtan (fx x.2 x.1)
      at_ s (if t then fxPi - phi else phi)

end Sys2Proof.Machine
end

