-- ==== Sys2Proof/Machine/Arith.lean ====
section
/-! DEFINITION. The integer, fixed, float and conversion blocks (families 0x03 to 0x06 of R107): R99 to R103, R512. -/
namespace Sys2Proof.Machine

/-! ### Integer (R99, R100) -/

/-- Integer values of the inputs. -/
def Env.ints (e : Env) (l : List Ref) : List Int := l.map (fun r => r.ty.int (e.val r))

/-- An integer result, clamped once with SAT or wrapped once (R99). -/
def intOne (e : Env) (outs : List Ref) (i : Int) (cyc : Nat) : BRes := one outs ((at_ outs 0).ty.raw e.blk.sat i) cyc

/-- Form of an integer block of `lo` to `hi` inputs. -/
def sigInt (op lo hi : Nat) (p : Ty → Bool) : Sig := { op := op, ok := sameTy lo hi p }

/-- Cycles that are 6 in 64 bits and 4 otherwise, or another pair. -/
def wCyc (r : Ref) (a b : Nat) : Nat := if r.ty.size = 8 then b else a

/-- ADD: the exact sum of all inputs (R99). -/
def bodyAdd (e : Env) (ins outs : List Ref) (_st : List Byte) : BRes := intOne e outs (e.ints ins).sum 4

/-- SUB (R99). -/
def bodySub (e : Env) (ins outs : List Ref) (_st : List Byte) : BRes :=
  intOne e outs ((e.ints ins).getD 0 0 - (e.ints ins).getD 1 0) 4

/-- MUL: the exact product of all inputs (R99). -/
def bodyMul (e : Env) (ins outs : List Ref) (_st : List Byte) : BRes := intOne e outs (e.ints ins).prod (wCyc (at_ ins 0) 4 6)

/-- The result of a division by zero (R100). -/
def divZero (t : Ty) (x : Int) : Int := if 0 < x then t.hi else if x < 0 then t.lo else 0

/-- DIV: toward zero; R100 for a zero divisor, with DIV_BY_ZERO. -/
def bodyDiv (e : Env) (ins outs : List Ref) (_st : List Byte) : BRes :=
  let a := (e.ints ins).getD 0 0
  let b := (e.ints ins).getD 1 0
  let cyc := wCyc (at_ ins 0) 12 40
  if b = 0 then { intOne e outs (divZero (at_ outs 0).ty a) cyc with eff := e.note 0x0420 0x084 }
  else intOne e outs (Int.tdiv a b) cyc

/-- MOD: the sign of the dividend; 0 for a zero divisor, with DIV_BY_ZERO (R99, R100). -/
def bodyMod (e : Env) (ins outs : List Ref) (_st : List Byte) : BRes :=
  let a := (e.ints ins).getD 0 0
  let b := (e.ints ins).getD 1 0
  let cyc := wCyc (at_ ins 0) 12 40
  if b = 0 then { intOne e outs 0 cyc with eff := e.note 0x0420 0x084 } else intOne e outs (Int.tmod a b) cyc

/-- NEG (R99). -/
def bodyNeg (e : Env) (ins outs : List Ref) (_st : List Byte) : BRes := intOne e outs (-((e.ints ins).getD 0 0)) 4

/-- ABS (R99). -/
def bodyAbs (e : Env) (ins outs : List Ref) (_st : List Byte) : BRes := intOne e outs ((e.ints ins).getD 0 0).natAbs 4

/-! ### Q (R101) -/

/-- A Q result, saturated. -/
def qOne (outs : List Ref) (i : Int) (cyc : Nat) : BRes := one outs ((at_ outs 0).ty.raw true i) cyc

/-- A value of `f` fraction bits brought to `g` fraction bits, to nearest even where bits are dropped. -/
def qTo (i : Int) (f g : Nat) : Int := if f ≤ g then i * 2 ^ (g - f) else rneInt i (2 ^ (f - g))

/-- Form of a Q block of one format. -/
def sigQ (op n : Nat) : Sig := { op := op, ok := sameTy n n Ty.isQ }

/-- Form of a Q block of any formats. -/
def sigQany (op n : Nat) : Sig :=
  { op := op, ok := fun i o => i.length == n && i.all (fun r => r.ty.isQ) && (at_ o 0).ty.isQ }

/-- QADD (R101). -/
def bodyQadd (e : Env) (ins outs : List Ref) (_st : List Byte) : BRes := qOne outs (e.ints ins).sum 4

/-- QSUB (R101). -/
def bodyQsub (e : Env) (ins outs : List Ref) (_st : List Byte) : BRes :=
  qOne outs ((e.ints ins).getD 0 0 - (e.ints ins).getD 1 0) 4

/-- QMUL: the exact product, brought to the output's fraction bits once (R101). -/
def bodyQmul (e : Env) (ins outs : List Ref) (_st : List Byte) : BRes :=
  qOne outs (qTo (e.ints ins).prod ((at_ ins 0).ty.frac + (at_ ins 1).ty.frac) (at_ outs 0).ty.frac) 6

/-- The exact quotient of two Q values to `fy` fraction bits, to nearest even. -/
def qQuot (a b : Int) (fa fb fy : Nat) : Int :=
  rneInt (a * 2 ^ (fy + fb) * b.sign) (b.natAbs * 2 ^ fa)

/-- QDIV (R101); R100 for a zero divisor, with DIV_BY_ZERO. -/
def bodyQdiv (e : Env) (ins outs : List Ref) (_st : List Byte) : BRes :=
  let a := (e.ints ins).getD 0 0
  let b := (e.ints ins).getD 1 0
  if b = 0 then { qOne outs (divZero (at_ outs 0).ty a) 20 with eff := e.note 0x0420 0x085 }
  else qOne outs (qQuot a b (at_ ins 0).ty.frac (at_ ins 1).ty.frac (at_ outs 0).ty.frac) 20

/-- QNEG (R101). -/
def bodyQneg (e : Env) (ins outs : List Ref) (_st : List Byte) : BRes := qOne outs (-((e.ints ins).getD 0 0)) 4

/-- QABS (R101). -/
def bodyQabs (e : Env) (ins outs : List Ref) (_st : List Byte) : BRes := qOne outs ((e.ints ins).getD 0 0).natAbs 4

/-- QSCALE (R101, R103). -/
def bodyQscale (e : Env) (ins outs : List Ref) (_st : List Byte) : BRes :=
  qOne outs (qTo ((e.ints ins).getD 0 0) (at_ ins 0).ty.frac (at_ outs 0).ty.frac) 4

/-! ### Float (R102) -/

/-- A float result with its events counted. -/
def fOne (outs : List Ref) (r : Nat × List Fev) (cyc : Nat) : BRes := { one outs r.1 cyc with eff := countEvs r.2 }

/-- Form of a float block of `n` operands of one float type. -/
def sigF (op n : Nat) : Sig := { op := op, ok := sameTy n n Ty.isF }

/-- Form of a block on F32 alone. -/
def sigF32 (op n : Nat) : Sig := { op := op, ok := sameTy n n (· == .f32) }

/-- A float block of two operands. -/
def bodyF2 (f : Fmt → Nat → Nat → Nat × List Fev) (a b : Nat) (e : Env) (ins outs : List Ref) : BRes :=
  fOne outs (f (at_ ins 0).ty.fmt (e.val (at_ ins 0)) (e.val (at_ ins 1))) (wCyc (at_ ins 0) a b)

/-- A float block of one operand. -/
def bodyF1 (f : Fmt → Nat → Nat × List Fev) (a b : Nat) (e : Env) (ins outs : List Ref) : BRes :=
  fOne outs (f (at_ ins 0).ty.fmt (e.val (at_ ins 0))) (wCyc (at_ ins 0) a b)

/-- FADD (R102). -/
def bodyFadd (e : Env) (ins outs : List Ref) (_st : List Byte) : BRes := bodyF2 Fmt.add 4 6 e ins outs

/-- FSUB (R102). -/
def bodyFsub (e : Env) (ins outs : List Ref) (_st : List Byte) : BRes := bodyF2 Fmt.sub 4 6 e ins outs

/-- FMUL (R102). -/
def bodyFmul (e : Env) (ins outs : List Ref) (_st : List Byte) : BRes := bodyF2 Fmt.mul 4 8 e ins outs

/-- FDIV (R102). -/
def bodyFdiv (e : Env) (ins outs : List Ref) (_st : List Byte) : BRes := bodyF2 Fmt.div 14 24 e ins outs

/-- FSQRT (R102). -/
def bodyFsqrt (e : Env) (ins outs : List Ref) (_st : List Byte) : BRes := bodyF1 Fmt.sqrt 16 30 e ins outs

/-- FABS (R102). -/
def bodyFabs (e : Env) (ins outs : List Ref) (_st : List Byte) : BRes := bodyF1 (fun f a => f.keep (f.abs a)) 4 4 e ins outs

/-- FNEG (R102). -/
def bodyFneg (e : Env) (ins outs : List Ref) (_st : List Byte) : BRes := bodyF1 (fun f a => f.keep (f.neg a)) 4 4 e ins outs

/-- FEXP (R102). -/
def bodyFexp (e : Env) (ins outs : List Ref) (_st : List Byte) : BRes := bodyF1 Fmt.exp 40 80 e ins outs

/-- FLN (R102). -/
def bodyFln (e : Env) (ins outs : List Ref) (_st : List Byte) : BRes := bodyF1 Fmt.ln 40 80 e ins outs

/-- FSIN (R102). -/
def bodyFsin (e : Env) (ins outs : List Ref) (_st : List Byte) : BRes := bodyF1 (fun f => f.trig 0) 48 96 e ins outs

/-- FCOS (R102). -/
def bodyFcos (e : Env) (ins outs : List Ref) (_st : List Byte) : BRes := bodyF1 (fun f => f.trig 1) 48 96 e ins outs

/-- FATAN2 (R102). -/
def bodyFatan2 (e : Env) (ins outs : List Ref) (_st : List Byte) : BRes := bodyF2 Fmt.atan2 60 120 e ins outs

/-! ### Conversion (R103) -/

/-- A raw value of one type as another: rounded toward zero with `trunc`, clamped between integers with `sat` (R103). -/
def cvtRaw (ti ty : Ty) (trunc sat : Bool) (a : Nat) : Nat × List Fev :=
  if ty = .bool then
    (b01 (if ti.isF then (match ti.fmt.dec a with | .num _ m _ => m != 0 | _ => true) else a != 0), [])
  else if ti.isF then
    (if ty.isF then ti.fmt.conv ty.fmt a else (ty.raw true (ti.fmt.toInt a ty.frac trunc), []))
  else
    let v := ti.int a
    if ty.isF then ty.fmt.ofFix v ti.frac
    else if ty.isQ then (ty.raw true (qTo v ti.frac ty.frac), [])
    else if ti.isQ then
      (ty.raw true (if trunc then Int.tdiv v (2 ^ ti.frac) else rneInt v (2 ^ ti.frac)), [])
    else (ty.raw sat v, [])

/-- Form of CVT: any type to any type. -/
def sigCvt : Sig := { op := 0x0601, optA := true, ok := fun i _ => i.length == 1 }

/-- CVT (R103). -/
def bodyCvt (e : Env) (ins outs : List Ref) (_st : List Byte) : BRes :=
  let ti := (at_ ins 0).ty
  let ty := (at_ outs 0).ty
  fOne outs (cvtRaw ti ty e.blk.optA e.blk.sat (e.val (at_ ins 0))) (if ti.isF || ty.isF then 6 else 4)

/-! ### Scaling (R512) -/

/-- base + (x − x0) · (y1 − y0) / (x1 − x0) as an exact fraction, rounded once to F32: SCALE with x raw, UNSCALE with x eng. -/
def lerp (x x0 x1 y0 y1 : Nat) : Nat × List Fev :=
  let f := fmt32
  match f.rat x, f.rat x0, f.rat x1, f.rat y0, f.rat y1 with
  | some x, some x0, some x1, some y0, some y1 =>
    let sub (a b : Int × Nat) : Int × Nat := (a.1 * b.2 - b.1 * a.2, a.2 * b.2)
    let n := sub x x0
    let d := sub x1 x0
    let s := sub y1 y0
    let num := n.1 * s.1
    if d.1 = 0 then
      (if num = 0 then f.bad else (f.inf (decide (num < 0)), [.divZero]))
    else
      -- y0 + num / (n.2 s.2) · d.2 / d.1
      let p := num * d.2 * d.1.sign
      let q := n.2 * s.2 * d.1.natAbs
      f.roundInt (y0.1 * q + p * y0.2) (y0.2 * q) false
  | _, _, _, _, _ => f.bad

/-- SCALE (R512): operands raw, rmin, rmax, emin, emax. -/
def bodyScale (e : Env) (ins outs : List Ref) (_st : List Byte) : BRes :=
  let v := e.vals ins
  fOne outs (lerp (v.getD 0 0) (v.getD 1 0) (v.getD 2 0) (v.getD 3 0) (v.getD 4 0)) 8

/-- UNSCALE (R512): operands eng, emin, emax, rmin, rmax. -/
def bodyUnscale (e : Env) (ins outs : List Ref) (_st : List Byte) : BRes :=
  let v := e.vals ins
  fOne outs (lerp (v.getD 0 0) (v.getD 1 0) (v.getD 2 0) (v.getD 3 0) (v.getD 4 0)) 8

/-- Form of LINT: F32 x, a table in CON, an immediate n of 1 to 64. -/
def sigLint : Sig :=
  { op := 0x0604
    ok := fun i o => i.length == 3 && (at_ i 0).ty == .f32 && (at_ i 1).sp == .con && (at_ i 2).sp == .imm
      && (at_ i 2).ty.isInt && decide (1 ≤ (at_ i 2).imm) && decide ((at_ i 2).imm ≤ 64) && (at_ o 0).ty == .f32 }

/-- The n points (x, y) of a LINT table. -/
def Env.points (e : Env) (r : Ref) (n : Nat) : List (Nat × Nat) :=
  (List.range n).map (fun i => (leNat (e.bytes .con (r.addr + 8 * i) 4), leNat (e.bytes .con (r.addr + 8 * i + 4) 4)))

/-- The piece of the table in which x lies, interpolated (R512). -/
def lintRaw (x : Nat) (ps : List (Nat × Nat)) : Nat × List Fev :=
  match ps with
  | [] => (0, [])
  | [p] => (p.2, [])
  | p :: q :: r =>
    match fmt32.cmp x p.1, fmt32.cmp x q.1 with
    | none, _ => (fmt32.nan, [])
    | some .gt, some .lt => lerp x p.1 q.1 p.2 q.2
    | some .gt, _ => lintRaw x (q :: r)
    | _, _ => (p.2, [])

/-- LINT (R512). -/
def bodyLint (e : Env) (ins outs : List Ref) (_st : List Byte) : BRes :=
  let n := e.val (at_ ins 2)
  let x := e.val (at_ ins 0)
  fOne outs (if fmt32.dec x = .nan then (fmt32.nan, []) else lintRaw x (e.points (at_ ins 1) n)) (10 + 2 * n)

/-! ### The rows -/

/-- Block ADD. -/
def execAdd (b : Blk) (s : State) : Host.Outcome State Fault Refusal := runBlock (sigInt 0x0301 2 8 Ty.isInt) bodyAdd b s

/-- Block SUB. -/
def execSub (b : Blk) (s : State) : Host.Outcome State Fault Refusal := runBlock (sigInt 0x0302 2 2 Ty.isInt) bodySub b s

/-- Block MUL. -/
def execMul (b : Blk) (s : State) : Host.Outcome State Fault Refusal := runBlock (sigInt 0x0303 2 4 Ty.isInt) bodyMul b s

/-- Block DIV. -/
def execDiv (b : Blk) (s : State) : Host.Outcome State Fault Refusal := runBlock (sigInt 0x0304 2 2 Ty.isInt) bodyDiv b s

/-- Block MOD. -/
def execMod (b : Blk) (s : State) : Host.Outcome State Fault Refusal := runBlock (sigInt 0x0305 2 2 Ty.isInt) bodyMod b s

/-- Block NEG. -/
def execNeg (b : Blk) (s : State) : Host.Outcome State Fault Refusal := runBlock (sigInt 0x0306 1 1 Ty.isI) bodyNeg b s

/-- Block ABS. -/
def execAbs (b : Blk) (s : State) : Host.Outcome State Fault Refusal := runBlock (sigInt 0x0307 1 1 Ty.isI) bodyAbs b s

/-- Block QADD. -/
def execQadd (b : Blk) (s : State) : Host.Outcome State Fault Refusal := runBlock (sigQ 0x0401 2) bodyQadd b s

/-- Block QSUB. -/
def execQsub (b : Blk) (s : State) : Host.Outcome State Fault Refusal := runBlock (sigQ 0x0402 2) bodyQsub b s

/-- Block QMUL. -/
def execQmul (b : Blk) (s : State) : Host.Outcome State Fault Refusal := runBlock (sigQany 0x0403 2) bodyQmul b s

/-- Block QDIV. -/
def execQdiv (b : Blk) (s : State) : Host.Outcome State Fault Refusal := runBlock (sigQany 0x0404 2) bodyQdiv b s

/-- Block QNEG. -/
def execQneg (b : Blk) (s : State) : Host.Outcome State Fault Refusal := runBlock (sigQ 0x0405 1) bodyQneg b s

/-- Block QABS. -/
def execQabs (b : Blk) (s : State) : Host.Outcome State Fault Refusal := runBlock (sigQ 0x0406 1) bodyQabs b s

/-- Block QSCALE. -/
def execQscale (b : Blk) (s : State) : Host.Outcome State Fault Refusal := runBlock (sigQany 0x0407 1) bodyQscale b s

/-- Block FADD. -/
def execFadd (b : Blk) (s : State) : Host.Outcome State Fault Refusal := runBlock (sigF 0x0501 2) bodyFadd b s

/-- Block FSUB. -/
def execFsub (b : Blk) (s : State) : Host.Outcome State Fault Refusal := runBlock (sigF 0x0502 2) bodyFsub b s

/-- Block FMUL. -/
def execFmul (b : Blk) (s : State) : Host.Outcome State Fault Refusal := runBlock (sigF 0x0503 2) bodyFmul b s

/-- Block FDIV. -/
def execFdiv (b : Blk) (s : State) : Host.Outcome State Fault Refusal := runBlock (sigF 0x0504 2) bodyFdiv b s

/-- Block FSQRT. -/
def execFsqrt (b : Blk) (s : State) : Host.Outcome State Fault Refusal := runBlock (sigF 0x0505 1) bodyFsqrt b s

/-- Block FABS. -/
def execFabs (b : Blk) (s : State) : Host.Outcome State Fault Refusal := runBlock (sigF 0x0506 1) bodyFabs b s

/-- Block FNEG. -/
def execFneg (b : Blk) (s : State) : Host.Outcome State Fault Refusal := runBlock (sigF 0x0507 1) bodyFneg b s

/-- Block FEXP. -/
def execFexp (b : Blk) (s : State) : Host.Outcome State Fault Refusal := runBlock (sigF 0x0508 1) bodyFexp b s

/-- Block FLN. -/
def execFln (b : Blk) (s : State) : Host.Outcome State Fault Refusal := runBlock (sigF 0x0509 1) bodyFln b s

/-- Block FSIN. -/
def execFsin (b : Blk) (s : State) : Host.Outcome State Fault Refusal := runBlock (sigF 0x050A 1) bodyFsin b s

/-- Block FCOS. -/
def execFcos (b : Blk) (s : State) : Host.Outcome State Fault Refusal := runBlock (sigF 0x050B 1) bodyFcos b s

/-- Block FATAN2. -/
def execFatan2 (b : Blk) (s : State) : Host.Outcome State Fault Refusal := runBlock (sigF 0x050C 2) bodyFatan2 b s

/-- Block CVT. -/
def execCvt (b : Blk) (s : State) : Host.Outcome State Fault Refusal := runBlock sigCvt bodyCvt b s

/-- Block SCALE. -/
def execScale (b : Blk) (s : State) : Host.Outcome State Fault Refusal := runBlock (sigF32 0x0602 5) bodyScale b s

/-- Block UNSCALE. -/
def execUnscale (b : Blk) (s : State) : Host.Outcome State Fault Refusal := runBlock (sigF32 0x0603 5) bodyUnscale b s

/-- Block LINT. -/
def execLint (b : Blk) (s : State) : Host.Outcome State Fault Refusal := runBlock sigLint bodyLint b s

end Sys2Proof.Machine
end

