-- ==== Sys2Proof/Machine/Timers.lean ====
section
/-! DEFINITION. The stateful blocks of chapter 5: native timers, compatibility timers, counters and edges (families 0x07 to 0x0A
of R107): R112 to R117, R121 to R125. -/
namespace Sys2Proof.Machine

/-! ### Native timers (R114 to R117) -/

/-- A native timer as an evaluation finds and leaves it: START, ACC, RUNNING, PREV_IN, PREV_RST, EXPIRED; q and et. -/
structure NT where
  start   : Nat
  acc     : Nat
  run     : Bool
  prev    : Bool
  prevRst : Bool
  expired : Bool
  q       : Bool := false
  et      : Nat := 0
  deriving DecidableEq, Repr

/-- Δ = (t_ev − START) mod 2^64 (R114). -/
def NT.delta (n : NT) (tEv : Nat) : Nat := (tEv + 2 ^ 64 - n.start) % 2 ^ 64

/-- A timer started at the evaluation time. -/
def NT.begin_ (n : NT) (tEv : Nat) : NT := { n with start := tEv, run := true }

/-- TON (R114). -/
def NT.ton (n : NT) (i : Bool) (pt tEv : Nat) : NT :=
  if i then
    let n := if n.prev then n else n.begin_ tEv
    if n.run then { n with et := Nat.min (n.delta tEv) pt, q := decide (pt ≤ n.delta tEv) } else { n with et := 0, q := false }
  else { n with q := false, et := 0, run := false }

/-- TOF (R114). -/
def NT.tof (n : NT) (i : Bool) (pt tEv : Nat) : NT :=
  if i then { n with q := true, et := 0, run := false, expired := false }
  else
    let n := if n.prev then n.begin_ tEv else n
    if n.run then
      (if n.delta tEv < pt then { n with q := true, et := n.delta tEv }
       else { n with q := false, et := pt, run := false, expired := true })
    else { n with q := false, et := if n.expired then pt else 0 }

/-- TP (R114). -/
def NT.tp (n : NT) (i : Bool) (pt tEv : Nat) : NT :=
  let n := if i && !n.prev && !n.run then n.begin_ tEv else n
  if n.run && decide (n.delta tEv < pt) then { n with q := true, et := n.delta tEv }
  else { n with q := false, run := false, et := if i then pt else 0 }

/-- TPULSE (R114). -/
def NT.tpulse (n : NT) (i : Bool) (pt tEv : Nat) : NT :=
  let n := if i && !n.prev then n.begin_ tEv else n
  if n.run && decide (n.delta tEv < pt) then { n with q := true, et := n.delta tEv }
  else { n with q := false, run := false, et := 0 }

/-- TRET (R114). -/
def NT.tret (n : NT) (i rst : Bool) (pt tEv : Nat) : NT :=
  if rst then { n with acc := 0, et := 0, q := false, run := false }
  else
    let n := if i && !n.prev then n.begin_ tEv else n
    if i && n.run then
      { n with et := Nat.min (n.acc + n.delta tEv) pt, q := decide (pt ≤ n.acc + n.delta tEv) }
    else
      let n := if n.run then { n with acc := Nat.min (n.acc + n.delta tEv) pt, run := false } else n
      { n with et := Nat.min n.acc pt, q := decide (pt ≤ n.acc) }

/-- Reads a timer out of its instance (R115). -/
def NT.load (b : List Byte) : NT :=
  { start := fld b 0 8, acc := fld b 8 8, run := flg b 16 0, prev := flg b 16 2, prevRst := flg b 16 3, expired := flg b 16 5 }

/-- The instance after an evaluation (R115): PREV_IN = in, PT_LAST = pt; EVT_ARMED and EVT_NO stay. -/
def NT.store (n : NT) (b : List Byte) (i rst : Bool) (pt : Nat) : List Byte :=
  leBytes 8 n.start ++ leBytes 8 n.acc ++ flagByte [n.run, n.q, i, rst, flg b 16 4, n.expired] ++ [0] ++ (padTo 20 b).drop 18
    ++ leBytes 4 0 ++ leBytes 8 pt

/-- A native timer block: a running timer whose start lies in the future restarts now and is recorded (R117). -/
def bodyNt (f : NT → Nat → NT) (i rst : Bool) (pt : Nat) (e : Env) (outs : List Ref) (st : List Byte) : BRes :=
  let n := NT.load st
  let back := n.run && decide (2 ^ 63 ≤ n.delta e.tEv)
  let n := f (if back then { n with start := e.tEv } else n) e.tEv
  let id := e.blk.inst.getD 0
  { wr := puts outs [b01 n.q, n.et], inst := some (n.store st i rst pt)
    job := fun j => { j with evalInst := if j.evalInst.contains id then j.evalInst else j.evalInst ++ [id] }
    eff := when back (record 0x0430 (0x0700 + e.t) (w64 id))
    cyc := if e.blk.optB then 14 else 10 }

/-- An input that reads TRUE. -/
def Env.on (e : Env) (r : Ref) : Bool := e.val r != 0

/-- Form of TON, TOF, TP and TPULSE. -/
def sigNt (op : Nat) : Sig :=
  { op := op, inst := true, optA := true, optB := true, nOut := 2
    ok := fun i o => i.length == 2 && (at_ i 0).ty == .bool && (at_ i 1).ty == .u64 && (at_ o 0).ty == .bool && (at_ o 1).ty == .u64 }

/-- Form of TRET. -/
def sigTret : Sig :=
  { op := 0x0705, inst := true, optA := true, optB := true, nOut := 2
    ok := fun i o => i.length == 3 && (at_ i 0).ty == .bool && (at_ i 1).ty == .bool && (at_ i 2).ty == .u64
      && (at_ o 0).ty == .bool && (at_ o 1).ty == .u64 }

/-- A timer of two inputs by its rule. -/
def bodyNt2 (f : NT → Bool → Nat → Nat → NT) (e : Env) (ins outs : List Ref) (st : List Byte) : BRes :=
  let i := e.on (at_ ins 0)
  let pt := e.val (at_ ins 1)
  bodyNt (fun n t => f n i pt t) i false pt e outs st

/-- TRET. -/
def bodyTret (e : Env) (ins outs : List Ref) (st : List Byte) : BRes :=
  let i := e.on (at_ ins 0)
  let rst := e.on (at_ ins 1)
  let pt := e.val (at_ ins 2)
  bodyNt (fun n t => n.tret i rst pt t) i rst pt e outs st

/-! ### Compatibility timers (R121, R122) -/

/-- A compatibility timer: ACC, LAST_TN, RUNNING, PREV_IN; q and et. -/
structure CT where
  acc  : Nat
  last : Nat
  run  : Bool
  prev : Bool
  q    : Bool := false
  et   : Nat := 0
  deriving DecidableEq, Repr

/-- Reads one out of its instance (R121). -/
def CT.load (b : List Byte) : CT := { acc := fld b 0 4, last := fld b 4 4, run := flg b 8 0, prev := flg b 8 2 }

/-- The instance after an evaluation. -/
def CT.store (n : CT) (i : Bool) : List Byte :=
  leBytes 4 n.acc ++ leBytes 4 n.last ++ flagByte [n.run, n.q, i] ++ List.replicate 7 0

/-- The period added in a later job: P = PERIOD_K × T_TICK_US (R121). -/
def Env.period (e : Env) : Nat := fld (Mem.rdN e.job.sys 44 4) 0 4 * fld (Mem.rdN e.job.sys 40 4) 0 4

/-- Adds P once in a job later than LAST_TN, while running, up to pt; LAST_TN names the last job that added P (R121). -/
def CT.tick (n : CT) (p pt tn : Nat) : CT :=
  if !n.run || n.last == tn then n else { n with last := tn, acc := Nat.min (n.acc + p) pt }

/-- A start: ACC 0, LAST_TN the starting job's. -/
def CT.begin_ (n : CT) (tn : Nat) : CT := { n with acc := 0, last := tn, run := true }

/-- TONS (R121). -/
def CT.tons (n : CT) (i : Bool) (p pt tn : Nat) : CT :=
  let n := n.tick p pt tn
  if i then
    let n := if n.prev then n else n.begin_ tn
    if n.run then { n with et := Nat.min n.acc pt, q := decide (pt ≤ n.acc) } else { n with et := 0, q := false }
  else { n with q := false, et := 0, run := false }

/-- TOFS (R121): what EXPIRED of R114 says reads as ACC = pt. -/
def CT.tofs (n : CT) (i : Bool) (p pt tn : Nat) : CT :=
  let n := n.tick p pt tn
  if i then { n with q := true, et := 0, run := false }
  else
    let n := if n.prev then n.begin_ tn else n
    if n.run then
      (if n.acc < pt then { n with q := true, et := n.acc } else { n with q := false, et := pt, acc := pt, run := false })
    else { n with q := false, et := n.acc }

/-- TPS (R121). -/
def CT.tps (n : CT) (i : Bool) (p pt tn : Nat) : CT :=
  let n := if i && !n.prev && !n.run then n.begin_ tn else n.tick p pt tn
  if n.run && decide (n.acc < pt) then { n with q := true, et := n.acc }
  else { n with q := false, run := false, et := if i then pt else 0 }

/-- Form of a compatibility timer. -/
def sigCt (op : Nat) : Sig :=
  { op := op, inst := true, nOut := 2
    ok := fun i o => i.length == 2 && (at_ i 0).ty == .bool && (at_ i 1).ty == .u32 && (at_ o 0).ty == .bool && (at_ o 1).ty == .u32 }

/-- A compatibility timer by its rule. -/
def bodyCt (f : CT → Bool → Nat → Nat → Nat → CT) (e : Env) (ins outs : List Ref) (st : List Byte) : BRes :=
  let i := e.on (at_ ins 0)
  let n := f (CT.load st) i e.period (e.val (at_ ins 1)) (e.job.tn % 2 ^ 32)
  { wr := puts outs [b01 n.q, n.et], inst := some (n.store i), cyc := 8 }

/-! ### Counters (R125) -/

/-- A counter's instance: value, PREV_CU, PREV_CD, INIT_DONE. -/
def cntState (n v : Nat) (cu cd : Bool) (tail : Nat) : List Byte := leBytes n v ++ flagByte [cu, cd, true] ++ List.replicate tail 0

/-- Rising edge of an input against its stored value; none at the first evaluation. -/
def rising (st : List Byte) (o i : Nat) (b : Bool) : Bool := b && !(flg st o i) && flg st o 2

/-- Form of CTU and CTD. -/
def sigCtu (op : Nat) : Sig :=
  { op := op, inst := true, nOut := 2
    ok := fun i o => i.length == 3 && allTy .bool (i.take 2) && (at_ i 2).ty == .i32 && (at_ o 0).ty == .bool && (at_ o 1).ty == .i32 }

/-- A counter value clamped with SAT, else wrapped. -/
def Env.count (e : Env) (v : Int) : Int := Ty.i32.int (Ty.i32.raw e.blk.sat v)

/-- CTU (R125). -/
def bodyCtu (e : Env) (ins outs : List Ref) (st : List Byte) : BRes :=
  let cu := e.on (at_ ins 0)
  let v := signed 32 (fld st 0 4)
  let cv := if e.on (at_ ins 1) then 0 else if rising st 4 0 cu then e.count (v + 1) else v
  { wr := puts outs [b01 (decide (Ty.i32.int (e.val (at_ ins 2)) ≤ cv)), unsigned 32 cv]
    inst := some (cntState 4 (unsigned 32 cv) cu (flg st 4 1) 3), cyc := 8 }

/-- CTD (R125). -/
def bodyCtd (e : Env) (ins outs : List Ref) (st : List Byte) : BRes :=
  let cd := e.on (at_ ins 0)
  let v := signed 32 (fld st 0 4)
  let cv := if e.on (at_ ins 1) then Ty.i32.int (e.val (at_ ins 2)) else if rising st 4 1 cd then e.count (v - 1) else v
  { wr := puts outs [b01 (decide (cv ≤ 0)), unsigned 32 cv]
    inst := some (cntState 4 (unsigned 32 cv) (flg st 4 0) cd 3), cyc := 8 }

/-- Form of CTUD. -/
def sigCtud : Sig :=
  { op := 0x0903, inst := true, nOut := 3
    ok := fun i o => i.length == 5 && allTy .bool (i.take 4) && (at_ i 4).ty == .i32 && allTy .bool (o.take 2) && (at_ o 2).ty == .i32 }

/-- CTUD (R125). -/
def bodyCtud (e : Env) (ins outs : List Ref) (st : List Byte) : BRes :=
  let cu := e.on (at_ ins 0)
  let cd := e.on (at_ ins 1)
  let pv := Ty.i32.int (e.val (at_ ins 4))
  let v := signed 32 (fld st 0 4)
  let up := rising st 4 0 cu
  let dn := rising st 4 1 cd
  let cv := if e.on (at_ ins 2) then 0 else if e.on (at_ ins 3) then pv
    else if up && !dn then e.count (v + 1) else if dn && !up then e.count (v - 1) else v
  { wr := puts outs [b01 (decide (pv ≤ cv)), b01 (decide (cv ≤ 0)), unsigned 32 cv]
    inst := some (cntState 4 (unsigned 32 cv) cu cd 3), cyc := 8 }

/-- Form of CTW. -/
def sigCtw : Sig :=
  { op := 0x0904, inst := true
    ok := fun i o => i.length == 2 && allTy .bool i && (at_ o 0).ty == .u64 }

/-- CTW (R125). -/
def bodyCtw (e : Env) (ins outs : List Ref) (st : List Byte) : BRes :=
  let cu := e.on (at_ ins 0)
  let v := fld st 0 8
  let cv := if e.on (at_ ins 1) then 0 else if rising st 8 0 cu then Ty.u64.raw e.blk.sat (v + 1) else v
  { wr := puts outs [cv], inst := some (cntState 8 cv cu (flg st 8 1) 7), cyc := 8 }

/-! ### Edges (R123) -/

/-- PREV of an edge instance: at its first evaluation the input itself, or FALSE with cold edge. -/
def Env.prevOf (e : Env) (st : List Byte) (clk : Bool) : Bool :=
  if flg st 0 1 then flg st 0 0 else if e.blk.optA then false else clk

/-- Form of an edge block. -/
def sigEdge (op n : Nat) : Sig :=
  { op := op, inst := true, optA := true, nOut := n, ok := fun i o => i.length == 1 && allTy .bool (i ++ o) }

/-- An edge block by its outputs. -/
def bodyEdge (f : Bool → Bool → List Bool) (e : Env) (ins outs : List Ref) (st : List Byte) : BRes :=
  let clk := e.on (at_ ins 0)
  { wr := puts outs ((f clk (e.prevOf st clk)).map b01), inst := some (flagByte [clk, true] ++ List.replicate 7 0), cyc := 6 }

/-! ### The rows -/

/-- Block TON. -/
def execTon (b : Blk) (s : State) : Host.Outcome State Fault Refusal := runBlock (sigNt 0x0701) (bodyNt2 NT.ton) b s

/-- Block TOF. -/
def execTof (b : Blk) (s : State) : Host.Outcome State Fault Refusal := runBlock (sigNt 0x0702) (bodyNt2 NT.tof) b s

/-- Block TP. -/
def execTp (b : Blk) (s : State) : Host.Outcome State Fault Refusal := runBlock (sigNt 0x0703) (bodyNt2 NT.tp) b s

/-- Block TPULSE. -/
def execTpulse (b : Blk) (s : State) : Host.Outcome State Fault Refusal := runBlock (sigNt 0x0704) (bodyNt2 NT.tpulse) b s

/-- Block TRET. -/
def execTret (b : Blk) (s : State) : Host.Outcome State Fault Refusal := runBlock sigTret bodyTret b s

/-- Block TONS. -/
def execTons (b : Blk) (s : State) : Host.Outcome State Fault Refusal := runBlock (sigCt 0x0801) (bodyCt CT.tons) b s

/-- Block TOFS. -/
def execTofs (b : Blk) (s : State) : Host.Outcome State Fault Refusal := runBlock (sigCt 0x0802) (bodyCt CT.tofs) b s

/-- Block TPS. -/
def execTps (b : Blk) (s : State) : Host.Outcome State Fault Refusal := runBlock (sigCt 0x0803) (bodyCt CT.tps) b s

/-- Block CTU. -/
def execCtu (b : Blk) (s : State) : Host.Outcome State Fault Refusal := runBlock (sigCtu 0x0901) bodyCtu b s

/-- Block CTD. -/
def execCtd (b : Blk) (s : State) : Host.Outcome State Fault Refusal := runBlock (sigCtu 0x0902) bodyCtd b s

/-- Block CTUD. -/
def execCtud (b : Blk) (s : State) : Host.Outcome State Fault Refusal := runBlock sigCtud bodyCtud b s

/-- Block CTW. -/
def execCtw (b : Blk) (s : State) : Host.Outcome State Fault Refusal := runBlock sigCtw bodyCtw b s

/-- Block RTRIG. -/
def execRtrig (b : Blk) (s : State) : Host.Outcome State Fault Refusal :=
  runBlock (sigEdge 0x0A01 1) (bodyEdge (fun c p => [c && !p])) b s

/-- Block FTRIG. -/
def execFtrig (b : Blk) (s : State) : Host.Outcome State Fault Refusal :=
  runBlock (sigEdge 0x0A02 1) (bodyEdge (fun c p => [!c && p])) b s

/-- Block EDGE2. -/
def execEdge2 (b : Blk) (s : State) : Host.Outcome State Fault Refusal :=
  runBlock (sigEdge 0x0A03 2) (bodyEdge (fun c p => [c && !p, !c && p])) b s

end Sys2Proof.Machine
end

