-- ==== Sys2Proof/Machine/Control.lean ====
section
/-! DEFINITION. The control, sequencing, alarm, voting and shutdown blocks (families 0x0B to 0x0F of R107): R108, R109. Where the
spec states no formula the output is a free value of `Config` (log entry 15). -/
namespace Sys2Proof.Machine

/-! ### Controllers and filters (R109) -/

/-- T_TICK_US of the job's record (R91). -/
def Env.tickUs (e : Env) : Nat := leNat (Mem.rdN e.job.sys 40 4)

/-- Sample time dt in µs: PERIOD_K × T_TICK_US, in class E the time since the instance's last evaluation clamped to 1 to
10,000,000, T_TICK_US at its first (R108, R109). -/
def Env.dt (e : Env) (st : List Byte) : Nat :=
  if leNat (Mem.rdN e.job.sys 44 4) != 0 then e.period
  else if flg st 8 0 then Nat.max 1 (Nat.min 10000000 (e.job.rel - fld st 0 8)) else e.tickUs

/-- The instance of a controller or filter after an evaluation: REL_TIME, a flag, and what its formula keeps. -/
def Env.ctlInst (e : Env) (op : Nat) (vs : List Nat) (st : List Byte) : List Byte :=
  leBytes 8 e.job.rel ++ [1] ++ Config.ctlState op vs st (e.dt st)

/-- The free output of a control block, in the output's type. -/
def Env.ctlFree (e : Env) (op : Nat) (vs : List Nat) (st : List Byte) (t : Ty) : Nat :=
  let v := Config.ctlOut op vs st (e.dt st) % 2 ^ t.width
  if t.isF then t.fmt.canon v else v

/-- Form of PID and PIDQ: eight values of one type and the BOOL man. -/
def sigPid (op : Nat) (p : Ty → Bool) : Sig :=
  { op := op, inst := true, optA := true
    ok := fun i o => i.length == 9 && p (at_ o 0).ty && (at_ i 7).ty == .bool && allTy (at_ o 0).ty (i.take 7 ++ i.drop 8) }

/-- PID and PIDQ: y = mv with man TRUE; otherwise a value in ymin to ymax (R108). -/
def bodyPid (op cyc : Nat) (e : Env) (ins outs : List Ref) (st : List Byte) : BRes :=
  let v := e.vals ins
  let t := (at_ outs 0).ty
  let y := if v.getD 7 0 != 0 then v.getD 8 0 else limitRaw t (v.getD 5 0) (e.ctlFree op v st t) (v.getD 6 0)
  { wr := puts outs [y], inst := some (e.ctlInst op (v ++ [b01 e.blk.optA]) st), cyc := cyc }

/-- Form of a filter of `n` F32 inputs. -/
def sigFilt (op n : Nat) : Sig := { op := op, inst := true, ok := sameTy n n (· == .f32) }

/-- LAG1, LEADLAG, RAMP and DEADB: an output by a formula the spec does not state (R109). -/
def bodyFilt (op cyc : Nat) (e : Env) (ins outs : List Ref) (st : List Byte) : BRes :=
  let v := e.vals ins
  { wr := puts outs [e.ctlFree op v st .f32], inst := some (e.ctlInst op v st), cyc := cyc }

/-- Form of MAVG: F32 x and an integer n. -/
def sigMavg : Sig :=
  { op := 0x0B07, inst := true
    ok := fun i o => i.length == 2 && (at_ i 0).ty == .f32 && (at_ i 1).ty.isInt && (at_ o 0).ty == .f32 }

/-- Mean of F32 values, the exact sum divided and rounded once; a NaN or an infinity among them follows R102. -/
def meanRaw (l : List Nat) : Nat × List Fev :=
  match l.mapM fmt32.rat with
  | some rs =>
    let d := (rs.map (·.2)).prod
    fmt32.roundInt (rs.map (fun r => r.1 * ((d / r.2 : Nat) : Int))).sum (d * l.length) false
  | none => l.foldl (fun a x => let r := fmt32.add a.1 x; (r.1, a.2 ++ r.2)) (0, [])

/-- MAVG: the mean of the last n values, of all when fewer have been evaluated; for n outside 1 to 64 a free value (R109; log
entry 15). The instance holds the last 64 values, newest first, and their number. -/
def bodyMavg (e : Env) (ins outs : List Ref) (st : List Byte) : BRes :=
  let x := e.val (at_ ins 0)
  let n := (at_ ins 1).ty.int (e.val (at_ ins 1))
  let have_ := Nat.min (fld st 256 1) 64
  let xs := (x :: (List.range have_).map (fun i => fld st (4 * i) 4)).take 64
  let r := if 1 ≤ n ∧ n ≤ 64 then meanRaw (xs.take n.toNat) else (e.ctlFree 0x0B07 [x, e.val (at_ ins 1)] st .f32, [])
  { wr := puts outs [r.1], inst := some (padTo 256 (xs.flatMap (leBytes 4)) ++ leBytes 1 xs.length ++ List.replicate 7 0)
    eff := countEvs r.2, cyc := 14 }

/-- Form of INTEG: F32 x, ymin, ymax and BOOL rst. -/
def sigInteg : Sig :=
  { op := 0x0B08, inst := true
    ok := fun i o => i.length == 4 && allTy .f32 (i.take 3 ++ o) && (at_ i 3).ty == .bool }

/-- INTEG: a value in ymin to ymax (R109). -/
def bodyInteg (e : Env) (ins outs : List Ref) (st : List Byte) : BRes :=
  let v := e.vals ins
  { wr := puts outs [limitRaw .f32 (v.getD 1 0) (e.ctlFree 0x0B08 v st .f32) (v.getD 2 0)]
    inst := some (e.ctlInst 0x0B08 v st), cyc := 10 }

/-! ### Sequences (R108) -/

/-- The data type of a TYPE code (R89). -/
def tyOf (n : Nat) : Option Ty :=
  match n with
  | 0 => some .bool | 1 => some .i8 | 2 => some .i16 | 3 => some .i32 | 4 => some .i64
  | 5 => some .u8 | 6 => some .u16 | 7 => some .u32 | 8 => some .u64 | 9 => some .f32 | 10 => some .f64
  | _ => if 0x20 ≤ n ∧ n ≤ 0x3F then some (.q (n - 0x20)) else none

/-- The memory space of a SPACE code (R88). -/
def spaceOf (n : Nat) : Space :=
  match n with | 0 => .inp | 1 => .out | 2 => .loc | 3 => .glb | 4 => .ret | 5 => .con | 6 => .sys | _ => .imm

/-- The operand reference of a word (R87). -/
def refOf (w : Nat) : Option Ref := (tyOf (bits w 28 23)).map (fun t => { sp := spaceOf (bits w 31 29), ty := t, off := BitVec.ofNat 23 w })

/-- Init operand and active output of every STEP block of an image. -/
def stepsOf (img : Image) : List (Ref × Ref) :=
  img.lists.flatMap (fun l => l.blocks.filterMap (fun b =>
    if b.op = 0x0C01 then
      let ws := if bit b.flags 5 then b.ops.drop 1 else b.ops
      match ws with
      | i :: a :: _ => match refOf i, refOf a with | some i, some a => some (i, a) | _, _ => none
      | _ => none
    else none))

/-- Form of STEP. -/
def sigStep : Sig :=
  { op := 0x0C01, inst := true, nOut := 2
    ok := fun i o => i.length == 1 && (at_ i 0).ty == .bool && (at_ o 0).ty == .bool && (at_ o 1).ty == .u64 }

/-- STEP: active while its variable is, and from a rise of init; t_act runs from activation (R108; log entry 17). The instance
holds the activation time, the last active and the last init. -/
def bodyStep (e : Env) (ins outs : List Ref) (st : List Byte) : BRes :=
  let i := e.on (at_ ins 0)
  let act := e.on (at_ outs 0) || (i && !flg st 8 1)
  let start := if act && !flg st 8 0 then e.tEv else fld st 0 8
  { wr := puts outs [b01 act, if act then (e.tEv + 2 ^ 64 - start) % 2 ^ 64 else 0]
    inst := some (leBytes 8 start ++ flagByte [act, i] ++ List.replicate 7 0), cyc := 8 }

/-- Form of TRANS. -/
def sigTrans : Sig :=
  { op := 0x0C02, ok := fun i o => decide (2 ≤ i.length) && decide (i.length ≤ 9) && allTy .bool (i ++ o) }

/-- TRANS: fires when cond and all its source steps are TRUE; the sources go inactive, the steps whose init is fire go active,
at once (R108; log entry 17). -/
def bodyTrans (e : Env) (ins outs : List Ref) (_st : List Byte) : BRes :=
  let src := ins.drop 1
  if e.on (at_ ins 0) && src.all e.on then
    { wr := src.map (·.put 0) ++ puts outs [1]
        ++ ((stepsOf e.img).filter (fun p => p.1 == at_ outs 0)).map (fun p => p.2.put 1)
      cyc := 8 }
  else { wr := puts outs [0], cyc := 8 }

/-- Form of SEQRST. -/
def sigSeqrst : Sig :=
  { op := 0x0C03, nOut := 0, ok := fun i _ => decide (2 ≤ i.length) && decide (i.length ≤ 33) && allTy .bool i }

/-- SEQRST: with rst TRUE its steps go inactive, but for the step whose init is TRUE (R108; log entry 17). -/
def bodySeqrst (e : Env) (ins _outs : List Ref) (_st : List Byte) : BRes :=
  let steps := ins.drop 1
  { wr := if e.on (at_ ins 0) then
      steps.map (fun r => r.put (b01 ((stepsOf e.img).any (fun p => p.2 == r && e.on p.1)))) else []
    cyc := 8 + 2 * steps.length }

/-! ### Alarms (R108) -/

/-- x < a − b (`lt`) or x > a + b, exactly; FALSE with a NaN. -/
def beyond (lt : Bool) (x a b : Nat) : Bool :=
  match fmt32.rat x, fmt32.rat a, fmt32.rat b with
  | some x, some a, some b =>
    let s := if lt then a.1 * b.2 - b.1 * a.2 else a.1 * b.2 + b.1 * a.2
    let l := x.1 * (a.2 * b.2)
    let r := s * x.2
    if lt then decide (l < r) else decide (r < l)
  | _, _, _ =>
    let s := (if lt then fmt32.sub a b else fmt32.add a b).1
    if lt then fmt32.cmp x s == some .lt else fmt32.cmp x s == some .gt

/-- Form of ALMHL. -/
def sigAlmhl : Sig :=
  { op := 0x0D01, inst := true, nOut := 2, ok := fun i o => i.length == 4 && allTy .f32 i && allTy .bool o && o.length == 2 }

/-- ALMHL (R108). The instance holds qh and ql. -/
def bodyAlmhl (e : Env) (ins outs : List Ref) (st : List Byte) : BRes :=
  let v := e.vals ins
  let x := v.getD 0 0
  let ge (a b : Nat) : Bool := match fmt32.cmp a b with | some .gt => true | some .eq => true | _ => false
  let qh := if ge x (v.getD 1 0) then true else if beyond true x (v.getD 1 0) (v.getD 3 0) then false else flg st 0 0
  let ql := if ge (v.getD 2 0) x then true else if beyond false x (v.getD 2 0) (v.getD 3 0) then false else flg st 0 1
  { wr := puts outs [b01 qh, b01 ql], inst := some (flagByte [qh, ql] ++ List.replicate 7 0), cyc := 8 }

/-- Time since a stored stamp. -/
def Env.since (e : Env) (t : Nat) : Nat := (e.tEv + 2 ^ 64 - t) % 2 ^ 64

/-- Form of ALMDLY. -/
def sigAlmdly : Sig :=
  { op := 0x0D02, inst := true
    ok := fun i o => i.length == 3 && (at_ i 0).ty == .bool && allTy .u64 (i.drop 1) && allTy .bool o }

/-- ALMDLY: q follows in after t_on or t_off (R108). The instance holds the last change of in, q and the last in. -/
def bodyAlmdly (e : Env) (ins outs : List Ref) (st : List Byte) : BRes :=
  let i := e.on (at_ ins 0)
  let start := if i != flg st 8 1 then e.tEv else fld st 0 8
  let lim := e.val (at_ ins (if i then 1 else 2))
  let q := if i != flg st 8 0 && decide (lim ≤ e.since start) then i else flg st 8 0
  { wr := puts outs [b01 q], inst := some (leBytes 8 start ++ flagByte [q, i] ++ List.replicate 7 0), cyc := 10 }

/-- Form of ALMINH. -/
def sigAlminh : Sig := { op := 0x0D03, nOut := 2, ok := fun i o => i.length == 2 && o.length == 2 && allTy .bool (i ++ o) }

/-- ALMINH (R108). -/
def bodyAlminh (e : Env) (ins outs : List Ref) (_st : List Byte) : BRes :=
  let i := e.on (at_ ins 0)
  let h := e.on (at_ ins 1)
  { wr := puts outs [b01 (i && !h), b01 (i && h)], cyc := 4 }

/-- Form of ALMSHV. -/
def sigAlmshv : Sig :=
  { op := 0x0D04, inst := true, nOut := 2
    ok := fun i o => i.length == 3 && allTy .bool (i.take 2 ++ o) && (at_ i 2).ty == .u64 }

/-- ALMSHV (R108). The instance holds the start of shelving, whether it runs, and the last req. -/
def bodyAlmshv (e : Env) (ins outs : List Ref) (st : List Byte) : BRes :=
  let i := e.on (at_ ins 0)
  let req := e.on (at_ ins 1)
  let rise := req && !flg st 8 1
  let start := if rise then e.tEv else fld st 0 8
  let sh := (rise || flg st 8 0) && decide (e.since start < e.val (at_ ins 2))
  { wr := puts outs [b01 (i && !sh), b01 sh], inst := some (leBytes 8 start ++ flagByte [sh, req] ++ List.replicate 7 0), cyc := 10 }

/-- Form of ALMFO. -/
def sigAlmfo : Sig :=
  { op := 0x0D05, inst := true
    ok := fun i o => decide (3 ≤ i.length) && decide (i.length ≤ 17) && allTy .bool i && (at_ o 0).ty == .u8 }

/-- ALMFO (R108). The instance holds first, the last inputs, the last rst and whether the block waits to re-arm. -/
def bodyAlmfo (e : Env) (ins outs : List Ref) (st : List Byte) : BRes :=
  let rst := e.on (at_ ins 0)
  let xs := (ins.drop 1).map e.on
  let rise := rst && !flg st 3 0
  let wait := (rise || flg st 3 1) && xs.any id
  let first := if rise then 0 else fld st 0 1
  let turned := (List.range xs.length).find? (fun k => xs.getD k false && !bit (fld st 1 2) k)
  let first := match turned with
    | some k => if first = 0 && !wait && !rise then k + 1 else first
    | none => first
  { wr := puts outs [first]
    inst := some (leBytes 1 first ++ leBytes 2 ((List.range xs.length).foldl (fun a k => a + b01 (xs.getD k false) * 2 ^ k) 0)
      ++ flagByte [rst, wait] ++ List.replicate 4 0)
    cyc := 12 }

/-! ### Voting (R108) -/

/-- A vote: an unhealthy input votes TRUE. -/
def Env.vote (e : Env) (r : Ref) : Bool := !e.healthy r || e.on r

/-- disc of a vote: an input `idx` has differed for t_disc; with the instance that holds since when and which. -/
def Env.disc (e : Env) (st : List Byte) (idx tDisc : Nat) : Bool × List Byte :=
  let start := if idx != fld st 8 1 then e.tEv else fld st 0 8
  (idx != 0 && decide (tDisc ≤ e.since start), leBytes 8 start ++ leBytes 1 idx ++ List.replicate 7 0)

/-- Form of V1OO2. -/
def sigV1oo2 : Sig :=
  { op := 0x0E01, inst := true, nOut := 2
    ok := fun i o => i.length == 3 && allTy .bool (i.take 2 ++ o) && (at_ i 2).ty == .u64 }

/-- V1OO2 (R108). -/
def bodyV1oo2 (e : Env) (ins outs : List Ref) (st : List Byte) : BRes :=
  let a := e.vote (at_ ins 0)
  let b := e.vote (at_ ins 1)
  let d := e.disc st (b01 (a != b)) (e.val (at_ ins 2))
  { wr := puts outs [b01 (a || b), b01 d.1], inst := some d.2, cyc := 10 }

/-- The input that differs from the two others, 1 to 3; 0 for none. -/
def oddOut (a b c : Bool) : Nat := if a = b then (if b = c then 0 else 3) else if a = c then 2 else 1

/-- Form of V2OO3. -/
def sigV2oo3 : Sig :=
  { op := 0x0E02, inst := true, nOut := 3
    ok := fun i o => i.length == 4 && allTy .bool (i.take 3 ++ o.take 2) && (at_ i 3).ty == .u64 && (at_ o 2).ty == .u8 }

/-- V2OO3 (R108). -/
def bodyV2oo3 (e : Env) (ins outs : List Ref) (st : List Byte) : BRes :=
  let a := e.vote (at_ ins 0)
  let b := e.vote (at_ ins 1)
  let c := e.vote (at_ ins 2)
  let idx := oddOut a b c
  let d := e.disc st idx (e.val (at_ ins 3))
  { wr := puts outs [b01 ((a && b) || (a && c) || (b && c)), b01 d.1, idx], inst := some d.2, cyc := 12 }

/-- x deviates from y by more than tol, exactly; never with a NaN. -/
def deviates (t : Ty) (x y tol : Nat) : Bool :=
  match t.rat x, t.rat y, t.rat tol with
  | some x, some y, some l =>
    decide (l.1 * (x.2 * y.2) < ((x.1 * y.2 - y.1 * x.2).natAbs : Int) * l.2)
  | _, _, l => t.isF && l.isSome && (t.cmp x y == some .lt || t.cmp x y == some .gt)

/-- The analogue selection: the median of three healthy inputs, the selected value of two, the one healthy input, or none. -/
def selectA (t : Ty) (high : Bool) (xs : List Nat) : Option Nat :=
  match xs with
  | [] => none
  | [a] => some a
  | [a, b] => some (if high then t.max a b else t.min a b)
  | a :: b :: c :: _ => some (t.max (t.min a b) (t.min (t.max a b) c))

/-- V1OO2A and V2OO3A of `n` inputs (R108). The instance holds since when each input has deviated, and which do. -/
def bodyVa (n cyc : Nat) (e : Env) (ins outs : List Ref) (st : List Byte) : BRes :=
  let t := (at_ outs 0).ty
  let xs := ins.take n
  let good := xs.filter e.healthy
  let sel := selectA t e.blk.optA (good.map e.val)
  let y := sel.getD (e.val (at_ outs 0))
  let dev := xs.map (fun r => deviates t (e.val r) y (e.val (at_ ins n)))
  let starts := (List.range n).map (fun i =>
    if dev.getD i false && !flg st 24 i then e.tEv else fld st (8 * i) 8)
  let long := (List.range n).any (fun i => dev.getD i false && decide (e.val (at_ ins (n + 1)) ≤ e.since (starts.getD i 0)))
  let disc := decide (good.length ≤ 1) || long
  let idx := match dev.findIdx? id with | some i => i + 1 | none => 0
  { wr := (match sel with | some v => [(at_ outs 0).put v] | none => []) ++ puts (outs.drop 1) [b01 disc, idx]
    inst := some (padTo 24 (starts.flatMap (leBytes 8)) ++ flagByte dev ++ List.replicate 7 0), cyc := cyc }

/-- Form of V1OO2A. -/
def sigV1oo2a : Sig :=
  { op := 0x0E03, inst := true, optA := true, nOut := 2
    ok := fun i o => i.length == 4 && ((at_ o 0).ty == .f32 || (at_ o 0).ty.isQ) && allTy (at_ o 0).ty (i.take 3)
      && (at_ i 3).ty == .u64 && (at_ o 1).ty == .bool }

/-- Form of V2OO3A. -/
def sigV2oo3a : Sig :=
  { op := 0x0E04, inst := true, optA := true, nOut := 3
    ok := fun i o => i.length == 5 && ((at_ o 0).ty == .f32 || (at_ o 0).ty.isQ) && allTy (at_ o 0).ty (i.take 4)
      && (at_ i 4).ty == .u64 && (at_ o 1).ty == .bool && (at_ o 2).ty == .u8 }

/-! ### Shutdown latch (R108) -/

/-- Form of SDL. -/
def sigSdl : Sig := { op := 0x0F01, inst := true, optA := true, nOut := 2, ok := fun i o => i.length == 3 && o.length == 2 && allTy .bool (i ++ o) }

/-- SDL: byte 0 of the instance holds LATCHED, PREV_RST and INIT_DONE (R108). -/
def bodySdl (e : Env) (ins outs : List Ref) (st : List Byte) : BRes :=
  let dem := e.on (at_ ins 0)
  let rst := e.on (at_ ins 1)
  let perm := e.on (at_ ins 2)
  let prev := if flg st 0 2 then flg st 0 1 else rst
  let latched := if dem then true else if rst && !prev && perm then false else flg st 0 0
  { wr := puts outs [b01 (!latched), b01 latched], inst := some (flagByte [latched, rst, true] ++ List.replicate 7 0), cyc := 8 }

/-! ### The rows -/

/-- Block PID. -/
def execPid (b : Blk) (s : State) : Host.Outcome State Fault Refusal := runBlock (sigPid 0x0B01 (· == .f32)) (bodyPid 0x0B01 60) b s

/-- Block PIDQ. -/
def execPidq (b : Blk) (s : State) : Host.Outcome State Fault Refusal := runBlock (sigPid 0x0B02 Ty.isQ) (bodyPid 0x0B02 40) b s

/-- Block LAG1. -/
def execLag1 (b : Blk) (s : State) : Host.Outcome State Fault Refusal := runBlock (sigFilt 0x0B03 2) (bodyFilt 0x0B03 12) b s

/-- Block LEADLAG. -/
def execLeadlag (b : Blk) (s : State) : Host.Outcome State Fault Refusal := runBlock (sigFilt 0x0B04 4) (bodyFilt 0x0B04 20) b s

/-- Block RAMP. -/
def execRamp (b : Blk) (s : State) : Host.Outcome State Fault Refusal := runBlock (sigFilt 0x0B05 3) (bodyFilt 0x0B05 12) b s

/-- Block DEADB. -/
def execDeadb (b : Blk) (s : State) : Host.Outcome State Fault Refusal := runBlock (sigFilt 0x0B06 2) (bodyFilt 0x0B06 6) b s

/-- Block MAVG. -/
def execMavg (b : Blk) (s : State) : Host.Outcome State Fault Refusal := runBlock sigMavg bodyMavg b s

/-- Block INTEG. -/
def execInteg (b : Blk) (s : State) : Host.Outcome State Fault Refusal := runBlock sigInteg bodyInteg b s

/-- Block STEP. -/
def execStep (b : Blk) (s : State) : Host.Outcome State Fault Refusal := runBlock sigStep bodyStep b s

/-- Block TRANS. -/
def execTrans (b : Blk) (s : State) : Host.Outcome State Fault Refusal := runBlock sigTrans bodyTrans b s

/-- Block SEQRST. -/
def execSeqrst (b : Blk) (s : State) : Host.Outcome State Fault Refusal := runBlock sigSeqrst bodySeqrst b s

/-- Block ALMHL. -/
def execAlmhl (b : Blk) (s : State) : Host.Outcome State Fault Refusal := runBlock sigAlmhl bodyAlmhl b s

/-- Block ALMDLY. -/
def execAlmdly (b : Blk) (s : State) : Host.Outcome State Fault Refusal := runBlock sigAlmdly bodyAlmdly b s

/-- Block ALMINH. -/
def execAlminh (b : Blk) (s : State) : Host.Outcome State Fault Refusal := runBlock sigAlminh bodyAlminh b s

/-- Block ALMSHV. -/
def execAlmshv (b : Blk) (s : State) : Host.Outcome State Fault Refusal := runBlock sigAlmshv bodyAlmshv b s

/-- Block ALMFO. -/
def execAlmfo (b : Blk) (s : State) : Host.Outcome State Fault Refusal := runBlock sigAlmfo bodyAlmfo b s

/-- Block V1OO2. -/
def execV1oo2 (b : Blk) (s : State) : Host.Outcome State Fault Refusal := runBlock sigV1oo2 bodyV1oo2 b s

/-- Block V2OO3. -/
def execV2oo3 (b : Blk) (s : State) : Host.Outcome State Fault Refusal := runBlock sigV2oo3 bodyV2oo3 b s

/-- Block V1OO2A. -/
def execV1oo2a (b : Blk) (s : State) : Host.Outcome State Fault Refusal := runBlock sigV1oo2a (bodyVa 2 16) b s

/-- Block V2OO3A. -/
def execV2oo3a (b : Blk) (s : State) : Host.Outcome State Fault Refusal := runBlock sigV2oo3a (bodyVa 3 24) b s

/-- Block SDL. -/
def execSdl (b : Blk) (s : State) : Host.Outcome State Fault Refusal := runBlock sigSdl bodySdl b s

end Sys2Proof.Machine
end

