-- ==== Sys2Proof/Machine/Units.lean ====
section
/-! DEFINITION. The blocks that address another unit (families 0x10 to 0x15 of R107): Sage submissions and collections, CAN
transmissions and objects, HART commands and variables, marks, counters, panels. What a block asks of a unit takes effect when
its job completes or commits. -/
namespace Sys2Proof.Machine

/-! ### Sage (R197 to R202) -/

/-- The descriptor of a slot in a set. -/
def descOf (cs : ConfigSet) (s : Nat) : Option Desc := cs.descs.find? (fun d => d.slot == s)

/-- A slot. -/
def slot (c : Chip) (s : Nat) : Slot := Map.getD c.slots s {}

/-- Place of element `k` of block `bi` in slot storage; the second bank of a result block lies apart (R179, R180). -/
def slotAt (bi k : Nat) (bank : Bool) : Nat := bi * 2 ^ 20 + b01 bank * 2 ^ 19 + k

/-- Indices of the blocks of a kind in the block table: 0 input, 1 result, 2 work (R175). -/
def blksOf (d : Desc) (kind : Nat) : List (Nat × SBlk) :=
  ((List.range d.blks.length).zip d.blks).filter (fun p => p.2.kind == kind)

/-- Elements of a block. -/
def SBlk.count (b : SBlk) : Nat := b.rows * b.cols

/-- Elements of a block of slot storage, row by row. -/
def slotRead (x : Slot) (bi n : Nat) (bank : Bool) : List Int := (List.range n).map (fun k => Map.getD x.store (slotAt bi k bank) 0)

/-- Form of SGSUB. -/
def sigSgsub : Sig :=
  { op := 0x1001, inst := true, nOut := 2, free := true
    ok := fun i o => decide (3 ≤ i.length) && decide (i.length ≤ 10) && (at_ i 0).ty.isInt && (at_ i 1).ty == .bool
      && (i.drop 2).all (fun r => r.ty.isQ && (r.sp == .inp || r.sp == .loc || r.sp == .glb || r.sp == .ret || r.sp == .con))
      && (at_ o 0).ty == .u32 && (at_ o 1).ty == .u16 }

/-- SGSUB (R197, R199, R200): with req TRUE the submission waits for the job's completion; the last one for a slot stands. -/
def bodySgsub (e : Env) (ins outs : List Ref) (st : List Byte) : BRes :=
  let s := e.val (at_ ins 0)
  let req := e.on (at_ ins 1)
  let tag := if req then e.job.tn % 2 ^ 32 else fld st 0 4
  let word := if req then 1 else (slot e.c s).cur.word
  { wr := puts outs [tag, word], inst := some (leBytes 4 tag ++ leBytes 2 word ++ List.replicate 10 0)
    job := fun j => if req then
      { j with sage := j.sage.filter (fun r => r.slot != s) ++ [{ slot := s, tag := tag, refs := ins.drop 2 }] } else j
    cyc := 40 }

/-- Form of SGCOL. -/
def sigSgcol : Sig :=
  { op := 0x1002, inst := true, nIn := some 2
    ok := fun i o => i.length == 2 && allTy .u32 (i.drop 1) && (at_ i 0).ty.isInt && decide (3 ≤ o.length) && decide (o.length ≤ 6)
      && (o.take (o.length - 2)).all (fun r => r.ty.isQ) && (at_ o (o.length - 2)).ty == .u16 && (at_ o (o.length - 1)).ty == .u32 }

/-- The result arrays a status word presents: the published bank, or the safe region; none for NONE, PENDING and an error
without a fallback (R201, R219). -/
def presented (x : Slot) (d : Desc) (word : Nat) : List (List Int) :=
  let code := word % 4096
  if bit word 14 then d.safe
  else if code = 0x100 || code = 0x101 || bit word 15 then (blksOf d 1).map (fun p => slotRead x p.1 p.2.count x.pubBank)
  else []

/-- SGCOL (R199, R201, R202): reads the presentation latched at the job's release. -/
def bodySgcol (e : Env) (ins outs : List Ref) (_st : List Byte) : BRes :=
  let x := slot e.c (e.val (at_ ins 0))
  let tag := e.val (at_ ins 1)
  let p := x.latched
  let older := tag != 0 && tag != p.tag
  let word := p.word % 2 ^ 13 + b01 older * 2 ^ 13 + bits p.word 15 14 * 2 ^ 14
  let arrays := outs.take (outs.length - 2)
  let src := match descOf e.c.sets.main (e.val (at_ ins 0)) with | some d => presented x d p.word | none => []
  let wr := (arrays.zip src).map (fun a => (a.1, 0, a.2.flatMap (fun v => leBytes 4 (unsigned 32 v))))
  { wr := wr ++ puts (outs.drop (outs.length - 2)) [word, p.iter]
    inst := some (leBytes 4 p.tag ++ leBytes 4 p.iter ++ leBytes 2 word ++ List.replicate 6 0)
    cyc := 30 + (wr.map (fun w => w.2.2.length)).sum / 32 }

/-- Form of SGSTAT. -/
def sigSgstat : Sig := { op := 0x1003, ok := fun i o => i.length == 1 && (at_ i 0).ty.isInt && (at_ o 0).ty == .u16 }

/-- SGSTAT (R202): the slot's current status word. -/
def bodySgstat (e : Env) (ins outs : List Ref) (_st : List Byte) : BRes := one outs (slot e.c (e.val (at_ ins 0))).cur.word 8

/-! ### CAN (R282, R287, R290) -/

/-- Data bytes of a DLC code (R275). -/
def dlcLen (dlc : Nat) : Nat :=
  if dlc ≤ 8 then dlc else match dlc with | 9 => 12 | 10 => 16 | 11 => 20 | 12 => 24 | 13 => 32 | 14 => 48 | _ => 64

/-- Form of CANTX: channel and buffer immediates, a UINT32 identifier, a UINT8 array, a UINT16 arm. -/
def sigCantx : Sig :=
  { op := 0x1101
    ok := fun i o => i.length == 6 && (at_ i 0).sp == .imm && decide ((at_ i 0).imm < 4) && (at_ i 1).sp == .imm
      && decide ((at_ i 1).imm < 32) && (at_ i 2).ty == .u32 && (at_ i 3).ty.isInt && (at_ i 4).ty == .u8 && (at_ i 4).sp != .imm
      && (at_ i 5).ty == .u16 && (at_ o 0).ty == .u8 }

/-- CANTX (R282, R287): the request waits for the commit boundary; the last one for a buffer stands. st comes from the transmit
status record in the input image. -/
def bodyCantx (e : Env) (ins outs : List Ref) (_st : List Byte) : BRes :=
  let ch := e.val (at_ ins 0)
  let bf := e.val (at_ ins 1)
  let id := e.val (at_ ins 2)
  let dlc := e.val (at_ ins 3)
  let f : CanFrame := { ext := bit id 31, id := id % 2 ^ 29, dlc := dlc
                        data := e.bytes (at_ ins 4).sp (at_ ins 4).addr (dlcLen (dlc % 16)) }
  let st := match e.recOf (.canTx (Fin.ofNat 4 ch)) with | some o => leNat (Mem.rdN e.job.image (o + 8 * bf) 1) | none => 0
  { wr := puts outs [st]
    job := fun j => { j with can := j.can.filter (fun r => !(r.ch == ch && r.buf == bf))
                                      ++ [{ ch := ch, buf := bf, frame := f, arm := e.val (at_ ins 5), tag := j.tn % 2 ^ 32 }] }
    cyc := 30 }

/-- Form of CANRX. -/
def sigCanrx : Sig :=
  { op := 0x1102, nOut := 5
    ok := fun i o => i.length == 2 && (at_ i 0).sp == .imm && decide ((at_ i 0).imm < 4) && (at_ i 1).sp == .imm
      && decide ((at_ i 1).imm < 128) && (at_ o 0).ty == .u8 && (at_ o 1).ty == .u8 && (at_ o 2).ty == .bool
      && (at_ o 3).ty == .u16 && (at_ o 4).ty == .u64 }

/-- CANRX (R290): data, dlc, new, seq and ts of the record in the input image. -/
def bodyCanrx (e : Env) (ins outs : List Ref) (_st : List Byte) : BRes :=
  let src : Src := .canObj (Fin.ofNat 4 (e.val (at_ ins 0))) (Fin.ofNat 128 (e.val (at_ ins 1)))
  let o := (e.recOf src).getD 0
  let b := if (e.recOf src).isSome then Mem.rdN e.job.image o 80 else List.replicate 80 0
  { wr := [(at_ outs 0, 0, b.drop 16)]
      ++ puts (outs.drop 1) [fld b 4 1, b01 (flg b 5 7), fld b 6 2, fld b 8 8]
    cyc := 30 }

/-! ### HART (R247, R248) -/

/-- Form of HCMD: channel, address, command, a UINT8 array, trig; an array and two bytes. -/
def sigHcmd : Sig :=
  { op := 0x1201, inst := true, nOut := 3
    ok := fun i o => i.length == 5 && (at_ i 0).ty.isInt && (at_ i 1).ty.isInt && (at_ i 2).ty.isInt && (at_ i 3).ty == .u8
      && (at_ i 3).sp != .imm && (at_ i 4).ty == .bool && allTy .u8 o }

/-- The entry of a response ring of 4 entries of 80 bytes that carries a tag (R248). -/
def hartEntry (ring : List Byte) (tag : Nat) : Option (List Byte) :=
  ((List.range 4).map (fun i => (ring.drop (80 * i)).take 80)).find? (fun b => fld b 0 4 == tag && fld b 6 1 != 0)

/-- HCMD (R248): a rising trig queues the command at the commit boundary; the response is looked for by its tag in the input
image. Byte 6 of the instance holds the last trig (log entry 18). -/
def bodyHcmd (e : Env) (ins outs : List Ref) (st : List Byte) : BRes :=
  let v := e.vals ins
  let h := v.getD 0 0
  let trig := e.on (at_ ins 4)
  let rise := trig && !flg st 6 0
  let tag := if rise then e.job.tn % 2 ^ 32 else fld st 0 4
  let ring := match e.recOf (.hartRsp (Fin.ofNat 32 h)) with | some o => Mem.rdN e.job.image o 320 | none => []
  let hit := if rise || fld st 4 1 = 0 then none else hartEntry ring tag
  let stt := if rise then 1 else match hit with | some b => fld b 6 1 | none => fld st 4 1
  let rc := match hit with | some b => fld b 5 1 | none => fld st 5 1
  let req : HReq := { h := h, addr := v.getD 1 0, cmd := v.getD 2 0, tag := tag
                      data := e.bytes (at_ ins 3).sp (at_ ins 3).addr (Nat.min 64 (e.elems (at_ ins 3))) }
  { wr := (match hit with
      | some b => [(at_ outs 0, 0, ((b.drop 8).take 64).take (e.elems (at_ outs 0)))]
      | none => []) ++ puts (outs.drop 1) [rc, stt]
    inst := some (leBytes 4 tag ++ leBytes 1 stt ++ leBytes 1 rc ++ flagByte [trig] ++ List.replicate 9 0)
    job := fun j => if rise then { j with hart := j.hart ++ [req] } else j
    cyc := 40 }

/-- Form of HVAR: immediates; F32, a status byte, a time. -/
def sigHvar : Sig :=
  { op := 0x1202, nOut := 3
    ok := fun i o => i.length == 3 && i.all (fun r => r.sp == .imm) && (at_ o 0).ty == .f32 && (at_ o 1).ty == .u8
      && (at_ o 2).ty == .u64 }

/-- The poll entry of HART channel `h` with a polling address (R244). -/
def pollEntry (c : Chip) (h addr : Nat) : Option Nat :=
  (List.range 16).find? (fun i => cfgb c (0x3400 + h) (i + 1) 31 && cfg c (0x3400 + h) (i + 1) 5 0 == addr)

/-- HVAR (R247): a variable that POLL_CMD does not deliver reads 0.0 with NO_VALUE. -/
def bodyHvar (e : Env) (ins outs : List Ref) (_st : List Byte) : BRes :=
  let h := e.val (at_ ins 0)
  let var := e.val (at_ ins 2)
  let p := (pollEntry e.c h (e.val (at_ ins 1))).getD 0
  let o := (e.recOf (.hart (Fin.ofNat 32 h) (Fin.ofNat 16 p))).getD 0
  let b := Mem.rdN e.job.image o 40
  let some_ := var == 0 || cfg e.c (0x3400 + h) (p + 1) 30 29 == 1
  { wr := puts outs (if some_ && decide (var ≤ 4) then [fld b (4 * var) 4, fld b 34 1, fld b 24 8] else [0, 4, fld b 24 8]), cyc := 12 }

/-! ### Marks, counters, panels (R456, R465, R376) -/

/-- Form of TMARK. -/
def sigTmark : Sig :=
  { op := 0x1301, nOut := 0
    ok := fun i _ => decide (2 ≤ i.length) && decide (i.length ≤ 6) && (at_ i 0).sp == .imm && (at_ i 0).ty == .u16
      && decide (0x0F00 ≤ (at_ i 0).imm) && decide ((at_ i 0).imm ≤ 0x0FEF) && (at_ i 1).ty == .bool }

/-- TMARK (R456): with trig TRUE the mark waits for the job's completion; two words a value, low word first. -/
def bodyTmark (e : Env) (ins _outs : List Ref) (_st : List Byte) : BRes :=
  { job := fun j => if e.on (at_ ins 1) then
      { j with marks := j.marks ++ [{ code := e.val (at_ ins 0), tEv := e.tEv
                                      words := (e.vals (ins.drop 2)).flatMap w64 ++ List.replicate (8 - 2 * (ins.length - 2)) 0 }] }
      else j
    cyc := 20 }

/-- Form of CNTRD. -/
def sigCntrd : Sig :=
  { op := 0x1401, nOut := 2
    ok := fun i o => i.length == 1 && (at_ i 0).sp == .imm && decide ((at_ i 0).imm < 512) && (at_ o 0).ty == .u64
      && (at_ o 1).ty == .bool }

/-- CNTRD (R465): the counter's entry in the input image. -/
def bodyCntrd (e : Env) (ins outs : List Ref) (_st : List Byte) : BRes :=
  let w := match e.recOf (.cntr (Fin.ofNat 512 (e.val (at_ ins 0)))) with | some o => Mem.rdLe e.job.image o 8 | none => 0
  { wr := puts outs [w % 2 ^ 48, b01 (bit w 63)], cyc := 12 }

/-- A panel write of the job; the last for a field stands (R376). -/
def Job.panel (j : Job) (w : PanelWr) : Job :=
  { j with panels := j.panels.filter (fun x => !(x.panel == w.panel && x.field == w.field)) ++ [w] }

/-- Form of PTEXT. -/
def sigPtext : Sig :=
  { op := 0x1501, nOut := 0
    ok := fun i _ => i.length == 3 && (at_ i 0).isImm .u8 && (at_ i 1).isImm .u16 && (at_ i 2).sp == .con && (at_ i 2).ty == .u8 }

/-- PTEXT (R376, R512): a length byte and its characters in CON. -/
def bodyPtext (e : Env) (ins _outs : List Ref) (_st : List Byte) : BRes :=
  let a := (at_ ins 2).addr
  let l := leNat (e.bytes .con a 1)
  let w : PanelWr := { panel := e.val (at_ ins 0), field := e.val (at_ ins 1), text := some (e.bytes .con (a + 1) l) }
  { job := fun j => j.panel w, cyc := 20 + cdiv l 4 }

/-- Form of PFIELD. -/
def sigPfield : Sig :=
  { op := 0x1502, nOut := 0
    ok := fun i _ => i.length == 4 && (at_ i 0).sp == .imm && (at_ i 1).sp == .imm && (at_ i 3).ty.isInt }

/-- PFIELD (R376). -/
def bodyPfield (e : Env) (ins _outs : List Ref) (_st : List Byte) : BRes :=
  let v := e.vals ins
  let w : PanelWr := { panel := v.getD 0 0, field := v.getD 1 0, value := v.getD 2 0, ty := (at_ ins 2).ty, fmt := v.getD 3 0 }
  { job := fun j => j.panel w, cyc := 24 }

/-! ### The rows -/

/-- Block SGSUB. -/
def execSgsub (b : Blk) (s : State) : Host.Outcome State Fault Refusal := runBlock sigSgsub bodySgsub b s

/-- Block SGCOL. -/
def execSgcol (b : Blk) (s : State) : Host.Outcome State Fault Refusal := runBlock sigSgcol bodySgcol b s

/-- Block SGSTAT. -/
def execSgstat (b : Blk) (s : State) : Host.Outcome State Fault Refusal := runBlock sigSgstat bodySgstat b s

/-- Block CANTX. -/
def execCantx (b : Blk) (s : State) : Host.Outcome State Fault Refusal := runBlock sigCantx bodyCantx b s

/-- Block CANRX. -/
def execCanrx (b : Blk) (s : State) : Host.Outcome State Fault Refusal := runBlock sigCanrx bodyCanrx b s

/-- Block HCMD. -/
def execHcmd (b : Blk) (s : State) : Host.Outcome State Fault Refusal := runBlock sigHcmd bodyHcmd b s

/-- Block HVAR. -/
def execHvar (b : Blk) (s : State) : Host.Outcome State Fault Refusal := runBlock sigHvar bodyHvar b s

/-- Block TMARK. -/
def execTmark (b : Blk) (s : State) : Host.Outcome State Fault Refusal := runBlock sigTmark bodyTmark b s

/-- Block CNTRD. -/
def execCntrd (b : Blk) (s : State) : Host.Outcome State Fault Refusal := runBlock sigCntrd bodyCntrd b s

/-- Block PTEXT. -/
def execPtext (b : Blk) (s : State) : Host.Outcome State Fault Refusal := runBlock sigPtext bodyPtext b s

/-- Block PFIELD. -/
def execPfield (b : Blk) (s : State) : Host.Outcome State Fault Refusal := runBlock sigPfield bodyPfield b s

end Sys2Proof.Machine
end

