-- ==== Sys2Proof/Machine/Can.lean ====
section
/-! DEFINITION. CAN channels (chapter 11): transmit buffers and their requests, arbitration, errors and bus-off, received frames
in objects and rings, the captures, and the take-over of transmission in a pair. -/
namespace Sys2Proof.Machine

open Sys2Proof

/-- A channel. -/
def canCh (c : Chip) (ch : Nat) : CanCh := Map.getD c.can ch {}

/-- Changes a channel. -/
def updCan (ch : Nat) (f : CanCh → CanCh) (c : Chip) : Chip := { c with can := Map.upd c.can ch {} f }

/-- A transmit buffer. -/
def txBuf (c : Chip) (ch bf : Nat) : TxBuf := Map.getD (canCh c ch).tx bf {}

/-- Changes a transmit buffer. -/
def updTx (ch bf : Nat) (f : TxBuf → TxBuf) (c : Chip) : Chip := updCan ch (fun h => { h with tx := Map.upd h.tx bf {} f }) c

/-- MODE of a channel: 0 OFF, 1 NORMAL, 2 LISTEN (R276). -/
def canMode (c : Chip) (ch : Nat) : Nat := cfg c (0x4000 + ch) 1 1 0

/-- This module is the one to transmit on the channel (R295): in a pair the member that TX_MEMBER names. -/
def canTxMember (c : Chip) (ch : Nat) : Bool :=
  canMode c ch == 1 &&
    (match c.sup.role with
     | .solo => true
     | .pairA => cfg c (0x4000 + ch) 1 18 17 == 0
     | .pairB => cfg c (0x4000 + ch) 1 18 17 == 1
     | _ => false)

/-- Starts a channel (R279, R280). -/
def canStart (ch : Nat) (c : Chip) : Chip :=
  updCan ch (fun h => { h with
    st := if canMode c ch = 0 then .off else .integrating
    txActive := canTxMember c ch, tdcvRef := none, tec := 0, recCnt := 0, takeover := false }) c

/-- State of a channel that takes part on the bus (R280, R293, R295; the limits are those of ISO 11898-1, log entry 22). -/
def canLive (c : Chip) (ch : Nat) (h : CanCh) : CanSt :=
  if canMode c ch = 1 && isPair c && !h.txActive then .standby
  else if 128 ≤ h.tec ∨ 128 ≤ h.recCnt then .errorPassive else .errorActive

/-- The channel takes part on the bus. -/
def CanSt.live (s : CanSt) : Bool := match s with | .errorActive => true | .errorPassive => true | .standby => true | _ => false

/-- Brings the state of a channel on the bus up to its counters, with the records of its changes (R293). -/
def canState (ch : Nat) (c : Chip) : Chip :=
  let h := canCh c ch
  if !h.st.live then c
  else
    let n := canLive c ch h
    let c := updCan ch (fun h => { h with st := n }) c
    if h.st = .errorActive ∧ n = .errorPassive then record 0x0703 (0x0B00 + ch) [] c
    else if h.st = .errorPassive ∧ n = .errorActive then record 0x0704 (0x0B00 + ch) [] c else c

/-! ### Requests (R282, R284, R285) -/

/-- Ends a buffer's request with a status. -/
def canFinal (ch bf st flags : Nat) (c : Chip) : Chip :=
  canHostDone ch bf (updTx ch bf (fun b => { b with
    st := st, flags := b.flags ||| flags, frame := none, busy := false, abort := false, retry := false }) c)

/-- An abort of a buffer's request (R285). -/
def canAbortBuf (ch bf : Nat) (c : Chip) : Chip :=
  let b := txBuf c ch bf
  let n := abortBuf b
  let c := updTx ch bf (fun _ => n) c
  when (n.st == 4 && b.st != 4) (canHostDone ch bf) c

/-- A request that takes effect, TN_c the tick number its arm counts from (R282, R284, R294). -/
def canRequest (tnc : Nat) (r : CanReq) (host : List (Nat × Nat)) (c : Chip) : Chip :=
  let b := txBuf c r.ch r.buf
  let h := canCh c r.ch
  let pend := b.st == 1 || b.st == 2
  if r.arm = 0xFFFF then canAbortBuf r.ch r.buf c
  else if (r.arm != 0 && decide (10000 < r.arm)) || (decide (8 < r.frame.dlc) && !cfgb c (0x4000 + r.ch) 1 2) then
    (if pend then c else canFinal r.ch r.buf 6 0 (updTx r.ch r.buf (fun b => { b with flags := 0, tag := r.tag, host := host }) c))
  else if h.st = .busOff ∨ h.st = .recovering then
    canFinal r.ch r.buf 5 0 (updTx r.ch r.buf (fun b => { b with flags := 0, tag := r.tag, host := b.host ++ host }) c)
  else if b.busy then updTx r.ch r.buf (fun b => { b with held := some r, host := b.host ++ host }) c
  else
    updTx r.ch r.buf (fun b => { b with
      st := if r.arm = 0 || b.st == 2 then 2 else 1
      flags := if pend then b.flags ||| 2 else 0
      tag := r.tag, frame := some r.frame, armTn := tnc + r.arm, host := b.host ++ host }) c

/-- Raises the request held while the buffer's frame was in progress (R284). -/
def canRaiseHeld (ch bf : Nat) (c : Chip) : Chip :=
  match (txBuf c ch bf).held with
  | some r => canRequest c.tt.tn r [] (updTx ch bf (fun b => { b with held := none }) c)
  | none => c

/-- Raises every armed buffer whose boundary has come (R282). -/
def canArmed (c : Chip) : Chip :=
  { c with can := Map.mapV c.can (fun _ h =>
      { h with tx := Map.mapV h.tx (fun _ b => if b.st = 1 ∧ b.armTn ≤ c.tt.tn then { b with st := 2 } else b) }) }

/-! ### Transmission (R283, R286, R287) -/

/-- Order in which two frames win arbitration: base identifier, base format first, extension (R283). -/
def arbKey (f : CanFrame) : Nat := bits f.id 28 18 * 2 ^ 19 + b01 f.ext * 2 ^ 18 + bits f.id 17 0

/-- The pending buffer that SCHED chooses (R283). -/
def canChoose (c : Chip) (ch : Nat) : Option Nat :=
  let l := (canCh c ch).tx.filter (fun b => b.2.st == 2 && b.2.frame.isSome)
  let key := fun (b : TxBuf) => match b.frame with | some f => arbKey f | none => 0
  if cfgb c (0x4000 + ch) 1 6 then l.head?.map (·.1)
  else (l.foldl (fun m b => match m with | none => some b | some a => if key b.2 < key a.2 then some b else some a) none).map (·.1)

/-- The module may send on the channel: it transmits there and has not withdrawn (R276, R295, R353, R359). -/
def canMaySend (c : Chip) (ch : Nat) : Bool :=
  let h := canCh c ch
  h.txActive && (h.st == .errorActive || h.st == .errorPassive) && !c.pair.withdrawn && c.pair.st != .resyncTarget
    && !h.tx.any (fun b => b.2.busy)

/-- CAN_ARBITRATION (R283). -/
def evCanArbitration (dt ch : Nat) (c : Chip) : Chip :=
  let c := pass dt c
  if !canMaySend c ch then c
  else
    match canChoose c ch with
    | none => c
    | some bf =>
      let b := txBuf c ch bf
      let c := when b.retry (bump (0x173 + 8 * ch)) (updTx ch bf (fun b => { b with busy := true, retry := false }) c)
      match b.frame with
      | some f =>
        let fd := cfgb c (0x4000 + ch) 1 2
        emit (.can ch bf { f with fdf := fd, brs := fd && cfgb c (0x4000 + ch) 1 3, esi := (canCh c ch).st == .errorPassive }) c
      | none => c

/-- The buffer whose frame is in arbitration or in progress. -/
def canBusy (c : Chip) (ch : Nat) : Option Nat := ((canCh c ch).tx.find? (fun b => b.2.busy)).map (·.1)

/-- A measured loop delay (R279). -/
def canDelay (ch v : Nat) (c : Chip) : Chip :=
  let v := Nat.min v 255
  let h := canCh c ch
  let w := 0x4010 + ch
  if !cfgb c w 3 31 then c
  else
    let ref := h.tdcvRef.getD v
    let c := updCan ch (fun h => { h with tdcv := v, tdcvRef := some ref }) c
    let c := when (decide (cfg c w 3 14 8 < (v - ref) + (ref - v))) (record 0x0720 (0x0B00 + ch) [ch, ref, v]) c
    let used := if cfgb c w 3 30 then v else ref
    when (decide (255 < used + cfg c w 3 6 0)) (record 0x0721 (0x0B00 + ch) []) c

/-- Settings of a throw take effect on a channel (R295, R296): a change of its mode starts it anew. -/
def canApply (ch : Nat) (c : Chip) : Chip :=
  let h := canCh c ch
  let c := updCan ch (fun h => { h with setDue := false }) c
  if (h.st == .off) != (canMode c ch == 0) then canStart ch c
  else canState ch (updCan ch (fun h => { h with txActive := canTxMember c ch || h.takeover }) c)

/-- Once the frame in progress at a throw has ended, the new settings take effect (R296). -/
def canSettle (ch : Nat) (c : Chip) : Chip := when ((canCh c ch).setDue && (canBusy c ch).isNone) (canApply ch) c

/-- CAN_FRAME_SENT (R287): the frame completes; TEC falls by one as ISO 11898-1 has it (log entry 22). -/
def evCanFrameSent (dt ch : Nat) (tdcv : Option Nat) (c : Chip) : Chip :=
  let c := pass dt c
  match canBusy c ch with
  | none => c
  | some bf =>
    let late := (txBuf c ch bf).abort
    let c := canState ch (updCan ch (fun h => { h with tec := h.tec - 1 }) c)
    let c := match tdcv with | some v => canDelay ch v c | none => c
    let held := (txBuf c ch bf).held
    let c := bump (0x170 + 8 * ch) (canFinal ch bf (if late then 0x83 else 3) (b01 late) c)
    canSettle ch (canRaiseHeld ch bf (updTx ch bf (fun b => { b with held := held }) c))

/-- A frame that did not get through: withdrawn when an abort is pending, else retransmitted (R285, R286). -/
def canRetry (ch bf : Nat) (c : Chip) : Chip :=
  if (txBuf c ch bf).abort then canFinal ch bf 4 0 c else updTx ch bf (fun b => { b with busy := false, retry := true }) c

/-- CAN_ARBITRATION_LOST (R286). -/
def evCanArbitrationLost (dt ch : Nat) (c : Chip) : Chip :=
  let c := pass dt c
  match canBusy c ch with
  | none => c
  | some bf => canSettle ch (bump (0x172 + 8 * ch) (canRetry ch bf c))

/-! ### Errors (R293, R294) -/

/-- Bus-off of a channel (R294). -/
def canBusOff (ch : Nat) (c : Chip) : Chip :=
  let c := forAll ((canCh c ch).tx.filter (fun b => b.2.st == 1 || b.2.st == 2)) (fun b c =>
    canFinal ch b.1 5 0 (updTx ch b.1 (fun x => { x with held := none }) c)) c
  let c := updCan ch (fun h => { h with
    st := if cfgb c (0x4000 + ch) 1 7 then .busOff else .recovering, busoffs := (h.busoffs + 1) % 2 ^ 32 }) c
  let c := record 0x0701 (0x0B00 + ch) [] c
  raiseBound (cfgb c (0x4000 + ch) 1 16) 2 (cfg c (0x4000 + ch) 1 15 8) c

/-- Counts a violation and records it (R293). -/
def canViol (ch cls : Nat) (id : Option Nat) (c : Chip) : Chip :=
  let c := updCan ch (fun h => { h with viol := Map.upd h.viol cls 0 (fun n => (n + 1) % 2 ^ 32) }) c
  let h := canCh c ch
  record (0x070F + cls) (0x0B00 + ch) ([ch, h.tec, h.recCnt] ++ id.toList) c

/-- CAN_BUS_ERROR (R293). An overload frame, class 6, ends no frame. -/
def evCanBusError (dt ch cls : Nat) (id : Option Nat) (dTec dRec : Nat) (c : Chip) : Chip :=
  let c := pass dt c
  if !(canCh c ch).st.live then c
  else
    let t := (canCh c ch).tec + dTec
    let c := updCan ch (fun h => { h with tec := Nat.min 255 t, recCnt := Nat.min 255 (h.recCnt + dRec) }) c
    let c := canViol ch (cls + 1) id c
    let c := match canBusy c ch with | some bf => if cls = 5 then c else canRetry ch bf c | none => c
    canSettle ch (if 256 ≤ t then canBusOff ch c else canState ch c)

/-- CAN_RECOVERY_DONE (R294). -/
def evCanRecoveryDone (dt ch : Nat) (c : Chip) : Chip :=
  let c := pass dt c
  if (canCh c ch).st = .recovering then
    record 0x0702 (0x0B00 + ch) [] (updCan ch (fun h => { h with st := .errorActive, tec := 0, recCnt := 0 }) c)
  else c

/-- CAN_INTEGRATED (R280). -/
def evCanIntegrated (dt ch : Nat) (c : Chip) : Chip :=
  let c := pass dt c
  if (canCh c ch).st = .integrating then updCan ch (fun h => { h with st := canLive c ch h }) c else c

/-! ### Reception (R288 to R292) -/

/-- A filter of two words accepts a frame (R288, R291); `remote` says whether it can take remote frames. -/
def canMatch (w1 w2 : Nat) (remote : Bool) (f : CanFrame) : Bool :=
  let fmt := bits w2 31 30
  bit w1 31 && (fmt == 0 || (fmt == 1 && !f.fdf) || (fmt == 2 && f.fdf)) && (!f.rtr || (remote && fmt != 2))
    && (!bit w2 29 || bit w1 30 == f.ext) && ((f.id ^^^ bits w1 28 0) &&& bits w2 28 0) == 0

/-- An 80-byte record of a received frame (R290, R291); bit 7 of FLAGS is `isNew`. -/
def rxBytes (r : RxFrame) (isNew ring : Bool) : List Byte :=
  let f := r.frame
  leBytes 4 (f.id + b01 f.ext * 2 ^ 31) ++ leBytes 1 f.dlc
    ++ flagByte [f.fdf, f.brs, f.esi, ring && f.rtr, false, false, false, isNew] ++ leBytes 2 r.seq ++ leBytes 8 r.ts
    ++ padTo 64 (if f.rtr then [] else f.data.take (dlcLen f.dlc))

/-- First word of an object's settings. -/
def objIx (ch o : Nat) : Nat := 0x4100 + 0x80 * ch + o

/-- Takes a token of an object's bucket of depth 4 (R292); whether one was there. -/
def canToken (lim now : Nat) (o : CanObj) : CanObj × Bool :=
  let t := Nat.min 4000000 (o.tokens + lim * (now - o.tokAt))
  if 1000000 ≤ t then ({ o with tokens := cut t 1000000, tokAt := now }, true) else ({ o with tokens := t, tokAt := now }, false)

/-- Stores a frame in an object (R289). -/
def canStore (f : CanFrame) (ts : Nat) (o : CanObj) : CanObj :=
  let n := (o.seq + 1) % 65536
  let r : RxFrame := { frame := f, seq := n, ts := ts }
  let o := { o with seq := n, isNew := true }
  if n % 2 = 0 then { o with slot0 := some r } else { o with slot1 := some r }

/-- The copy a reader obtains of an object (R289). -/
def canCopy (o : CanObj) : Option RxFrame := if o.seq % 2 = 0 then o.slot0 else o.slot1

/-- Puts a frame into ring 0 or 1 of a channel: handed to the subscribers when there are any, else kept (R291, R403). -/
def canRing (ch k : Nat) (f : CanFrame) (ts : Nat) (c : Chip) : Chip :=
  let h := canCh c ch
  let n := ((if k = 0 then h.ringSeq.1 else h.ringSeq.2) + 1) % 65536
  let r : RxFrame := { frame := f, seq := n, ts := ts }
  let c := updCan ch (fun h => { h with ringSeq := if k = 0 then (n, h.ringSeq.2) else (h.ringSeq.1, n) }) c
  if c.mbx.sess.any (fun e => bit e.2.subs (2 * ch + k)) then exportRing (112 + 2 * ch + k) (rxBytes r false true) c
  else updCan ch (fun h => if k = 0 then { h with ring0 := h.ring0 ++ [r] } else { h with ring1 := h.ring1 ++ [r] }) c

/-- A frame that matches no object goes to the rings (R291). -/
def canToRings (ch : Nat) (f : CanFrame) (ts : Nat) (c : Chip) : Chip :=
  let w := fun s => setWord c.sets.main (0x4030 + ch) s
  let ok0 := canMatch (w 1) (w 2) true f
  let ok1 := canMatch (w 3) (w 4) true f
  let full0 := decide (256 ≤ (canCh c ch).ring0.length)
  let full1 := decide (256 ≤ (canCh c ch).ring1.length)
  if ok0 && !full0 then canRing ch 0 f ts c
  else if ok1 && !full1 then canRing ch 1 f ts c
  else if (ok0 && full0) || (ok1 && full1) then record 0x0730 (0x0B00 + ch) [] (bump (0x174 + 8 * ch) c)
  else c

/-- CAN_FRAME_RECEIVED (R288, R291, R292); REC falls as ISO 11898-1 has it (log entry 22). -/
def evCanFrameReceived (dt ch age : Nat) (f : CanFrame) (c : Chip) : Chip :=
  let c := pass dt c
  if !(canCh c ch).st.live then c
  else
    let ts := c.time.clock - age
    let r := (canCh c ch).recCnt
    let c := if 128 ≤ r then
        drawn (updCan ch (fun h => { h with recCnt := 119 + Config.freeNat c.sup.freeCtr [r] % 9 }) c)
      else updCan ch (fun h => { h with recCnt := r - 1 }) c
    let c := canState ch c
    let hit := (List.range 128).find? (fun o =>
      !f.rtr && canMatch (setWord c.sets.main (objIx ch o) 1) (setWord c.sets.main (objIx ch o) 2) false f)
    match hit with
    | none => canToRings ch f ts c
    | some o =>
      let lim := cfg c (objIx ch o) 3 15 0
      let ob := Map.getD (canCh c ch).objs o {}
      let (ob, ok) := if lim = 0 then (ob, true) else canToken lim (mTime c) ob
      let put := fun x => updCan ch (fun h => { h with objs := Map.put h.objs o x })
      if ok then bump (0x171 + 8 * ch) (put (canStore f ts ob) c)
      else bump (0x175 + 8 * ch) (canViol ch 7 (some f.id) (put ob c))

/-! ### Captures and take-over -/

/-- The captures of a boundary: every enabled object, and the transmit status (R287, R290). -/
def canCapture (c : Chip) : Chip :=
  { c with can := Map.mapV c.can (fun ch h =>
      { h with
        objs := Map.mapV h.objs (fun o x => if cfgb c (objIx ch o) 1 31 then { x with cap := canCopy x } else x)
        txCap := Map.mapV h.tx (fun _ b => (b.st, b.flags, b.tag)) }) }

/-- The other member takes over transmission on every channel it shares (R295). -/
def canTakeover (c : Chip) : Chip :=
  forAll (List.range 4) (fun ch c =>
    if canMode c ch = 1 && isPair c && !(canCh c ch).txActive then
      let c := updCan ch (fun h => { h with txActive := true, takeover := true }) c
      record 0x0732 (0x0B00 + ch) [] (canState ch c)
    else c) c

/-! ### Rows -/

/-- CAN_FRAME_RECEIVED. -/
def execCanFrameReceived (dt : Nat) (ch : Fin 4) (age : Nat) (f : CanFrame) : State → Host.Outcome State Fault Refusal :=
  lift (evCanFrameReceived dt ch age f)

/-- CAN_ARBITRATION. -/
def execCanArbitration (dt : Nat) (ch : Fin 4) : State → Host.Outcome State Fault Refusal := lift (evCanArbitration dt ch)

/-- CAN_FRAME_SENT. -/
def execCanFrameSent (dt : Nat) (ch : Fin 4) (tdcv : Option Nat) : State → Host.Outcome State Fault Refusal :=
  lift (evCanFrameSent dt ch tdcv)

/-- CAN_ARBITRATION_LOST. -/
def execCanArbitrationLost (dt : Nat) (ch : Fin 4) : State → Host.Outcome State Fault Refusal := lift (evCanArbitrationLost dt ch)

/-- CAN_BUS_ERROR. -/
def execCanBusError (dt : Nat) (ch : Fin 4) (cls : Fin 6) (id : Option Nat) (dTec dRec : Nat) :
    State → Host.Outcome State Fault Refusal :=
  lift (evCanBusError dt ch cls id dTec dRec)

/-- CAN_RECOVERY_DONE. -/
def execCanRecoveryDone (dt : Nat) (ch : Fin 4) : State → Host.Outcome State Fault Refusal := lift (evCanRecoveryDone dt ch)

/-- CAN_INTEGRATED. -/
def execCanIntegrated (dt : Nat) (ch : Fin 4) : State → Host.Outcome State Fault Refusal := lift (evCanIntegrated dt ch)

end Sys2Proof.Machine
end

