-- ==== Sys2Proof/Machine/Capture.lean ====
section
/-! DEFINITION. The global capture as a task sees it (R40, R58): the record of each kind of input, the substitutes of station
inputs (R305, R315), input forces (R155), and the input image of a job. -/
namespace Sys2Proof.Machine

open Sys2Proof

/-! ### Records of the global capture -/

/-- The 24-byte record of a digital input (R259). -/
def diBytes (d : Di) : List Byte :=
  [BitVec.ofNat 8 (b01 d.value), BitVec.ofNat 8 (b01 d.pc), 0, 0] ++ leBytes 4 d.cCount ++ leBytes 8 d.cRise ++ leBytes 8 d.cFall

/-- The 8-byte record of a digital output (R262). -/
def doBytes (d : Do) : List Byte := [BitVec.ofNat 8 (b01 d.cRb), 0] ++ leBytes 2 d.cMa ++ List.replicate 4 0

/-- The 40-byte HART record (R246). -/
def hartBytes (r : HRec) : List Byte :=
  padTo 20 (r.vals.flatMap (leBytes 4)) ++ leBytes 4 r.units ++ leBytes 8 r.ts ++ leBytes 1 r.dev ++ leBytes 1 r.comm
    ++ leBytes 1 r.st ++ List.replicate 5 0

/-- An 80-byte entry of a HART response ring (R248). -/
def respBytes (r : HResp) : List Byte :=
  leBytes 4 r.tag ++ leBytes 1 r.cmd ++ leBytes 1 r.rc ++ leBytes 1 r.st ++ leBytes 1 r.data.length ++ padTo 64 r.data
    ++ leBytes 8 r.ts

/-- The transmit status record of a CAN channel (R287). -/
def txBytes (h : CanCh) : List Byte :=
  (List.range 48).flatMap (fun b =>
    let (st, fl, tag) := Map.getD h.txCap b (0, 0, 0)
    leBytes 1 st ++ leBytes 1 fl ++ [0, 0] ++ leBytes 4 tag)

/-- The 8-byte snapshot entry of a counter (R465). -/
def cntBytes (c : Chip) (n : Nat) : List Byte :=
  leBytes 8 (Map.getD c.cnt.snap n 0 + b01 (c.cnt.snapStk.contains n) * 2 ^ 63)

/-- `n` bytes from offset `o` of a record. -/
def piece (b : List Byte) (o n : Nat) : List Byte := padTo n ((b.drop o).take n)

/-! ### Stations (R305, R314, R315) -/

/-- A station. -/
def station (c : Chip) (st : Nat) : Station := Map.getD c.net.stations st {}

/-- Changes a station. -/
def updStation (st : Nat) (f : Station → Station) (c : Chip) : Chip :=
  { c with net := { c.net with stations := Map.upd c.net.stations st {} f } }

/-- Status code of the inputs of a station (R314). -/
def stationStatus (t : Station) : Nat :=
  match t.st with
  | .ok => 0 | .missed => 0x30 | .transition => 0x08 | .starting => 0x31 | .substitute => 0x31 | .disabled => 0x0A

/-- The value held for a station input: the last good one, else its initial value (R305, R315). -/
def heldBytes (t : Station) (d : InDecl) (off : Nat) : List Byte :=
  match t.last with
  | some b => piece b off d.bytes
  | none => (List.range d.elems).flatMap (fun _ => leBytes d.ty.size d.init)

/-- Value of a station input: as received, held, or its substitute element by element (R305, R315). -/
def stationBytes (c : Chip) (t : Station) (d : InDecl) (off : Nat) : List Byte :=
  let held := heldBytes t d off
  if !t.useSub then held
  else
    (List.range d.elems).flatMap (fun i =>
      match c.sets.main.subst.find? (fun e => e.varId == d.varId && e.elem == i) with
      | some e => if e.policy = 0 then piece held (i * d.ty.size) d.ty.size else leBytes d.ty.size e.value
      | none => piece held (i * d.ty.size) d.ty.size)

/-! ### A declared input -/

/-- Value and status of a source as this module captured it. -/
def srcCap (c : Chip) (d : InDecl) : List Byte × Nat :=
  match d.src with
  | .ai ch => (leBytes 2 (ai c ch.val).cValue, (ai c ch.val).cStatus)
  | .aoRb ch => (leBytes 2 (ao c ch.val).cRb, (ao c ch.val).cStatus)
  | .di ch o => (piece (diBytes (div c ch.val)) o d.bytes, (div c ch.val).status)
  | .doRec ch o => (piece (doBytes (dov c ch.val)) o d.bytes, (dov c ch.val).cStatus)
  | .station st o => (stationBytes c (station c st.val) d o, stationStatus (station c st.val))
  | .hart h e =>
    let r := Map.getD (Map.getD c.io.hart h.val {}).cRecs e.val {}
    (hartBytes r, r.st)
  | .hartRsp h => (piece ((Map.getD c.io.hart h.val {}).cRing.flatMap respBytes) 0 320, 0)
  | .canObj ch o =>
    (match (Map.getD (canCh c ch.val).objs o.val {}).cap with
     | some r => rxBytes r false false
     | none => List.replicate 80 0, 0)
  | .canTx ch => (txBytes (canCh c ch.val), 0)
  | .cntr n => (cntBytes c n.val, 0)
  | .glb o => (Mem.rdN c.mem.glb o d.bytes, 0)

/-- Inputs are merged with the partner's (R343, R364). -/
def merges (c : Chip) : Bool := isPair c || c.sup.role == .reserveProof

/-- Value and status of a declared input: from the merged image where the declaration takes it there (R58, R343). -/
def declCap (c : Chip) (d : InDecl) : List Byte × Nat :=
  if d.merged && merges c then (Map.find c.pair.mergedVal d.varId).getD (srcCap c d) else srcCap c d

/-- Value and status of a declared input after the input forces (R155). -/
def forcedCap (c : Chip) (d : InDecl) : List Byte × Nat :=
  (c.sets.forces.filter (fun f => f.varId == d.varId && f.fkind == 0 && !bit f.flags 1 && decide (f.elem < d.elems))).foldl
    (fun v f =>
      (v.1.take (f.elem * d.ty.size) ++ leBytes d.ty.size f.value ++ v.1.drop ((f.elem + 1) * d.ty.size), 0)) (declCap c d)

/-! ### CAN objects in an image (R290) -/

/-- Number of a CAN object in a task's list of sequence numbers seen. -/
def objKey (ch o : Nat) : Nat := ch * 128 + o

/-- Sets the NEW bit of an object's record against what the task saw at its previous release; at the first release after a
restart or a throw against 0. -/
def markNew (k : Task) (key : Nat) (b : List Byte) : List Byte :=
  let seen := if k.firstRun || k.firstThrow then 0 else Map.getD k.canSeen key 0
  b.take 5 ++ leBytes 1 (fld b 5 1 % 128 + b01 (fld b 6 2 != seen) * 128) ++ b.drop 6

/-! ### The input image (R58) -/

/-- Value and status a task's image takes of a declared input. -/
def imageCap (c : Chip) (k : Task) (d : InDecl) : List Byte × Nat :=
  let v := forcedCap c d
  match d.src with
  | .canObj ch o => (markNew k (objKey ch.val o.val) v.1, v.2)
  | _ => v

/-- The input image of a job of task `t`: values in declaration order, then the status bytes; with the status list. -/
def buildImage (c : Chip) (t : Nat) : Mem × List Nat :=
  let ds := inDecls c.sets.main t
  let k := task c t
  let st := ds.map (fun d => (imageCap c k d).2)
  let m := (inLayout 0 ds).foldl (fun m d => Mem.wrN m d.2 (imageCap c k d.1).1) []
  (Mem.wrN m (inEnd 0 ds) (st.flatMap (leBytes 1)), st)

/-- Sequence numbers of the CAN objects a task sees at this release (R290). -/
def seenNow (c : Chip) (t : Nat) : Map Nat :=
  (inDecls c.sets.main t).foldl (fun m d =>
    match d.src with
    | .canObj ch o => Map.put m (objKey ch.val o.val) (fld (declCap c d).1 6 2)
    | _ => m) []

end Sys2Proof.Machine
end

