-- ==== Sys2Proof/Machine/Solver.lean ====
section
/-! DEFINITION. The Sage engine's arithmetic and solves (chapters 7, 8): rounding and saturation of R183 to R186, direct solves
with refinement, ADMM with its checks, certificates and best iterate. The spec states no order of operations for the
factorisations and the solves from a factor, so these are free values of `Config` (log entry 19). -/
namespace Sys2Proof.Machine

open Sys2Proof

/-! ### Arithmetic (R182 to R186) -/

/-- A value with the saturation events that led to it. -/
abbrev Sat := Int × Nat

/-- Saturates to 32 bits, one event when it acts (R184). -/
def sat32 (w : Int) : Sat :=
  if 0x7FFFFFFF < w then (0x7FFFFFFF, 1) else if w < -0x80000000 then (-0x80000000, 1) else (w, 0)

/-- Saturates to 64 bits, one event when it acts (R183). -/
def sat64 (w : Int) : Sat :=
  if (2 ^ 63 : Int) - 1 < w then ((2 ^ 63 : Int) - 1, 1) else if w < -(2 ^ 63 : Int) then (-(2 ^ 63 : Int), 1) else (w, 0)

/-- The quotient of `v` by `d`, `d` positive, rounded to nearest with ties to even. -/
def tieEven (v : Int) (d : Nat) : Int :=
  let q := v / (d : Int)
  let r := v - q * (d : Int)
  if (d : Int) < 2 * r ∨ (2 * r = (d : Int) ∧ q % 2 = 1) then q + 1 else q

/-- Brings a value of `fs` fraction bits to `fy` fraction bits by one rounding, then saturates (R184). -/
def qround (v : Int) (fs fy : Nat) : Sat :=
  let w := if fs ≤ fy then sat64 (v * (2 ^ (fy - fs) : Nat)) else (tieEven v (2 ^ (fs - fy)), 0)
  let r := sat32 w.1
  (r.1, w.2 + r.2)

/-- The exact quotient of `a / 2^fa` by `b / 2^fb`, rounded once to `fy` fraction bits (R186); `b` is not 0. -/
def qdivide (a : Int) (fa : Nat) (b : Int) (fb fy : Nat) : Sat :=
  let s := if b < 0 then -a else a
  sat32 (tieEven (s * (2 ^ (fb + fy) : Nat)) (b.natAbs * 2 ^ fa))

/-- A sum of products in the 64-bit accumulator (R183). -/
def accumulate (ps : List (Int × Int)) : Sat :=
  ps.foldl (fun a p => let r := sat64 (a.1 + p.1 * p.2); (r.1, a.2 + r.2)) (0, 0)

/-- Adds two values of different fraction bits exactly, at the larger of the two (R185). -/
def addMixed (a : Int) (fa : Nat) (b : Int) (fb : Nat) : Int × Nat :=
  let f := Nat.max fa fb
  (a * (2 ^ (f - fa) : Nat) + b * (2 ^ (f - fb) : Nat), f)

/-- Values of a list of results. -/
def satVals (l : List Sat) : List Int := l.map (·.1)

/-- Events of a list of results. -/
def satEvts (l : List Sat) : Nat := (l.map (·.2)).sum

/-- The largest magnitude. -/
def norm (l : List Int) : Int := l.foldl (fun a v => if a < (v.natAbs : Int) then (v.natAbs : Int) else a) 0

/-! ### Operands -/

/-- Index and entry of the block of a role. -/
def Desc.blk (d : Desc) (role : Nat) : Option (Nat × SBlk) :=
  ((List.range d.blks.length).zip d.blks).find? (fun p => p.2.role == role)

/-- Fraction bits of the block of a role. -/
def Desc.frac (d : Desc) (role : Nat) : Nat := match d.blk role with | some p => p.2.fmt - 0x20 | none => 0

/-- The elements of an input or work block of a role, row by row. -/
def Desc.vals (d : Desc) (x : Slot) (role : Nat) : List Int :=
  match d.blk role with | some p => slotRead x p.1 p.2.count false | none => []

/-- Element (i, j) of a block of `cols` columns. -/
def elt (l : List Int) (cols i j : Nat) : Int := l.getD (i * cols + j) 0

/-- A row of a matrix. -/
def rowOf (l : List Int) (cols i : Nat) : List Int := (l.drop (i * cols)).take cols

/-- A column of a matrix of `rows` rows. -/
def colOf (l : List Int) (rows cols j : Nat) : List Int := (List.range rows).map (fun i => elt l cols i j)

/-- The symmetric matrix of which only elements with column ≤ row are read (R176). -/
def symm (l : List Int) (n : Nat) : List Int :=
  (List.range n).flatMap (fun i => (List.range n).map (fun j => if j ≤ i then elt l n i j else elt l n j i))

/-- A vector of `n` elements within 32 bits, from a list of any length. -/
def vecOf (n : Nat) (l : List Int) : List Int := (List.range n).map (fun i => (sat32 (l.getD i 0)).1)

/-- What a solve leaves: outcome code, iterations or refinements, results in the order x, y, z, saturation events with the role
and step at which they ended the job, the FACT block, whether a factorisation completed, and rows of WV. -/
structure Solve where
  code : Nat
  iter : Nat := 0
  res  : List (List Int) := []
  sat  : Nat := 0
  role : Nat := 0
  step : Nat := 0
  fact : List Int := []
  wv   : List (Nat × List Int) := []
  deriving DecidableEq, Repr

/-! ### Factorisation -/

/-- The factor sources of a class: A; P and A for QP (R209). -/
def Desc.sources (d : Desc) (x : Slot) : List (List Int) :=
  let a := d.vals x 0x01
  if d.cls = 4 then [symm (d.vals x 0x03) d.n, a] else if d.cls = 2 then [symm a d.n] else [a]

/-- Elements of the FACT block. -/
def Desc.factSize (d : Desc) : Nat := match d.blk 0x20 with | some p => p.2.count | none => 0

/-- The pivots of FACT: its diagonal (R176). -/
def Desc.pivots (d : Desc) (fact : List Int) : List Int :=
  match d.blk 0x20 with
  | some p => (List.range (Nat.min p.2.rows p.2.cols)).map (fun i => elt fact p.2.cols i i)
  | none => []

/-- A pivot that ends the job as SINGULAR (R212). -/
def Desc.singular (d : Desc) (fact : List Int) : Bool :=
  (d.pivots fact).any (fun v => decide ((v.natAbs : Int) < d.singThr) || (d.cls == 2 && decide (v ≤ 0)))

/-! ### Linear systems (R211) -/

/-- b − A·x: exact accumulation and one rounding in the format of b (R211). -/
def Desc.residual (d : Desc) (a b x : List Int) (m n : Nat) : List Sat :=
  let fp := d.frac 0x01 + d.frac 0x10
  (List.range m).map (fun i =>
    let s := accumulate ((rowOf a n i).zip x)
    let t := addMixed (b.getD i 0) (d.frac 0x02) (-s.1) fp
    let r := qround t.1 t.2 (d.frac 0x02)
    (r.1, s.2 + r.2))

/-- Refinement from step `s` on (R211); `prev` is the residual of the step before. -/
def Desc.refineLoop (d : Desc) (a b fact : List Int) (m : Nat) (fuel s : Nat) (prev : Option (List Int)) (x : List Int) : Solve :=
  let rs := d.residual a b x m d.n
  let res := satVals rs
  let conv := if d.cls = 3 then
      (match prev with
       | some p => decide (norm ((res.zip p).map (fun e => e.1 - e.2)) ≤ d.tolAbsPri)
       | none => d.refine == 0)
    else decide (norm res ≤ d.tolAbsPri)
  if satEvts rs != 0 then { code := 0x202, iter := s, sat := satEvts rs, role := 0x22, step := s, fact := fact }
  else if conv then { code := 0x100, iter := s, res := [x], fact := fact }
  else
    match fuel with
    | 0 => { code := 0x101, iter := s, res := [x], fact := fact }
    | f + 1 =>
      let dv := vecOf d.n (Config.sageSolve d.cls fact [res])
      let xs := (x.zip dv).map (fun e => sat32 (e.1 + e.2))
      let ev := Config.sageSolveSat d.cls fact [res] + satEvts xs
      if ev != 0 then { code := 0x202, iter := s + 1, sat := ev, role := 0x10, step := s + 1, fact := fact }
      else d.refineLoop a b fact m f (s + 1) (some res) (satVals xs)

/-- A linear-system job from its factor. -/
def Desc.linear (d : Desc) (x : Slot) (fact : List Int) : Solve :=
  let a := if d.cls = 2 then symm (d.vals x 0x01) d.n else d.vals x 0x01
  let b := d.vals x 0x02
  let m := if d.cls = 3 then d.m else d.n
  let rhs := if d.cls = 3 then [b, a] else [b]
  let ev := Config.sageSolveSat d.cls fact rhs
  if ev != 0 then { code := 0x202, sat := ev, role := 0x10, fact := fact }
  else d.refineLoop a b fact m d.refine 0 none (vecOf d.n (Config.sageSolve d.cls fact rhs))

/-! ### ADMM (R213 to R216) -/

/-- The data of a QP or LP job. -/
structure Qp where
  d : Desc
  p : List Int
  q : List Int
  a : List Int
  l : List Int
  u : List Int

/-- A limit that stands for no limit (R188). -/
def noLo (v : Int) : Bool := v == -0x80000000

/-- A limit that stands for no limit (R188). -/
def noHi (v : Int) : Bool := v == 0x7FFFFFFF

/-- Fraction bits of x, of y, of z. -/
def Qp.fx (k : Qp) : Nat := k.d.frac 0x10

/-- Fraction bits of y. -/
def Qp.fy (k : Qp) : Nat := k.d.frac 0x11

/-- Fraction bits of z, l and u. -/
def Qp.fz (k : Qp) : Nat := k.d.frac 0x12

/-- Projection onto the limits of row `i` (R213). -/
def Qp.clampRow (k : Qp) (i : Nat) (v : Int) : Int :=
  let lo := k.l.getD i 0
  let hi := k.u.getD i 0
  let v := if !noLo lo && decide (v < lo) then lo else v
  if !noHi hi && decide (hi < v) then hi else v

/-- ALPHA·a + (1 − ALPHA)·b at fraction bits `f`, rounded once; ALPHA has 30 (R174). -/
def relax (alpha a b : Int) (f : Nat) : Sat := qround (alpha * a + ((2 ^ 30 : Int) - alpha) * b) (f + 30) f

/-- What one iteration makes of x, z, y: the new ones, the differences and the saturation events. Each line of R213 is formed
exactly and rounded once to the format of the vector it gives (log entry 20). -/
def Qp.iterate (k : Qp) (fact x z y : List Int) : List Int × List Int × List Int × List Int × List Int × Nat :=
  let n := k.d.n
  let m := k.d.m
  let s := vecOf (n + m) (Config.sageSolve k.d.cls fact [x, k.q, z, y])
  let ev := Config.sageSolveSat k.d.cls fact [x, k.q, z, y]
  let xt := s.take n
  let nu := s.drop n
  let zt := (List.range m).map (fun i =>
    let qv := qdivide (nu.getD i 0 - y.getD i 0) k.fy k.d.rho 16 k.fz
    let r := sat32 (z.getD i 0 + qv.1)
    (r.1, qv.2 + r.2))
  let xn := (List.range n).map (fun i => relax k.d.alpha (xt.getD i 0) (x.getD i 0) k.fx)
  let zr := (List.range m).map (fun i => relax k.d.alpha ((satVals zt).getD i 0) (z.getD i 0) k.fz)
  let zn := (List.range m).map (fun i =>
    let qv := qdivide (y.getD i 0) k.fy k.d.rho 16 k.fz
    let r := sat32 ((satVals zr).getD i 0 + qv.1)
    (k.clampRow i r.1, qv.2 + r.2))
  let yn := (List.range m).map (fun i =>
    let t := addMixed (y.getD i 0) k.fy (k.d.rho * ((satVals zr).getD i 0 - (satVals zn).getD i 0)) (16 + k.fz)
    qround t.1 t.2 k.fy)
  let sub := fun (a b : List Int) => (a.zip b).map (fun e => sat32 (e.1 - e.2))
  let dx := sub (satVals xn) x
  let dy := sub (satVals yn) y
  (satVals xn, satVals zn, satVals yn, satVals dx, satVals dy,
    ev + satEvts zt + satEvts xn + satEvts zr + satEvts zn + satEvts yn + satEvts dx + satEvts dy)

/-- A matrix-vector product rounded once per row to `f` fraction bits. -/
def mulRows (rows : List (List Int)) (v : List Int) (fs f : Nat) : List Sat :=
  rows.map (fun r => let s := accumulate (r.zip v); let q := qround s.1 fs f; (q.1, s.2 + q.2))

/-- The rows of A. -/
def Qp.aRows (k : Qp) : List (List Int) := (List.range k.d.m).map (rowOf k.a k.d.n)

/-- The rows of the transpose of A. -/
def Qp.aCols (k : Qp) : List (List Int) := (List.range k.d.n).map (colOf k.a k.d.m k.d.n)

/-- The rows of P; none in an LP. -/
def Qp.pRows (k : Qp) : List (List Int) := if k.d.cls = 4 then (List.range k.d.n).map (rowOf k.p k.d.n) else []

/-- A row with no limits (R188). -/
def Qp.freeRow (k : Qp) (i : Nat) : Bool := noLo (k.l.getD i 0) && noHi (k.u.getD i 0)

/-- A tolerance: absolute plus a Q0.31 share of a norm (R214). -/
def tolOf (abs rel nrm : Int) : Sat := let r := qround (rel * nrm) 31 0; (abs + r.1, r.2)

/-- Residuals and tolerances at a check: r_pri, e_pri in the format of z, r_dua, e_dua in the format of q, and events (R214). -/
def Qp.residuals (k : Qp) (x z y : List Int) : Int × Int × Int × Int × Nat :=
  let fq := k.d.frac 0x04
  let ax := mulRows k.aRows x (k.d.frac 0x01 + k.fx) k.fz
  let pri := (List.range k.d.m).filterMap (fun i =>
    if k.freeRow i then none else some (sat32 ((satVals ax).getD i 0 - z.getD i 0)))
  let px := mulRows k.pRows x (k.d.frac 0x03 + k.fx) fq
  let aty := mulRows k.aCols y (k.d.frac 0x01 + k.fy) fq
  let dua := (List.range k.d.n).map (fun i =>
    sat32 ((satVals px).getD i 0 + k.q.getD i 0 + (satVals aty).getD i 0))
  let big := fun (l : List Int) => norm l
  let ePri := tolOf k.d.tolAbsPri k.d.tolRelPri (norm [big (satVals ax), big z])
  let eDua := tolOf k.d.tolAbsDua k.d.tolRelDua (norm [big (satVals px), big (satVals aty), big k.q])
  (norm (satVals pri), ePri.1, norm (satVals dua), eDua.1,
    satEvts ax + satEvts pri + satEvts px + satEvts aty + satEvts dua + ePri.2 + eDua.2)

/-- The comparison `a / 2^fa ≤ eps / 2^31 · b / 2^fb`, exact (R215). -/
def leScaled (a : Int) (fa : Nat) (eps b : Int) (fb : Nat) : Bool :=
  decide (a * (2 ^ (31 + fb) : Nat) ≤ eps * b * (2 ^ fa : Nat))

/-- The primal infeasibility certificate (R215). -/
def Qp.primalInf (k : Qp) (dy : List Int) : Bool :=
  let nd := norm dy
  let aty := k.aCols.map (fun c => (accumulate (c.zip dy)).1)
  let bad := (List.range k.d.m).any (fun i =>
    (noHi (k.u.getD i 0) && decide (0 < dy.getD i 0)) || (noLo (k.l.getD i 0) && decide (dy.getD i 0 < 0)))
  let s := ((List.range k.d.m).map (fun i =>
    let v := dy.getD i 0
    if 0 < v then k.u.getD i 0 * v else if v < 0 then k.l.getD i 0 * v else 0)).sum
  decide (0 < nd) && leScaled (norm aty) (k.d.frac 0x01 + k.fy) k.d.epsP nd k.fy && !bad
    && leScaled s (k.fz + k.fy) (-k.d.epsP) nd k.fy

/-- The dual infeasibility certificate (R215). -/
def Qp.dualInf (k : Qp) (dx : List Int) : Bool :=
  let nd := norm dx
  let pdx := k.pRows.map (fun r => (accumulate (r.zip dx)).1)
  let qdx := (accumulate (k.q.zip dx)).1
  let rows := (List.range k.d.m).all (fun i =>
    let v := (accumulate ((rowOf k.a k.d.n i).zip dx)).1
    let f := k.d.frac 0x01 + k.fx
    (noHi (k.u.getD i 0) || leScaled v f k.d.epsD nd k.fx) && (noLo (k.l.getD i 0) || leScaled (-v) f k.d.epsD nd k.fx))
  decide (0 < nd) && leScaled (norm pdx) (k.d.frac 0x03 + k.fx) k.d.epsD nd k.fx
    && leScaled qdx (k.d.frac 0x04 + k.fx) (-k.d.epsD) nd k.fx && rows

/-- One quotient of the score in Q15.16, saturating without an event (R216); by a tolerance of 0 a free value (log entry 19). -/
def scoreOf (r e : Int) : Int := if e = 0 then (sat32 (Config.freeInt 0 [r])).1 else (qdivide r 0 e 0 16).1

/-- The best iterate so far: score, x, y, z. -/
abbrev Best := Option (Int × List Int × List Int × List Int)

/-- Rows of WV at the end of a job: the certificate in row 5, the best x and z in row 6, the best y in row 7 (R215, R216). -/
def wvRows (n : Nat) (dx dy : List Int) (best : Best) (cert : Bool) : List (Nat × List Int) :=
  (if cert then [(5, dx ++ dy)] else [])
    ++ (match best with | some (_, x, y, z) => [(6, x ++ z), (7, List.replicate n 0 ++ y)] | none => [])

/-- Iterations from `it` on (R213, R214); `fuel` counts those left. -/
def Qp.loop (k : Qp) (fact : List Int) (fuel it : Nat) (x z y : List Int) (best : Best) : Solve :=
  match fuel with
  | 0 => { code := 0x101, iter := it, fact := fact
           res := match best with | some (_, bx, byy, bz) => [bx, byy, bz] | none => [x, y, z] }
  | f + 1 =>
    let (x, z, y, dx, dy, ev) := k.iterate fact x z y
    let it := it + 1
    if ev != 0 then { code := 0x202, iter := it, sat := ev, role := 0x24, step := it, fact := fact }
    else if it % k.d.checkInt = 0 ∨ f = 0 then
      let (rp, ep, rd, ed, ev) := k.residuals x z y
      let sc := if scoreOf rp ep < scoreOf rd ed then scoreOf rd ed else scoreOf rp ep
      let best : Best := match best with | some (s, b) => if sc < s then some (sc, x, y, z) else some (s, b) | none => some (sc, x, y, z)
      if ev != 0 then { code := 0x202, iter := it, sat := ev, role := 0x24, step := it, fact := fact }
      else if rp ≤ ep ∧ rd ≤ ed then { code := 0x100, iter := it, res := [x, y, z], fact := fact, wv := wvRows k.d.n dx dy best false }
      else if k.primalInf dy then { code := 0x204, iter := it, fact := fact, wv := wvRows k.d.n dx dy best true }
      else if k.dualInf dx then { code := 0x205, iter := it, fact := fact, wv := wvRows k.d.n dx dy best true }
      else
        match f with
        | 0 =>
          { code := 0x101, iter := it, fact := fact, wv := wvRows k.d.n dx dy best false
            res := match best with | some (_, bx, byy, bz) => [bx, byy, bz] | none => [x, y, z] }
        | g + 1 => k.loop fact (g + 1) it x z y best
    else k.loop fact f it x z y best
termination_by structural fuel

/-- A QP or LP job from its factor (R213). -/
def Desc.admm (d : Desc) (x : Slot) (fact : List Int) : Solve :=
  let k : Qp :=
    { d := d, p := symm (d.vals x 0x03) d.n, q := d.vals x 0x04, a := d.vals x 0x01, l := d.vals x 0x05, u := d.vals x 0x06 }
  let start := fun role n =>
    if bit d.dflags 1 then (match d.blk role with | some p => slotRead x p.1 p.2.count x.pubBank | none => []) else List.replicate n 0
  k.loop fact d.iterCap 0 (start 0x10 d.n) (start 0x12 d.m) (start 0x11 d.m) none

/-- The cached factor is reused (R209). -/
def reuses (d : Desc) (x : Slot) : Bool := bit d.dflags 0 && x.factor && !x.dirty

/-- A job from its input blocks to its outcome (R208): factorisation unless the factor is reused, then the solve. -/
def solveJob (d : Desc) (x : Slot) : Solve :=
  let src := d.sources x
  let fact := if reuses d x then d.vals x 0x20 else vecOf d.factSize (Config.sageFactor d.cls src)
  let ev := if reuses d x then 0 else Config.sageFactorSat d.cls src
  if ev != 0 then { code := 0x202, sat := ev, role := 0x20 }
  else if d.singular fact then { code := 0x203, fact := fact }
  else if 4 ≤ d.cls then d.admm x fact
  else d.linear x fact

/-! ### Engine time (R181, R221) -/

/-- Bytes of the working set (R181). -/
def Desc.workBytes (d : Desc) : Nat := (d.blks.map (fun b => b.rows * b.stride)).sum

/-- Cycles of the load phase (R221), in 1/1536 cycle. -/
def Desc.loadParts (d : Desc) : Nat := d.workBytes * 96

/-- Cycles of the factorisation (R221), in 1/1536 cycle. -/
def Desc.factParts (d : Desc) : Nat :=
  let n := d.n
  let m := d.m
  match d.cls with
  | 1 => 2 * n ^ 3 + 73728 * n
  | 2 => n ^ 3 + 98304 * n
  | 3 => 2 * (n * n * (3 * m - n)) + 98304 * n
  | _ => (n + m) ^ 3 + 73728 * (n + m)

/-- Cycles of one refinement step or one iteration (R221), in 1/1536 cycle. -/
def Desc.stepParts (d : Desc) : Nat :=
  let n := d.n
  let m := d.m
  match d.cls with
  | 3 => 192 * n ^ 2 + 49152 * n + 24 * (m * n) + 24576
  | 4 => 192 * (n + m) ^ 2 + 49152 * (n + m)
  | 5 => 192 * (n + m) ^ 2 + 49152 * (n + m)
  | _ => 192 * n ^ 2 + 49152 * n + 24 * n ^ 2 + 24576

/-- Cycles of one check (R221), in 1/1536 cycle. -/
def Desc.checkParts (d : Desc) : Nat :=
  match d.cls with
  | 4 => 24 * (4 * (d.m * d.n) + 2 * d.n ^ 2) + 196608
  | 5 => 96 * (d.m * d.n) + 196608
  | _ => 0

/-- Cycles of a least-squares solve before its first refinement step (R221), in 1/1536 cycle. -/
def Desc.firstParts (d : Desc) : Nat := if d.cls = 3 then 48 * (d.m * d.n) else 0

/-- Phase of a running job after `t` ns and the refinement steps or iterations it has completed (R208, R218, R221; log entry 21): 1 load,
2 factorisation, 3 solve. -/
def phaseAt (d : Desc) (reuse : Bool) (t : Nat) : Nat × Nat :=
  let at_ := t * 12288 / 10
  let fac := if reuse then 0 else d.factParts
  if at_ < d.loadParts then (1, 0)
  else if at_ < d.loadParts + fac then (2, 0)
  else
    let left := at_ - d.loadParts - fac - d.firstParts
    if 4 ≤ d.cls then
      let ci := Nat.max 1 d.checkInt
      let blk := ci * d.stepParts + d.checkParts
      let whole := left / blk
      (3, Nat.min d.iterCap (whole * ci + Nat.min ci ((left - whole * blk) / d.stepParts)))
    else (3, Nat.min d.refine (left / d.stepParts - 1))

end Sys2Proof.Machine
end

