-- ==== Sys2Proof/Machine/Sage.lean ====
section
/-! DEFINITION. Sage jobs (chapters 7, 8): submission, the input check, the queue of an engine, a job's start and end, deadlines,
fallbacks, and the agreement of a pair on an outcome. -/
namespace Sys2Proof.Machine

open Sys2Proof

/-- Changes a slot. -/
def updSlot (s : Nat) (f : Slot → Slot) (c : Chip) : Chip := { c with slots := Map.upd c.slots s {} f }

/-- An engine of Sage. -/
def seEng (c : Chip) (e : Nat) : Engine := Map.getD c.hlth.se e {}

/-- The engine is ACTIVE. -/
def seActive (c : Chip) (e : Nat) : Bool := (seEng c e).st == .active

/-- A Sage cluster is fenced: none of its engines is left but FENCED, OFF or FAILED ones, and one is FENCED (R26). -/
def seFenced (c : Chip) (e : Nat) : Bool := (List.range 4).any (fun i => (seEng c (e / 4 * 4 + i)).st == .fenced)

/-- The engine on which a job of a slot runs, by the order of R170; none while no engine of it is active. -/
def placeOf (c : Chip) (x : Slot) : Option Nat :=
  if seActive c x.home then some x.home
  else
    match (seEng c x.home).subBy with
    | some e => if seActive c e then some e else if seFenced c x.home && seActive c x.alt then some x.alt else none
    | none => if seFenced c x.home && seActive c x.alt then some x.alt else none

/-- A status word of an error with the fallback of the descriptor (R203, R219). -/
def errWord (d : Desc) (x : Slot) (code : Nat) : Nat :=
  code + (if d.fallback = 1 then 0x4000 else if x.published then 0x8000 else 0)

/-- The Thyme code of an outcome; 0 for OK (R203). -/
def outcomeCode (code : Nat) : Nat :=
  match code with
  | 0x101 => 0x0916 | 0x201 => 0x0910 | 0x202 => 0x0911 | 0x203 => 0x0912 | 0x204 => 0x0913 | 0x205 => 0x0914
  | 0x206 => 0x0915 | _ => 0

/-- Counter of an outcome (R459). -/
def outcomeCtr (code : Nat) : Nat :=
  match code with
  | 0x100 => 0x0B0 | 0x101 => 0x0B1 | 0x201 => 0x0B2 | 0x202 => 0x0B3 | 0x203 => 0x0B4 | 0x204 => 0x0B5 | 0x205 => 0x0B6
  | _ => 0x0B7

/-- The outcome is an error. -/
def isErr (code : Nat) : Bool := decide (0x200 ≤ code)

/-- Raises the Sage error event of a task-owned slot for the fault task of its owner (R220). -/
def sageEvent (d : Desc) (c : Chip) : Chip :=
  if d.owner < 256 then raiseBound (cfgb c (0x2100 + d.owner) 9 8) 3 (cfg c (0x2100 + d.owner) 9 7 0) c else c

/-- What every end of a job does: status, presentation, record, counter, host completion; in a pair the outcome message, and the
event waits for the agreement; else the event at once (R203, R219, R220, R222). -/
def sageEnd (d : Desc) (s code iter : Nat) (ws : List Nat) (res : List (List Int)) (c : Chip) : Chip :=
  let x := slot c s
  let word := if isErr code then errWord d x code else code
  let c := updSlot s (fun x => { x with
    st := .idle, ops := none, host := none, phase := 0, last := word, cur := { word := word, tag := x.tag, iter := iter } }) c
  let c := bump (outcomeCtr code) c
  let c := if outcomeCode code = 0 then c else record (outcomeCode code) (0x0D00 + s) ws c
  let c := sageDone word iter x.tag x.host c
  if isPair c then
    let dg := Config.sageDigest res
    let late := match x.partner with | some (t, _, o) => t == x.tag && o.code == 0x206 && !isErr code | none => false
    updSlot s (fun x => { x with own := some (code, iter, dg) })
      (emit (.sageOutcome s x.tag code iter dg (if late then res else [])) c)
  else when (isErr code) (sageEvent d) c

/-- Words of DEADLINE_MISS: slot, phase, iterations, t_dl (R218): 0 checking or queued, 1 load, 2 factorisation, 3 solve. -/
def missWords (s phase iter dl : Nat) : List Nat := [s, phase, iter] ++ w64 dl

/-- Ends a job that never starts because its deadline has passed (R218, R225). -/
def sageLate (d : Desc) (s : Nat) (c : Chip) : Chip := sageEnd d s 0x206 0 (missWords s 0 0 (slot c s).dl) [] c

/-! ### Submission (R197, R217, R224) -/

/-- The element of a factor source changes when it is written (R209). -/
def srcRole (d : Desc) (role : Nat) : Bool := role == 0x01 || (d.cls == 4 && role == 0x03)

/-- The arrays as the input unit reads them after the flush (R197). -/
def readArrays (e : Env) (d : Desc) (refs : List Ref) : List (List Int) :=
  ((blksOf d 0).zip refs).map (fun p => (List.range p.1.2.count).map (fun i => p.2.ty.int (e.elem p.2 i)))

/-- A submission that takes effect: the slot is CHECKING with the operands, its deadline and its tag. -/
def submitSage (s dl tag : Nat) (ops : Option (List (List Int))) (host : Option (Nat × Nat)) (c : Chip) : Chip :=
  match descOf c.sets.main s with
  | none => c
  | some d =>
    let c := updSlot s (fun x => { x with
      st := .checking, dl := dl, tag := tag, ops := ops, host := host, own := none, orphan := false
      home := cfg c (0x6100 + s) 1 3 1, alt := cfg c (0x6100 + s) 1 6 4, cur := { x.cur with word := 1 } }) c
    if dl * 1000 ≤ c.time.clock then sageLate d s c else c

/-- Deadline of a task's submission (R217), or that of an armed deadline test (R224). -/
def taskDeadline (c : Chip) (d : Desc) (s t : Nat) (j : Job) : Nat × Bool :=
  match (slot c s).test with
  | some (us, tn) =>
    if tn ≤ j.tn then (j.rel + us, true) else (j.rel + cfg c (0x2100 + t) 2 31 0 * tTick c - d.marginUs, false)
  | none => (j.rel + cfg c (0x2100 + t) 2 31 0 * tTick c - d.marginUs, false)

/-- The submissions of a completed job, in slot order (R197, R198). -/
def submitJob (t : Nat) (j : Job) (c : Chip) : Chip :=
  forAll (j.sage.mergeSort (fun a b => decide (a.slot ≤ b.slot))) (fun q c =>
    match descOf c.sets.main q.slot with
    | none => c
    | some d =>
      let e : Env := { c := c, t := t, job := { j with journal := [] }, img := imageOf c.sets.main t, blk := { task := Fin.ofNat 256 t } }
      let (dl, used) := taskDeadline c d q.slot t j
      let c := when used (updSlot q.slot (fun x => { x with test := none })) c
      submitSage q.slot dl q.tag (some (readArrays e d q.refs)) none c) c

/-! ### The input check (R190 to R192) -/

/-- An element that R176 says is read. -/
def readElem (d : Desc) (b : SBlk) (k : Nat) : Bool :=
  let lower := decide (k % b.cols ≤ k / b.cols)
  if d.cls = 2 ∧ b.role = 0x01 then lower else if b.role = 0x03 then lower else true

/-- An element within its bounds, or a no-limit marker (R188, R190). -/
def inBounds (b : SBlk) (v : Int) : Bool :=
  (decide (b.lo ≤ v) && decide (v ≤ b.hi)) || (b.role == 0x05 && noLo v) || (b.role == 0x06 && noHi v)

/-- The first element that fails the check: block, element, value (R191). -/
def checkFail (d : Desc) (x : Slot) : Option (Nat × Nat × Int) :=
  let lo := d.vals x 0x05
  let hi := d.vals x 0x06
  (blksOf d 0).findSome? (fun p =>
    (List.range p.2.count).findSome? (fun k =>
      let v := Map.getD x.store (slotAt p.1 k false) 0
      if readElem d p.2 k && !inBounds p.2 v then some (p.1, k, v) else none))
    <|> (match d.blk 0x05 with
      | some p =>
        (List.range p.2.count).findSome? (fun k =>
          let a := lo.getD k 0
          let b := hi.getD k 0
          if !noLo a && !noHi b && decide (b < a) then some (p.1, k, a) else none)
      | none => none)

/-- Puts values into a block of slot storage. -/
def storeBlk (bi : Nat) (bank : Bool) (vs : List Int) (m : Map Int) : Map Int :=
  ((List.range vs.length).zip vs).foldl (fun m p => Map.put m (slotAt bi p.1 bank) p.2) m

/-- The operands copied into the input blocks; a factor source that changes sets SRC_DIRTY (R190, R209). -/
def copyOps (d : Desc) (ops : List (List Int)) (x : Slot) : Slot :=
  ((blksOf d 0).zip ops).foldl (fun x p =>
    let old := slotRead x p.1.1 p.1.2.count false
    { x with store := storeBlk p.1.1 false p.2 x.store, dirty := x.dirty || (srcRole d p.1.2.role && decide (old ≠ p.2)) }) x

/-- SAGE_INPUT_CHECK_DONE (R190 to R192, R206): the operands are copied and checked; the job is queued, or ends. -/
def evSageInputCheckDone (dt s : Nat) (c : Chip) : Chip :=
  let c := pass dt c
  match descOf c.sets.main s with
  | none => c
  | some d =>
    if (slot c s).st != .checking then c
    else
      let c := updSlot s (fun x => { (match x.ops with | some o => copyOps d o x | none => x) with ops := none }) c
      match checkFail d (slot c s) with
      | some (b, k, v) =>
        sageEnd d s 0x201 0 [s, b, k, unsigned 32 v] []
          (updSlot s (fun x => { x with failBlk := b, failElem := k, failVal := v }) c)
      | none =>
        if (slot c s).dl * 1000 ≤ c.time.clock then sageLate d s c else updSlot s (fun x => { x with st := .queued }) c

/-! ### Running (R206 to R210) -/

/-- The queued slot an engine takes next: the earliest deadline, then the lowest slot (R207). -/
def nextSlot (c : Chip) (e : Nat) : Option Nat :=
  (c.slots.filter (fun p => p.2.st == .queued && placeOf c p.2 == some e)).foldl (fun b p =>
    match b with | none => some p.1 | some u => if p.2.dl < (slot c u).dl then some p.1 else b) none

/-- SAGE_JOB_START (R170, R207): a free active engine takes a queued job. -/
def evSageJobStart (dt e : Nat) (c : Chip) : Chip :=
  let c := pass dt c
  if !seActive c e || c.slots.any (fun p => p.2.st == .running && p.2.runSe == e) then c
  else
    match nextSlot c e with
    | none => c
    | some s =>
      let x := slot c s
      let moved := e == x.alt && e != x.home && x.runSe != e
      let c := when moved (record 0x0902 (0x0D00 + s) [s, x.home, e]) c
      bump (0x098 + e) (updSlot s (fun x => { x with st := .running, runSe := e, startNs := c.time.clock, phase := 0 }) c)

/-- What a solve leaves in the slot: the factor, the results in the unpublished bank and the flip, rows of WV (R180, R187, R209,
R215, R216). -/
def applySolve (d : Desc) (r : Solve) (x : Slot) : Slot :=
  let built := !reuses d x
  let whole := built && !(r.code == 0x202 && r.role == 0x20)
  let x := { x with
    store := if whole then (match d.blk 0x20 with | some p => storeBlk p.1 false r.fact x.store | none => x.store) else x.store
    factor := if built then whole && r.code != 0x203 && bit d.dflags 0 else x.factor && r.code != 0x203
    dirty := x.dirty && !whole
    sat := Nat.min r.sat 0xFFFF }
  let x := match d.blk 0x24 with
    | some p => { x with store := r.wv.foldl (fun m w =>
        ((List.range w.2.length).zip w.2).foldl (fun m q => Map.put m (slotAt p.1 (w.1 * p.2.cols + q.1) false) q.2) m) x.store }
    | none => x
  if isErr r.code then x
  else
    let st := ((blksOf d 1).zip r.res).foldl (fun m p => storeBlk p.1.1 (!x.pubBank) p.2 m) x.store
    { x with store := st, pubBank := !x.pubBank, published := true }

/-- Discards a job whose slot a throw cleared (R225). -/
def dropOrphan (s : Nat) (c : Chip) : Chip :=
  let x := slot c s
  record 0x091B (0x0D00 + s) []
    (sageDone 0 0 x.tag x.host
      (updSlot s (fun y => { st := if (descOf c.sets.main s).isSome then .idle else .empty, runSe := y.runSe }) c))

/-- A slot is cleared by a throw or a restart (R225): a running job runs to its end, its outcome to be discarded. -/
def clearSlot (s : Nat) (c : Chip) : Chip :=
  let x := slot c s
  if x.st = .running then updSlot s (fun x => { x with orphan := true, published := false, factor := false, cur := {}, latched := {} }) c
  else sageDone 0 0 x.tag x.host (updSlot s (fun _ => { st := if (descOf c.sets.main s).isSome then .idle else .empty }) c)

/-- SAGE_JOB_END (R208): the running job of an engine ends with its outcome. -/
def evSageJobEnd (dt e : Nat) (c : Chip) : Chip :=
  let c := pass dt c
  match c.slots.find? (fun p => p.2.st == .running && p.2.runSe == e) with
  | none => c
  | some (s, x) =>
    if x.orphan then dropOrphan s c
    else
      match descOf c.sets.main s with
      | none => c
      | some d =>
        if x.dl * 1000 < c.time.clock then c
        else
          let r := solveJob d x
          let c := when (!reuses d x && !(r.code == 0x202 && r.role == 0x20)) (bump (0x0A0 + e)) c
          let c := if 4 ≤ d.cls then bumpBy (0x0A8 + e) r.iter c else c
          let ws := if r.code = 0x202 then [s, r.role, r.step] else []
          sageEnd d s r.code r.iter ws (if isErr r.code then [] else r.res) (updSlot s (applySolve d r) c)

/-- SAGE_DEADLINE (R218): at t_dl a job that has not published ends as DEADLINE_MISS. -/
def evSageDeadline (dt s : Nat) (c : Chip) : Chip :=
  let c := pass dt c
  let x := slot c s
  let c := pass (x.dl * 1000 - c.time.clock) c
  match x.st, descOf c.sets.main s with
  | .checking, some d => sageLate d s c
  | .queued, some d => sageLate d s c
  | .running, od =>
    if x.orphan then dropOrphan s c
    else
      match od with
      | none => c
      | some d =>
        let ph := phaseAt d (reuses d x) (x.dl * 1000 - x.startNs)
        let built := !reuses d x && ph.1 == 3
        let c := updSlot s (fun x => { x with
          factor := if ph.1 = 2 then false else if built then bit d.dflags 0 else x.factor
          dirty := x.dirty && !built
          store := if built then
              (match d.blk 0x20 with | some p => storeBlk p.1 false (solveJob d x).fact x.store | none => x.store) else x.store }) c
        let c := when built (bump (0x0A0 + x.runSe)) c
        let c := if 4 ≤ d.cls then bumpBy (0x0A8 + x.runSe) ph.2 c else c
        sageEnd d s 0x206 ph.2 (missWords s ph.1 ph.2 x.dl) [] c
  | _, _ => c

/-! ### Agreement in a pair (R222) -/

/-- SAGE_OUTCOME_RECEIVED (R222): the partner's outcome; a DEADLINE_MISS of the partner against an own result sends the blocks. -/
def evSageOutcomeReceived (dt s tag digest : Nat) (o : SOut) (c : Chip) : Chip :=
  let c := pass dt c
  if !isPair c then c
  else
    let x := slot c s
    let keep := match x.partner with
      | some (t, dg, p) => t == tag && dg == digest && o.res.isEmpty && !p.res.isEmpty
      | none => false
    let c := when (!keep) (updSlot s (fun x => { x with partner := some (tag, digest, o) })) c
    match x.own, descOf c.sets.main s with
    | some (code, iter, dg), some d =>
      if x.tag = tag ∧ !isErr code ∧ o.code = 0x206 then
        emit (.sageOutcome s tag code iter dg ((blksOf d 1).map (fun p => slotRead x p.1 p.2.count x.pubBank))) c
      else c
    | _, _ => c

/-- Takes the partner's published result: its blocks into the unpublished bank, and the flip (R222). -/
def adoptSage (d : Desc) (s : Nat) (o : SOut) (c : Chip) : Chip :=
  let c := updSlot s (fun x =>
    { x with
      store := ((blksOf d 1).zip o.res).foldl (fun m p => storeBlk p.1.1 (!x.pubBank) p.2 m) x.store
      pubBank := !x.pubBank, published := true, last := o.code
      cur := { word := o.code, tag := x.tag, iter := o.iter } }) c
  record 0x0918 (0x0D00 + s) [] c

/-- SAGE_AGREEMENT (R222): at t_ag the outcome is fixed, and the error event follows it. -/
def evSageAgreement (dt s : Nat) (c : Chip) : Chip :=
  let c := pass dt c
  if !isPair c then c
  else
    let x := slot c s
    match x.own, descOf c.sets.main s with
    | some (code, _, dg), some d =>
      let c := pass (x.dl * 1000 + 50000 - c.time.clock) c
      let clear := updSlot s (fun x => { x with own := none, partner := none })
      let ownOut := fun (agreed : Bool) (c : Chip) =>
        when (isErr code) (sageEvent d) (when (!agreed) (record 0x0919 (0x0D00 + s) []) (clear c))
      match x.partner with
      | some (t, pdg, o) =>
        if t != x.tag then ownOut false c
        else if code = 0x206 ∧ !isErr o.code then
          (if o.res.isEmpty then ownOut false c else clear (adoptSage d s o c))
        else if !isErr code ∧ o.code = 0x206 then ownOut true c
        else if isErr code then ownOut (code == o.code) c
        else ownOut (!isErr o.code && dg == pdg) c
      | none => ownOut false c
    | _, _ => c

/-! ### Rows -/

/-- SAGE_INPUT_CHECK_DONE. -/
def execSageInputCheckDone (dt : Nat) (s : Fin 64) : State → Host.Outcome State Fault Refusal := lift (evSageInputCheckDone dt s)

/-- SAGE_JOB_START. -/
def execSageJobStart (dt : Nat) (e : Fin 8) : State → Host.Outcome State Fault Refusal := lift (evSageJobStart dt e)

/-- SAGE_JOB_END. -/
def execSageJobEnd (dt : Nat) (e : Fin 8) : State → Host.Outcome State Fault Refusal := lift (evSageJobEnd dt e)

/-- SAGE_DEADLINE. -/
def execSageDeadline (dt : Nat) (s : Fin 64) : State → Host.Outcome State Fault Refusal := lift (evSageDeadline dt s)

/-- SAGE_OUTCOME_RECEIVED. -/
def execSageOutcomeReceived (dt : Nat) (s : Fin 64) (tag digest : Nat) (o : SOut) : State → Host.Outcome State Fault Refusal :=
  lift (evSageOutcomeReceived dt s tag digest o)

/-- SAGE_AGREEMENT. -/
def execSageAgreement (dt : Nat) (s : Fin 64) : State → Host.Outcome State Fault Refusal := lift (evSageAgreement dt s)

end Sys2Proof.Machine
end

