-- ==== Sys2Proof/Machine/Tasks.lean ====
section
/-! DEFINITION. Releases, completions and deadlines of jobs (chapters 2, 3, 5): TASK_RELEASE, HW_TIMER_EVENT, JOB_END and
JOB_DEADLINE. -/
namespace Sys2Proof.Machine

open Sys2Proof

/-! ### Hardware timer events (R118 to R120) -/

/-- Event number of a native timer, its place in the timer binding table. -/
def evtNo (cs : ConfigSet) (inst : Nat) : Option Nat := cs.timers.findIdx? (fun e => e.1 == inst)

/-- Instant in µs at which a running native timer expires: START + PT_LAST, less ACC for TRET; none when it does not run or has
expired, which a TON or TRET that runs on shows by its Q (R115, R119). -/
def ntExpiry (op : Nat) (b : List Byte) : Option Nat :=
  let n := NT.load b
  if !n.run || ((op == 0x0701 || op == 0x0705) && flg b 16 1) then none
  else some (n.start + (if op = 0x0705 then fld b 24 8 - n.acc else fld b 24 8))

/-- TN_ev of an expiry instant under a commit boundary (R120). -/
def tnEvOf (c : Chip) (exp tnc : Nat) : Nat := Nat.max (cdiv (exp * 1000) (tTick c * 1000)) tnc

/-- Arms or disarms the event of one native timer instance of task `t` (R119); an event used for a start is armed again only by
a new start (R120). -/
def armTimer (t inst tnc : Nat) (c : Chip) : Chip :=
  match evtNo c.sets.main inst, (imageOf c.sets.main t).insts.find? (fun e => e.id == inst) with
  | some no, some e =>
    let b := taskInst c.sets.main (task c t) e
    let w := (c.sets.main.timers.getD no (0, 0)).2
    let start := (NT.load b).start
    let x := Map.getD c.tt.hwTimers no {}
    let x := match ntExpiry e.opcode b with
      | some exp => if x.used = some start then { x with armed := false }
          else { x with armed := true, inst := inst, task := w, tnEv := tnEvOf c exp tnc }
      | none => { x with armed := false }
    let f := fld b 16 1
    let b := b.take 16 ++ leBytes 1 (f % 16 + b01 x.armed * 16 + f / 32 * 32) ++ b.drop 17
    updTask t (fun k => { k with insts := Map.put k.insts inst b })
      { c with tt := { c.tt with hwTimers := Map.put c.tt.hwTimers no x } }
  | _, _ => c
/-! ### Releases (R41, R45, R58 to R68) -/

/-- Class B is shed: at thermal stage 2 or higher, in a pair when the members shed (R482, R484). -/
def shedding (c : Chip) : Bool := if isPair c then c.hlth.shed else decide (2 ≤ c.hlth.stage)

/-- Records once per episode that task `t` is shed (R482). -/
def recShed (t : Nat) (c : Chip) : Chip :=
  if (task c t).shedDone then c
  else bump 0x1D9 (record 0x0E52 (0x0700 + t) [] (updTask t (fun k => { k with shedDone := true }) c))

/-- Shedding begins: the active class B jobs are discarded without an overrun (R482). -/
def shedStart (c : Chip) : Chip :=
  forAll ((usedTasks c).filter (fun t => taskCls c t == .b)) (fun t c =>
    match (task c t).job with
    | some j =>
      if j.done then c
      else dispatch (taskCe c t) (recShed t (updTask t (fun k => { k with st := .idle, job := none }) c))
    | none => c) c

/-- Shedding ends, and with it the episode. -/
def shedEnd (c : Chip) : Chip := forAll (usedTasks c) (fun t => updTask t (fun k => { k with shedDone := false })) c

/-- The module releases tasks (R34, R359, R479). -/
def releases (c : Chip) : Bool :=
  inRun c && c.sup.powerFail.isNone && c.pair.st != .resyncTarget && c.pair.st != .joining

/-- Release boundary of task `t` whose release falls into the present tick (R41). -/
def relBoundary (c : Chip) (t : Nat) : Option Nat :=
  let o := cfg c (0x2100 + t) 3 31 0 / tTick c
  if c.sets.mainTn + o ≤ c.tt.tn then some (c.tt.tn - o) else none

/-- Release offset in µs at a boundary: at an attempt boundary and at an adoption at least C_throw (R45, R151, R359). -/
def relOffset (c : Chip) (t tn : Nat) : Nat :=
  let o := cfg c (0x2100 + t) 3 31 0
  if tn = c.tt.tn ∧ (c.sets.delayRel || c.pair.adoptRel) then Nat.max o (live c 0x2020 1 31 0) else o

/-- PAIR_MODE of the SYS record (R91, R338). -/
def pairMode (c : Chip) : Nat :=
  if !isPair c then 0 else match c.pair.st with | .alone => 2 | .resyncSource => 2 | _ => 1

/-- The system-variable space of a job (R60, R91). -/
def sysBytes (c : Chip) (t : Nat) (k : Task) (tn rel cause : Nat) : List Byte :=
  let w := 0x2100 + t
  leBytes 8 tn ++ leBytes 8 rel ++ leBytes 8 (rel + cfg c w 4 31 0) ++ leBytes 4 cause ++ leBytes 2 k.ovrConsec ++ leBytes 1 t
    ++ flagByte [k.firstRun, k.firstThrow, k.skipped, cfgb c w 1 20]
    ++ leBytes 1 (pairMode c) ++ [0, 0, 0] ++ leBytes 4 c.sets.main.setId ++ leBytes 4 (tTick c) ++ leBytes 4 (cfg c w 2 31 0)
    ++ List.replicate 16 0

/-- Latches the presentations of the slots that task `t` owns (R201). -/
def latchSlots (t : Nat) (c : Chip) : Chip :=
  forAll (c.sets.main.descs.filter (fun d => d.owner == t)) (fun d => updSlot d.slot (fun x => { x with latched := x.cur })) c

/-- Releases task `t` for boundary `tn` with its pending events when `evts`: the image is copied, the staging filled with the
values last committed, and the job becomes ready on its engine (R41, R58, R60, R61, R67, R92). -/
def release (t tn : Nat) (evts : Bool) (c : Chip) : Chip :=
  let k := task c t
  let off := relOffset c t tn
  let relNs := bNs c tn + off * 1000
  let rel := (if tn = c.tt.tn && c.pair.adoptRel then bNs c tn / 1000 + cfg c (0x2100 + t) 3 31 0 else relNs / 1000)
  let cause := if evts then k.evtPend else 0
  let c := pass (relNs - c.time.clock) c
  let (img, st) := buildImage c t
  let j : Job :=
    { tn := tn, rel := rel, relNs := relNs, dl := relNs / 1000 + cfg c (0x2100 + t) 4 31 0, image := img, status := st
      sys := Mem.ofBytes (sysBytes c t k tn rel cause), staging := k.committed, loc := k.loc, insts := k.insts
      list := cfg c (0x2100 + t) 6 15 0 }
  let seen := seenNow c t
  let c := updTask t (fun k => { k with
    st := .ready, job := some j, relTn := some tn, firstRun := false, firstThrow := false, skipped := false
    canSeen := seen
    evtPend := if evts then 0 else k.evtPend
    evtCount := if evts then 0 else k.evtCount
    evtTn := if evts then none else k.evtTn }) c
  let c := bump (0x001 + (taskCls c t).idx) c
  let c := when evts (bump 0x013) c
  let c := when (evts && decide (2 ≤ k.evtCount)) (fun c => bump 0x014 (recTask 0x0404 t tn c)) c
  dispatch (taskCe c t) (latchSlots t c)

/-- A release of task `t` at the present tick for boundary `tn`: skipped after an overrun (R69), shed at a high die temperature
(R482), else made; one release serves a period and the pending events (R68). -/
def tryRelease (t tn : Nat) (c : Chip) : Chip :=
  let k := task c t
  let cls := taskCls c t
  let due := cls != .e && cfg c (0x2100 + t) 2 31 0 != 0 && tn % cfg c (0x2100 + t) 2 31 0 == 0
  let evts := k.evtPend != 0 && (match k.evtTn with | some x => decide (x ≤ tn) | none => false)
  if k.relTn = some tn ∨ k.job.isSome ∨ k.st = .suspended ∨ k.st = .halted ∨ k.st = .empty then c
  else
    let skip := due && k.skip
    let c := when skip (fun c => bump 0x010 (updTask t (fun k => { k with skip := false, skipped := true, relTn := some tn }) c)) c
    let shed := due && !skip && cls == .b && shedding c
    let c := when shed (fun c => bump 0x010 (recShed t (updTask t (fun k => { k with relTn := some tn, skipped := true }) c))) c
    when ((due && !skip && !shed) || evts) (release t tn evts) c

/-- TASK_RELEASE (R41). -/
def evTaskRelease (dt t : Nat) (c : Chip) : Chip :=
  let c := pass dt c
  if !releases c then c
  else match relBoundary c t with | some tn => tryRelease t tn c | none => c

/-- HW_TIMER_EVENT (R68, R120): the event is used once; its task is released at its boundary, or the event is held pending while
a job of it is active, and only counted while the task is suspended. -/
def evHwTimerEvent (dt e : Nat) (c : Chip) : Chip :=
  let c := pass dt c
  let x := Map.getD c.tt.hwTimers e {}
  if !releases c || !x.armed || decide (c.tt.tn < x.tnEv) then c
  else
    let t := x.task
    let start := match (usedTasks c).findSome? (fun u =>
        ((imageOf c.sets.main u).insts.find? (fun i => i.id == x.inst)).map (fun i => (u, i))) with
      | some (u, i) => some (u, (NT.load (taskInst c.sets.main (task c u) i)).start)
      | none => none
    let c := { c with tt := { c.tt with
      hwTimers := Map.put c.tt.hwTimers e { x with armed := false, used := start.map (·.2) } } }
    let c := match start with
      | some (u, _) => updTask u (fun k => { k with insts := Map.mapV k.insts (fun i b =>
          if i = x.inst then b.take 16 ++ leBytes 1 (fld b 16 1 % 16 + fld b 16 1 / 32 * 32) ++ b.drop 17 else b) }) c
      | none => c
    if (task c t).st = .suspended then updTask t (fun k => { k with evtLost := (k.evtLost + 1) % 2 ^ 32 }) c
    else
      let busy := (task c t).job.isSome
      let c := updTask t (fun k => { k with
        evtPend := k.evtPend ||| 64, evtCount := k.evtCount + 1, evtTn := if busy then none else some (k.evtTn.getD x.tnEv) }) c
      match relBoundary c t with | some tn => tryRelease t tn c | none => c

/-! ### Completion (R43, R63, R93, R514) -/

/-- Counts the job's writes to the sources of a throw in the change journal; more than 65,536 entries restart its preparation
(R148, R149). -/
def journalChange (t : Nat) (j : Job) (c : Chip) : Chip :=
  let img := imageOf c.sets.main t
  let nw := j.journal.length + cdiv (outEnd 0 (outDecls c.sets.main t)) 8
  let sd := img.instBytes + img.locBytes
  let c := { c with sets := { c.sets with nW := c.sets.nW + nw, sD := c.sets.sD + sd } }
  if (c.sets.siding == .preparing || c.sets.siding == .named) && decide (65536 < c.sets.chgOld + c.sets.nW) then
    record 0x0327 0x0300 [] { c with sets := { c.sets with siding := .preparing, chgOld := 0 } }
  else c

/-- Hands the staging of a completed job on (R42, R43, R62, R63, R248, R282, R376): at the commit boundary, or under commit at
completion the on-board outputs and CAN requests at once, the remote outputs at the next boundary, and the rest at the commit
boundary. -/
def handOver (t : Nat) (j : Job) (c : Chip) : Chip :=
  let due := j.relNs + cfg c (0x2100 + t) 5 31 0 * 1000
  let late := decide (due < c.time.clock)
  let next := c.tt.tn + 1
  let cb := if late then next else Nat.max next (cdiv due (tTick c * 1000))
  let s : Staged := { tn := cb, bytes := j.staging, can := j.can, hart := j.hart, panels := j.panels, timers := j.evalInst }
  let c := when late (fun c => bump 0x011 (recTask 0x0412 t j.tn c)) c
  if cfgb c (0x2100 + t) 1 20 then
    let l := outLayout 0 (outDecls c.sets.main t)
    let c := pushOuts l (forceOut c.sets.forces l j.staging) c
    let c := forAll j.can (fun r => canRequest next r []) c
    updTask t (fun k => { k with
      st := .idle
      staged := k.staged ++ [{ tn := next, early := true, bytes := j.staging, can := j.can }, { s with outs := false, can := [] }] }) c
  else updTask t (fun k => { k with st := .staged, staged := k.staged ++ [s] }) c

/-- The answer to an adoption request: instance states, locals and staging of the task after its job (R358). -/
def answerAdoption (t tn : Nat) (c : Chip) : Chip :=
  let k := task c t
  let m := match k.staged.getLast? with | some s => s.bytes | none => k.committed
  emit (.adoptAnswer t tn { insts := k.insts.map (fun e => (t, e.1, e.2)), locs := [(t, k.loc)], outs := [(t, m)] }) c

/-- What a pair member still does about a completed job of task `t`: it enters the journal of a re-synchronisation source (R359), and
the partner's request for it is answered (R358). -/
def tellPartner (t tn : Nat) (c : Chip) : Chip :=
  let c := when (c.pair.st == .resyncSource) (fun c =>
    { c with pair := { c.pair with jrnTasks := t :: c.pair.jrnTasks.filter (· != t) } }) c
  if c.pair.asked.contains t then answerAdoption t tn { c with pair := { c.pair with asked := c.pair.asked.filter (· != t) } } else c

/-- JOB_END (R514). A flush that ends during the power-fail sequence is part of the instance save (R130, R131). -/
def evJobEnd (dt t : Nat) (c : Chip) : Chip :=
  let c := pass dt c
  match (task c t).job with
  | none => c
  | some j =>
    if !j.done then c
    else
      let ce := taskCe c t
      let c := finishJob t j (journalChange t j c)
      let c := dispatch ce (tellPartner t j.tn (handOver t j (submitJob t j c)))
      when c.sup.powerFail.isSome saveInsts c

/-- JOB_DEADLINE (R69, R74): a job whose ending block has not ended overruns. -/
def evJobDeadline (dt t : Nat) (c : Chip) : Chip :=
  let c := pass dt c
  match (task c t).job with
  | none => c
  | some j => if j.done then c else overrun t j.tn (pass (j.dl * 1000 - c.time.clock) c)

/-! ### Rows -/

/-- TASK_RELEASE. -/
def execTaskRelease (dt : Nat) (t : Fin 256) : State → Host.Outcome State Fault Refusal := lift (evTaskRelease dt t)

/-- HW_TIMER_EVENT. -/
def execHwTimerEvent (dt : Nat) (e : Fin 4096) : State → Host.Outcome State Fault Refusal := lift (evHwTimerEvent dt e)

/-- JOB_END. -/
def execJobEnd (dt : Nat) (t : Fin 256) : State → Host.Outcome State Fault Refusal := lift (evJobEnd dt t)

/-- JOB_DEADLINE. -/
def execJobDeadline (dt : Nat) (t : Fin 256) : State → Host.Outcome State Fault Refusal := lift (evJobDeadline dt t)

end Sys2Proof.Machine
end

