-- ==== Sys2Proof/Machine/Analogue.lean ====
section
/-! DEFINITION. Analogue inputs and outputs and HART (chapter 9): conversions and the status of an input, comparisons with the
spare, substitutions, readback verification of outputs, field watchdogs and supply, HART transactions, and the captures. -/
namespace Sys2Proof.Machine

open Sys2Proof

/-! ### Analogue inputs (R227 to R231) -/

/-- MODE of an analogue input is not OFF. -/
def aiIsOn (c : Chip) (ch : Nat) : Bool := cfg c (0x3000 + ch) 1 2 0 != 0

/-- HART_MODE is multi-drop. -/
def aiMulti (c : Chip) (ch : Nat) : Bool := cfg c (0x3000 + ch) 1 4 3 == 2

/-- Status of an analogue input by the precedence of R230. -/
def aiStatus (c : Chip) (ch : Nat) (a : Ai) : Nat :=
  if a.trans then 0x08 else if a.subst then 0x07 else if !aiIsOn c ch then 0x0A else if a.miswire then 0x05
  else if a.short then 0x04 else if a.afe then 0x06 else if a.isOpen then 0x03 else if aiMulti c ch then 0x09
  else if a.ne43 = 2 then 0x02 else if a.ne43 = 1 then 0x01 else 0

/-- RANGE of a measured value (R231). -/
def aiRange (v : Nat) : Nat :=
  if 7600 ≤ v ∧ v ≤ 41000 then 0 else if 7200 ≤ v ∧ v < 7600 then 1 else if 41000 < v ∧ v ≤ 42000 then 2 else 3

/-- The alarm level of an analogue input in counts (R229). -/
def alarmLevel (c : Chip) (ch : Nat) : Nat := if cfgb c (0x3000 + ch) 1 5 then 43000 else 7000

/-- Value presented with a status (R230). -/
def aiValue (c : Chip) (ch : Nat) (a : Ai) (st : Nat) : Nat :=
  match st with
  | 0x0A => 0
  | 0x07 => a.value
  | 0x08 => a.value
  | 0x03 => alarmLevel c ch
  | 0x04 => alarmLevel c ch
  | 0x05 => alarmLevel c ch
  | 0x06 => alarmLevel c ch
  | _ => a.meas

/-- Changes an analogue input, brings status and value up to date and records an entry into a fault or its end (R230, R251). -/
def updAi (ch : Nat) (f : Ai → Ai) (c : Chip) : Chip :=
  let old := (ai c ch).status
  let a := f (ai c ch)
  let st := aiStatus c ch a
  let a := { a with status := st, value := aiValue c ch a st, range := aiRange a.meas }
  let c := { c with io := { c.io with ai := Map.put c.io.ai ch a } }
  if st = old then c
  else if 3 ≤ st ∧ st ≤ 6 then
    when (st != 6) (record 0x0601 (0x0900 + ch) []) (bump 0x110 c)
  else if st = 1 ∨ st = 2 then record 0x0602 (0x0900 + ch) [] c
  else if (st = 0 ∨ st = 9) ∧ 1 ≤ old ∧ old ≤ 6 then record 0x0603 (0x0900 + ch) [] c
  else c

/-- A condition that sets after `on` ns and clears after `off` ns of its own two inputs: state, instant the change began. -/
def debounce (st : Bool) (at_ : Option Nat) (set clr : Bool) (on off now : Nat) : Bool × Option Nat :=
  let want := if st then clr else set
  if !want then (st, none)
  else
    let t := at_.getD now
    if t + (if st then off else on) ≤ now then (!st, none) else (st, some t)

/-- One conversion of an analogue input (R228, R230). -/
def aiConvert (c : Chip) (ch counts : Nat) (limiter miswire : Bool) (a : Ai) : Ai :=
  let w := 0x3000 + ch
  let now := c.time.clock
  let flt := if cfg c w 1 15 13 = 0 then counts else Config.aiFilter (cfg c w 1 15 13) (cfg c w 1 12 11) a.filt counts
  let v := Nat.min flt 48000
  let loop := cfg c w 1 2 0 == 1 || aiMulti c ch
  let (mw, mwAt) := debounce a.miswire a.misAt miswire (!miswire) 1000000 50000000 now
  let (sh, shAt) := debounce a.short a.shortAt (limiter && !miswire) (!limiter) 1000000 50000000 now
  let toward := if a.isOpen then decide (2000 ≤ counts) else loop && decide (counts < 1000)
  let n := if toward then a.openCnt + 1 else 0
  let ne := if !cfgb c w 1 6 then 0
    else if v ≤ 7200 then 1 else if 42000 ≤ v then 2
    else if a.ne43 = 1 ∧ v < 7600 then 1 else if a.ne43 = 2 ∧ 41000 < v then 2 else 0
  { a with
    filt := flt, meas := v, miswire := mw, misAt := mwAt, short := sh, shortAt := shAt
    isOpen := if n = 4 then !a.isOpen else a.isOpen, openCnt := if n = 4 then 0 else n, ne43 := ne }

/-- AI_CONVERSION (R230): no conversion reaches a channel that is OFF, in substitution, or whose field side is reset. -/
def evAiConversion (dt ch counts : Nat) (limiter miswire : Bool) (c : Chip) : Chip :=
  let c := pass dt c
  if !aiIsOn c ch || (ai c ch).subst || c.io.fa = 3 then c
  else updAi ch (aiConvert c ch counts limiter miswire) c

/-! ### Substitution of analogue channels (R238 to R241) -/

/-- Where the list of completions that wait keeps a SUBSTITUTE of a unit (R434). -/
def substKey (unit : Nat) : Nat := 0x0E01 + unit * 2 ^ 16

/-- Completes the SUBSTITUTE commands that wait for a unit. -/
def completeSubst (unit status : Nat) (c : Chip) : Chip :=
  forAll (c.sup.waiting.filter (fun w => w.1 == substKey unit)) (fun w => complete 0x0E01 w.2.1 w.2.2 status [])
    { c with sup := { c.sup with waiting := c.sup.waiting.filter (fun w => w.1 != substKey unit) } }

/-- Counts and records a substitution and raises EVT_CAUSE bit 4 (R240, R488). -/
def spareUsed (unit by_ cause : Nat) (c : Chip) : Chip :=
  let c := completeSubst unit 0 (record 0x0E10 unit [unit, by_, cause] (bump 0x1DC c))
  raiseBound (cfgb c 0x7800 3 8) 4 (cfg c 0x7800 3 7 0) c

/-- No spare is left for a unit (R240). -/
def spareExhausted (unit level : Nat) (c : Chip) : Chip := completeSubst unit 0x0401 (record 0x0E14 unit [unit, level] c)

/-- Puts the spare of analogue group `g` into a state. -/
def setSpare (g : Nat) (st : SpareSt) (ch : Nat) (c : Chip) : Chip :=
  { c with io := { c.io with spare := Map.put c.io.spare g st, substCh := Map.put c.io.substCh g ch } }

/-- State of the spare of an analogue group. -/
def spareSt (c : Chip) (g : Nat) : SpareSt := Map.getD c.io.spare g .reserve

/-- Substitution of an input that is faulty or drifts (R240): started when the spare is in reserve and FA+ is at 16 V or more; a
fault that recurs on the spare makes the spare failed. Cause: 0 failure, 1 predictive, 2 command. -/
def substAi (ch cause : Nat) (c : Chip) : Chip :=
  let g := ch / 8
  if (ai c ch).onSpare then
    spareExhausted (0x0900 + ch) 4 (setSpare g .failed ch (updAi ch (fun a => { a with afe := true }) c))
  else if 2 ≤ c.io.fa then c
  else if spareSt c g = .reserve then
    spareUsed (0x0900 + ch) g cause (bump 0x112 (setSpare g .inUse ch (updAi ch (fun a => { a with subst := true, advised := false }) c)))
  else spareExhausted (0x0900 + ch) 4 c

/-- SPARE_COMPARISON (R239). -/
def evSpareComparison (dt ch ua : Nat) (c : Chip) : Chip :=
  let c := pass dt c
  let g := ch / 8
  if !aiIsOn c ch || spareSt c g != .reserve || (ai c ch).subst || c.io.fa = 3 then c
  else if 240 < ua then substAi ch 0 (updAi ch (fun a => { a with afe := true }) c)
  else if 24 < ua then
    let n := (ai c ch).driftN + 1
    let c := updAi ch (fun a => { a with driftN := Nat.min n 4 }) c
    if n = 3 then
      let c := record 0x0604 (0x0900 + ch) [] c
      if live c 0x7800 1 1 1 = 1 then
        bump 0x1DD (record 0x0E15 (0x0900 + ch) [0x0900 + ch, 4] (updAi ch (fun a => { a with advised := true }) c))
      else substAi ch 1 c
    else c
  else updAi ch (fun a => { a with driftN := 0 }) c

/-- AFE_MONITOR_FAULT (R240). -/
def evAfeMonitorFault (dt ch : Nat) (c : Chip) : Chip :=
  let c := pass dt c
  if !aiIsOn c ch || (ai c ch).subst then c else substAi ch 0 (updAi ch (fun a => { a with afe := true }) c)

/-! ### Analogue outputs (R232 to R237, R241) -/

/-- One verification condition of R234: up and down counts of samples, and whether it is set. -/
def verify (n : Nat × Nat) (b cond : Bool) : (Nat × Nat) × Bool :=
  let up := if cond then n.1 + 1 else 0
  let dn := if cond then 0 else n.2 + 1
  if !b && decide (40 ≤ up) then ((0, 0), true) else if b && decide (40 ≤ dn) then ((0, 0), false) else ((up, dn), b)

/-- The three conditions of R234: OPEN_LOOP, COMPLIANCE_LOW, EXT_DRIVE. -/
def aoConds (cmd rb : Nat) (h : Int) : List Bool :=
  [decide (2000 ≤ cmd) && decide (rb < 1000) && decide (h < 300), decide (h < 1500) && decide (rb + 400 < cmd),
   decide (cmd + 400 < rb)]

/-- AO_READBACK_SAMPLE (R234). -/
def evAoReadbackSample (dt ch rb : Nat) (h : Int) (c : Chip) : Chip :=
  let c := pass dt c
  let old := (ao c ch).status
  let c := updAo ch (fun a =>
    let a := { a with rb := rb % 65536, head := Nat.min h.toNat 65535 }
    if !aoOn c ch || a.subst || a.trans || c.io.fa = 3 then a
    else
      let l := ((a.cnts.zip a.conds).zip (aoConds a.cmd rb h)).map (fun x => verify x.1.1 x.1.2 x.2)
      { a with cnts := l.map (·.1), conds := l.map (·.2) }) c
  let st := (ao c ch).status
  when (st != old && (st == 0x10 || st == 0x11 || st == 0x13)) (fun c => record 0x0610 (0x0918 + ch) [] (bump 0x111 c)) c

/-- AO_DRV_FAULT (R241): the spare driver takes over make-before-break, unless there is none left. -/
def evAoDrvFault (dt ch : Nat) (c : Chip) : Chip :=
  let c := pass dt c
  let g := 3 + ch / 4
  let unit := 0x0918 + ch
  if !aoOn c ch || (ao c ch).subst then c
  else
    let c := record 0x0611 unit [] (updAo ch (fun a => { a with drv := true }) c)
    if (ao c ch).onSpare then spareExhausted unit 4 (setSpare g .failed ch c)
    else if 2 ≤ c.io.fa then c
    else if spareSt c g = .reserve then
      spareUsed unit g 0 (bump 0x112 (setSpare g .inUse ch (updAo ch (fun a => { a with subst := true }) c)))
    else spareExhausted unit 4 c

/-- AO_SUBSTITUTION_DONE (R241): commits that arrived during the transfer apply. -/
def evAoSubstitutionDone (dt ch : Nat) (c : Chip) : Chip :=
  let c := pass dt c
  if !(ao c ch).subst then c
  else
    let back := spareSt c (3 + ch / 4) == .reserve
    let held := (ao c ch).heldCmd
    let c := updAo ch (fun a => { a with subst := false, drv := false, onSpare := !back, heldCmd := none }) c
    match held with | some v => pushAo ch v c | none => c

/-- An AO group goes to its strap level (R237). -/
def aoStrap (g : Nat) (c : Chip) : Chip :=
  let lv := if Map.getD c.io.fdsHigh g false then 43000 else 7000
  forAll (List.range 4) (fun i c => updAo (g * 4 + i) (fun a => if aoOn c (g * 4 + i) then { a with cmd := lv } else a) c)
    { c with io := { c.io with aoWd := Map.put c.io.aoWd g true } }

/-- AO_WATCHDOG_EXPIRED (R237): the field side drives every ON channel of the group to its strap level. -/
def evAoWatchdogExpired (dt g : Nat) (c : Chip) : Chip :=
  let c := pass dt c
  if Map.getD c.io.aoWd g false || c.io.fa = 3
      || decide (c.time.clock < Map.getD c.io.refresh g 0 + cfg c 0x3030 (g + 1) 31 0 * 1000) then c
  else aoStrap g c

/-! ### FA+ (R242) -/

/-- Puts FA+ into a state. -/
def setFa (st mv : Nat) (c : Chip) : Chip := { c with io := { c.io with fa := st, faMv := mv } }

/-- FA_LOW. -/
def evFaLow (dt mv : Nat) (c : Chip) : Chip :=
  let c := pass dt c
  if 20400 ≤ mv ∨ c.io.fa = 3 then c
  else if c.io.fa = 0 then record 0x0620 0 [] (bump 0x1DA (bump 0x113 (setFa 1 mv c)))
  else if 16000 ≤ mv then setFa 1 mv c else c

/-- FA_LOW_CLEARED. -/
def evFaLowCleared (dt mv : Nat) (c : Chip) : Chip :=
  let c := pass dt c
  if mv < 21000 ∨ c.io.fa = 3 then c else setFa 0 mv c

/-- FA_SAG. -/
def evFaSag (dt mv : Nat) (c : Chip) : Chip :=
  let c := pass dt c
  if 16000 ≤ mv ∨ 2 ≤ c.io.fa then c
  else
    let c := record 0x0621 0 [] (bump 0x113 (setFa 2 mv c))
    raiseBound (cfgb c 0x3184 4 8) 5 (cfg c 0x3184 4 7 0) c

/-- FA_RESET: inputs present their alarm level with AFE_FAULT, outputs carry 0 mA. -/
def evFaReset (dt mv : Nat) (c : Chip) : Chip :=
  let c := pass dt c
  if 12000 ≤ mv ∨ c.io.fa = 3 then c
  else
    let c := record 0x0622 0 [] (bump 0x113 (setFa 3 mv c))
    let c := forAll (List.range 24) (fun ch => updAi ch (fun a => { a with afe := true })) c
    forAll (List.range 8) (fun ch => updAo ch (fun a => { a with cmd := 0, cnts := [(0, 0), (0, 0), (0, 0)] })) c

/-- FA_RECOVERED: AFE_FAULT clears per channel, outputs take the last committed value. -/
def evFaRecovered (dt mv : Nat) (c : Chip) : Chip :=
  let c := pass dt c
  if mv ≤ 18000 ∨ c.io.fa ≠ 3 then c
  else
    let c := record 0x0623 0 [] (bump 0x113 (setFa (if mv < 20400 then 1 else 0) mv c))
    let c := forAll (List.range 24) (fun ch => updAi ch (fun a => { a with afe := false })) c
    forAll (List.range 8) (fun ch c => pushAo ch (ao c ch).committed c) c

/-! ### HART (R243 to R251) -/

/-- A HART channel. -/
def hch (c : Chip) (h : Nat) : HChan := Map.getD c.io.hart h {}

/-- Changes a HART channel. -/
def updHart (h : Nat) (f : HChan → HChan) (c : Chip) : Chip := { c with io := { c.io with hart := Map.upd c.io.hart h {} f } }

/-- HART runs on the channel: an input with HART_MODE, an output with HART_EN and MODE ON, in neither case in TRANSITION; not while
the front end is substituted (R251); none in a proof run (R364). -/
def hartOn (c : Chip) (h : Nat) : Bool :=
  c.sup.role != .reserveProof &&
    (if h < 24 then aiIsOn c h && cfg c (0x3000 + h) 1 4 3 != 0 && !(ai c h).subst && !(ai c h).trans
     else aoOn c (h - 24) && cfgb c (0x3020 + (h - 24)) 1 2 && !(ao c (h - 24)).trans)

/-- Entry `e` of the poll table is polled: enabled and no burst device (R244). -/
def polled (c : Chip) (h e : Nat) : Bool := cfgb c (0x3400 + h) (e + 1) 31 && !cfgb c (0x3400 + h) (e + 1) 23

/-- The polled entry after `e`, round-robin (R244). -/
def nextPoll (c : Chip) (h e : Nat) : Option Nat :=
  ((List.range 16).map (fun i => (e + 1 + i) % 16)).find? (polled c h)

/-- A HART record. -/
def hrec (c : Chip) (h e : Nat) : HRec := Map.getD (hch c h).recs e {}

/-- Changes a HART record. -/
def updHrec (h e : Nat) (f : HRec → HRec) (c : Chip) : Chip := updHart h (fun x => { x with recs := Map.upd x.recs e {} f }) c

/-- Sends the request of the transaction in progress: a queued request, the identification by command 0, or the poll command. -/
def hartSendNow (h : Nat) (c : Chip) : Chip :=
  let x := hch c h
  match x.reqNow, x.queue with
  | true, q :: _ => emit (.hart h q.addr q.cmd q.data) c
  | _, _ =>
    let w := 0x3400 + h
    let cmd := if (hrec c h x.poll).idDue then 0 else if cfg c w (x.poll + 1) 30 29 = 1 then 3 else 1
    emit (.hart h (cfg c w (x.poll + 1) 5 0) cmd []) c

/-- Ends a transaction and starts the next: a queued request after two poll transactions, else the entry due (R244, R248). `stay`
keeps the entry, whose poll follows its identification. -/
def hartNext (h : Nat) (stay : Bool) (c : Chip) : Chip :=
  let x := hch c h
  let n := if x.reqNow then 0 else x.polls + 1
  let c := bump (0x0D0 + h) c
  let req := !x.queue.isEmpty && (decide (2 ≤ n) || (nextPoll c h x.poll).isNone)
  let e := if stay || x.reqNow then some x.poll else nextPoll c h x.poll
  let c := updHart h (fun x => { x with tries := 0, polls := Nat.min n 2, reqNow := req, poll := e.getD x.poll }) c
  if hartOn c h && (req || e.isSome) then hartSendNow h c else c

/-- A channel starts: every device is identified, and the first entry in use is polled (R244). -/
def hartStart (h : Nat) (c : Chip) : Chip :=
  match hartOn c h, nextPoll c h 15 with
  | true, some e =>
    hartSendNow h (updHart h (fun x => { x with
      poll := e, tries := 0, reqNow := false, recs := Map.mapV x.recs (fun _ r => { r with idDue := true }) }) c)
  | _, _ => c

/-- The transaction in progress belongs to an entry that is in use no more: the next one starts. -/
def hartSkip (h : Nat) (c : Chip) : Chip :=
  if (nextPoll c h (hch c h).poll).isNone then c else hartNext h false c

/-- Puts an entry into a response ring, newest first, and completes a host's request (R248). -/
def hartRespond (h : Nat) (q : HReq) (rc st : Nat) (data : List Byte) (c : Chip) : Chip :=
  let r : HResp := { tag := q.tag, cmd := q.cmd, rc := rc, st := st, data := data.take 64, ts := mTime c }
  let c := updHart h (fun x => { x with ring := (r :: x.ring).take 4 }) c
  match q.sess with
  | some s =>
    complete 0x0604 s q.tag 0
      (leBytes 1 rc ++ leBytes 1 st ++ leBytes 1 r.data.length ++ [0] ++ padTo 64 r.data ++ leBytes 8 r.ts) c
  | none => c

/-- Commands that HCMD may not send (R249). -/
def hartRefused (cmd : Nat) : Bool :=
  cmd == 31 || decide (127 ≤ cmd) || cmd == 6 || cmd == 40 || cmd == 42 || cmd == 45 || cmd == 46

/-- A request joins the queue of its channel; where no poll entry is in use it is sent at once. -/
def hartPush (q : HReq) (c : Chip) : Chip :=
  let x := hch c q.h
  let idle := (nextPoll c q.h x.poll).isNone && x.queue.isEmpty
  let c := updHart q.h (fun x => { x with queue := x.queue ++ [q], reqNow := x.reqNow || idle }) c
  if hartOn c q.h && idle then hartSendNow q.h c else c

/-- Queues a job's request at its commit boundary (R248, R249). -/
def hartQueue (q : HReq) (c : Chip) : Chip :=
  if hartRefused q.cmd || decide (63 < q.addr) then record 0x0632 (0x0900 + q.h) [] (hartRespond q.h q 0 4 [] c)
  else if 4 ≤ (hch c q.h).queue.length then hartRespond q.h q 0 5 [] c
  else hartPush q c

/-- A record after a good frame of command 1 or 3 (R246; the data layout is that of HART, log entry 24). -/
def hartFill (cmd dev comm now : Nat) (d : List Byte) (r : HRec) : HRec :=
  let f := fun o => beNat ((d.drop o).take 4)
  let u := fun o => (d.getD o 0).toNat
  let r := { r with dev := dev, comm := comm, failed := false }
  if cmd = 1 ∧ 5 ≤ d.length then
    { r with vals := [f 1, r.vals.getD 1 0, r.vals.getD 2 0, r.vals.getD 3 0, r.vals.getD 4 0]
             units := r.units / 256 * 256 + u 0, ts := now, good := true, failed := false }
  else if cmd = 3 ∧ 24 ≤ d.length then
    { r with vals := [f 5, f 10, f 15, f 20, f 0]
             units := u 4 + u 9 * 2 ^ 8 + u 14 * 2 ^ 16 + u 19 * 2 ^ 24, ts := now, good := true, failed := false }
  else r

/-- Unique identifier in a response to command 0: expanded device type and device number (log entry 24). -/
def hartIdent (d : List Byte) : Nat := beNat ((d.drop 1).take 2) * 2 ^ 24 + beNat ((d.drop 9).take 3)

/-- HART_RESPONSE (R244, R246, R248, R251). -/
def evHartResponse (dt h dev comm : Nat) (data : List Byte) (c : Chip) : Chip :=
  let c := pass dt c
  let x := hch c h
  if !hartOn c h then c
  else
    match x.reqNow, x.queue with
    | true, q :: rest => hartNext h false (hartRespond h q comm 2 data (updHart h (fun x => { x with queue := rest }) c))
    | _, _ =>
      if !polled c h x.poll then hartSkip h c
      else
        let r := hrec c h x.poll
        if r.idDue then
          let id := hartIdent data
          let changed := match r.ident with | some i => i != id | none => false
          let c := when changed (record 0x0631 (0x0900 + h) []) c
          hartNext h true (updHrec h x.poll (fun r =>
            if changed then { ident := some id, idDue := false } else { r with ident := some id, idDue := false }) c)
        else
          let cmd := if cfg c (0x3400 + h) (x.poll + 1) 30 29 = 1 then 3 else 1
          let back := r.failed
          hartNext h false (updHrec h x.poll (fun r =>
            { hartFill cmd dev comm (mTime c) data r with idDue := back }) c)

/-- HART_NO_RESPONSE (R245, R246): repeated up to RETRIES times, then marked. -/
def evHartNoResponse (dt h : Nat) (c : Chip) : Chip :=
  let c := pass dt c
  let x := hch c h
  let w := 0x3400 + h
  if !hartOn c h then c
  else
    let c := bump (0x0F0 + h) c
    let n := x.tries + 1
    match x.reqNow, x.queue with
    | true, q :: rest =>
      let lim := match pollEntry c h q.addr with | some e => cfg c w (e + 1) 28 27 | none => 1
      if n ≤ lim then hartSendNow h (updHart h (fun x => { x with tries := n }) c)
      else hartNext h false (hartRespond h q 0 3 [] (updHart h (fun x => { x with queue := rest }) c))
    | _, _ =>
      if !polled c h x.poll then hartSkip h c
      else if n ≤ cfg c w (x.poll + 1) 28 27 then hartSendNow h (updHart h (fun x => { x with tries := n }) c)
      else hartNext h false (record 0x0630 (0x0900 + h) [] (updHrec h x.poll (fun r => { r with failed := true }) c))

/-- HART_BURST_FRAME (R246). -/
def evHartBurstFrame (dt h e cmd dev comm : Nat) (data : List Byte) (c : Chip) : Chip :=
  let c := pass dt c
  if hartOn c h && cfgb c (0x3400 + h) (e + 1) 31 && cfgb c (0x3400 + h) (e + 1) 23 then
    updHrec h e (hartFill cmd dev comm (mTime c) data) c
  else c

/-- AI_SUBSTITUTION_DONE (R240): the first new sample from the spare is presented, and a HART
transaction that the substitution aborted is repeated without counting as a retry (R251). -/
def evAiSubstitutionDone (dt ch counts : Nat) (c : Chip) : Chip :=
  let c := pass dt c
  if !(ai c ch).subst then c
  else
    let back := spareSt c (ch / 8) == .reserve
    let c := updAi ch (fun a =>
      let a := { a with subst := false, afe := false, onSpare := !back, driftN := 0, filt := counts, meas := Nat.min counts 48000 }
      if c.io.fa = 3 then { a with afe := true } else aiConvert c ch counts false false a) c
    when (hartOn c ch && ((hch c ch).reqNow || polled c ch (hch c ch).poll)) (hartSendNow ch) c

/-! ### Captures (R40, R246, R248) -/

/-- Nominal cycle of a channel in units of 1/3 µs: 421 or 630 bit times of 2,500/3 µs for each polled entry (R245). -/
def hartCycle (c : Chip) (h : Nat) : Nat :=
  ((List.range 16).filter (polled c h)).foldl (fun a e =>
    a + (if cfg c (0x3400 + h) (e + 1) 30 29 = 1 then 630 else 421) * 2500) 0

/-- ST of a record at a capture (R246). -/
def hartSt (c : Chip) (h e : Nat) (r : HRec) : Nat :=
  let n := cfg c (0x3400 + h) (e + 1) 26 24
  let lim := if cfgb c (0x3400 + h) (e + 1) 23 then n * 3000000 else n * hartCycle c h
  if !r.good then 4 else if r.failed then 2 else if bit r.dev 7 then 3 else if lim < (mTime c - r.ts) * 3 then 1 else 0

/-- Captures the analogue inputs, the readbacks and the HART records. -/
def anaCapture (c : Chip) : Chip :=
  { c with io := { c.io with
      ai := Map.mapV c.io.ai (fun _ a => { a with cValue := a.value, cStatus := a.status })
      ao := Map.mapV c.io.ao (fun _ a => { a with cRb := a.rb, cStatus := a.status })
      hart := Map.mapV c.io.hart (fun h x =>
        let rs := Map.mapV x.recs (fun e r => { r with st := hartSt c h e r })
        { x with recs := rs, cRecs := rs, cRing := x.ring }) } }

/-! ### Rows -/

/-- AI_CONVERSION. -/
def execAiConversion (dt : Nat) (ch : Fin 24) (counts : Nat) (limiter miswire : Bool) : State → Host.Outcome State Fault Refusal :=
  lift (evAiConversion dt ch counts limiter miswire)

/-- SPARE_COMPARISON. -/
def execSpareComparison (dt : Nat) (ch : Fin 24) (ua : Nat) : State → Host.Outcome State Fault Refusal :=
  lift (evSpareComparison dt ch ua)

/-- AFE_MONITOR_FAULT. -/
def execAfeMonitorFault (dt : Nat) (ch : Fin 24) : State → Host.Outcome State Fault Refusal := lift (evAfeMonitorFault dt ch)

/-- AI_SUBSTITUTION_DONE. -/
def execAiSubstitutionDone (dt : Nat) (ch : Fin 24) (counts : Nat) : State → Host.Outcome State Fault Refusal :=
  lift (evAiSubstitutionDone dt ch counts)

/-- AO_READBACK_SAMPLE. -/
def execAoReadbackSample (dt : Nat) (ch : Fin 8) (rb : Nat) (h : Int) : State → Host.Outcome State Fault Refusal :=
  lift (evAoReadbackSample dt ch rb h)

/-- AO_DRV_FAULT. -/
def execAoDrvFault (dt : Nat) (ch : Fin 8) : State → Host.Outcome State Fault Refusal := lift (evAoDrvFault dt ch)

/-- AO_SUBSTITUTION_DONE. -/
def execAoSubstitutionDone (dt : Nat) (ch : Fin 8) : State → Host.Outcome State Fault Refusal := lift (evAoSubstitutionDone dt ch)

/-- AO_WATCHDOG_EXPIRED. -/
def execAoWatchdogExpired (dt : Nat) (g : Fin 2) : State → Host.Outcome State Fault Refusal := lift (evAoWatchdogExpired dt g)

/-- FA_LOW. -/
def execFaLow (dt mv : Nat) : State → Host.Outcome State Fault Refusal := lift (evFaLow dt mv)

/-- FA_LOW_CLEARED. -/
def execFaLowCleared (dt mv : Nat) : State → Host.Outcome State Fault Refusal := lift (evFaLowCleared dt mv)

/-- FA_SAG. -/
def execFaSag (dt mv : Nat) : State → Host.Outcome State Fault Refusal := lift (evFaSag dt mv)

/-- FA_RESET. -/
def execFaReset (dt mv : Nat) : State → Host.Outcome State Fault Refusal := lift (evFaReset dt mv)

/-- FA_RECOVERED. -/
def execFaRecovered (dt mv : Nat) : State → Host.Outcome State Fault Refusal := lift (evFaRecovered dt mv)

/-- HART_RESPONSE. -/
def execHartResponse (dt : Nat) (h : Fin 32) (dev comm : Nat) (data : List Byte) : State → Host.Outcome State Fault Refusal :=
  lift (evHartResponse dt h dev comm data)

/-- HART_NO_RESPONSE. -/
def execHartNoResponse (dt : Nat) (h : Fin 32) : State → Host.Outcome State Fault Refusal := lift (evHartNoResponse dt h)

/-- HART_BURST_FRAME. -/
def execHartBurstFrame (dt : Nat) (h : Fin 32) (e : Fin 16) (cmd dev comm : Nat) (data : List Byte) :
    State → Host.Outcome State Fault Refusal :=
  lift (evHartBurstFrame dt h e cmd dev comm data)

end Sys2Proof.Machine
end

