-- ==== Sys2Proof/Machine/Digital.lean ====
section
/-! DEFINITION. Digital inputs and outputs (chapter 10): the sample filter, counters and pulse-catch, group supplies, readback,
overload, off-pulse tests, load signatures, field watchdogs and FD+, and the captures. A DI or DO group is named in a record by
its first channel (log entry 25). -/
namespace Sys2Proof.Machine

open Sys2Proof

/-! ### Inputs (R254 to R260) -/

/-- A digital input is enabled. -/
def diEn (c : Chip) (ch : Nat) : Bool := cfgb c (0x3100 + ch) 1 0

/-- Changes a digital input. -/
def updDi (ch : Nat) (f : Di → Di) (c : Chip) : Chip := { c with io := { c.io with di := Map.upd c.io.di ch {} f } }

/-- Samples a DI group has still to filter after a restart; 101 while its supply is lost. -/
def diDown (c : Chip) (g : Nat) : Nat := Map.getD c.io.diDown g 0

/-- The filter of one sample: integrator, stamps, filtered state (R254). -/
def diFilter (n : Nat) (s : Bool) (d : Di) : Di :=
  let d :=
    if s then { d with tUp := if d.c = 0 then d.lastUp else d.tUp, c := if d.c < n then d.c + 1 else d.c }
    else { d with tDn := if d.c = n then d.lastDn else d.tDn, c := d.c - 1 }
  if d.c = n ∧ d.y = false then { d with y := true, tsRise := d.tUp }
  else if d.c = 0 ∧ d.y = true then { d with y := false, tsFall := d.tDn }
  else d

/-- The comparator test of a sample: ten passed tests in a row clear IN_FAULT (R260). -/
def diTest (failed : Bool) (d : Di) : Di :=
  if failed then { d with fault := true, passes := 0 }
  else if d.fault then (if 10 ≤ d.passes + 1 then { d with fault := false, passes := 0 } else { d with passes := d.passes + 1 })
  else d

/-- One sample of one channel. -/
def diChannel (raw failed : Bool) (ch : Nat) (c : Chip) : Chip :=
  let w := 0x3100 + ch
  if !diEn c ch || diDown c (ch / 8) = 101 then c
  else
    let a := div c ch
    let b := diTest failed (diFilter (cfg c w 1 15 6) raw a)
    let edge := a.y != b.y
    let m := cfg c w 1 3 2
    let counts := edge && (if b.y then bit m 0 else bit m 1)
    let b := { b with
      count := if counts then (b.count + 1) % 2 ^ 32 else b.count
      caught := if edge && cfgb c w 1 1 then some (b.caught.getD b.y) else b.caught }
    let c := when edge (bump (0x120 + ch)) (updDi ch (fun _ => b) c)
    when (b.fault && !a.fault) (record 0x0640 (0x0A00 + ch) []) c

/-- DI_SAMPLE (R254). -/
def evDiSample (dt : Nat) (raw : BitVec 32) (edges : List Edge) (bad : BitVec 32) (c : Chip) : Chip :=
  let c := pass dt c
  let c := forAll edges (fun e => updDi e.c (fun d => if e.high then { d with lastUp := e.t } else { d with lastDn := e.t })) c
  let c := forAll (List.range 32) (fun ch => diChannel (raw.getLsbD ch) (bad.getLsbD ch) ch) c
  { c with io := { c.io with diDown := Map.mapV c.io.diDown (fun _ n => if n ≤ 100 then n - 1 else n) } }

/-- DI_GROUP_SUPPLY_LOST (R260). -/
def evDiGroupSupplyLost (dt g : Nat) (c : Chip) : Chip :=
  let c := pass dt c
  if diDown c g = 101 then c
  else record 0x0640 (0x0A00 + 8 * g) [] { c with io := { c.io with diDown := Map.put c.io.diDown g 101 } }

/-- DI_GROUP_SUPPLY_RESTORED (R254, R256, R260): the group powers up. -/
def evDiGroupSupplyRestored (dt g : Nat) (c : Chip) : Chip :=
  let c := pass dt c
  if diDown c g != 101 then c
  else
    let c := { c with io := { c.io with diDown := Map.put c.io.diDown g 100 } }
    forAll (List.range 8) (fun i => updDi (8 * g + i) (fun d =>
      { d with c := 0, y := false, tUp := 0, tDn := 0, tsRise := 0, tsFall := 0, count := 0, caught := none, fault := false
               passes := 0 })) c

/-- Status of a digital input (R260). -/
def diStatus (c : Chip) (ch : Nat) (d : Di) : Nat :=
  if !diEn c ch then 0x0A else if diDown c (ch / 8) != 0 then 0x21 else if d.fault then 0x20 else 0

/-- A digital input as captured (R124, R257, R259). -/
def diCapture (c : Chip) (ch : Nat) (d : Di) : Di :=
  let st := diStatus c ch d
  let v := d.caught.getD d.y
  { d with
    status := st, value := st == 0 && v, pc := st == 0 && v != d.y, caught := none
    cCount := d.count, cRise := d.tsRise, cFall := d.tsFall }

/-! ### Outputs (R260 to R270) -/

/-- One readback sample of one output (R260, R262, R266). -/
def doSample (rb lim : Bool) (ma ch : Nat) (c : Chip) : Chip :=
  let d := dov c ch
  let now := c.time.clock
  if !doEn c ch then updDo ch (fun d => { d with rb := rb, ma := Nat.min ma 1500 }) c
  else
    let fd := fdState c (ch / 8)
    let since := if d.closed && !lim then some (d.onSince.getD now) else none
    let clean := d.ovl && d.closed && (match since with | some t => decide (t + 100000000 ≤ now) | none => false)
    let d := { d with
      rb := rb, ma := Nat.min ma 1500, onSince := since
      ovl := d.ovl && !clean, offSeen := d.offSeen && !clean }
    let blank := decide (now < d.blankTo) || d.pulse || fd = 3
    let up := fun (bad : Bool) => if bad then d.cnt + 1 else 0
    let dn := fun (good : Bool) => if good then d.clr + 1 else 0
    if blank then updDo ch (fun _ => { d with cnt := 0, clr := 0 }) c
    else if d.cmd then
      let n := up (!rb && fd = 0 && !lim && d.closed)
      let k := dn rb
      let set := !d.swFault && decide (10 ≤ n) && decide (fd < 2)
      let clr := d.swFault && decide (10 ≤ k) && decide (fd < 2)
      let c := updDo ch (fun _ => { d with
        cnt := Nat.min n 10, clr := Nat.min k 10, swFault := if set then true else if clr then false else d.swFault }) c
      when set (record 0x0652 (0x0A20 + ch) []) c
    else
      let n := up rb
      let k := dn (!rb)
      let set := !d.extHigh && decide (10 ≤ n) && !cfgb c (0x3140 + ch) 1 13
      let clr := d.extHigh && decide (10 ≤ k)
      let c := updDo ch (fun _ => { d with
        cnt := Nat.min n 10, clr := Nat.min k 10, extHigh := if set then true else if clr then false else d.extHigh }) c
      when set (record 0x0651 (0x0A20 + ch) []) c

/-- DO_READBACK_SAMPLE. -/
def evDoReadbackSample (dt : Nat) (rb lim : BitVec 24) (ma : List Nat) (c : Chip) : Chip :=
  forAll (List.range 24) (fun ch => doSample (rb.getLsbD ch) (lim.getLsbD ch) (ma.getD ch 0) ch) (pass dt c)

/-- DO_OVERLOAD (R266): the field logic opens the switch. -/
def evDoOverload (dt ch : Nat) (c : Chip) : Chip :=
  let c := pass dt c
  if !doEn c ch || !(dov c ch).closed then c
  else
    let c := endPeriod ch c
    let c := updDo ch (fun d => { d with
      closed := false, ovl := true, onSince := none, offSeen := false, latched := ovlLatched c ch }) c
    record 0x0650 (0x0A20 + ch) [] (bump (0x158 + ch) c)

/-- DO_OVERLOAD_RETRY (R266). -/
def evDoOverloadRetry (dt ch : Nat) (c : Chip) : Chip :=
  let c := pass dt c
  let d := dov c ch
  if !doEn c ch || !d.ovl || !d.cmd || d.closed || ovlLatched c ch || fdState c (ch / 8) = 3 then c
  else updDo ch (fun d => { d with closed := true, onSince := some c.time.clock, onAt := c.time.clock }) c

/-- Test period of an output group in ticks (R268). -/
def opTicks (c : Chip) (g : Nat) : Nat := cfg c 0x3182 (g + 1) 15 10 * 1000000 / tTick c

/-- OFF_PULSE_START (R268): at B + T_tick/4 of its test boundary, while commanded on and the supply is not sagging. -/
def evOffPulseStart (dt ch : Nat) (c : Chip) : Chip :=
  let c := pass dt c
  let d := dov c ch
  let p := opTicks c (ch / 8)
  if !cfgb c (0x3140 + ch) 1 15 || !doEn c ch || !d.cmd || !d.closed || decide (2 ≤ fdState c (ch / 8)) || p = 0
      || c.tt.tn % p != ch then c
  else
    let c := pass (bNs c c.tt.tn + tTick c * 250 - c.time.clock) c
    updDo ch (fun d => { d with pulse := true, closed := false }) c

/-- OFF_PULSE_END (R268). -/
def evOffPulseEnd (dt ch : Nat) (rb : Bool) (c : Chip) : Chip :=
  let c := pass dt c
  if !(dov c ch).pulse then c
  else
    let was := (dov c ch).stuck
    let ev := decide (fdState c (ch / 8) < 2)
    let c := updDo ch (fun d => { d with
      pulse := false, closed := true, stuck := if ev then rb else d.stuck, blankTo := Nat.max d.blankTo c.time.clock }) c
    when (ev && rb && !was) (record 0x0653 (0x0A20 + ch) []) c

/-- DO_LOAD_WINDOW (R260, R269): a 10 ms window after an inrush blanking of 50 ms. -/
def evDoLoadWindow (dt ch ma : Nat) (c : Chip) : Chip :=
  let c := pass dt c
  let d := dov c ch
  if !doEn c ch || !cfgb c (0x3140 + ch) 1 14 || !d.closed || decide (c.time.clock < d.onAt + 60000000) then c
  else if d.learn.isSome then
    updDo ch (fun d => { d with learnCur := if d.learnOn then
      (match d.learnCur with
       | none => some (ma, ma)
       | some (a, b) => some (Nat.min a ma, Nat.max b ma)) else none }) c
  else if d.hi = 0 then c
  else
    let out := decide (ma < d.lo) || decide (d.hi < ma)
    let n := if out != d.loadDev then d.devCnt + 1 else 0
    let c := updDo ch (fun d => { d with
      devCnt := if 3 ≤ n then 0 else n, loadDev := if 3 ≤ n then !d.loadDev else d.loadDev }) c
    when (decide (3 ≤ n) && out) (record 0x0654 (0x0A20 + ch) []) c

/-- DO_GROUP_CURRENT (R270). -/
def evDoGroupCurrent (dt g : Nat) (c : Chip) : Chip := record 0x0656 (0x0A20 + 8 * g) [] (pass dt c)

/-- The enabled channels of a DO group go to WD_SAFE (R265). -/
def doWdSafe (g : Nat) (c : Chip) : Chip :=
  forAll (List.range 8) (fun i c =>
    let ch := 8 * g + i
    if !doEn c ch || (dov c ch).wd then c
    else
      let safe := cfg c (0x3140 + ch) 1 3 2
      let c := if safe = 2 then c else reachDo ch (safe == 1) c
      updDo ch (fun d => { d with wd := true }) c) c

/-- DO_WATCHDOG_EXPIRED (R265): each enabled channel goes to WD_SAFE. -/
def evDoWatchdogExpired (dt g : Nat) (c : Chip) : Chip :=
  let c := pass dt c
  if fdState c g = 3 || decide (c.time.clock < Map.getD c.io.refresh (2 + g) 0 + cfg c 0x3181 (g + 1) 31 0 * 1000) then c
  else doWdSafe g c

/-! ### FD+ (R272) -/

/-- Puts the supply of a DO group into a state and brings its outputs' status up to date. -/
def setFd (g st mv : Nat) (c : Chip) : Chip :=
  refreshGroup g { c with io := { c.io with fd := Map.put c.io.fd g st, fdMv := Map.put c.io.fdMv g (Nat.min mv 65535) } }

/-- FD_LOW. -/
def evFdLow (dt g mv : Nat) (c : Chip) : Chip :=
  let c := pass dt c
  if 19200 ≤ mv ∨ fdState c g ≠ 0 then c else record 0x0660 (0x0A20 + 8 * g) [] (bump 0x1DA (setFd g 1 mv c))

/-- FD_LOW_CLEARED. -/
def evFdLowCleared (dt g mv : Nat) (c : Chip) : Chip :=
  let c := pass dt c
  if mv < 20000 ∨ fdState c g = 3 then c else setFd g 0 mv c

/-- FD_SAG. -/
def evFdSag (dt g mv : Nat) (c : Chip) : Chip :=
  let c := pass dt c
  if 16000 ≤ mv ∨ 2 ≤ fdState c g then c
  else
    let c := record 0x0661 (0x0A20 + 8 * g) [] (setFd g 2 mv c)
    raiseBound (cfgb c 0x3184 (g + 1) 8) 5 (cfg c 0x3184 (g + 1) 7 0) c

/-- FD_SAG_CLEARED. -/
def evFdSagCleared (dt g mv : Nat) (c : Chip) : Chip :=
  let c := pass dt c
  if mv < 17000 ∨ fdState c g ≠ 2 then c else setFd g (if mv < 20000 then 1 else 0) mv c

/-- FD_RESET: the group opens all switches and its field logic resets. -/
def evFdReset (dt g mv : Nat) (c : Chip) : Chip :=
  let c := pass dt c
  if 12000 ≤ mv ∨ fdState c g = 3 then c
  else
    let c := forAll (List.range 8) (fun i c => updDo (8 * g + i) (fun d =>
      { d with closed := false, cmd := false, pulse := false, ovl := false, latched := false, offSeen := false, onSince := none
               swFault := false, extHigh := false, cnt := 0, clr := 0, devCnt := 0, wd := false }) (endPeriod (8 * g + i) c)) c
    record 0x0662 (0x0A20 + 8 * g) [] (setFd g 3 mv c)

/-- FD_RECOVERED: the group restarts with switches open and waits for its initialisation. -/
def evFdRecovered (dt g mv : Nat) (c : Chip) : Chip :=
  let c := pass dt c
  if mv ≤ 18000 ∨ fdState c g ≠ 3 then c
  else
    let hold := cfgb c 0x3182 (g + 1) 16
    let c := { c with io := { c.io with
      reinit := Map.put c.io.reinit g true, hold := if hold then Map.put c.io.hold g true else c.io.hold } }
    record 0x0663 (0x0A20 + 8 * g) [] (setFd g (if mv < 19200 then 1 else 0) mv c)

/-- The logic side initialises a group at a boundary: safe values under hold-safe, else the committed values (R272). -/
def doInit (g : Nat) (c : Chip) : Chip :=
  if !Map.getD c.io.reinit g false then c
  else
    let c := { c with io := { c.io with reinit := Map.put c.io.reinit g false } }
    forAll (List.range 8) (fun i c =>
      let ch := 8 * g + i
      if !doEn c ch then c
      else reachDo ch (if Map.getD c.io.hold g false then doSafe c ch else (dov c ch).committed) c) c

/-- The acknowledge of a group that holds its safe values: it takes the committed values (R272). -/
def doAck (g : Nat) (c : Chip) : Chip :=
  if !Map.getD c.io.hold g false then c
  else
    let c := refreshGroup g { c with io := { c.io with hold := Map.put c.io.hold g false } }
    forAll (List.range 8) (fun i c =>
      let ch := 8 * g + i
      if !doEn c ch || fdState c g = 3 then c else reachDo ch (dov c ch).committed c) (record 0x0664 (0x0A20 + 8 * g) [] c)

/-- Captures the digital channels. -/
def digCapture (c : Chip) : Chip :=
  { c with io := { c.io with
      di := (List.range 32).foldl (fun m ch => if (Map.find m ch).isSome || diEn c ch then Map.upd m ch {} (diCapture c ch) else m) c.io.di
      dout := Map.mapV c.io.dout (fun _ d => { d with cRb := d.rb, cMa := d.ma, cStatus := d.status }) } }

/-! ### Rows -/

/-- DI_SAMPLE. -/
def execDiSample (dt : Nat) (raw : BitVec 32) (edges : List Edge) (bad : BitVec 32) : State → Host.Outcome State Fault Refusal :=
  lift (evDiSample dt raw edges bad)

/-- DI_GROUP_SUPPLY_LOST. -/
def execDiGroupSupplyLost (dt : Nat) (g : Fin 4) : State → Host.Outcome State Fault Refusal := lift (evDiGroupSupplyLost dt g)

/-- DI_GROUP_SUPPLY_RESTORED. -/
def execDiGroupSupplyRestored (dt : Nat) (g : Fin 4) : State → Host.Outcome State Fault Refusal :=
  lift (evDiGroupSupplyRestored dt g)

/-- DO_READBACK_SAMPLE. -/
def execDoReadbackSample (dt : Nat) (rb lim : BitVec 24) (ma : List Nat) : State → Host.Outcome State Fault Refusal :=
  lift (evDoReadbackSample dt rb lim ma)

/-- DO_OVERLOAD. -/
def execDoOverload (dt : Nat) (ch : Fin 24) : State → Host.Outcome State Fault Refusal := lift (evDoOverload dt ch)

/-- DO_OVERLOAD_RETRY. -/
def execDoOverloadRetry (dt : Nat) (ch : Fin 24) : State → Host.Outcome State Fault Refusal := lift (evDoOverloadRetry dt ch)

/-- OFF_PULSE_START. -/
def execOffPulseStart (dt : Nat) (ch : Fin 24) : State → Host.Outcome State Fault Refusal := lift (evOffPulseStart dt ch)

/-- OFF_PULSE_END. -/
def execOffPulseEnd (dt : Nat) (ch : Fin 24) (rb : Bool) : State → Host.Outcome State Fault Refusal := lift (evOffPulseEnd dt ch rb)

/-- DO_LOAD_WINDOW. -/
def execDoLoadWindow (dt : Nat) (ch : Fin 24) (ma : Nat) : State → Host.Outcome State Fault Refusal := lift (evDoLoadWindow dt ch ma)

/-- DO_GROUP_CURRENT. -/
def execDoGroupCurrent (dt : Nat) (g : Fin 3) : State → Host.Outcome State Fault Refusal := lift (evDoGroupCurrent dt g)

/-- DO_WATCHDOG_EXPIRED. -/
def execDoWatchdogExpired (dt : Nat) (g : Fin 3) : State → Host.Outcome State Fault Refusal := lift (evDoWatchdogExpired dt g)

/-- FD_LOW. -/
def execFdLow (dt : Nat) (g : Fin 3) (mv : Nat) : State → Host.Outcome State Fault Refusal := lift (evFdLow dt g mv)

/-- FD_LOW_CLEARED. -/
def execFdLowCleared (dt : Nat) (g : Fin 3) (mv : Nat) : State → Host.Outcome State Fault Refusal := lift (evFdLowCleared dt g mv)

/-- FD_SAG. -/
def execFdSag (dt : Nat) (g : Fin 3) (mv : Nat) : State → Host.Outcome State Fault Refusal := lift (evFdSag dt g mv)

/-- FD_SAG_CLEARED. -/
def execFdSagCleared (dt : Nat) (g : Fin 3) (mv : Nat) : State → Host.Outcome State Fault Refusal := lift (evFdSagCleared dt g mv)

/-- FD_RESET. -/
def execFdReset (dt : Nat) (g : Fin 3) (mv : Nat) : State → Host.Outcome State Fault Refusal := lift (evFdReset dt g mv)

/-- FD_RECOVERED. -/
def execFdRecovered (dt : Nat) (g : Fin 3) (mv : Nat) : State → Host.Outcome State Fault Refusal := lift (evFdRecovered dt g mv)

end Sys2Proof.Machine
end

