-- ==== Sys2Proof/Machine/Display.lean ====
section
/-! DEFINITION. The display waveform engine (chapter 15): rendering of fields into the frame memory, regions and their order, line
waveforms, the DC ledger and its compensation, the rails, panel identity, and the stop at a power failure. Both panels take
their frame boundaries from one command (log entry 27). -/
namespace Sys2Proof.Machine

open Sys2Proof

/-! ### Panels -/

/-- A panel. -/
def panel (c : Chip) (p : Nat) : Panel := Map.getD c.disp.panels p {}

/-- Columns of a panel (R367, R368). -/
def panelW (c : Chip) (p : Nat) : Nat := cfg c (0x7400 + p) 2 31 16

/-- Lines of a panel. -/
def panelH (c : Chip) (p : Nat) : Nat := cfg c (0x7400 + p) 2 15 0

/-- ENABLE of a panel. -/
def panelEn (c : Chip) (p : Nat) : Bool := cfgb c (0x7400 + p) 1 15

/-- State of the display domain PD11. -/
def pd11 (c : Chip) : DomSt := Map.getD c.hlth.dom 11 .off

/-- A started region lies on panel `p`, or a line of it is driven. -/
def updating (c : Chip) (p : Nat) (x : Panel) : Bool :=
  c.disp.started.any (fun r => r.panel == p) || x.lines.any (fun e => e.2.len != 0)

/-- STATE of a panel (R387). -/
def panelState (c : Chip) (p : Nat) (x : Panel) : PanelSt :=
  if pd11 c = .fault then .fault
  else if pd11 c != .on || !panelEn c p then .off
  else if !x.present then .absent
  else if x.idFault || c.disp.railDown then .fault
  else if x.trans then .transition
  else if !x.identified then .identifying
  else if x.tempHold then .tempHold
  else if x.recovery then .recovering
  else if x.comp.isSome then .compensating
  else if updating c p x then .updating else .idle

/-- Changes a panel. -/
def updPanel (p : Nat) (f : Panel → Panel) (c : Chip) : Chip :=
  { c with disp := { c.disp with panels := Map.upd c.disp.panels p {} f } }

/-- Brings STATE of both panels up to date, and the instant since which a panel is quiet (R381). -/
def refreshPanels (c : Chip) : Chip :=
  forAll [0, 1] (fun p c => updPanel p (fun x =>
    { x with
      st := panelState c p x
      quietAt := if c.disp.queue.any (fun r => r.panel == p) || updating c p x then c.time.clock else x.quietAt }) c) c

/-- A line's state word. -/
def Panel.line (x : Panel) (y : Nat) : Ln := Map.getD x.lines y {}

/-- Changes a line's state word. -/
def Panel.setLine (x : Panel) (y : Nat) (f : Ln → Ln) : Panel := { x with lines := Map.upd x.lines y {} f }

/-- A pixel's key. -/
def pixKey (x y : Nat) : Nat := y * 65536 + x

/-- Level of a pixel in one of the three memories. -/
def pix (m : Map Nat) (x y : Nat) : Nat := Map.getD m (pixKey x y) 15

/-- Copies a line of one memory into another. -/
def copyLine (w y : Nat) (src dst : Map Nat) : Map Nat :=
  (List.range w).foldl (fun m x => Map.put m (pixKey x y) (pix src x y)) dst

/-! ### Drawing a field (R374, R375) -/

/-- Cell of a font: width and height. -/
def fontCell (f : Nat) : Nat × Nat := match f with | 0 => (8, 16) | 1 => (12, 24) | _ => (16, 32)

/-- A character as drawn: '?' outside the built-in font. -/
def shownChar (ch : Nat) : Nat := if (0x20 ≤ ch ∧ ch ≤ 0x7E) ∨ (0xA0 ≤ ch ∧ ch ≤ 0xFF) then ch else 0x3F

/-- Level of the pixel at column `x`, row `y` of a field that shows characters. -/
def textPix (d : LField) (s : List Nat) (x y : Nat) : Nat :=
  let (cw, chh) := fontCell d.font
  let i := x / cw
  if i < s.length ∧ (i + 1) * cw ≤ d.w ∧ y < chh ∧ Config.glyph d.font (shownChar (s.getD i 0)) y (x % cw) then d.fg else d.bg

/-- Decimal digits of a number, at least one. -/
def digits (fuel n : Nat) : List Nat :=
  match fuel with
  | 0 => [n % 10]
  | k + 1 => if n < 10 then [n] else digits k (n / 10) ++ [n % 10]

/-- Characters of a number of `dec` decimals whose value times 10^dec is `i`. -/
def numText (i : Int) (dec : Nat) (plus : Bool) : List Nat :=
  let n := i.natAbs
  let ip := (digits 400 (n / 10 ^ dec)).map (· + 48)
  let fp := (List.range dec).map (fun k => n / 10 ^ (dec - 1 - k) % 10 + 48)
  (if i < 0 then [45] else if plus then [43] else []) ++ ip ++ (if dec = 0 then [] else 46 :: fp)

/-- A value as binary64 (R103). -/
def asF64 (ty : Ty) (raw : Nat) : Nat :=
  if ty.isF then (ty.fmt.conv fmt64 raw).1
  else (fmt64.ofFix (ty.int raw) ty.frac).1

/-- Characters a NUMBER field shows: rounded to nearest even, right-aligned; '#' where it does not fit, '?' for a NaN (R375). -/
def numberChars (fmt : Nat) (ty : Ty) (raw : Nat) : List Nat :=
  let w := bits fmt 7 4
  let dec := bits fmt 3 0
  let r := fmt64.dec (asF64 ty raw)
  let s := match r with
    | .nan => [63]
    | .inf _ => List.replicate (w + 1) 35
    | .num neg m e =>
      let x := scale2 (m * 10 ^ dec) 1 e
      let n := rne x.1 x.2
      numText (if neg then -(n : Int) else n) dec (bit fmt 8)
  if w < s.length then List.replicate w 35 else List.replicate (w - s.length) 32 ++ s

/-- FG length of a BAR: the value clamped to 0.0 to 1.0 times the long side, to nearest even (R375). -/
def barLen (long : Nat) (ty : Ty) (raw : Nat) : Nat :=
  match fmt64.dec (asF64 ty raw) with
  | .nan => Nat.min long (Config.barNan long)
  | .inf neg => if neg then 0 else long
  | .num neg m e => if neg then 0 else (let x := scale2 (m * long) 1 e; Nat.min long (rne x.1 x.2))

/-- Level of the pixel at column `x`, row `y` of a field that shows a value; SYM_OFF counts pixels (log entry 28). -/
def valuePix (l : Layout) (d : LField) (fmt : Nat) (ty : Ty) (raw x y : Nat) : Nat :=
  match d.kind with
  | 1 => textPix d (numberChars fmt ty raw) x y
  | 2 =>
    let n := barLen (Nat.max d.w d.h) ty raw
    if d.w < d.h then (if d.h ≤ y + n then d.fg else d.bg) else (if x < n then d.fg else d.bg)
  | 3 =>
    let v := ty.int raw
    if 0 ≤ v ∧ v ≤ 15 then l.bitmap.getD (d.symOff + v.toNat * d.w * d.h + y * d.w + x) 0 else d.bg
  | _ => d.bg

/-- BOUND of a field. -/
def LField.bound (d : LField) : Bool := bit d.flags 1

/-- The variable of an identifier, in whichever image names it. -/
def findVar (cs : ConfigSet) (id : Nat) : Option VarEntry := cs.images.findSome? (fun i => i.vars.find? (fun v => v.id == id))

/-- Value of a bound field's variable as the last completed job left it (R377). -/
def boundValue (c : Chip) (d : LField) : Ty × Nat :=
  match findVar c.sets.main d.varId with
  | some v => (v.loc.ty, Mem.rdLe c.mem.glb v.loc.addr v.loc.ty.size)
  | none => (.i32, 0)

/-- Level of a pixel of a field: its bound variable, the last panel write, or BG where nothing has been written. -/
def fieldPix (c : Chip) (p : Nat) (l : Layout) (no : Nat) (d : LField) (x y : Nat) : Nat :=
  if d.bound then (let v := boundValue c d; valuePix l d d.fmt v.1 v.2 x y)
  else
    match Map.find (panel c p).written no with
    | none => d.bg
    | some w =>
      match w.text with
      | some s => if d.kind = 0 then textPix d (s.map (·.toNat)) x y else d.bg
      | none => valuePix l d w.fmt w.ty w.value x y

/-! ### Regions (R378) -/

/-- A line that frame memory would change: UNKNOWN, or differing from the displayed memory or, while driven, from the active
copy. -/
def lineDiffers (w : Nat) (x : Panel) (y : Nat) : Bool :=
  (x.line y).unknown
    || (List.range w).any (fun i => pix x.frame i y != pix x.shown i y || ((x.line y).len != 0 && pix x.frame i y != pix x.active i y))

/-- Queues a region, alarms ahead. -/
def enqueue (r : Region) (c : Chip) : Chip :=
  if r.lines.isEmpty then c
  else
    let q := c.disp.queue
    { c with disp := { c.disp with
      queue := if r.alarm then q.filter (·.alarm) ++ r :: q.filter (fun x => !x.alarm) else q ++ [r] } }

/-- A panel on which regions may form: enabled and identified. -/
def drawable (c : Chip) (p : Nat) : Bool :=
  let x := panel c p
  panelEn c p && x.identified && !x.idFault

/-- Renders a field into the frame memory; its changed lines form a region. `force` forms one even where the render changes no
frame memory: the first full render and a throw (R390, R391). -/
def renderField (p no : Nat) (force : Bool) (c : Chip) : Chip :=
  match Map.find c.sets.main.layouts p with
  | none => c
  | some l =>
    match Map.find l.fields no with
    | none => c
    | some d =>
      let new := (List.range d.h).foldl (fun m y =>
        (List.range d.w).foldl (fun m x => Map.put m (pixKey (d.x + x) (d.y + y)) (fieldPix c p l no d x y)) m) (panel c p).frame
      let chg := force || new != (panel c p).frame
      let c := updPanel p (fun x => { x with
        frame := new
        rendered := if d.bound then Map.put x.rendered no (boundValue c d).2 else x.rendered }) c
      when (chg && drawable c p)
        (enqueue { panel := p, alarm := bit d.flags 0
                   lines := ((List.range d.h).map (· + d.y)).filter (lineDiffers (panelW c p) (panel c p)) }) c

/-- Renders every field of a panel's layout (R390, R391). -/
def renderAll (p : Nat) (c : Chip) : Chip :=
  forAll ((Map.getD c.sets.main.layouts p {}).fields.map (·.1)) (fun no => renderField p no true) c

/-- A panel write at its commit boundary (R376); in TRANSITION it is accepted and not drawn (R160). -/
def panelWrite (w : PanelWr) (c : Chip) : Chip :=
  let c := updPanel w.panel (fun x => { x with written := Map.put x.written w.field w }) c
  when (!(panel c w.panel).trans) (renderField w.panel w.field false) c

/-- The sampling of bound fields at a boundary (R377). -/
def sampleFields (c : Chip) : Chip :=
  forAll [0, 1] (fun p c =>
    if c.tt.tn % Nat.max 1 (cfg c (0x7400 + p) 3 15 0) = 0 then
      forAll (Map.getD c.sets.main.layouts p {}).fields (fun e c =>
        when (e.2.bound && Map.find (panel c p).rendered e.1 != some (boundValue c e.2).2) (renderField p e.1 false) c) c
    else c) c

/-- Every line of a panel becomes UNKNOWN, and its regions are dropped. -/
def allUnknown (p : Nat) (c : Chip) : Chip :=
  let c := updPanel p (fun x => { x with
    lines := (List.range (panelH c p)).map (fun y => (y, ({ unknown := true } : Ln))), comp := none }) c
  { c with disp := { c.disp with
    queue := c.disp.queue.filter (fun r => r.panel != p), started := c.disp.started.filter (fun r => r.panel != p) } }

/-! ### The ledger (R380) -/

/-- Adds to a tile's ledger and its mirror; at saturation it is held and recorded. -/
def ledgerAdd (p tile : Nat) (v : Int) (c : Chip) : Chip :=
  let n := Map.getD (panel c p).ledger tile 0 + v
  let s := if n < -32767 then -32767 else if 32767 < n then 32767 else n
  let c := updPanel p (fun x => { x with ledger := Map.put x.ledger tile s }) c
  let c := { c with mem := { c.mem with ledgerMirror := Map.put c.mem.ledgerMirror (p * 65536 + tile) s } }
  when (s != n) (record 0x0C12 (0x0E00 + p) []) c

/-- Band of a temperature (R371). -/
def bandOf (w : WTable) (t : Int) : Nat := (w.bandLo.filter (fun b => decide (b ≤ t))).length - 1

/-- Waveform entry a pixel follows in a band: the unknown entry, or the main entry (R371, R373). -/
def pixEntry (w : WTable) (band : Nat) (unknown : Bool) (prev next : Nat) : WEntry :=
  Map.getD w.entries (if unknown then 2048 + band * 16 + next else (band * 16 + prev) * 16 + next) { phases := [] }

/-- The phases a pixel of a driven line runs: none where its target is its displayed level, but for the refresh of a compensated
tile (R373, R381). -/
def pixPhases (wt : WTable) (x : Panel) (px y : Nat) : List Int :=
  let l := x.line y
  let d := pix x.shown px y
  let t := pix x.active px y
  if l.refresh then
    (if (x.comp.getD { rows := [] }).tiles.contains (y / 8 * 256 + px / 8) then (pixEntry wt l.band false d d).phases else [])
  else if l.unknown || d != t then (pixEntry wt l.band l.unknown d t).phases else []

/-- Stops the driven lines of a panel: `n` more phases than those already complete count as applied; the ledger is charged when
`charge`, the lines become UNKNOWN, INTERRUPTS counts them (R380, R383, R388). -/
def stopLines (p n : Nat) (charge : Bool) (c : Chip) : Chip :=
  let x := panel c p
  let wt := Map.getD c.sets.main.waves p {}
  let ys := (x.lines.filter (fun e => e.2.len != 0)).map (·.1)
  let c := when charge (forAll ys (fun y c =>
    forAll (List.range ((panelW c p) / 8)) (fun tc c =>
      let sum := (List.range 8).foldl (fun a i => a + ((pixPhases wt x (tc * 8 + i) y).take ((x.line y).phase + n)).sum) (0 : Int)
      if sum = 0 then c else ledgerAdd p (y / 8 * 256 + tc) sum c) c)) c
  let c := updPanel p (fun x => { x with
    interrupts := (x.interrupts + ys.length) % 2 ^ 32
    lines := x.lines.map (fun e => if e.2.len != 0 then (e.1, { e.2 with len := 0, phase := 0, unknown := true, refresh := false }) else e)
    comp := none }) c
  let c := { c with disp := { c.disp with started := c.disp.started.filter (fun r => r.panel != p), waveAt := c.time.clock } }
  bumpBy (0x1BC + p) ys.length c

/-- Some line of either panel is driven. -/
def anyDriven (c : Chip) : Bool := [0, 1].any (fun p => (panel c p).lines.any (fun e => e.2.len != 0))

/-! ### Frames (R373, R378, R379, R381, R382) -/

/-- Ends a line's waveform: the active copy becomes the displayed one, and a pending target starts at the next frame boundary
(R370, R379). -/
def endLine (w y : Nat) (x : Panel) : Panel :=
  let l := x.line y
  let x := if l.refresh then x else { x with shown := copyLine w y x.active x.shown }
  let x := x.setLine y (fun l => { l with len := 0, phase := 0, unknown := l.unknown && l.refresh, refresh := false })
  if !l.refresh && !l.journal && (List.range w).any (fun i => pix x.frame i y != pix x.active i y) then x.setLine y (fun l => { l with start := true })
  else x

/-- A line whose waveform has ended is done with for the region that started it; a pending target starts again without a region
slot (R378, R379). -/
def dropLines (p : Nat) (ys : List Nat) (c : Chip) : Chip :=
  { c with disp := { c.disp with started := c.disp.started.map (fun r =>
    if r.panel = p then { r with lines := r.lines.filter (fun y => !ys.contains y) } else r) } }

/-- Advances the driven lines of a panel by one frame, and ends those whose waveform is over. -/
def advance (p : Nat) (c : Chip) : Chip :=
  let w := panelW c p
  let ys := ((panel c p).lines.filter (fun e => e.2.len != 0)).map (·.1)
  let c := dropLines p (ys.filter (fun y => decide (((panel c p).line y).len ≤ ((panel c p).line y).phase + 1))) c
  let c := when (!ys.isEmpty) (fun c => bump (0x1B8 + p) { c with disp := { c.disp with waveAt := c.time.clock } }) c
  updPanel p (fun x => ys.foldl (fun x y =>
    let l := x.line y
    if l.phase + 1 < l.len then x.setLine y (fun l => { l with phase := l.phase + 1 }) else endLine w y x) x) c

/-- A line is touched by a compensation in progress. -/
def inComp (x : Panel) (y : Nat) : Bool := match x.comp with | some k => k.rows.contains (y / 8) | none => false

/-- Starts the waveform of a line: the target is taken from the frame memory, or the rest level for a journalled line, with the
band of the panel temperature (R370, R373, R390). A line with nothing to drive ends at once. -/
def startLine (p y : Nat) (c : Chip) : Chip :=
  match Map.find c.sets.main.waves p with
  | none => c
  | some wt =>
    let w := panelW c p
    let x := panel c p
    let rest := (x.line y).journal
    let act := if rest then
        (List.range w).foldl (fun m i => Map.put m (pixKey i y) (cfg c (0x7400 + p) 1 12 9)) x.active
      else copyLine w y x.frame x.active
    let x := { x with active := act }
    let x := x.setLine y (fun l => { l with start := false, phase := 0, band := bandOf wt x.temp })
    let n := (List.range w).foldl (fun n i => Nat.max n (pixPhases wt x i y).length) 0
    if n = 0 then updPanel p (fun _ => endLine w y x) c
    else bump (0x1BA + p) (updPanel p (fun _ => x.setLine y (fun l => { l with len := n })) c)

/-- Waveforms may start on a panel: rails up for 5 ms, no stop, no temperature hold; during recovery only journalled lines. -/
def mayStart (c : Chip) (p : Nat) : Bool :=
  let x := panel c p
  panelEn c p && x.identified && !x.idFault && !x.tempHold && !c.disp.stopping && !c.disp.railDown && pd11 c == .on

/-- Lines of a panel that start at this frame boundary. -/
def starting (c : Chip) (p : Nat) : List Nat :=
  let x := panel c p
  if mayStart c p then
    (x.lines.filter (fun e => e.2.start && e.2.len == 0 && (!x.recovery || e.2.journal) && !inComp x e.1)).map (·.1)
  else []

/-- Region slots in use (R378, R381). -/
def slotsUsed (c : Chip) : Nat :=
  c.disp.started.length + ([0, 1].filter (fun p => (panel c p).comp.isSome)).length

/-- Starts queued regions while slots are free: idle lines start at the next frame boundary, driven ones keep their waveform
(R378, R379). From stage 3 on only alarm regions start (R482). -/
def startRegions (fuel : Nat) (c : Chip) : Chip :=
  match fuel with
  | 0 => c
  | k + 1 =>
    if 16 ≤ slotsUsed c then c
    else
      match c.disp.queue.find? (fun r => mayStart c r.panel && !(panel c r.panel).recovery && (r.alarm || decide (c.hlth.stage < 3))) with
      | none => c
      | some r =>
        let mine := { r with lines := r.lines.filter (fun y => ((panel c r.panel).line y).len == 0) }
        let c := { c with disp := { c.disp with queue := c.disp.queue.erase r, started := c.disp.started ++ [mine] } }
        let c := updPanel r.panel (fun x => r.lines.foldl (fun x y =>
          if (x.line y).len = 0 then x.setLine y (fun l => { l with start := true }) else x) x) c
        startRegions k c

/-- Ends the started regions whose lines have all ended their waveform (R378). -/
def endRegions (c : Chip) : Chip :=
  { c with disp := { c.disp with started := c.disp.started.filter (fun r =>
    r.lines.any (fun y => (((panel c r.panel).line y).len != 0) || ((panel c r.panel).line y).start)) } }

/-- u of a BALANCE (R381). -/
def balanceU (c : Chip) (p : Nat) : Nat := if cfg c (0x7400 + p) 1 14 13 = 0 then 64 else 32

/-- Sign of an integer. -/
def sgn (i : Int) : Int := if i < 0 then -1 else if 0 < i then 1 else 0

/-- One frame of a compensation (R381): a pulse of opposite sign while a tile still holds u, at most 16; then the refresh of the
compensated tiles; then the record of the tiles and their new ledger values. -/
def compFrame (p : Nat) (c : Chip) : Chip :=
  let x := panel c p
  match x.comp with
  | none => c
  | some k =>
    let u := balanceU c p
    let due := (x.ledger.filter (fun e => k.rows.contains (e.1 / 256) && decide (u ≤ e.2.natAbs))).map (·.1)
    if !k.drive && decide (k.frame < 16) && !due.isEmpty then
      let c := bump (0x1BE + p) (forAll due (fun t c => ledgerAdd p t (-(sgn (Map.getD (panel c p).ledger t 0)) * u) c) c)
      updPanel p (fun x => { x with comp := some { k with
        frame := k.frame + 1, tiles := due.foldl (fun l t => if l.contains t then l else l ++ [t]) k.tiles } }) c
    else if !k.drive then
      match Map.find c.sets.main.waves p with
      | none => updPanel p (fun x => { x with comp := none }) c
      | some wt =>
        let w := panelW c p
        let ys := k.rows.flatMap (fun r => (List.range 8).map (· + r * 8))
        updPanel p (fun x =>
          let x := { x with comp := some { k with drive := true } }
          ys.foldl (fun x y =>
            let x' := x.setLine y (fun l => { l with refresh := true, phase := 0, band := bandOf wt x.temp })
            let n := (List.range w).foldl (fun n i => Nat.max n (pixPhases wt x' i y).length) 0
            if n = 0 then x else x'.setLine y (fun l => { l with len := n })) x) c
    else if k.rows.any (fun r => (List.range 8).any (fun i => (x.line (r * 8 + i)).len != 0)) then bump (0x1BE + p) c
    else
      let ws := k.tiles.flatMap (fun t => [t, unsigned 32 (Map.getD x.ledger t 0)])
      record 0x0C13 (0x0E00 + p) (ws.take 16) (updPanel p (fun x => { x with comp := none }) c)

/-- The stop at a power failure, one frame: the waveforms end at the phase boundary, two frames of 0 V, the rails off (R388). -/
def stopFrame (c : Chip) : Chip :=
  if anyDriven c then
    let c := forAll [0, 1] (fun p => updPanel p (fun x => { x with
      lines := x.lines.map (fun e => if e.2.len != 0 then (e.1, { e.2 with len := 0, phase := 0, unknown := true, refresh := false }) else e) })) c
    { c with disp := { c.disp with started := [], zeros := 2, waveAt := c.time.clock } }
  else if 0 < c.disp.zeros then { c with disp := { c.disp with zeros := c.disp.zeros - 1 } }
  else { c with disp := { c.disp with rails := false } }

/-- One frame boundary of the panels. -/
def frameStep (c : Chip) : Chip :=
  let st := [0, 1].flatMap (fun p => (starting c p).map (fun y => (p, y)))
  let up := c.disp.rails && decide (c.disp.railAt + 5000000 ≤ c.time.clock)
  let c := forAll [0, 1] advance c
  let c := forAll [0, 1] compFrame c
  let c := if up then forAll st (fun e => startLine e.1 e.2) c else c
  let c := when (!st.isEmpty && !c.disp.rails)
    (fun c => { c with disp := { c.disp with rails := true, railFault := false, railAt := c.time.clock, waveAt := c.time.clock } }) c
  startRegions 16 (endRegions c)

/-- DISPLAY_FRAME (R373). -/
def evDisplayFrame (dt : Nat) (c : Chip) : Chip :=
  let c := pass dt c
  if pd11 c != .on then c
  else if c.disp.stopping then refreshPanels (stopFrame c)
  else if c.disp.railDown then c
  else refreshPanels (frameStep c)

/-! ### Other events -/

/-- PANEL_TEMP_READ (R373). -/
def evPanelTempRead (dt p : Nat) (t : Int) (c : Chip) : Chip :=
  let c := pass dt c
  let hold := match Map.find c.sets.main.waves p with | some w => decide (t < w.tMin) || decide (w.tMax < t) | none => false
  let was := (panel c p).tempHold
  let c := updPanel p (fun x => { x with temp := t, tempHold := hold }) c
  refreshPanels (when (hold && !was) (record 0x0C04 (0x0E00 + p) []) c)

/-- LEDGER_COMPENSATION (R381): tile rows with a tile at COMP_THR or more are compensated once the panel has been quiet for 10 s,
in one region slot, below stage 3 (R482). -/
def evLedgerCompensation (dt p : Nat) (c : Chip) : Chip :=
  let c := pass dt c
  let x := panel c p
  let rows := ((x.ledger.filter (fun e => decide (cfg c (0x7400 + p) 3 31 16 ≤ e.2.natAbs))).map (fun e => e.1 / 256)).eraseDups
  if rows.isEmpty || x.comp.isSome || x.recovery || updating c p x || c.disp.queue.any (fun r => r.panel == p)
      || decide (c.time.clock < x.quietAt + 10000000000) || !mayStart c p || decide (3 ≤ c.hlth.stage) || decide (16 ≤ slotsUsed c) then c
  else
    let c := updPanel p (fun x => { x with comp := some { rows := rows } }) c
    refreshPanels (when (!c.disp.rails) (fun c => { c with disp := { c.disp with rails := true, railFault := false, railAt := c.time.clock } }) c)

/-- RAIL_IDLE_OFF (R382): the rails go down after 2 s without any waveform. -/
def evRailIdleOff (dt : Nat) (c : Chip) : Chip :=
  let c := pass dt c
  if c.disp.rails && !anyDriven c && !([0, 1].any (fun p => (panel c p).comp.isSome)) && decide (c.disp.waveAt + 2000000000 ≤ c.time.clock) then
    { c with disp := { c.disp with rails := false } }
  else c

/-- The lines of regions that a stop cut short, and the other lines `ys` it stopped, are to be driven again once the panel may
(log entry 29). -/
def redrive (p : Nat) (rs : List Region) (ys : List Nat) (c : Chip) : Chip :=
  let mine := rs.filter (fun r => r.panel == p)
  let other := ys.filter (fun y => !mine.any (fun r => r.lines.contains y))
  { c with disp := { c.disp with
    queue := mine ++ (if other.isEmpty then [] else [{ panel := p, lines := other }]) ++ c.disp.queue } }

/-- Lines of a panel that are driven. -/
def drivenLines (c : Chip) (p : Nat) : List Nat := ((panel c p).lines.filter (fun e => e.2.len != 0)).map (·.1)

/-- RAIL_FAULT (R383): every waveform stops at once, without frames of 0 V; the rails go off. -/
def evRailFault (dt : Nat) (c : Chip) : Chip :=
  let c := pass dt c
  if !c.disp.rails || pd11 c != .on then c
  else
    let rs := c.disp.started
    let c := forAll [0, 1] (fun p c => redrive p rs (drivenLines c p) (stopLines p 0 true c)) c
    let c := { c with disp := { c.disp with rails := false, railDown := true, downAt := c.time.clock } }
    refreshPanels (record 0x0C20 0x0500 [] c)

/-- RAIL_RETRY (R383): 10 s after the fault the rails are tried again. -/
def evRailRetry (dt : Nat) (ok : Bool) (c : Chip) : Chip :=
  let c := pass dt c
  if !c.disp.railDown || c.disp.stopping || decide (c.time.clock < c.disp.downAt + 10000000000) then c
  else if ok then
    refreshPanels { c with disp := { c.disp with
      rails := true, railAt := c.time.clock, railDown := false, railFault := false, waveAt := c.time.clock } }
  else record 0x0C20 0x0500 [] { c with disp := { c.disp with railFault := true, downAt := c.time.clock } }

/-- BOOST_PHASE_SWITCHED (R383). -/
def evBoostPhaseSwitched (dt : Nat) (c : Chip) : Chip :=
  let c := pass dt c
  if c.disp.sparePhase then c
  else record 0x0C21 0x0500 [] (bump 0x1DF { c with disp := { c.disp with sparePhase := true } })

/-- Reads the identity store of panel 1 (R386): a match identifies it, a changed serial is recorded and its ledger starts at 0
(R390). -/
def identify (i : PanelId) (c : Chip) : Chip :=
  let ok := i.magicOk && i.crcOk && i.width == panelW c 1 && i.height == panelH c 1
  let changed := (panel c 1).serial != i.serial
  if !ok then record 0x0C05 0x0E01 [] (updPanel 1 (fun x => { x with present := true, identified := false, idFault := true }) c)
  else
    let c := record 0x0C01 0x0E01 [] (updPanel 1 (fun x => { x with present := true, identified := true, idFault := false, serial := i.serial }) c)
    when changed (fun c =>
      record 0x0C03 0x0E01 [] (updPanel 1 (fun x => { x with ledger := [] })
        { c with mem := { c.mem with ledgerMirror := c.mem.ledgerMirror.filter (fun e => e.1 / 65536 != 1) } })) c

/-- PANEL_INSERTED (R386): the panel is identified and its first full render starts. -/
def evPanelInserted (dt : Nat) (i : PanelId) (c : Chip) : Chip :=
  let c := pass dt c
  if pd11 c != .on then c
  else
    let c := identify i (allUnknown 1 c)
    refreshPanels (when ((panel c 1).identified) (renderAll 1) c)

/-- PANEL_REMOVED (R386): panel 1 stops as for a rail fault; the rails of panel 0 stay. -/
def evPanelRemoved (dt : Nat) (c : Chip) : Chip :=
  let c := pass dt c
  let c := allUnknown 1 (stopLines 1 0 true c)
  let c := updPanel 1 (fun x => { x with present := false, identified := false, idFault := false, recovery := false }) c
  refreshPanels (record 0x0C02 0x0E01 [] c)

/-- DISP_RECOVERED (R390): every journalled line of the panel is recovered; the journal is done with once no panel needs it, and
the first full render starts. -/
def evDispRecovered (dt p : Nat) (c : Chip) : Chip :=
  let c := pass dt c
  let x := panel c p
  if !x.recovery || x.lines.any (fun e => e.2.journal && (e.2.len != 0 || e.2.start || e.2.unknown)) then c
  else
    let c := updPanel p (fun x => { x with recovery := false, lines := Map.mapV x.lines (fun _ l => { l with journal := false }) }) c
    let c := when (!([0, 1].any (fun q => (panel c q).recovery))) (fun c => { c with mem := { c.mem with dispJournalValid := false } }) c
    refreshPanels (renderAll p (record 0x0C11 (0x0E00 + p) [] c))

/-! ### Power failure and loss of the domain (R388, R389, R392) -/

/-- Bytes of a line of a pixel memory, two pixels a byte, the left one in the low half (log entry 28). -/
def lineBytes (w y : Nat) (m : Map Nat) : List Byte :=
  (List.range (w / 2)).map (fun i => BitVec.ofNat 8 (pix m (2 * i) y + 16 * pix m (2 * i + 1) y))

/-- The power-fail stop (R388): stop phases, the ledger with the phases up to and including them, the journal of R389. -/
def displayPowerFail (c : Chip) : Chip :=
  if pd11 c != .on then c
  else
    let entries := [0, 1].flatMap (fun p =>
      let x := panel c p
      let w := panelW c p
      (x.lines.filter (fun e => e.2.len != 0 || (x.recovery && e.2.journal && e.2.unknown))).map (fun e =>
        (p, e.2.band, e.1, e.2.phase, crc32c (lineBytes w e.1 x.shown), crc32c (lineBytes w e.1 x.active))))
    let live := anyDriven c
    let cut := live || [0, 1].any (fun p => (panel c p).comp.isSome || (panel c p).recovery)
    let lines := [0, 1].map (fun p => (p, (panel c p).lines))
    let comps := [0, 1].map (fun p => (p, (panel c p).comp))
    let c := forAll [0, 1] (fun p => stopLines p 1 true) c
    let c := forAll lines (fun e => updPanel e.1 (fun x => { x with lines := e.2 })) c
    let c := forAll comps (fun e => updPanel e.1 (fun x => { x with comp := if live then e.2 else none })) c
    let c := when cut (record 0x0C10 0x0500 []) c
    refreshPanels { c with
      disp := { c.disp with stopping := true, zeros := 2 }
      mem := { c.mem with
        dispJournalValid := true, dispSerial := [(panel c 0).serial, (panel c 1).serial], dispTStop := mTime c, dispEntries := entries } }

/-- The display domain is lost (R28, R392): the drive ends, without frames of 0 V, charge or journal. -/
def displayLost (c : Chip) : Chip :=
  let cut := anyDriven c || [0, 1].any (fun p => (panel c p).comp.isSome || (panel c p).recovery)
  let c := forAll [0, 1] (fun p => stopLines p 0 false) c
  let c := when cut (record 0x0C10 0x0500 []) c
  refreshPanels { c with disp := { c.disp with rails := false, queue := [], started := [], stopping := false, zeros := 0 } }

/-- The display domain returns (R392): every line is UNKNOWN, the ledgers restart from their mirror, every field is rendered
(log entry 29). -/
def displayReturn (c : Chip) : Chip :=
  let c := forAll [0, 1] (fun p c =>
    let c := allUnknown p c
    let l := (c.mem.ledgerMirror.filter (fun e => e.1 / 65536 == p)).map (fun e => (e.1 % 65536, e.2))
    let c := updPanel p (fun x => { x with ledger := l, rendered := [] }) c
    when (drawable c p) (renderAll p) c) c
  refreshPanels { c with disp := { c.disp with railDown := false, waveAt := c.time.clock } }

/-! ### Rows -/

/-- DISPLAY_FRAME. -/
def execDisplayFrame (dt : Nat) : State → Host.Outcome State Fault Refusal := lift (evDisplayFrame dt)

/-- PANEL_TEMP_READ. -/
def execPanelTempRead (dt : Nat) (p : Fin 2) (t : Int) : State → Host.Outcome State Fault Refusal := lift (evPanelTempRead dt p t)

/-- LEDGER_COMPENSATION. -/
def execLedgerCompensation (dt : Nat) (p : Fin 2) : State → Host.Outcome State Fault Refusal := lift (evLedgerCompensation dt p)

/-- RAIL_IDLE_OFF. -/
def execRailIdleOff (dt : Nat) : State → Host.Outcome State Fault Refusal := lift (evRailIdleOff dt)

/-- RAIL_FAULT. -/
def execRailFault (dt : Nat) : State → Host.Outcome State Fault Refusal := lift (evRailFault dt)

/-- RAIL_RETRY. -/
def execRailRetry (dt : Nat) (ok : Bool) : State → Host.Outcome State Fault Refusal := lift (evRailRetry dt ok)

/-- BOOST_PHASE_SWITCHED. -/
def execBoostPhaseSwitched (dt : Nat) : State → Host.Outcome State Fault Refusal := lift (evBoostPhaseSwitched dt)

/-- PANEL_INSERTED. -/
def execPanelInserted (dt : Nat) (i : PanelId) : State → Host.Outcome State Fault Refusal := lift (evPanelInserted dt i)

/-- PANEL_REMOVED. -/
def execPanelRemoved (dt : Nat) : State → Host.Outcome State Fault Refusal := lift (evPanelRemoved dt)

/-- DISP_RECOVERED. -/
def execDispRecovered (dt : Nat) (p : Fin 2) : State → Host.Outcome State Fault Refusal := lift (evDispRecovered dt p)

end Sys2Proof.Machine
end

