-- ==== Sys2Proof/Machine/Power.lean ====
section
/-! DEFINITION. What a loss of logic power leaves (chapters 18, 19): the contents of MRAM and NAND, the persistent section of
Thyme, the wear ledgers, the stored secrets, the field sides on their own supply, and the state of the panels' own glass. -/
namespace Sys2Proof.Machine

open Sys2Proof

/-- The current retain directory (R144). -/
def curDir (c : Chip) : RetDir := if c.mem.selDir = 0 then c.mem.dir0 else c.mem.dir1

/-- Changes the current retain directory. -/
def updDir (f : RetDir → RetDir) (c : Chip) : Chip :=
  if c.mem.selDir = 0 then { c with mem := { c.mem with dir0 := f c.mem.dir0 } } else { c with mem := { c.mem with dir1 := f c.mem.dir1 } }

/-- State of the siding set that is found again at power-up: the set in NAND, held when it was the main set before the last throw
(R165). -/
def storedSiding (c : Chip) : SidingSt :=
  match c.sets.siding with
  | .empty => .empty | .loading => .empty | .loaded => .loaded | .held => .held
  | .preparing => if c.sets.toHeld then .held else .loaded
  | .named => if c.sets.toHeld then .held else .loaded

/-- What is left when the domains go off (R479, R450, R486): volatile memories and everything in progress are lost; live
parameters are kept in the parameter store. -/
def powerDown (c : Chip) : Chip :=
  { sup := { mstate := .off, serial := c.sup.serial, mac := c.sup.mac, orderCx := c.sup.orderCx, hwRev := c.sup.hwRev, minor := c.sup.minor
             patch := c.sup.patch, imgFmtMax := c.sup.imgFmtMax, freeCtr := c.sup.freeCtr }
    mem := { c.mem with glb := [] }
    sets := { live := c.sets.live, siding := storedSiding c }
    time := { clock := c.time.clock, tcxo := c.time.tcxo, tcxo2 := c.time.tcxo2, cold := c.time.cold }
    hlth := { c.hlth with
      ce := Map.mapV c.hlth.ce (fun _ e => { st := if e.st = .failed then .failed else .off })
      se := Map.mapV c.hlth.se (fun _ e => { st := if e.st = .failed then .failed else .off })
      other := [], dom := [], fenceDue := [], fencePlan := [], substNow := false, stage := 0, critAt := none, shed := false
      partnerShed := false, parity := [], laOk := false, lbOk := false }
    io := { c.io with hart := [], hold := [], reinit := [] }
    pair := { proofAt := c.pair.proofAt, upLink := c.pair.upLink, downLink := c.pair.downLink }
    net := { linkA := c.net.linkA, linkB := c.net.linkB }
    disp := { panels := Map.mapV c.disp.panels (fun _ x =>
      { present := x.present, serial := x.serial, temp := x.temp, shown := x.shown, interrupts := x.interrupts }) }
    mbx := { lock := c.mbx.lock, pw := c.mbx.pw, vkey := c.mbx.vkey, lkey := c.mbx.lkey }
    thy := { seq := c.thy.seq, seqBase := c.thy.seqBase, per := c.thy.per }
    out := c.out }

end Sys2Proof.Machine
end

