-- ==== Sys2Proof/Machine/Health.lean ====
section
/-! DEFINITION. Health, spares and power (chapters 1, 19): errors of memories and registers, failures of engines with their
substitution, re-execution, adoption and fencing, oscillators, power domains, the logic supply, temperature and wear. -/
namespace Sys2Proof.Machine

open Sys2Proof

/-! ### Engines -/

/-- A control engine. -/
def ceEng (c : Chip) (n : Nat) : Engine := Map.getD c.hlth.ce n {}

/-- Changes a control engine. -/
def updCe (n : Nat) (f : Engine → Engine) (c : Chip) : Chip := { c with hlth := { c.hlth with ce := Map.upd c.hlth.ce n {} f } }

/-- Changes a Sage engine. -/
def updSe (e : Nat) (f : Engine → Engine) (c : Chip) : Chip := { c with hlth := { c.hlth with se := Map.upd c.hlth.se e {} f } }

/-- The reserve CE that substitutes CE `n`: of the same cluster where one exists, else of the other (R21). -/
def reserveCe (c : Chip) (n : Nat) : Option Nat :=
  let rs := (List.range 24).filter (fun m => (ceEng c m).st == .reserve)
  match rs.find? (fun m => m / 12 == n / 12) with
  | some m => some m
  | none => rs.head?

/-- Engine `r` takes over the placement of `n`, and of every engine that `n` itself had substituted. -/
def redirect (n r : Nat) (m : Map Engine) : Map Engine :=
  Map.mapV (Map.upd m n {} id) (fun i e => if i = n ∨ e.subBy = some n then { e with subBy := some r } else e)

/-- Worst case of a task's job in ns (R23, R82). -/
def wcNs (c : Chip) (t : Nat) : Nat :=
  ((imageOf c.sets.main t).lists.getD (cfg c (0x2100 + t) 6 15 0) { blocks := [] }).wcCycles

/-- A job back at its start, its image, release instant and deadline unchanged (R12, R23). -/
def freshJob (k : Task) (entry : Nat) (j : Job) : Job :=
  { tn := j.tn, rel := j.rel, relNs := j.relNs, dl := j.dl, image := j.image, status := j.status, sys := j.sys
    staging := k.committed, loc := k.loc, insts := k.insts, list := entry }

/-- Commit boundary of a job that has not completed (R42, R43). -/
def commitTn (c : Chip) (t : Nat) (j : Job) : Nat :=
  Nat.max (c.tt.tn + 1) (cdiv (j.relNs + cfg c (0x2100 + t) 5 31 0 * 1000) (tTick c * 1000))

/-- A job that its engine can no longer run: a healthy partner is asked for its results, else it overruns (R23, R358). -/
def loseJob (t : Nat) (c : Chip) : Chip :=
  match (task c t).job with
  | none => c
  | some j =>
    if partnerHealthy c then
      emit (.adoptAsk t) (updTask t (fun k => { k with st := .idle, job := none })
        { c with pair := { c.pair with adopting := c.pair.adopting ++ [(t, commitTn c t j, j.tn, cfg c (0x2100 + t) 1 12 8)] } })
    else overrunLost t j.tn c

/-- An interrupted job of a failed engine `n`: executed again on the substitute `r` where its worst case fits, else lost there
(R23). -/
def interrupted (n r t : Nat) (c : Chip) : Chip :=
  match (task c t).job with
  | none => c
  | some j =>
    if j.done then c
    else if c.time.clock + 8200 + wcNs c t ≤ j.dl * 1000 then
      record 0x0E11 (0x0700 + t) ([t] ++ w64 j.tn ++ [n, r])
        (updTask t (fun k => { k with st := .ready, job := some (freshJob k (cfg c (0x2100 + t) 6 15 0) j) }) c)
    else loseJob t c

/-- Whether the main set holds a fence plan for CE cluster `k` (R24). -/
def hasFencePlan (c : Chip) (k : Nat) : Bool :=
  ((usedTasks c).filter (fun t => cfg c (0x2100 + t) 1 12 8 / 12 == k)).all (fun t => cfgb c (0x2100 + t) 0x0A 5)

/-- Raises EVT_CAUSE bit 4 for ERR_TASK (R488). -/
def spareEvent (c : Chip) : Chip := raiseBound (cfgb c 0x7800 3 8) 4 (cfg c 0x7800 3 7 0) c

/-- Puts a domain into a state. -/
def setDom (n : Nat) (d : DomSt) (c : Chip) : Chip := { c with hlth := { c.hlth with dom := Map.put c.hlth.dom n d } }

/-- Jobs in progress on engine `n`. -/
def jobsOn (c : Chip) (n : Nat) : List Nat := onCe c n (fun s => s == .running || s == .preempted)

/-- CE cluster `k` is fenced: its engines are FENCED and its domain off; with a fence plan the placement switches at the next
boundary, without one the module enters FAULT (R25). -/
def fenceCe (k : Nat) (c : Chip) : Chip :=
  if Map.getD c.hlth.dom (2 + k) .off = .fenced then c
  else
    let jobs := (List.range 12).flatMap (fun i => jobsOn c (12 * k + i))
    let plan := hasFencePlan c k
    let c := setDom (2 + k) .fenced c
    let c := forAll (List.range 12) (fun i => updCe (12 * k + i) (fun e => { e with st := .fenced, due := false, swap := none })) c
    let c := record 0x0E13 (0x0F02 + k) [2 + k, b01 plan] c
    let c := spareEvent c
    if plan then forAll jobs loseJob { c with hlth := { c.hlth with fenceDue := c.hlth.fenceDue ++ [k] } } else enterFault c

/-- A failed, active CE `n` is substituted, cause 0 failure, 1 predictive, 2 command (R21, R23): jobs that wait move at once, jobs
in progress are executed again or lost; with no reserve its cluster is fenced. -/
def substCe (n cause : Nat) (c : Chip) : Chip :=
  let jobs := jobsOn c n
  let c := updCe n (fun e => { e with st := .failed, advised := false, swap := none }) c
  match reserveCe c n with
  | none => fenceCe (n / 12) (forAll jobs loseJob (spareExhausted (0x0100 + n) 4 c))
  | some r =>
    let c := { c with hlth := { c.hlth with ce := redirect n r c.hlth.ce } }
    let c := updCe n (fun e => { e with due := true }) (updCe r (fun e => { e with st := .active }) c)
    let c := emit (.maintenance 0x0E10 (0x0100 + n)) (spareUsed (0x0100 + n) (0x0100 + r) cause c)
    dispatch r (if cause = 0 then forAll jobs (interrupted n r) c else c)

/-- Engines substituted by an engine of cluster `k`, from outside it, are substituted again (R21). -/
def resubst (k : Nat) (c : Chip) : Chip :=
  forAll ((List.range 24).filter (fun m => m / 12 != k)) (fun m c =>
    match (ceEng c m).subBy with
    | some r => if r / 12 = k ∧ (ceEng c r).st = .fenced then substCe m 0 c else c
    | none => c) c

/-- CE_FAILED (R23): a reserve that fails is only marked; an active engine is substituted. -/
def evCeFailed (dt n : Nat) (c : Chip) : Chip :=
  let c := pass dt c
  match (ceEng c n).st with
  | .reserve => updCe n (fun e => { e with st := .failed }) c
  | .active =>
    let c := substCe n 0 c
    if Map.getD c.hlth.dom (2 + n / 12) .off = .fenced then resubst (n / 12) c else c
  | _ => c

/-! ### Sage engines (R21, R26, R167) -/

/-- The reserve SE, whichever cluster it is in. -/
def reserveSe (c : Chip) : Option Nat := (List.range 8).find? (fun e => (seEng c e).st == .reserve)

/-- The job running on engine `e`, if one is. -/
def seJob (c : Chip) (e : Nat) : Option Nat := (c.slots.find? (fun p => p.2.st == .running && p.2.runSe == e)).map (·.1)

/-- A running job goes back to its start, its slot's factor lost (R23). -/
def requeueSage (s : Nat) (c : Chip) : Chip := updSlot s (fun x => { x with st := .queued, factor := false, phase := 0 }) c

/-- Sage cluster `k` is fenced: its jobs in progress wait for an engine of the other cluster (R26). -/
def fenceSe (k : Nat) (c : Chip) : Chip :=
  let jobs := (List.range 4).filterMap (fun i => seJob c (4 * k + i))
  let c := setDom (4 + k) .fenced c
  let c := forAll (List.range 4) (fun i => updSe (4 * k + i) (fun e => { e with st := .fenced, swap := none })) c
  forAll jobs requeueSage (spareEvent (record 0x0E13 (0x0F04 + k) [4 + k, 1] c))

/-- A failed, active SE `e` is substituted by the reserve, its running job restarted there; with no reserve its cluster is
fenced. -/
def substSe (e cause : Nat) (c : Chip) : Chip :=
  let job := seJob c e
  let c := updSe e (fun x => { x with st := .failed, advised := false, swap := none }) c
  match reserveSe c with
  | none => fenceSe (e / 4) (forAll job.toList requeueSage (spareExhausted (0x0200 + e) 4 c))
  | some r =>
    let c := { c with hlth := { c.hlth with se := redirect e r c.hlth.se } }
    let c := updSe r (fun x => { x with st := .active }) c
    let c := emit (.maintenance 0x0E10 (0x0200 + e)) (spareUsed (0x0200 + e) (0x0200 + r) cause c)
    forAll job.toList (fun s c =>
      updSlot s (fun x => { x with st := .running, runSe := r, startNs := c.time.clock }) (requeueSage s c)) c

/-- SE_FAILED (R23, R167). -/
def evSeFailed (dt e : Nat) (c : Chip) : Chip :=
  let c := pass dt c
  match (seEng c e).st with
  | .reserve => updSe e (fun x => { x with st := .failed }) c
  | .active => substSe e 0 c
  | _ => c

/-- A predictive case of an engine (R22, R488): at its boundary under SUBST_POLICY automatic, else advised. -/
def predictive (se : Bool) (n : Nat) (c : Chip) : Chip :=
  let e := if se then seEng c n else ceEng c n
  let upd := if se then updSe n else updCe n
  let unit := (if se then 0x0200 else 0x0100) + n
  if e.st != .active || e.advised || e.swap.isSome then c
  else if live c 0x7800 1 1 1 = 1 then
    emit (.maintenance 0x0E15 unit) (bump 0x1DD (record 0x0E15 unit [unit, 4] (upd (fun x => { x with advised := true }) c)))
  else upd (fun x => { x with swap := some 1 }) c

/-- Substitutions that waited for their boundary: a CE at the first, an SE at the first at which neither engine runs a job
(R489). -/
def swapEngines (c : Chip) : Chip :=
  let c := forAll (List.range 24) (fun n c =>
    match (ceEng c n).swap with
    | some cause =>
      if (reserveCe c n).isSome then substCe n cause c else completeSubst (0x0100 + n) 0x0401 (updCe n (fun e => { e with swap := none }) c)
    | none => c) c
  forAll (List.range 8) (fun e c =>
    match (seEng c e).swap with
    | some cause =>
      (match reserveSe c with
       | some r => if (seJob c e).isNone && (seJob c r).isNone then substSe e cause c else c
       | none => completeSubst (0x0200 + e) 0x0401 (updSe e (fun x => { x with swap := none }) c))
    | none => c) c

/-! ### Memories and registers (R16 to R20) -/

/-- Memory kind of a physical address: 0 image SRAM, 1 DRAM, 2 MRAM, 3 CE local, 4 SE local, 5 other (R13). -/
def memKind (a : Nat) : Nat :=
  if 0x0010000000 ≤ a ∧ a < 0x0010800000 then 0
  else if 0x0100000000 ≤ a ∧ a < 0x01E0000000 then 1
  else if 0x0040000000 ≤ a ∧ a < 0x0041000000 then 2
  else if 0x0020000000 ≤ a ∧ a < 0x0020600000 then 3
  else if 0x0030000000 ≤ a ∧ a < 0x0032000000 then 4 else 5

/-- Base bits 39..24 of the region of a memory kind (R508). -/
def memRegion (k : Nat) : Nat := match k with | 0 => 0x10 | 1 => 0x100 | 2 => 0x40 | 3 => 0x20 | _ => 0x30

/-- The retained block that holds a physical address. -/
def retBlock (c : Chip) (a : Nat) : Option DirEntry :=
  let o := cut a 0x0040000000
  if memKind a = 2 ∧ o < 0x800000 then (curDir c).entries.find? (fun e => decide (e.off ≤ o) && decide (o < e.off + e.bytes)) else none

/-- Words of a record about an error of a memory word (R508). -/
def eccWords (c : Chip) (a : Nat) (t : Option Nat) : List Nat :=
  w64 (a % 2 ^ 40) ++ [t.getD 0xFFFFFFFF] ++ w64 (((retBlock c a).map (·.blockId)).getD 0)

/-- ECC_UNCORRECTABLE (R18, R19): a retained block becomes invalid; the job that read the word aborts. -/
def evEccUncorrectable (dt addr : Nat) (job : Option Nat) (c : Chip) : Chip :=
  let c := pass dt c
  let ws := eccWords c addr job
  let c := when (decide (memKind addr < 5)) (bump (0x0C5 + memKind addr)) c
  let c := match retBlock c addr with
    | some e => updDir (fun d => { d with entries := d.entries.map (fun x => if x.blockId = e.blockId then { x with valid := false } else x) }) c
    | none => c
  match job with
  | some t => if (task c t).job.isSome then abortJob t 0x0E21 (0x0700 + t) ws c else record 0x0E21 (0x0700 + t) ws c
  | none => record 0x0E21 0 ws c

/-- Pool of spares that serves an error. -/
def Hit.pool (h : Hit) : Nat := (h.kind * 32 + h.num) * 131072 + h.bank * 2 + b01 h.col

/-- Spares of a pool: 4 rows and 2 columns per SRAM macro, 8 rows per DRAM bank, 256 MRAM sectors (level L3). -/
def poolSize (pool : Nat) : Nat :=
  match pool / 131072 / 32 with | 1 => 8 | 2 => 256 | _ => if pool % 2 = 1 then 2 else 4

/-- Replaces a weak row, column or sector (R17). -/
def spareRow (pool unit addr : Nat) (c : Chip) : Chip :=
  let used := Map.getD c.hlth.spareUsed pool 0
  if used < poolSize pool then
    let c := { c with hlth := { c.hlth with
      spareUsed := Map.put c.hlth.spareUsed pool (used + 1)
      corrected := Map.del c.hlth.corrected (pool * 2 ^ 32 + unit)
      mramSpare := if pool / 131072 / 32 = 2 then c.hlth.mramSpare - 1 else c.hlth.mramSpare } }
    bump 0x0CB (record 0x0E22 0 (eccWords c addr none) c)
  else record 0x0E14 0 [memRegion (pool / 131072 / 32), 3] c

/-- Instants within the last 24 h. -/
def within24 (c : Chip) (t : Nat) : Bool := decide (c.time.clock < t + 86400000000000)

/-- A corrected error: counted, and kept for 24 h against its row, column or sector (R17); in an engine's local memory without
spares left, the eighth within 24 h is a predictive case (R488). -/
def correct (h : Hit) (c : Chip) : Chip :=
  let key := h.pool * 2 ^ 32 + h.unit
  let l := (Map.getD c.hlth.corrected key []).filter (fun e => within24 c e.1) ++ [(c.time.clock, h.addr)]
  let c := bump (0x0C0 + h.kind) { c with hlth := { c.hlth with corrected := Map.put c.hlth.corrected key l } }
  if h.kind < 3 then c
  else
    let base := (h.kind * 32 + h.num) * 131072 + h.bank * 2
    let full := decide (4 ≤ Map.getD c.hlth.spareUsed base 0) && decide (2 ≤ Map.getD c.hlth.spareUsed (base + 1) 0)
    let upd := if h.kind = 4 then updSe h.num else updCe h.num
    let c := when full (upd (fun e => { e with errs := (e.errs.filter (within24 c)) ++ [c.time.clock] })) c
    let e := if h.kind = 4 then seEng c h.num else ceEng c h.num
    when (full && decide (8 ≤ e.errs.length)) (predictive (h.kind == 4) h.num) c

/-- Replaces every unit with three corrected errors within 24 h. -/
def spareWeak (kinds : List Nat) (c : Chip) : Chip :=
  forAll (c.hlth.corrected.filter (fun e => kinds.contains (e.1 / 2 ^ 32 / 131072 / 32)
      && decide (3 ≤ (e.2.filter (fun x => within24 c x.1)).length)))
    (fun e => spareRow (e.1 / 2 ^ 32) (e.1 % 2 ^ 32) ((e.2.getLast?.map (·.2)).getD 0)) c

/-- SCRUB_PASS (R16, R17): weak units found before are replaced, then the errors this pass met are corrected. Engine local memories
belong to the pass over the SRAM. -/
def evScrubPass (dt kind : Nat) (hits : List Hit) (c : Chip) : Chip :=
  let c := pass dt c
  let kinds := if kind = 0 then [0, 3, 4] else [kind]
  let c := spareWeak kinds c
  bump (0x0CC + kind) (forAll (hits.filter (fun h => kinds.contains h.kind)) correct c)

/-- PARITY_ERROR (R20): a configuration register is repaired at the next boundary; a working register is a failure of its
engine. -/
def evParityError (dt addr : Nat) (eng : Option Nat) (c : Chip) : Chip :=
  let c := bump 0x0CA (pass dt c)
  match eng with
  | none => { c with hlth := { c.hlth with parity := c.hlth.parity ++ [addr] } }
  | some n => if n < 24 then evCeFailed 0 n c else if n < 32 then evSeFailed 0 (n - 24) c else c

/-- The repairs due at a boundary (R20). -/
def repairParity (c : Chip) : Chip :=
  forAll c.hlth.parity (fun a c => record 0x0E23 0 (eccWords c a none) c) { c with hlth := { c.hlth with parity := [] } }

/-! ### Lockstep, oscillators, domains (R27, R28, R511) -/

/-- The module is powered and not in FAULT. -/
def working (c : Chip) : Bool := c.sup.mstate != .off && c.sup.mstate != .fault

/-- LOCKSTEP_MISMATCH (R27). -/
def evLockstepMismatch (dt : Nat) (c : Chip) : Chip :=
  let c := pass dt c
  if working c then enterFault (recordF 48 0x0E30 0x0300 [] c.time.clock 0 true c) else c

/-- No oscillator can be trusted any more (R511). -/
def tcxoLost (c : Chip) : Chip := if working c then enterFault (recordF 48 0x0E32 0 [] c.time.clock 0 true c) else c

/-- The running TCXO `n` is taken out of service; the other one is active, and the cold spare becomes the second one (R27, R334,
R511). -/
def dropTcxo (n : Nat) (c : Chip) : Chip :=
  let t := c.time
  let act := if t.tcxo = n then t.tcxo2.getD t.tcxo else t.tcxo
  let c := record 0x0E31 0 [] { c with time := { t with tcxo := act, tcxo2 := t.cold, cold := none } }
  if t.cold.isSome then emit (.maintenance 0x0E14 0) (spareExhausted 0 6 c) else c

/-- TCXO_DRIFT (R27, R511). -/
def evTcxoDrift (dt bad : Nat) (c : Chip) : Chip :=
  let c := pass dt c
  if c.time.tcxo2.isNone || !(c.time.tcxo == bad || c.time.tcxo2 == some bad) then c
  else if c.time.cold.isSome then dropTcxo bad c else tcxoLost c

/-- TCXO_STOPPED (R511). -/
def evTcxoStopped (dt n : Nat) (c : Chip) : Chip :=
  let c := pass dt c
  if !(c.time.tcxo == n || c.time.tcxo2 == some n) then c
  else if c.time.tcxo2.isSome then dropTcxo n c
  else tcxoLost c

/-- DOMAIN_FAULT (R28, R476). -/
def evDomainFault (dt n : Nat) (c : Chip) : Chip :=
  let c := pass dt c
  if c.sup.mstate = .off || Map.getD c.hlth.dom n .off != .on then c
  else
    let c := record 0x0E44 (0x0F00 + n) [n] (setDom n .fault c)
    match n with
    | 0 => powerDown c
    | 2 => resubst 0 (fenceCe 0 c)
    | 3 => resubst 1 (fenceCe 1 c)
    | 4 => fenceSe 0 c
    | 5 => fenceSe 1 c
    | 7 => let c := enterFault c; { c with tt := { c.tt with ticking := false } }
    | 8 => forAll (List.range 4) (fun ch c => if canMode c ch = 0 then c else canBusOff ch c) c
    | 9 => aoStrap 1 (aoStrap 0 c)
    | 10 =>
      let c := forAll (List.range 3) doWdSafe c
      { c with io := { c.io with diDown := (List.range 4).foldl (fun m g => Map.put m g 101) c.io.diDown } }
    | 11 => displayLost c
    | _ => enterFault c

/-- DOMAIN_RESTORED (R392): PD11 returns after a loss. -/
def evDomainRestored (dt : Nat) (c : Chip) : Chip :=
  let c := pass dt c
  if pd11 c = .fault then displayReturn (setDom 11 .on c) else c

/-! ### The logic supply (R478, R479) -/

/-- LOGIC_INPUT_LOST (R478): one input below 18 V while the other holds. -/
def evLogicInputLost (dt : Nat) (p : Port) (mv : Nat) (c : Chip) : Chip :=
  let c := pass dt c
  let both := c.hlth.laOk && c.hlth.lbOk
  if !both || decide (18000 ≤ mv) || c.sup.powerFail.isSome then c
  else
    let h := match p with
      | .a => { c.hlth with laOk := false, vlA := Nat.min mv 65535 }
      | .b => { c.hlth with lbOk := false, vlB := Nat.min mv 65535 }
    bump 0x1DE (record 0x0E41 0 [] { c with hlth := h })

/-- LOGIC_INPUT_RESTORED (R478). -/
def evLogicInputRestored (dt : Nat) (p : Port) (mv : Nat) (c : Chip) : Chip :=
  let c := pass dt c
  let lost := match p with | .a => !c.hlth.laOk | .b => !c.hlth.lbOk
  if !lost || decide (mv < 18000) || c.sup.mstate = .off then c
  else
    let h := match p with
      | .a => { c.hlth with laOk := true, vlA := Nat.min mv 65535 }
      | .b => { c.hlth with lbOk := true, vlB := Nat.min mv 65535 }
    bump 0x1DE (record 0x0E42 0 [] { c with hlth := h })

/-- Running jobs stop and commit nothing; what earlier jobs staged stays (R479). -/
def stopJobs (c : Chip) : Chip :=
  forAll (usedTasks c) (fun t c =>
    match (task c t).job with
    | some j => if j.done then c else updTask t (fun k => { k with st := .halted, job := none }) c
    | none => c) c

/-- A named throw is not taken; the siding set stays loaded (R165, R492). -/
def dropThrow (c : Chip) : Chip :=
  if c.sets.named then unnameThrow { c with sets := { c.sets with origin := none } } else c

/-- POWER_FAIL_WARNING (R479): the record, the jobs, Sage, the throw, the announcement, the instance save, the display. -/
def evPowerFailWarning (dt : Nat) (c : Chip) : Chip :=
  let c := pass dt c
  if c.sup.mstate = .off || c.sup.powerFail.isSome then c
  else
    let c := { c with sup := { c.sup with powerFail := some c.time.clock } }
    let c := bump 0x1DB (recordF 48 0x0E40 0 [] c.time.clock 0 true c)
    let c := dropThrow (cancelSage (stopJobs c))
    let c := when (isPair c) (emit (.announce false)) c
    displayPowerFail (when (inRun c) saveInsts c)

/-- What is written to MRAM within 12.5 ms of the warning (R330, R334, R420, R479). -/
def saveAtFail (c : Chip) : Chip :=
  let c := { c with mem := { c.mem with savedClock := c.time.clock, savedFreq := c.time.learned, savedTcxo := some c.time.tcxo } }
  forAll c.mbx.sess (fun e c =>
    recordF 48 0x0101 (0x0800 + e.1) [7] c.time.clock 0 true { c with mbx := { c.mbx with sess := Map.del c.mbx.sess e.1 } }) c

/-- POWER_FAIL_SAFE_COMMIT (R479): 10 ms after the warning the staged outputs that are left are discarded, every on-board output
takes its safe value, in SOLO the trip frame goes out; the state is saved and the domains go off. -/
def evPowerFailSafeCommit (dt : Nat) (c : Chip) : Chip :=
  let c := pass dt c
  match c.sup.powerFail with
  | none => c
  | some t =>
    let c := pass (t + 10000000 - c.time.clock) c
    let c := forAll (usedTasks c) (fun t => updTask t (fun k => { k with st := .halted, job := none, staged := [] })) c
    let c := safeCommit { c with sup := { c.sup with loopVals := [] } }
    let c := when (c.sup.role == .solo) tripFrames c
    powerDown (saveAtFail (pass 2500000 { c with sup := { c.sup with refreshOff := true } }))

/-! ### Temperature (R482 to R485) -/

/-- Entry threshold of a stage. -/
def stageAt (s : Nat) : Int := match s with | 1 => 105 | 2 => 110 | 3 => 115 | _ => 125

/-- The stage after a stage is left for `die`: left when T_DIE falls 5 °C below its entry threshold. -/
def stageDown (die : Int) (s : Nat) : Nat :=
  match s with
  | 0 => 0
  | k + 1 => if die ≤ stageAt (k + 1) - 5 then stageDown die k else k + 1

/-- The stage that T_DIE enters at once; stage 4 needs 100 ms. -/
def stageUp (die : Int) : Nat := if 115 ≤ die then 3 else if 110 ≤ die then 2 else if 105 ≤ die then 1 else 0

/-- Stage 2 is entered or left: alone at once, in a pair by agreement with the partner (R482, R484). -/
def shedChange (on : Bool) (c : Chip) : Chip :=
  if isPair c && c.pair.st == .paired then
    emit (.proposal (.cmd c.tt.tn (.shed on)))
      { c with sup := { c.sup with pairCmds := c.sup.pairCmds ++ [(c.tt.tn, .shed on, 0xFF, 0)] } }
  else
    let c := { c with hlth := { c.hlth with shed := on } }
    if on then shedStart c else shedEnd c

/-- THERMAL_SAMPLE (R482). -/
def evThermalSample (dt : Nat) (die board mem : Int) (c : Chip) : Chip :=
  let c := pass dt c
  if c.sup.mstate = .off then c
  else
    let old := c.hlth.stage
    let crit := if die < 125 then none else some (c.hlth.critAt.getD c.time.clock)
    let hot := match crit with | some t => decide (t + 100000000 ≤ c.time.clock) | none => false
    let new := if hot then 4 else Nat.max (stageUp die) (stageDown die old)
    let c := { c with hlth := { c.hlth with tDie := die, tBoard := board, tMem := mem, critAt := crit, stage := new } }
    if new = old then c
    else
      let c := record 0x0E50 0 [new, unsigned 32 die] c
      let c := when (old == 0) (bump 0x1D8) c
      let c := when (decide (old < 2) && decide (2 ≤ new)) (fun c =>
        shedChange true { c with hlth := { c.hlth with thermEv := c.hlth.thermEv + 1 } }) c
      let c := when (decide (2 ≤ old) && decide (new < 2)) (shedChange false) c
      if new = 4 then
        let c := recordF 48 0x0E51 0 [] c.time.clock 0 true c
        if inRun c then tripSequence c else c
      else c

/-! ### Wear (R486, R487, R489) -/

/-- 2^(r/10) in units of 10^-12, rounded down (log entry 30). -/
def tenthPow (r : Nat) : Nat :=
  [1000000000000, 1071773462536, 1148698354997, 1231144413344, 1319507910772, 1414213562373, 1515716566510, 1624504792712,
   1741101126592, 1866065983073].getD r 0

/-- Equivalent consumption of one hour at a temperature, in 10^-12 of 0.1 h: 10 · 2^((T − 125)/10) (R486). -/
def eqHour (t : Int) : Nat :=
  let d := t - 125
  let q := d / 10
  let v := 10 * tenthPow (d % 10).toNat
  if 0 ≤ q then v * 2 ^ q.toNat else v / 2 ^ (-q).toNat

/-- The ledgers with an advisory value: parameter, value, whether the advisory value is reached (R487). -/
def advisoryList (c : Chip) : List (Nat × Nat × Bool) :=
  let h := c.hlth
  [(0x783003, h.capEq, decide (45000 ≤ h.capEq)), (0x783004, h.boostEq, decide (45000 ≤ h.boostEq)),
   (0x783005, h.nandPe, decide (90000 ≤ h.nandPe)), (0x783006, h.nandRetired * 2 ^ 16 + h.nandSpare, decide (h.nandSpare ≤ 786)),
   (0x783007, h.mramWr, decide (90000000 ≤ h.mramWr)), (0x783008, h.mramSpare, decide (h.mramSpare ≤ 26)),
   (0x783009, unsigned 32 h.tcxoAge, decide (4000 ≤ h.tcxoAge.natAbs))]
  ++ (List.range 24).map (fun n =>
      let v := Map.getD c.cnt.val (0x158 + n) 0
      ((0x7200 + 0x158 + n) * 256 + 1, v % 2 ^ 32, decide (10000 ≤ v)))
  ++ (List.range 32).map (fun n =>
      let d := Map.getD h.drift n 0
      ((0x7840 + n) * 256 + 1, unsigned 16 d, decide (24 ≤ d.natAbs)))

/-- Records each ledger that has reached its advisory value, once (R487). -/
def advise (c : Chip) : Chip :=
  forAll ((advisoryList c).filter (fun e => e.2.2 && !c.hlth.advisories.contains e.1)) (fun e c =>
    emit (.maintenance 0x0E60 e.1) (record 0x0E60 0 [e.1, e.2.1]
      { c with hlth := { c.hlth with advisories := e.1 :: c.hlth.advisories } })) c

/-- WEAR_LEDGER_UPDATE (R486): one hour has passed. -/
def evWearLedgerUpdate (dt : Nat) (capC boostC : Int) (nandPe mramWr : Nat) (tcxo : Int) (drift : List Int) (c : Chip) : Chip :=
  let c := pass dt c
  let h := c.hlth
  let cap := h.eqFrac.1 + eqHour capC
  let bst := h.eqFrac.2 + eqHour boostC
  advise { c with hlth := { h with
    opHours := (h.opHours + 1) % 2 ^ 32
    capEq := h.capEq + cap / 10 ^ 12, boostEq := h.boostEq + bst / 10 ^ 12, eqFrac := (cap % 10 ^ 12, bst % 10 ^ 12)
    nandPe := nandPe, mramWr := mramWr, tcxoAge := tcxo
    drift := ((List.range 32).zip drift).foldl (fun m p => Map.put m p.1 p.2) h.drift } }

/-- WEAR_LEDGER_NAND_COPY (R486). -/
def evWearLedgerNandCopy (dt : Nat) (c : Chip) : Chip :=
  let c := pass dt c
  let l := (List.range 10).map (fun i => (wearWord c (i + 1) : Int)) ++ (List.range 32).map (fun n => Map.getD c.hlth.drift n 0)
  { c with mem := { c.mem with wearCopies := l :: c.mem.wearCopies } }

/-- NAND_BLOCK_FAILURE (R489): the block is retired, its data goes to a spare block. -/
def evNandBlockFailure (dt blk : Nat) (c : Chip) : Chip :=
  let c := pass dt c
  if c.hlth.retired.contains blk then c
  else
    advise (record 0x0E61 0x0300 [] { c with hlth := { c.hlth with
      retired := blk :: c.hlth.retired, nandRetired := c.hlth.nandRetired + 1, nandSpare := c.hlth.nandSpare - 1 } })

/-! ### Rows -/

/-- ECC_UNCORRECTABLE. -/
def execEccUncorrectable (dt addr : Nat) (job : Option (Fin 256)) : State → Host.Outcome State Fault Refusal :=
  lift (evEccUncorrectable dt addr (job.map (·.val)))

/-- SCRUB_PASS. -/
def execScrubPass (dt : Nat) (kind : Fin 3) (hits : List Hit) : State → Host.Outcome State Fault Refusal := lift (evScrubPass dt kind hits)

/-- PARITY_ERROR. -/
def execParityError (dt addr : Nat) (eng : Option Nat) : State → Host.Outcome State Fault Refusal := lift (evParityError dt addr eng)

/-- CE_FAILED. -/
def execCeFailed (dt : Nat) (n : Fin 24) : State → Host.Outcome State Fault Refusal := lift (evCeFailed dt n)

/-- SE_FAILED. -/
def execSeFailed (dt : Nat) (e : Fin 8) : State → Host.Outcome State Fault Refusal := lift (evSeFailed dt e)

/-- LOCKSTEP_MISMATCH. -/
def execLockstepMismatch (dt : Nat) : State → Host.Outcome State Fault Refusal := lift (evLockstepMismatch dt)

/-- TCXO_DRIFT. -/
def execTcxoDrift (dt : Nat) (bad : Fin 3) : State → Host.Outcome State Fault Refusal := lift (evTcxoDrift dt bad)

/-- TCXO_STOPPED. -/
def execTcxoStopped (dt : Nat) (n : Fin 3) : State → Host.Outcome State Fault Refusal := lift (evTcxoStopped dt n)

/-- DOMAIN_FAULT. -/
def execDomainFault (dt : Nat) (n : Fin 12) : State → Host.Outcome State Fault Refusal := lift (evDomainFault dt n)

/-- DOMAIN_RESTORED. -/
def execDomainRestored (dt : Nat) : State → Host.Outcome State Fault Refusal := lift (evDomainRestored dt)

/-- LOGIC_INPUT_LOST. -/
def execLogicInputLost (dt : Nat) (p : Port) (mv : Nat) : State → Host.Outcome State Fault Refusal := lift (evLogicInputLost dt p mv)

/-- LOGIC_INPUT_RESTORED. -/
def execLogicInputRestored (dt : Nat) (p : Port) (mv : Nat) : State → Host.Outcome State Fault Refusal :=
  lift (evLogicInputRestored dt p mv)

/-- POWER_FAIL_WARNING. -/
def execPowerFailWarning (dt : Nat) : State → Host.Outcome State Fault Refusal := lift (evPowerFailWarning dt)

/-- POWER_FAIL_SAFE_COMMIT. -/
def execPowerFailSafeCommit (dt : Nat) : State → Host.Outcome State Fault Refusal := lift (evPowerFailSafeCommit dt)

/-- THERMAL_SAMPLE. -/
def execThermalSample (dt : Nat) (die board mem : Int) : State → Host.Outcome State Fault Refusal := lift (evThermalSample dt die board mem)

/-- WEAR_LEDGER_UPDATE. -/
def execWearLedgerUpdate (dt : Nat) (capC boostC : Int) (nandPe mramWr : Nat) (tcxoPpb : Int) (drift : List Int) :
    State → Host.Outcome State Fault Refusal :=
  lift (evWearLedgerUpdate dt capC boostC nandPe mramWr tcxoPpb drift)

/-- WEAR_LEDGER_NAND_COPY. -/
def execWearLedgerNandCopy (dt : Nat) : State → Host.Outcome State Fault Refusal := lift (evWearLedgerNandCopy dt)

/-- NAND_BLOCK_FAILURE. -/
def execNandBlockFailure (dt blk : Nat) : State → Host.Outcome State Fault Refusal := lift (evNandBlockFailure dt blk)

end Sys2Proof.Machine
end

