-- ==== Sys2Proof/Machine/Forms.lean ====
section
/-! DEFINITION. The blocks of an image as its words give them (R85 to R90): operand references, flags, the form and the worst case
of each opcode, the lists a task reaches, and the ranges its blocks read and write. -/
namespace Sys2Proof.Machine

open Sys2Proof

/-! ### Words of an image -/

/-- TYPE code of a data type (R89). -/
def Ty.code (t : Ty) : Nat :=
  match t with
  | .bool => 0 | .i8 => 1 | .i16 => 2 | .i32 => 3 | .i64 => 4 | .u8 => 5 | .u16 => 6 | .u32 => 7 | .u64 => 8 | .f32 => 9
  | .f64 => 10 | .q f => 0x20 + f

/-- The operand references of a list of words; none when a type is reserved. -/
def refsOf (ws : List Nat) : Option (List Ref) :=
  match ws with
  | [] => some []
  | w :: r => match refOf w, refsOf r with | some a, some l => some (a :: l) | _, _ => none

/-- A block as its words give it (R85, R86); none when an operand has a reserved type. -/
def blkOf (t : Nat) (b : Block) : Option Blk :=
  (refsOf b.ops).map (fun l =>
    { task := Fin.ofNat 256 t, sat := bit b.flags 6, en := bit b.flags 5, optA := bit b.flags 4, optB := bit b.flags 3, ops := l
      inst := if bit b.flags 7 then some b.inst else none })

/-! ### Forms -/

/-- The forms of every opcode of R107. -/
def sigs : List Sig :=
  [sigLogic 0x0101, sigLogic 0x0102, sigLogic 0x0103, sigNot, sigShift 0x0105 Ty.isInt, sigShift 0x0106 Ty.isInt, sigShift 0x0107 Ty.isI,
   sigShift 0x0108 Ty.isU, sigShift 0x0109 Ty.isU, sigBitget, sigBitset, sigPopcnt]
  ++ [sigCmp 0x0201 (fun _ => true), sigCmp 0x0202 (fun _ => true), sigCmp 0x0203 Ty.isNum, sigCmp 0x0204 Ty.isNum,
   sigCmp 0x0205 Ty.isNum, sigCmp 0x0206 Ty.isNum, sigSel, sigMux, sigMinMax 0x0209, sigMinMax 0x020A, sigLimit, sigMove, sigLdx,
   sigStx, sigGetst]
  ++ [sigInt 0x0301 2 8 Ty.isInt, sigInt 0x0302 2 2 Ty.isInt, sigInt 0x0303 2 4 Ty.isInt, sigInt 0x0304 2 2 Ty.isInt,
   sigInt 0x0305 2 2 Ty.isInt, sigInt 0x0306 1 1 Ty.isI, sigInt 0x0307 1 1 Ty.isI]
  ++ [sigQ 0x0401 2, sigQ 0x0402 2, sigQany 0x0403 2, sigQany 0x0404 2, sigQ 0x0405 1, sigQ 0x0406 1, sigQany 0x0407 1]
  ++ [sigF 0x0501 2, sigF 0x0502 2, sigF 0x0503 2, sigF 0x0504 2, sigF 0x0505 1, sigF 0x0506 1, sigF 0x0507 1, sigF 0x0508 1,
   sigF 0x0509 1, sigF 0x050A 1, sigF 0x050B 1, sigF 0x050C 2]
  ++ [sigCvt, sigF32 0x0602 5, sigF32 0x0603 5, sigLint, sigNt 0x0701, sigNt 0x0702, sigNt 0x0703, sigNt 0x0704, sigTret,
   sigCt 0x0801, sigCt 0x0802, sigCt 0x0803, sigCtu 0x0901, sigCtu 0x0902, sigCtud, sigCtw, sigEdge 0x0A01 1, sigEdge 0x0A02 1,
   sigEdge 0x0A03 2]
  ++ [sigPid 0x0B01 (· == .f32), sigPid 0x0B02 Ty.isQ, sigFilt 0x0B03 2, sigFilt 0x0B04 4, sigFilt 0x0B05 3, sigFilt 0x0B06 2, sigMavg,
   sigInteg, sigStep, sigTrans, sigSeqrst, sigAlmhl, sigAlmdly, sigAlminh, sigAlmshv, sigAlmfo, sigV1oo2, sigV2oo3, sigV1oo2a,
   sigV2oo3a, sigSdl]
  ++ [sigSgsub, sigSgcol, sigSgstat, sigCantx, sigCanrx, sigHcmd, sigHvar, sigTmark, sigCntrd, sigPtext, sigPfield, sigJmp, sigJmpc,
   sigJmpn, sigLoopb, sigCall, sigRet, sigNop]

/-- The form of an opcode; none for an unknown one. -/
def sigOf (op : Nat) : Option Sig := sigs.find? (fun s => s.op == op)

/-- The block has the form R86 and R107 give its opcode. -/
def blockFormed (t : Nat) (b : Block) : Bool :=
  match sigOf b.op, blkOf t b with | some sg, some k => sg.good k | _, _ => false

/-- Input operands of a block in its list, the enable among them. -/
def blockIns (b : Block) : List Ref :=
  match sigOf b.op, blkOf 0 b with | some sg, some k => (if k.en then k.ops.take 1 else []) ++ sg.ins k | _, _ => []

/-- Input operands without the enable. -/
def blockArgs (b : Block) : List Ref := match sigOf b.op, blkOf 0 b with | some sg, some k => sg.ins k | _, _ => []

/-- Output operands of a block in its list. -/
def blockOuts (b : Block) : List Ref := match sigOf b.op, blkOf 0 b with | some sg, some k => sg.outs k | _, _ => []

/-- Elements that an operand names in an image: those of the variable of which it is the LOCATION, else 1 (R84, R106). -/
def refElems (im : Image) (r : Ref) : Nat := match im.vars.find? (fun v => v.loc == r) with | some v => v.elems | none => 1

/-- Bytes that an operand covers; the data of a CAN frame is 64 bytes (R282, R290). -/
def refBytes (im : Image) (op : Nat) (r : Ref) : Nat :=
  let n := refElems im r * r.ty.size
  if (op = 0x1101 ∨ op = 0x1102) ∧ r.ty = .u8 ∧ 1 < n then Nat.max 64 n else n

/-! ### Worst case of a block (R105, R107) -/

/-- The cycles the opcode table gives a block at most. -/
def baseCycles (im : Image) (b : Block) : Nat :=
  let ins := blockArgs b
  let f64 := (ins ++ blockOuts b).any (fun r => r.ty == .f64)
  let flt := (ins ++ blockOuts b).any (fun r => r.ty.isF)
  let w64 := (ins ++ blockOuts b).any (fun r => r.ty.size == 8)
  let n := ins.length
  if b.op = 0x0101 ∨ b.op = 0x0102 ∨ b.op = 0x0103 then 4 + cdiv (n - 4) 4
  else if 0x0101 ≤ b.op ∧ b.op ≤ 0x010C then 4
  else if b.op = 0x020C then 4 + cdiv (refElems im (at_ (blockOuts b) 0) * (at_ (blockOuts b) 0).ty.size) 32
  else if b.op = 0x0208 ∨ b.op = 0x020D ∨ b.op = 0x020E then 6
  else if b.op = 0x0207 ∨ b.op = 0x020F then 4
  else if 0x0201 ≤ b.op ∧ b.op ≤ 0x020F then (if flt then 6 else 4)
  else if b.op = 0x0303 then (if w64 then 6 else 4)
  else if b.op = 0x0304 ∨ b.op = 0x0305 then (if w64 then 40 else 12)
  else if b.op = 0x0403 then 6 else if b.op = 0x0404 then 20
  else if b.op = 0x0501 ∨ b.op = 0x0502 then (if f64 then 6 else 4)
  else if b.op = 0x0503 then (if f64 then 8 else 4)
  else if b.op = 0x0504 then (if f64 then 24 else 14)
  else if b.op = 0x0505 then (if f64 then 30 else 16)
  else if b.op = 0x0508 ∨ b.op = 0x0509 then (if f64 then 80 else 40)
  else if b.op = 0x050A ∨ b.op = 0x050B then (if f64 then 96 else 48)
  else if b.op = 0x050C then (if f64 then 120 else 60)
  else if b.op = 0x0601 then (if flt then 6 else 4)
  else if b.op = 0x0602 ∨ b.op = 0x0603 then 8
  else if b.op = 0x0604 then 10 + 2 * (at_ ins 2).imm
  else if 0x0701 ≤ b.op ∧ b.op ≤ 0x0705 then (if bit b.flags 3 then 14 else 10)
  else if 0x0801 ≤ b.op ∧ b.op ≤ 0x0904 then 8
  else if 0x0A01 ≤ b.op ∧ b.op ≤ 0x0A03 then 6
  else if b.op = 0x0C03 then 8 + 2 * (n - 1)
  else if b.op = 0x1501 then 36
  else
    (([(0x0B01, 60), (0x0B02, 40), (0x0B03, 12), (0x0B04, 20), (0x0B05, 12), (0x0B06, 6), (0x0B07, 14), (0x0B08, 10), (0x0C01, 8),
       (0x0C02, 8), (0x0D01, 8), (0x0D02, 10), (0x0D03, 4), (0x0D04, 10), (0x0D05, 12), (0x0E01, 10), (0x0E02, 12), (0x0E03, 16),
       (0x0E04, 24), (0x0F01, 8), (0x1001, 40), (0x1002, 30), (0x1003, 8), (0x1101, 30), (0x1102, 30), (0x1201, 40), (0x1202, 12),
       (0x1301, 20), (0x1401, 12), (0x1502, 24), (0x1601, 2), (0x1602, 3), (0x1603, 3), (0x1604, 4), (0x1605, 6), (0x1606, 4),
       (0x1607, 1)] : List (Nat × Nat)).find? (fun e => e.1 == b.op)).elim 4 (·.2)

/-- Worst case of a block: its cycles with the surcharges of GLB and RET (R105). -/
def worstCycles (im : Image) (b : Block) : Nat :=
  let free := b.op = 0x1001 || b.op = 0x1002
  baseCycles im b + (if free then 0 else readCost (blockIns b)) + 2 * ((blockOuts b).filter (fun r => r.sp.slow)).length

/-! ### Lists that a task reaches (R96) -/

/-- The list a block calls. -/
def callee (b : Block) : Option Nat := if b.op = 0x1605 then (b.ops.getLast?).map (fun w => w % 65536) else none

/-- Lists that a list calls. -/
def callees (im : Image) (l : Nat) : List Nat := (im.lists.getD l { blocks := [] }).blocks.filterMap callee

/-- A set of lists with the lists they call. -/
def callStep (im : Image) (ls : List Nat) : List Nat := (ls ++ ls.flatMap (callees im)).eraseDups

/-- Lists reached from a list, itself included. -/
def reachLists (im : Image) (l : Nat) : List Nat :=
  (List.range im.lists.length).foldl (fun ls _ => callStep im ls) [l]

/-- No chain of calls below a list is longer than `n`. -/
def depthLe (im : Image) (n l : Nat) : Bool :=
  match n with
  | 0 => (callees im l).isEmpty
  | k + 1 => (callees im l).all (depthLe im k)

/-- The call graph of an image has a cycle. -/
def callCycle (im : Image) : Bool :=
  (List.range im.lists.length).any (fun l => (callees im l).any (fun k => (reachLists im k).contains l))

/-- Blocks of a list with their indices. -/
def listBlocks (im : Image) (l : Nat) : List (Nat × Block) :=
  let bs := (im.lists.getD l { blocks := [] }).blocks
  (List.range bs.length).zip bs

/-- Blocks that a task of a set reaches, with list and index. -/
def taskBlocks (cs : ConfigSet) (t : Nat) : List (Nat × Nat × Block) :=
  let im := imageOf cs t
  (reachLists im (setFld cs (0x2100 + t) 6 15 0)).flatMap (fun l => (listBlocks im l).map (fun b => (l, b.1, b.2)))

/-! ### Tasks of a set -/

/-- The tasks of a set that are not empty. -/
def tasksOf (cs : ConfigSet) : List Nat := (List.range 256).filter (fun t => clsOf (setFld cs (0x2100 + t) 1 2 0) != .none)

/-- Class of a task of a set. -/
def clsIn (cs : ConfigSet) (t : Nat) : Cls := clsOf (setFld cs (0x2100 + t) 1 2 0)

/-- Flag of a word of a set. -/
def setBit (cs : ConfigSet) (ix sub i : Nat) : Bool := bit (setWord cs ix sub) i

/-- Field of the task table of a set (R54). -/
def tfld (cs : ConfigSet) (t sub hi lo : Nat) : Nat := setFld cs (0x2100 + t) sub hi lo

/-- Release period of a task in ticks as its budget counts it: 1 for class E and for EVT_EN (R68). -/
def budgetPeriod (cs : ConfigSet) (t : Nat) : Nat :=
  if clsIn cs t = .e || setBit cs (0x2100 + t) 1 21 then 1 else Nat.max 1 (tfld cs t 2 31 0)

/-- T_tick of a set in µs. -/
def setTick (cs : ConfigSet) : Nat := tickUs (setFld cs 0x2000 1 2 0)

/-- CFG_ROLE of a set (R337). -/
def cfgRole (cs : ConfigSet) : Nat := setFld cs 0x5300 1 2 0

/-- The set is one of a pair member. -/
def pairSet (cs : ConfigSet) : Bool := cfgRole cs == 1 || cfgRole cs == 2

/-- A domain is named in DOMAIN_OFF: PD2 to PD5, PD8, PD11 (R474). -/
def domOff (cs : ConfigSet) (pd : Nat) : Bool :=
  match pd with
  | 2 => setBit cs 0x7800 3 9 | 3 => setBit cs 0x7800 3 10 | 4 => setBit cs 0x7800 3 11 | 5 => setBit cs 0x7800 3 12
  | 8 => setBit cs 0x7800 3 13 | 11 => setBit cs 0x7800 3 14 | _ => false

/-- CE `n` is active in a set: no reserve, its cluster powered (R509). -/
def ceActiveIn (cs : ConfigSet) (n : Nat) : Bool := decide (n < 24) && !setBit cs 0x2004 1 n && !domOff cs (2 + n / 12)

/-- SE `e` is active in a set (R29, R167). -/
def seActiveIn (cs : ConfigSet) (e : Nat) : Bool :=
  decide (e < 8) && !domOff cs (4 + e / 4) && (setBit cs 0x6000 1 0 || setFld cs 0x6000 1 3 1 != e)

end Sys2Proof.Machine
end

