-- ==== Sys2Proof/Machine/Restart.lean ====
section
/-! DEFINITION. Restarts (chapter 5): what a module decides for each retained block, the migration of a block, the restart type, and
the cold and the warm start that a module carries out when it enters RUN. -/
namespace Sys2Proof.Machine

open Sys2Proof

/-! ### Retained blocks (R127, R134, R135) -/

/-- The retained blocks of a set, once each, with an image that describes them. -/
def retBlocks (cs : ConfigSet) : List (RetDesc × Image) :=
  cs.images.foldl (fun l im =>
    im.retain.foldl (fun l r => if l.any (fun e => e.1.blockId == r.blockId) then l else l ++ [(r, im)]) l) []

/-- Initial contents of a retained block (R127). -/
def retInit (e : RetDesc × Image) : List Byte :=
  if e.1.initOff = 0xFFFFFFFF then List.replicate e.1.bytes 0 else Mem.rdN e.2.con e.1.initOff e.1.bytes

/-- What a restart decides for a retained block of the main set, with the old entry it goes by. -/
inductive RetDec | kept (e : DirEntry) | migrated (e : DirEntry) (t : MigTable) | coldInit
  deriving DecidableEq, Repr

/-- The MIGRATE table of a block for an old signature. -/
def migTable (cs : ConfigSet) (id sig : Nat) : Option MigTable :=
  (cs.images.flatMap (·.migrate)).find? (fun t => t.blockId == id && t.oldSig == sig)

/-- The decision for a block of the main set (R134). -/
def retDecide (cs : ConfigSet) (d : RetDir) (r : RetDesc) : RetDec :=
  match d.entries.find? (fun e => e.blockId == r.blockId) with
  | none => .coldInit
  | some e =>
    if !e.valid then .coldInit
    else if e.sig = r.sig then .kept e
    else match migTable cs r.blockId e.sig with | some t => .migrated e t | none => .coldInit

/-- Old blocks that the main set does not hold (R134). -/
def retGone (cs : ConfigSet) (d : RetDir) : List DirEntry :=
  d.entries.filter (fun e => !(retBlocks cs).any (fun r => r.1.blockId == e.blockId))

/-- An entry of a MIGRATE table stays inside the old block (R135). -/
def migInside (e : DirEntry) (t : MigTable) : Bool :=
  t.fields.all (fun f => decide (f.oldOff + f.elems * f.oldTy.size ≤ e.bytes))

/-- A migrated block: its initial contents with each element of its table converted as by CVT with SAT 1 and OPT_A 0 (R135). -/
def migrate (ret : Mem) (e : DirEntry) (t : MigTable) (init : List Byte) : Mem :=
  t.fields.foldl (fun m f =>
    (List.range f.elems).foldl (fun m i =>
      let v := Mem.rdLe ret (e.off + f.oldOff + i * f.oldTy.size) f.oldTy.size
      Mem.wrLe m (f.newOff + i * f.newTy.size) f.newTy.size (cvtRaw f.oldTy f.newTy false true v).1) m) (Mem.ofBytes init)

/-- Contents of a block of the main set after a decision. A kept block whose length changed with an equal signature is kept as far
as both reach. -/
def retContents (ret : Mem) (dec : RetDec) (r : RetDesc × Image) : List Byte :=
  match dec with
  | .kept e => Mem.rdN ret e.off (Nat.min e.bytes r.1.bytes) ++ (retInit r).drop e.bytes
  | .migrated e t => Mem.rdN (migrate ret e t (retInit r)) 0 r.1.bytes
  | .coldInit => retInit r

/-- The retained memory and the directory that a restart builds for the main set, every block by its decision (R132, R134, R136). -/
def retBuild (cs : ConfigSet) (ret : Mem) (decs : List ((RetDesc × Image) × RetDec)) : Mem × RetDir :=
  (decs.foldl (fun m d => Mem.wrN m d.1.1.off (retContents ret d.2 d.1)) [],
   { setId := cs.setId, crcOk := true
     entries := decs.map (fun d => { blockId := d.1.1.blockId, sig := d.1.1.sig, off := d.1.1.off, bytes := d.1.1.bytes }) })

/-- The decisions of a warm start; of a cold start, every block from its initial contents (R132, R133). -/
def retPlan (c : Chip) (warm : Bool) : List ((RetDesc × Image) × RetDec) :=
  let cs := c.sets.main
  (retBlocks cs).map (fun r => (r, if warm then retDecide cs (curDir c) r.1 else .coldInit))

/-- The retain directory is intact (R129). -/
def dirIntact (c : Chip) : Bool := (curDir c).crcOk

/-! ### The decision (R137 to R139) -/

/-- A warm start would keep every block as it is: what STRICT asks for (R139). -/
def allKept (c : Chip) : Bool :=
  (retPlan c true).all (fun d => match d.2 with | .kept _ => true | _ => false) && (retGone c.sets.main (curDir c)).isEmpty

/-- A warm start meets a MIGRATE entry that reaches outside the old block (R135). -/
def migOutside (c : Chip) : Bool :=
  (retPlan c true).any (fun d => match d.2 with | .migrated e t => !migInside e t | _ => false)

/-- A warm start that the module refuses: its status, with the record made; none when it goes ahead (R135, R139). -/
def warmRefused (c : Chip) : Option Nat × Chip :=
  if live c 0x2010 1 2 2 = 1 && !allKept c then
    (some 0x0403, record 0x0235 0x0300 [] { c with sup := { c.sup with mismatch := true } })
  else if migOutside c then (some 0x0103, record 0x0415 0x0300 [] c)
  else (none, { c with sup := { c.sup with mismatch := false } })

/-- The restart type of a power-up: 0 when it is refused, 1 cold, 2 warm (R138, R472). -/
def powerUpRestart (c : Chip) : Nat × Chip :=
  let c := { c with sup := { c.sup with mismatch := false } }
  if live c 0x2010 1 1 0 = 1 then (1, c)
  else if !dirIntact c then (1, record 0x0237 0x0300 [] c)
  else match warmRefused c with | (some _, c) => (0, c) | (none, c) => (2, c)

/-! ### The restart itself (R132, R133) -/

/-- Words of a record about a retained block (R134). -/
def retRecord (code id : Nat) (c : Chip) : Chip := record code 0x0300 (w64 id) c

/-- Records the decisions other than "kept" and counts all of them (R134, R137). -/
def retAccount (warm : Bool) (decs : List ((RetDesc × Image) × RetDec)) (gone : List DirEntry) (c : Chip) : Chip :=
  let num := fun p => Nat.min 65535 (decs.filter p).length
  let c := { c with sup := { c.sup with
    nKept := num (fun d => match d.2 with | .kept _ => true | _ => false)
    nMigrated := num (fun d => match d.2 with | .migrated _ _ => true | _ => false)
    nColdInit := num (fun d => match d.2 with | .coldInit => true | _ => false)
    nDiscarded := Nat.min 65535 gone.length } }
  let c := forAll decs (fun d c =>
    match d.2 with
    | .kept _ => c
    | .migrated _ _ => retRecord 0x0232 d.1.1.blockId c
    | .coldInit => when warm (retRecord 0x0233 d.1.1.blockId) c) c
  forAll gone (fun e => retRecord 0x0234 e.blockId) c

/-- The initial values of a task's declared outputs as its staging holds them (R132). -/
def initStaging (cs : ConfigSet) (t : Nat) : Mem :=
  (outLayout 0 (outDecls cs t)).foldl (fun m d =>
    (List.range d.1.elems).foldl (fun m i => Mem.wrLe m (d.2 + i * d.1.ty.size) d.1.ty.size d.1.init) m) []

/-- State of a task context of a set: all HALTED, IDLE or EMPTY with nothing in progress (R78). -/
def freshTask (cs : ConfigSet) (st : TaskSt) (t : Nat) : Task :=
  if clsOf (setFld cs (0x2100 + t) 1 2 0) = .none then {}
  else { st := st, committed := initStaging cs t, atSafe := true, loc := Map.getD cs.initLoc t [], firstRun := true }

/-- Shifts the START of a running, "paused" native timer by `off` µs (R133). -/
def shiftTimer (e : InstEntry) (off : Nat) (b : List Byte) : List Byte :=
  if 0x0701 ≤ e.opcode ∧ e.opcode ≤ 0x0705 ∧ flg b 16 0 ∧ !bit e.iflags 4 then leBytes 8 (fld b 0 8 + off) ++ b.drop 8 else b

/-- Gives a saved native timer the event number of the main set (R115, R118). -/
def renumber (cs : ConfigSet) (e : InstEntry) (b : List Byte) : List Byte :=
  if 0x0701 ≤ e.opcode ∧ e.opcode ≤ 0x0705 then
    b.take 18 ++ (instInit cs e.opcode (bit e.iflags 4) (bit e.iflags 3) e.id e.bytes).drop 18 |>.take 20 |> (· ++ b.drop 20)
  else b

/-- The instances that the blocks of a task reach. -/
def instsOf (cs : ConfigSet) (t : Nat) : List InstEntry :=
  let ids := (taskBlocks cs t).filterMap (fun b => if bit b.2.2.flags 7 then some b.2.2.inst else none)
  (imageOf cs t).insts.filter (fun e => ids.contains e.id)

/-- The saved instance states that the tasks of the main set take over (R133). -/
def restored (c : Chip) (off t : Nat) : Map (List Byte) :=
  (instsOf c.sets.main t).foldl (fun m e =>
    match c.mem.save.insts.find? (fun i => i.1 == e.id && i.2.1 == e.opcode) with
    | some i => Map.put m e.id (shiftTimer e off (renumber c.sets.main e i.2.2))
    | none => m) []

/-- Clears the force table at a restart (R159). -/
def clearForces (c : Chip) : Chip :=
  record 0x0341 0x0300 [0, 0, 0xFFFF, 0xFF, 0xFF, c.sets.forces.length] { c with sets := { c.sets with forces := [] } }

/-- Every enabled station starts again (R315). -/
def startStations (c : Chip) : Chip :=
  forAll (enabledStations c.sets.main) (fun st => updStation st (fun x =>
    { x with st := .starting, useSub := true, miss := 0, good := 0, last := none, settle := 0 })) c

/-- Arms the events of the running timers with OPT_B = 1 of every task (R120, R133, R153). -/
def armAll (tnc : Nat) (c : Chip) : Chip :=
  forAll (usedTasks c) (fun t c =>
    forAll ((imageOf c.sets.main t).insts.filter (fun e => bit e.iflags 3 && (Map.find (task c t).insts e.id).isSome))
      (fun e => armTimer t e.id tnc) c) c

/-- The restart that the module carries out as it enters RUN at the boundary just taken: cold (R132) or warm (R133). -/
def restartNow (warm : Bool) (cause : Nat) (c : Chip) : Chip :=
  let cs := c.sets.main
  let decs := retPlan c warm
  let gone := if warm then retGone cs (curDir c) else []
  let c := retAccount warm decs gone c
  let built := retBuild cs c.mem.ret decs
  let saved := warm && c.mem.save.valid
  let off := if saved then (bNs c c.tt.tn / 1000 + (2 ^ 64 - c.mem.save.tLast)) % 2 ^ 64 else 0
  let c := when (warm && !saved) (record 0x0236 0x0300 []) c
  let tasks := (List.range 256).foldl (fun m t =>
    let k := freshTask cs .idle t
    if k.st = .empty then m else Map.put m t { k with insts := if saved then restored c off t else [] }) []
  let c := updDir (fun _ => built.2) { c with
    mem := { c.mem with ret := built.1, glb := cs.initGlb, save := { c.mem.save with valid := false } }
    tasks := tasks
    tt := { c.tt with hwTimers := [] }
    cnt := { c.cnt with cmpOver := [] }
    sets := { c.sets with mainTn := c.tt.tn, release := [], roleDue := false }
    pair := { c.pair with baseOwed := true, setDirty := true }
    sup := { c.sup with
      rtype := if warm then 2 else 1, cause := cause, tOff := off, instLost := warm && !saved, mismatch := false, restart := 0 } }
  let c := forAll (List.range 64) clearSlot c
  let c := startStations (when saved (armAll c.tt.tn) c)
  record (if warm then 0x0231 else 0x0230) 0x0300 [] (clearForces c)

/-- Completion payload of RESTART: the restart type and words 02 to 05 of 0x2011 (R427). -/
def restartPayload (c : Chip) : List Byte :=
  leBytes 4 c.sup.rtype ++ [2, 3, 4, 5].flatMap (fun i => leBytes 4 (restartWord c i))

end Sys2Proof.Machine
end

