-- ==== Sys2Proof/Machine/SetCheck.lean ====
section
/-! DEFINITION. The checks of a configuration set (R24, R38, R44 to R48, R55, R59, R92, R94, R95, R118, R126, R127, R135, R145, R171, R178,
R205, R237, R264, R278, R298, R304, R305, R311, R321, R337, R342, R343, R369, R447, R475, R510, R513): each answers the first refusal it
finds, with its status, its Thyme code and its snapshot words. -/
namespace Sys2Proof.Machine

open Sys2Proof

/-- A refusal of a set: status, Thyme code, snapshot words. -/
structure Bad where
  status : Nat
  code   : Nat
  words  : List Nat := []
  deriving DecidableEq, Repr

/-- A refusal when `p` holds. -/
def badIf (p : Bool) (status code : Nat) (ws : List Nat := []) : Option Bad := if p then some { status := status, code := code, words := ws } else none

/-- The first refusal of a list of checks. -/
def firstBad (l : List (Option Bad)) : Option Bad := l.findSome? id

/-- The first refusal of a check over a list. -/
def badAny {α : Type} (l : List α) (f : α → Option Bad) : Option Bad := l.findSome? f

/-- A condition of a declaration, answered ARG_RANGE and recorded as DECL_REFUSED. -/
def declIf (p : Bool) (ws : List Nat := []) : Option Bad := badIf p 0x0103 0x0414 ws

/-! ### The form of a package (R510) -/

/-- The Thyme code and the words of a field outside its map: that of the rule that names the refusal, else SET_REFUSED (R38, R237, R264,
R369, R510). -/
def fieldBad (key : Nat) : Bad :=
  let ix := key / 256
  if key = 0x200002 ∨ key = 0x200003 ∨ key = 0x200004 ∨ ix = 0x3030 ∨ ix = 0x3181 then { status := 0x0103, code := 0x0311, words := [key] }
  else if ix = 0x7400 ∨ ix = 0x7401 then { status := 0x0103, code := 0x0C30, words := [cut ix 0x7400, key] }
  else { status := 0x0103, code := 0x0312, words := [key] }

/-- PERIOD_K keeps to its range for the class of its task (R54). -/
def periodOk (cs : ConfigSet) (t : Nat) : Bool :=
  let k := tfld cs t 2 31 0
  if clsIn cs t = .e then k == 0 else decide (1 ≤ k) && decide (k ≤ 10000)

/-- A parameter value of a package: it names a throw-only or staged parameter, sets no reserved field, keeps to its map (R8, R141,
R510). -/
def wordBad (key v : Nat) : Option Bad :=
  match paramAt (key / 256) (key % 256) with
  | none => badIf true 0x0103 0x0312 [key]
  | some w =>
    if !w.fields.any (fun f => f.kind == .thr || f.kind == .stg) then badIf true 0x0103 0x0312 [key]
    else if w.reservedSet v then badIf true 0x0101 0x0312 [key]
    else if w.fields.all (fun f => f.ok v) then none
    else if 0x2100 ≤ key / 256 ∧ key / 256 < 0x2200 ∧ key % 256 = 2 then none
    else some (fieldBad key)

/-- The form check of a package (R143 step 1, R510). -/
def formBad (p : Package) : Option Bad :=
  match p.unreadable with
  | some o => badIf true 0x0101 0x0312 [o]
  | none =>
    firstBad [badAny p.set.words (fun e => wordBad e.1 e.2),
      badAny (tasksOf p.set) (fun t => badIf (!periodOk p.set t) 0x0103 0x0312 [(0x2100 + t) * 256 + 2])]

/-! ### Timing (R38, R44, R45, R66) -/

/-- R38. -/
def timingBad (cs : ConfigSet) : Option Bad :=
  let us := setTick cs
  let tx := setWord cs 0x2000 2
  let rx := setWord cs 0x2000 3
  let sn := setWord cs 0x2000 4
  firstBad [badIf (decide (tx < 10) || decide (rx ≤ tx)) 0x0103 0x0311 [0x200002], badIf (decide (us < 2 * rx)) 0x0103 0x0311 [0x200003],
    badIf (cfgRole cs != 0 && decide (us < 2 * sn)) 0x0103 0x0311 [0x200004]]

/-- A declared input comes from a station. -/
def InDecl.station (d : InDecl) : Bool := match d.src with | .station _ _ => true | _ => false

/-- Conditions of R44 for a task whose release offset is at least `c` (R45, R151). -/
def releaseOk (cs : ConfigSet) (c t : Nat) : Bool :=
  let o := Nat.max (tfld cs t 3 31 0) c
  let d := tfld cs t 4 31 0
  let us := setTick cs
  let ins := inDecls cs t
  (if clsIn cs t = .e then decide (o < us) && decide (o + d ≤ us)
   else decide (o < tfld cs t 2 31 0 * us) && decide (tfld cs t 5 31 0 ≤ d) && decide (o + d ≤ tfld cs t 2 31 0 * us))
    && (!ins.any InDecl.station || decide (setWord cs 0x2000 3 ≤ o))
    && (!(pairSet cs && ins.any (·.merged)) || decide (setWord cs 0x2000 4 ≤ o))

/-- R44 and R66; the conditions of a class E task other than its windows are R55's. -/
def releaseBad (cs : ConfigSet) : Option Bad :=
  badAny (tasksOf cs) (fun t =>
    let o := tfld cs t 3 31 0
    let ins := inDecls cs t
    let win := (!ins.any InDecl.station || decide (setWord cs 0x2000 3 ≤ o))
      && (!(pairSet cs && (ins.any (·.merged) || clsIn cs t == .e)) || decide (setWord cs 0x2000 4 ≤ o))
    badIf (!(win && (clsIn cs t == .e || releaseOk cs 0 t))) 0x0103 0x0311)

/-! ### Budgets (R24, R46 to R48, R171) -/

/-- The code of an engine at a subindex of 0x2002 (R37, R443). -/
def engCode (sub : Nat) : Nat :=
  if sub ≤ 0x18 then 0x0100 + (sub - 1) else if sub ≤ 0x20 then 0x0200 + (sub - 0x19)
  else if sub ≤ 0x24 then 0x0400 + (sub - 0x21) else if sub = 0x25 then 0x0500 else 0x0600

/-- Hyperperiod of a list of tasks (R47). -/
def hyper (cs : ConfigSet) (ts : List Nat) : Nat := ts.foldl (fun h t => Nat.lcm h (budgetPeriod cs t)) 1

/-- Busy cycles that one release of a task declares: its worst case and the copy of its image (R46, R82). -/
def relCycles (cs : ConfigSet) (t : Nat) : Nat :=
  ((imageOf cs t).lists.getD (tfld cs t 6 15 0) { blocks := [] }).wcCycles + cdiv (tfld cs t 7 15 0) 32

/-- Declared busy cycles of each tick of a list of tasks on one CE. -/
def tickLoads (cs : ConfigSet) (ts : List Nat) : List Nat :=
  let us := setTick cs
  (List.range (hyper cs ts)).map (fun i =>
    (ts.map (fun t =>
      let k := budgetPeriod cs t
      if i % k = (tfld cs t 3 31 0 / us) % k then relCycles cs t else 0)).sum)

/-- The first tick in which a load exceeds 90 % of the capacity of the engine at subindex `sub`. -/
def overTick (cs : ConfigSet) (sub : Nat) (l : List Nat) : Option Nat :=
  l.findIdx? (fun v => decide (9 * engCapacity (setTick cs) sub < 10 * v))

/-- Placement of a task under the fence plan of cluster `k` (R24). -/
def planCe (cs : ConfigSet) (k t : Nat) : Nat :=
  let ce := tfld cs t 1 12 8
  if ce / 12 = k then tfld cs t 0x0A 4 0 else ce

/-- The set holds a plan of CE cluster `k` that moves a task. -/
def planned (cs : ConfigSet) (k : Nat) : Bool :=
  (tasksOf cs).any (fun t => tfld cs t 1 12 8 / 12 == k && setBit cs (0x2100 + t) 0x0A 5)

/-- R46 and R47 for the placement of the set; the declaration the set carries for an engine goes before its tasks' figures. -/
def budgetBad (cs : ConfigSet) : Option Bad :=
  badAny ((List.range 38).map (· + 1)) (fun sub =>
    let ts := (tasksOf cs).filter (fun t => sub ≤ 0x18 && tfld cs t 1 12 8 + 1 == sub)
    let l := Map.getD cs.declLoad sub []
    if 10000 < hyper cs ts ∨ 10000 < l.length then badIf true 0x0401 0x0310 [engCode sub, 0]
    else if 0x19 ≤ sub ∧ sub ≤ 0x20 then none
    else (overTick cs sub (if l.isEmpty then tickLoads cs ts else l)).map (fun i => { status := 0x0401, code := 0x0310, words := [engCode sub, i] }))

/-- The plans of R24: no mixture within a cluster, no target in its own cluster; then the budget of each plan. -/
def planBad (cs : ConfigSet) : Option Bad :=
  badAny [0, 1] (fun k =>
    let own := (tasksOf cs).filter (fun t => tfld cs t 1 12 8 / 12 == k)
    let valid := own.filter (fun t => setBit cs (0x2100 + t) 0x0A 5)
    firstBad [
      declIf (!valid.isEmpty && valid.length != own.length) (own.take 1),
      badAny valid (fun t => declIf (tfld cs t 0x0A 4 0 / 12 == k) [t]),
      if valid.isEmpty then none
      else badAny (List.range 24) (fun n =>
        let ts := (tasksOf cs).filter (fun t => planCe cs k t == n)
        badIf (decide (10000 < hyper cs ts) || (overTick cs (n + 1) (tickLoads cs ts)).isSome) 0x0401 0x0310 [0x0F02 + k, 0x0100 + n])])

/-- Engine time of a job of a descriptor at its caps, with factorisation, in SE cycles (R221). -/
def Desc.declared (d : Desc) : Nat :=
  let sol :=
    if 4 ≤ d.cls then
      d.iterCap * d.stepParts + cdiv d.iterCap (Nat.max 1 d.checkInt) * d.checkParts
    else d.firstParts + (d.refine + 1) * d.stepParts
  cdiv (d.loadParts + 200 * 1536 + d.factParts + sol) 1536

/-- Period in µs of the owner of a slot. -/
def ownerUs (cs : ConfigSet) (d : Desc) : Nat := tfld cs d.owner 2 31 0 * setTick cs

/-- Shortest window of a slot's job in µs: from the latest submission to the deadline (R48, R217; log entry 31). -/
def windowUs (cs : ConfigSet) (d : Desc) : Nat := ownerUs cs d - d.marginUs - tfld cs d.owner 5 31 0

/-- SE cycles of the jobs of another slot that can overlap a window of `w` µs (R48; log entry 31). -/
def overlapCycles (cs : ConfigSet) (w : Nat) (u : Desc) : Nat :=
  cdiv (w + (ownerUs cs u - u.marginUs)) (Nat.max 1 (ownerUs cs u)) * u.declared

/-- Descriptors of task-owned slots that a placement puts on engine `e`. -/
def slotsOn (cs : ConfigSet) (place : Nat → Nat) (e : Nat) : List Desc := cs.descs.filter (fun d => d.owner != 0xFFFF && place d.slot == e)

/-- An engine exceeds 90 % of the window of one of its jobs under a placement (R48). -/
def windowOver (cs : ConfigSet) (place : Nat → Nat) (e : Nat) : Bool :=
  let ds := slotsOn cs place e
  ds.any (fun d =>
    let w := windowUs cs d
    decide (9 * 800 * w < 10 * (d.declared + ((ds.filter (fun u => u.slot != d.slot)).map (overlapCycles cs w)).sum)))

/-- HOME_SE and ALT_SE of a slot in a set (R169). -/
def homeOf (cs : ConfigSet) (s : Nat) : Nat := setFld cs (0x6100 + s) 1 3 1
/-- ALT_SE of a slot in a set (R169). -/
def altOf (cs : ConfigSet) (s : Nat) : Nat := setFld cs (0x6100 + s) 1 6 4

/-- R48 for the home placement and R171 for both Sage fence plans. -/
def sageBudgetBad (cs : ConfigSet) : Option Bad :=
  firstBad [
    badAny (List.range 8) (fun e => badIf (windowOver cs (homeOf cs) e) 0x0401 0x0310 [0x0200 + e, 0]),
    badAny [0, 1] (fun k => badAny (List.range 8) (fun e =>
      let plan := fun s => if homeOf cs s / 4 = k then altOf cs s else homeOf cs s
      badIf (e / 4 != k && windowOver cs plan e) 0x0401 0x0310 [0x0F04 + k, 0x0200 + e]))]

/-! ### The task table (R55, R513) -/

/-- An error task of a binding whose valid flag is 1. -/
def classE (cs : ConfigSet) (valid : Bool) (t : Nat) : Bool := !valid || clsIn cs t == .e

/-- Opcodes of a family in the lists a task reaches. -/
def usesFamily (cs : ConfigSet) (t fam : Nat) : Bool := (taskBlocks cs t).any (fun b => b.2.2.op / 256 == fam)

/-- R55, in its order, for one task. -/
def taskBad (cs : ConfigSet) (t : Nat) : Option Bad :=
  let ix := 0x2100 + t
  let cls := clsIn cs t
  let ce := tfld cs t 1 12 8
  let ftV := setBit cs ix 9 8
  let us := setTick cs
  firstBad [
    declIf (!ceActiveIn cs ce || (setBit cs ix 0x0A 5 && !ceActiveIn cs (tfld cs t 0x0A 4 0))) [t],
    declIf (setBit cs ix 1 20 && cls == .s) [t],
    declIf (setBit cs ix 1 21 && cls != .c) [t],
    declIf (!classE cs ftV (tfld cs t 9 7 0)) [t],
    declIf (ftV && (cls == .e || cls == .s)) [t],
    declIf (cls != .p && (taskBlocks cs t).any (fun b => b.2.2.op == 0x1001 || b.2.2.op == 0x1002)) [t],
    declIf (cls == .e && !(decide (tfld cs t 3 31 0 < us) && decide (tfld cs t 3 31 0 + tfld cs t 4 31 0 ≤ us))) [t],
    declIf (decide (tfld cs t 7 15 0 < inEnd 0 (inDecls cs t) + (inDecls cs t).length)
      || decide (tfld cs t 8 15 0 < outEnd 0 (outDecls cs t))) [t]]

/-- VAR_IDs and elements a task declares as outputs. -/
def outIds (cs : ConfigSet) (t : Nat) : List Nat := (outDecls cs t).map (·.varId)

/-- R55 over the table: each output by one task, and the sum of the images. -/
def tableBad (cs : ConfigSet) : Option Bad :=
  firstBad [
    badAny (tasksOf cs) (taskBad cs),
    badAny (tasksOf cs) (fun t => declIf ((outIds cs t).any (fun v =>
      (tasksOf cs).any (fun u => u < t && (outIds cs u).contains v)) || decide ((outIds cs t).eraseDups.length < (outIds cs t).length)) [t]),
    badIf (decide (6291456 < ((tasksOf cs).map (fun t => tfld cs t 7 15 0 + tfld cs t 8 15 0)).sum)) 0x0401 0x0414 ((tasksOf cs).take 1)]

/-- R513: every other binding with its valid flag at 1 names a class E task. -/
def bindBad (cs : ConfigSet) : Option Bad :=
  firstBad [
    declIf (!(List.range 4).all (fun g => classE cs (setBit cs 0x3184 (g + 1) 8) (setFld cs 0x3184 (g + 1) 7 0))),
    declIf (!(List.range 4).all (fun h => classE cs (setBit cs (0x4000 + h) 1 16) (setFld cs (0x4000 + h) 1 15 8))),
    declIf (!(List.range 64).all (fun s => classE cs (setBit cs (0x5100 + s) 1 30) (setFld cs (0x5100 + s) 1 7 0))),
    declIf (!classE cs (setBit cs 0x7800 3 8) (setFld cs 0x7800 3 7 0))]

/-! ### Images (R59, R86, R92, R94, R95) -/

/-- A refusal of an image at a list and a block. -/
def imgIf (p : Bool) (status : Nat) (no l b : Nat) : Option Bad := badIf p status 0x0415 [no, l, b]

/-- Every block of an image, with list and index. -/
def allBlocks (im : Image) : List (Nat × Nat × Block) :=
  (List.range im.lists.length).flatMap (fun l => (listBlocks im l).map (fun b => (l, b.1, b.2)))

/-- The first block of an image that fails a test. -/
def blockBad (im : Image) (status : Nat) (p : Nat → Nat → Block → Bool) : Option Bad :=
  badAny (allBlocks im) (fun b => imgIf (p b.1 b.2.1 b.2.2) status im.no b.1 b.2.1)

/-- FEATURES as the blocks of an image need it (R80). -/
def featuresOf (im : Image) : Nat :=
  let bs := allBlocks im
  let fam := fun f => bs.any (fun b => b.2.2.op / 256 == f)
  b01 (bs.any (fun b => (blockIns b.2.2 ++ blockOuts b.2.2).any (fun r => r.ty == .f64))) + b01 (fam 0x10) * 2 + b01 (fam 0x11) * 4
    + b01 (fam 0x12) * 8 + b01 (fam 0x15) * 16 + b01 (fam 0x14) * 32
    + b01 (bs.any (fun b => b.2.2.op == 0x020D || b.2.2.op == 0x020E)) * 64

/-- Operands that a rule wants as immediates and whose refusal is DECL_REFUSED, by opcode (R247, R281, R290, R374, R456, R465). -/
def declImm (op : Nat) : List Nat :=
  match op with
  | 0x1101 => [0, 1] | 0x1102 => [0, 1] | 0x1202 => [0, 1, 2] | 0x1301 => [0] | 0x1401 => [0] | 0x1501 => [0, 1] | 0x1502 => [0, 1]
  | _ => []

/-- A block lacks one of those immediates. -/
def lacksImm (b : Block) : Bool := (declImm b.op).any (fun i => (at_ (blockArgs b) i).sp != .imm)

/-- Bytes of a memory space as a task of an image has them (R88). -/
def spaceBytes (cs : ConfigSet) (im : Image) (t : Option Nat) (sp : Space) : Nat :=
  match sp with
  | .inp => match t with | some t => tfld cs t 7 15 0 | none => 32768
  | .out => match t with | some t => tfld cs t 8 15 0 | none => 16384
  | .loc => im.locBytes | .glb => 67108864 | .ret => 8388608 | .con => im.conBytes | .sys => 64 | .imm => 0

/-- Tasks of a set that execute an image and reach a list of it. -/
def reachTasks (cs : ConfigSet) (im : Image) (l : Nat) : List Nat :=
  (tasksOf cs).filter (fun t => tfld cs t 6 31 16 == im.no && (reachLists im (tfld cs t 6 15 0)).contains l)

/-- An operand lies within its space for every task that reaches its list (R95). -/
def operandIn (cs : ConfigSet) (im : Image) (ts : List Nat) (op : Nat) (r : Ref) : Bool :=
  r.sp == .imm || ((if ts.isEmpty then [none] else ts.map some).all (fun t => decide (r.addr + refBytes im op r ≤ spaceBytes cs im t r.sp)))

/-- The INST flag and identifier of a block (R83, R86). -/
def instOk (im : Image) (b : Block) : Bool :=
  match sigOf b.op with
  | none => false
  | some sg =>
    bit b.flags 7 == sg.inst && (!sg.inst || im.insts.any (fun e => e.id == b.inst && e.opcode == b.op
      && bit e.iflags 4 == bit b.flags 4 && bit e.iflags 3 == bit b.flags 3))

/-- Tasks whose blocks name an instance. -/
def instTasks (cs : ConfigSet) (id : Nat) : List Nat := (tasksOf cs).filter (fun t => (taskBlocks cs t).any (fun b => bit b.2.2.flags 7 && b.2.2.inst == id))

/-- Jump targets (R95, R512). -/
def jumpOk (im : Image) (l i : Nat) (b : Block) : Bool :=
  let n := (im.lists.getD l { blocks := [] }).blocks.length
  let tgt := fun k => (at_ (blockArgs b) k).imm
  if b.op = 0x1601 then decide (tgt 0 < n) && decide (i < tgt 0)
  else if b.op = 0x1602 ∨ b.op = 0x1603 then decide (tgt 1 < n) && decide (i < tgt 1)
  else if b.op = 0x1604 then decide (tgt 1 < n) && decide (tgt 1 ≤ i)
  else if b.op = 0x1605 then decide (tgt 0 < im.lists.length)
  else true

/-- An array operand of LDX or STX is the LOCATION of a variable (R106). -/
def arrayOk (im : Image) (b : Block) : Bool :=
  let isVar := fun (r : Ref) => im.vars.any (fun v => v.loc == r)
  if b.op = 0x020D then isVar (at_ (blockArgs b) 0) else if b.op = 0x020E then isVar (at_ (blockOuts b) 0) else true

/-- A GETST operand lies in a declared input of every task that reaches it (R512). -/
def getstOk (cs : ConfigSet) (ts : List Nat) (b : Block) : Bool :=
  b.op != 0x020F || ts.all (fun t => (inLayout 0 (inDecls cs t)).any (fun d =>
    let r := at_ (blockArgs b) 0
    r.sp == .inp && decide (d.2 ≤ r.addr) && decide (r.addr < d.2 + d.1.bytes)))

/-- F32 values strictly ascending from offset `a`, `n` points of 8 bytes (R512). -/
def ascending (m : Mem) (a n : Nat) : Bool :=
  (List.range (n - 1)).all (fun i =>
    let v := Mem.rdLe m (a + 8 * i) 4
    let w := Mem.rdLe m (a + 8 * i + 8) 4
    fmt32.cmp v w == some .lt)

/-- LINT's table and PTEXT's text (R95, R512). -/
def constOk (im : Image) (b : Block) : Bool :=
  let r := at_ (blockArgs b)
  if b.op = 0x0604 then
    let n := (r 2).imm
    (r 2).sp == .imm && decide (1 ≤ n) && decide (n ≤ 64) && (r 1).sp == .con && decide ((r 1).addr + 8 * n ≤ im.conBytes)
      && ascending im.con (r 1).addr n
  else if b.op = 0x1501 then
    let n := Mem.rdLe im.con (r 2).addr 1
    (r 2).sp == .con && decide (1 ≤ n) && decide (n ≤ 64)
  else true

/-- R95, row by row, for one image. -/
def imageBad (cs : ConfigSet) (im : Image) : Option Bad :=
  firstBad [
    imgIf (im.formBad.isSome || im.fmtMajor != 2 || decide (16777216 < im.bytes) || im.lists.isEmpty || decide (4096 < im.lists.length)
      || (allBlocks im).any (fun b => b.2.2.flags % 8 != 0)) 0x0101 im.no 0 0,
    imgIf (im.features != featuresOf im) 0x0101 im.no 0 0,
    blockBad im 0x0103 (fun _ _ b => (sigOf b.op).isNone
      || (!blockFormed 0 b && !lacksImm b && (blockOuts b).all (fun r => r.sp.writable) && instOk im b)),
    blockBad im 0x0103 (fun _ _ b => !(blockOuts b).all (fun r => r.sp.writable)),
    blockBad im 0x0103 (fun l _ b => !(blockIns b ++ blockOuts b).all (operandIn cs im (reachTasks cs im l) b.op)),
    blockBad im 0x0103 (fun _ _ b => !instOk im b || (bit b.flags 7 && decide (1 < (instTasks cs b.inst).length))),
    blockBad im 0x0103 (fun l i b => !jumpOk im l i b),
    blockBad im 0x0103 (fun _ _ b => !arrayOk im b),
    blockBad im 0x0103 (fun l _ b => !getstOk cs (reachTasks cs im l) b),
    blockBad im 0x0103 (fun _ _ b => !constOk im b),
    badAny (List.range im.lists.length) (fun l =>
      let bs := (im.lists.getD l { blocks := [] }).blocks
      imgIf (!(match bs.getLast? with | some b => b.op == 0x1606 || b.op == 0x1601 | none => false)) 0x0103 im.no l (bs.length - 1)),
    imgIf (callCycle im) 0x0103 im.no 0 0,
    badAny ((tasksOf cs).filter (fun t => tfld cs t 6 31 16 == im.no)) (fun t =>
      let l := tfld cs t 6 15 0
      imgIf (!depthLe im 7 l || decide (7 < (im.lists.getD l { blocks := [] }).callDepth)) 0x0103 im.no l 0),
    blockBad im 0x0103 (fun _ _ b => decide (1500 < worstCycles im b))]

/-- Ranges of a space that a task's blocks write, or read without the image. -/
def ranges (cs : ConfigSet) (t : Nat) (sp : Space) (outs : Bool) : List (Nat × Nat) :=
  let im := imageOf cs t
  (taskBlocks cs t).flatMap (fun b =>
    ((if outs then blockOuts b.2.2 else blockIns b.2.2).filter (fun r => r.sp == sp)).map (fun r => (r.addr, refBytes im b.2.2.op r)))

/-- Two lists of ranges meet. -/
def meet (a b : List (Nat × Nat)) : Bool := a.any (fun x => b.any (fun y => decide (x.1 < y.1 + y.2) && decide (y.1 < x.1 + x.2)))

/-- Those ranges, and the whole of every variable of the set that one of them meets (R59 and R94 speak of variables). -/
def touched (cs : ConfigSet) (t : Nat) (sp : Space) (outs : Bool) : List (Nat × Nat) :=
  let rs := ranges cs t sp outs
  rs ++ ((cs.images.flatMap (·.vars)).filter (fun v => v.loc.sp == sp)).filterMap (fun v =>
    let r := (v.loc.addr, v.elems * v.loc.ty.size)
    if meet rs [r] then some r else none)

/-- R59 and R94. -/
def shareBad (cs : ConfigSet) : Option Bad :=
  let ts := tasksOf cs
  firstBad [
    badAny ts (fun t => badAny (ts.filter (fun u => tfld cs u 1 12 8 != tfld cs t 1 12 8)) (fun u =>
      declIf (meet (touched cs t .glb false) (touched cs u .glb true)) [t])),
    badAny ts (fun t => badAny (ts.filter (fun u => decide (u < t))) (fun u =>
      declIf (meet (touched cs t .glb true) (touched cs u .glb true) || meet (touched cs t .ret true) (touched cs u .ret true)) [t]))]

/-- Bytes of CE local memory that a list of tasks takes (R92). -/
def localBytes (cs : ConfigSet) (ts : List Nat) : Nat :=
  let ims := (ts.map (fun t => imageOf cs t)).foldl (fun l im => if l.any (fun i => i.no == im.no) then l else im :: l) ([] : List Image)
  (ims.map (fun im => im.codeBytes + im.conBytes)).sum
    + (ts.map (fun t => 2 * (imageOf cs t).locBytes + 2 * (imageOf cs t).instBytes)).sum

/-- R92 for the placement and each fence plan, and JOURNAL_WC. -/
def localBad (cs : ConfigSet) : Option Bad :=
  let tooBig := fun (place : Nat → Nat) => badAny (List.range 24) (fun n =>
    let ts := (tasksOf cs).filter (fun t => place t == n)
    imgIf (decide (262144 < localBytes cs ts)) 0x0401 ((ts.head?.map (fun t => tfld cs t 6 31 16)).getD 0) 0 0)
  firstBad ([tooBig (fun t => tfld cs t 1 12 8)]
    ++ [0, 1].map (fun k => if planned cs k then tooBig (planCe cs k) else none)
    ++ cs.images.map (fun im => imgIf (decide (8192 < im.journalWc)) 0x0401 im.no 0 0))

/-- Image numbers and instances once each in a set (R83). -/
def uniqueBad (cs : ConfigSet) : Option Bad :=
  firstBad [
    badAny cs.images (fun im => imgIf (decide (1 < (cs.images.filter (fun i => i.no == im.no)).length)) 0x0103 im.no 0 0),
    badAny cs.images (fun im => badAny im.insts (fun e =>
      imgIf (decide (1 < (cs.images.flatMap (·.insts)).countP (fun x => x.id == e.id))) 0x0103 im.no 0 0))]

/-- IMAGE_NO and ENTRY of a task name an image and a list (R95). -/
def entryBad (cs : ConfigSet) : Option Bad :=
  badAny (tasksOf cs) (fun t => declIf (!(cs.images.any (fun im =>
    im.no == tfld cs t 6 31 16 && decide (tfld cs t 6 15 0 < im.lists.length)))) [t])

/-- A task declares an input from a source. -/
def declares (cs : ConfigSet) (t : Nat) (s : Src) : Bool := (inDecls cs t).any (fun d => d.src == s)

/-- Counter group of a counter (R459). -/
def cntGroup (n : Nat) : Nat :=
  ([0x020, 0x080, 0x090, 0x0C0, 0x0D0, 0x120, 0x170, 0x190, 0x1A0, 0x1A8, 0x1B8, 0x1C0, 0x1D0, 0x1D8, 0x1E0].filter (fun b => decide (b ≤ n))).length

/-- The panel field a block names accepts it (R374). -/
def fieldOk (cs : ConfigSet) (b : Block) : Bool :=
  let r := at_ (blockArgs b)
  match (Map.find cs.layouts (r 0).imm).bind (fun l => Map.find l.fields (r 1).imm) with
  | some f => !f.bound && (if b.op = 0x1501 then f.kind == 0 else f.kind != 0)
  | none => false

/-- Poll entry and channel of the immediates of a HART block. -/
def hartDeclared (cs : ConfigSet) (t : Nat) (b : Block) : Bool :=
  let r := at_ (blockArgs b)
  let h := (r 0).imm
  (inDecls cs t).any (fun d => match d.src with
    | .hart k e => k.val == h && setFld cs (0x3400 + h) (e.val + 1) 29 24 == (r 1).imm
    | _ => false)

/-- Conditions on the blocks of a task whose refusal is DECL_REFUSED (R122, R198, R247, R248, R281, R290, R374, R456, R465). -/
def blockDeclOk (cs : ConfigSet) (t : Nat) (b : Block) : Bool :=
  let r := at_ (blockArgs b)
  !lacksImm b && (match b.op with
    | 0x1101 => decide ((r 1).imm < 32) && declares cs t (.canTx (Fin.ofNat 4 (r 0).imm))
    | 0x1102 => declares cs t (.canObj (Fin.ofNat 4 (r 0).imm) (Fin.ofNat 128 (r 1).imm))
    | 0x1201 => decide (tfld cs t 2 31 0 * setTick cs ≤ 500000) && ((r 0).sp != .imm || declares cs t (.hartRsp (Fin.ofNat 32 (r 0).imm)))
    | 0x1202 => hartDeclared cs t b
    | 0x1301 => decide (0x0F00 ≤ (r 0).imm) && decide ((r 0).imm ≤ 0x0FEF)
    | 0x1401 => setBit cs 0x7100 2 (cntGroup (r 0).imm) && declares cs t (.cntr (Fin.ofNat 512 (r 0).imm))
    | 0x1501 => fieldOk cs b
    | 0x1502 => fieldOk cs b
    | op => !(decide (0x0801 ≤ op) && decide (op ≤ 0x0803) && clsIn cs t == .e))

/-- Transmit buffers a task's blocks write (R281). -/
def buffersOf (cs : ConfigSet) (t : Nat) : List (Nat × Nat) :=
  (taskBlocks cs t).filterMap (fun b => if b.2.2.op = 0x1101 then some ((at_ (blockArgs b.2.2) 0).imm, (at_ (blockArgs b.2.2) 1).imm) else none)

/-- Those conditions over the set. -/
def blockDeclBad (cs : ConfigSet) : Option Bad :=
  firstBad [
    badAny (tasksOf cs) (fun t => declIf ((taskBlocks cs t).any (fun b => !blockDeclOk cs t b.2.2)) [t]),
    badAny (tasksOf cs) (fun t => declIf ((tasksOf cs).any (fun u => u < t && (buffersOf cs t).any (fun b => (buffersOf cs u).contains b))) [t])]

/-! ### Timers, retained blocks (R118, R126, R127, R131, R135, R145) -/

/-- Native timer instances with OPT_B = 1. -/
def boundTimers (cs : ConfigSet) : List Nat :=
  (cs.images.flatMap (·.insts)).filterMap (fun e => if 0x0701 ≤ e.opcode ∧ e.opcode ≤ 0x0705 ∧ bit e.iflags 3 then some e.id else none)

/-- R118. -/
def timersBad (cs : ConfigSet) : Option Bad :=
  firstBad [
    declIf (cs.timers.any (fun e => !(boundTimers cs).contains e.1
      || !(clsIn cs e.2 == .e || (clsIn cs e.2 == .c && setBit cs (0x2100 + e.2) 1 21)))),
    declIf ((boundTimers cs).any (fun i => cs.timers.countP (fun e => e.1 == i) != 1)),
    badIf (decide (4096 < cs.timers.length)) 0x0401 0x0414]

/-- Bytes of the instance save area of a set (R131). -/
def saveBytes (cs : ConfigSet) : Nat := 32 + ((cs.images.flatMap (·.insts)).map (fun e => 16 + cdiv e.bytes 8 * 8)).sum

/-- R126 and R127. -/
def retainBad (cs : ConfigSet) : Option Bad :=
  let rs := retBlocks cs
  let top := rs.foldl (fun m r => Nat.max m (r.1.off + r.1.bytes)) 0
  firstBad [
    badIf (decide (1048576 < saveBytes cs) || decide (8388608 < top + saveBytes cs) || decide (4096 < rs.length)) 0x0401 0x0414,
    declIf (rs.any (fun r => r.1.off % 8 != 0 || (cs.images.any (fun im =>
      im.retain.any (fun q => q.blockId == r.1.blockId
        && !(q.sig == r.1.sig && q.off == r.1.off && q.bytes == r.1.bytes && q.initOff == r.1.initOff))))))]

/-- R135: every entry inside its new block, at most 8 tables a block. -/
def migrateBad (cs : ConfigSet) : Option Bad :=
  badAny cs.images (fun im => badAny im.migrate (fun t =>
    let nb := ((retBlocks cs).find? (fun r => r.1.blockId == t.blockId)).map (fun r => r.1.bytes)
    imgIf (decide (8 < (im.migrate.filter (fun u => u.blockId == t.blockId)).length)
      || t.fields.any (fun f => decide (nb.getD 0 < f.newOff + f.elems * f.newTy.size))) 0x0103 im.no 0 0))

/-- R145: the retained layout of a siding set against the main set. -/
def layoutBad (main cs : ConfigSet) : Option Bad :=
  badAny (retBlocks cs) (fun r =>
    match (retBlocks main).find? (fun m => m.1.blockId == r.1.blockId) with
    | some m => badIf (!(m.1.sig == r.1.sig && m.1.off == r.1.off && m.1.bytes == r.1.bytes)) 0x0103 0x0313
    | none => badIf ((retBlocks main).any (fun m => decide (r.1.off < m.1.off + m.1.bytes) && decide (m.1.off < r.1.off + r.1.bytes)))
        0x0103 0x0313)

/-! ### Sage (R178, R198, R205) -/

/-- Required blocks of a class: role, kind, rows, columns (R176). -/
def classBlocks (cls n m : Nat) : List (Nat × Nat × Nat × Nat) :=
  match cls with
  | 1 => [(0x01, 0, n, n), (0x02, 0, 1, n), (0x10, 1, 1, n), (0x20, 2, n, n), (0x21, 2, 1, n), (0x22, 2, 1, n)]
  | 2 => [(0x01, 0, n, n), (0x02, 0, 1, n), (0x10, 1, 1, n), (0x20, 2, n, n), (0x22, 2, 1, n)]
  | 3 => [(0x01, 0, m, n), (0x02, 0, 1, m), (0x10, 1, 1, n), (0x20, 2, m, n), (0x23, 2, 1, m), (0x22, 2, 1, m)]
  | _ =>
    (if cls = 4 then [(0x03, 0, n, n)] else []) ++ [(0x04, 0, 1, n), (0x01, 0, m, n), (0x05, 0, 1, m), (0x06, 0, 1, m), (0x10, 1, 1, n),
      (0x11, 1, 1, m), (0x12, 1, 1, m), (0x20, 2, n + m, n + m), (0x24, 2, 8, n + m)]

/-- N and M within the limits of the class (R173). -/
def sizesOk (d : Desc) : Bool :=
  match d.cls with
  | 1 => decide (1 ≤ d.n ∧ d.n ≤ 512) && d.m == 0
  | 2 => decide (1 ≤ d.n ∧ d.n ≤ 512) && d.m == 0
  | 3 => decide (1 ≤ d.n ∧ d.n ≤ 256 ∧ d.n ≤ d.m ∧ d.m ≤ 1024)
  | 4 => decide (1 ≤ d.n ∧ d.n ≤ 256 ∧ 1 ≤ d.m ∧ d.m ≤ 512)
  | 5 => decide (1 ≤ d.n ∧ d.n ≤ 256 ∧ 1 ≤ d.m ∧ d.m ≤ 512)
  | _ => false

/-- Element size of a block: 2 for PIV, else 4 (R175). -/
def SBlk.elem (b : SBlk) : Nat := if b.role = 0x21 then 2 else 4

/-- Offset in a descriptor of a field of block `k` (R175). -/
def blkOff (k o : Nat) : Nat := 128 + 32 * k + o

/-- The first field of the block table that the class does not allow (R176): N_BLK, or ROLE, KIND, ROWS or COLS of a block. -/
def tableOff (d : Desc) : Option Nat :=
  let want := classBlocks d.cls d.n d.m
  if d.blks.length != want.length then some 14
  else (List.range want.length).findSome? (fun k =>
    match d.blks[k]?, want[k]? with
    | some b, some (r, kd, rows, cols) =>
      if b.role != r then some (blkOff k 0) else if b.kind != kd then some (blkOff k 2) else if b.rows != rows then some (blkOff k 4)
      else if b.cols != cols then some (blkOff k 6) else none
    | _, _ => none)

/-- The first FMT or bound that breaks R175, R177 or R178. -/
def formatOff (d : Desc) : Option Nat :=
  let fmtOf := fun r => ((d.blks.find? (fun b => b.role == r)).map (·.fmt)).getD 0
  (List.range d.blks.length).findSome? (fun k =>
    match d.blks[k]? with
    | some b =>
      let ok := if b.role = 0x21 then b.fmt == 6 else if b.role = 0x24 then b.fmt == 0 else decide (0x20 ≤ b.fmt ∧ b.fmt < 0x40)
      let same := if b.role = 0x22 ∨ b.role = 0x23 then b.fmt == fmtOf 0x02 else if b.role = 0x06 ∨ b.role = 0x12 then b.fmt == fmtOf 0x05
        else true
      if !ok || !same then some (blkOff k 1) else if b.kind == 0 && decide (b.hi < b.lo) then some (blkOff k 16) else none
    | none => none)

/-- The first numeric field out of its range (R174, R178, R223): in a pair a task-owned slot has a margin of 60 µs or more. -/
def rangeOff (cs : ConfigSet) (d : Desc) : Option Nat :=
  let it := decide (4 ≤ d.cls)
  let pair := cfgRole cs == 1 || cfgRole cs == 2
  let out := fun (ok : Bool) (o : Nat) => if ok then none else some o
  [out (if it then decide (1 ≤ d.iterCap ∧ d.iterCap ≤ 65535) else d.iterCap == 0) 16,
   out (if it then decide (1 ≤ d.checkInt ∧ d.checkInt ≤ 256 ∧ d.checkInt ≤ d.iterCap) else d.checkInt == 0) 18,
   out (if it then d.refine == 0 else decide (d.refine ≤ 8)) 20, out (decide (0 < d.singThr)) 40,
   out (if it then decide (0 < d.rho) else d.rho == 0) 44, out (if it then decide (0 < d.sigma) else d.sigma == 0) 48,
   out (if it then decide ((2 ^ 30 : Int) ≤ d.alpha) && decide (d.alpha * 10 ≤ 19 * (2 ^ 30 : Int)) else d.alpha == 0) 52,
   out (d.owner == 0xFFFF || (decide (d.marginUs < ownerUs cs d) && !(pair && decide (d.marginUs < 60)))) 64].findSome? id

/-- Memory ranges of a descriptor's blocks, both banks of results, and of its safe region (R179, R180). -/
def descRanges (d : Desc) : List (Nat × Nat) :=
  d.blks.flatMap (fun b => [(b.off, b.rows * b.stride * (if b.kind = 1 then 2 else 1))])
    ++ (if d.fallback = 1 then [(d.safeOff, (d.blks.filter (fun b => b.kind == 1)).foldl (fun a b => a + b.rows * b.stride) 0)] else [])

/-- The first block or safe region of a descriptor that leaves the slot's storage, breaks its alignment or meets another (R175, R178). -/
def storageOff (d : Desc) : Option Nat :=
  let rs := descRanges d
  let bad : Nat → Bool := fun k => match rs[k]? with
    | some r => decide (r.1 < 0x1000) || decide (0x800000 < r.1 + r.2) || r.1 % 64 != 0 || meet (rs.take k) [r]
    | none => false
  (List.range rs.length).findSome? (fun k =>
    match d.blks[k]? with
    | some b => if b.stride % 64 != 0 || decide (b.stride < b.cols * b.elem) then some (blkOff k 12) else if bad k then some (blkOff k 8) else none
    | none => if bad k then some 68 else none)

/-- SAGE_DESC_REFUSED with the slot and a byte offset. -/
def descIf (p : Bool) (status s off : Nat) : Option Bad := badIf p status 0x0901 [s, off]

/-- R178 for one descriptor, row by row. -/
def descBad (cs : ConfigSet) (d : Desc) : Option Bad :=
  firstBad [
    descIf d.formBad.isSome 0x0101 d.slot (d.formBad.getD 0),
    descIf (!(decide (1 ≤ d.cls ∧ d.cls ≤ 5))) 0x0103 d.slot 6,
    descIf (!sizesOk d) 0x0103 d.slot (if decide (1 ≤ d.n) && decide (d.n ≤ if d.cls ≤ 2 then 512 else 256) then 10 else 8),
    descIf (tableOff d).isSome 0x0103 d.slot ((tableOff d).getD 0),
    descIf (formatOff d).isSome 0x0103 d.slot ((formatOff d).getD 0),
    descIf (rangeOff cs d).isSome 0x0103 d.slot ((rangeOff cs d).getD 0),
    descIf (decide (1 < d.fallback)) 0x0103 d.slot 21,
    descIf ((d.fallback == 1) != (d.safeOff != 0xFFFFFFFF)) 0x0103 d.slot 68,
    descIf (storageOff d).isSome 0x0103 d.slot ((storageOff d).getD 0),
    descIf (d.owner != 0xFFFF && clsIn cs d.owner != .p) 0x0103 d.slot 12,
    descIf (!setBit cs (0x6100 + d.slot) 1 0 || !seActiveIn cs (homeOf cs d.slot) || !seActiveIn cs (altOf cs d.slot)
      || homeOf cs d.slot / 4 == altOf cs d.slot / 4) 0x0103 d.slot 7,
    descIf (decide (4128768 < d.workBytes)) 0x0401 d.slot 8]

/-- Operand arrays of a Sage block agree with the blocks of its slot (R178, R197, R198). -/
def arraysOk (im : Image) (d : Desc) (kind : Nat) (rs : List Ref) : Bool :=
  let bs := d.blks.filter (fun b => b.kind == kind)
  rs.length == bs.length && (rs.zip bs).all (fun p => p.1.ty.code == p.2.fmt && refElems im p.1 == p.2.count)

/-- A Sage block of a task names a slot of its own, by an immediate, with fitting arrays. -/
def sageBlockOk (cs : ConfigSet) (t : Nat) (b : Block) : Option Nat :=
  if b.op / 256 != 0x10 then none
  else
    let r := at_ (blockArgs b)
    let s := (r 0).imm
    if (r 0).sp != .imm then some 0
    else match descOf cs s with
      | none => some s
      | some d =>
        let im := imageOf cs t
        let ok := d.owner == t && (if b.op = 0x1001 then arraysOk im d 0 ((blockArgs b).drop 2)
          else if b.op = 0x1002 then arraysOk im d 1 ((blockOuts b).take ((blockOuts b).length - 2)) else true)
        if ok then none else some s

/-- R178 and R205 over the set. -/
def sageBad (cs : ConfigSet) : Option Bad :=
  firstBad [
    badAny cs.descs (descBad cs),
    badAny (List.range 64) (fun s => descIf (setBit cs (0x6100 + s) 1 0 != (descOf cs s).isSome) 0x0103 s 7),
    badAny (tasksOf cs) (fun t => badAny (taskBlocks cs t) (fun b =>
      match sageBlockOk cs t b.2.2 with | some s => descIf true 0x0103 s 0 | none => none)),
    badAny (cs.descs.filter (fun d => d.owner == 0xFFFF)) (fun d =>
      descIf (cs.descs.any (fun u => u.owner != 0xFFFF
        && [homeOf cs u.slot, altOf cs u.slot].any (fun e => e == homeOf cs d.slot || e == altOf cs d.slot))) 0x0103 d.slot 12)]

/-! ### Field I/O and CAN (R237, R264, R278) -/

/-- R237 and R264. -/
def fieldBadSet (cs : ConfigSet) : Option Bad :=
  let us := setTick cs
  let wd := fun v => !(decide (2 * us ≤ v) && decide (v ≤ 2000000))
  let grp := fun g p => (List.range 8).any (fun i => p (8 * g + i))
  firstBad [
    badAny [1, 2] (fun k => badIf (wd (setWord cs 0x3030 k)) 0x0103 0x0311 [0x303000 + k]),
    badAny [1, 2, 3] (fun k => badIf (wd (setWord cs 0x3181 k)) 0x0103 0x0311 [0x318100 + k]),
    badAny [0, 1, 2] (fun g => badIf (grp g (fun c => setBit cs (0x3140 + c) 1 15) && decide (us < 2 * setFld cs 0x3182 (g + 1) 9 0))
      0x0103 0x0311 [0x318200 + g + 1]),
    badAny (List.range 24) (fun c => declIf (setBit cs (0x3140 + c) 1 13 && (setBit cs (0x3140 + c) 1 15 || setBit cs (0x3140 + c) 1 14)))]

/-- Bit time in mtq: BRP × (1 + TSEG1 + TSEG2), from the three fields of value minus 1. -/
def bitTime (brp s1 s2 : Nat) : Nat := (brp + 1) * (1 + (s1 + 1) + (s2 + 1))

/-- R278 for one channel. -/
def canTimingBad (cs : ConfigSet) (ch : Nat) : Option Bad :=
  let ix := 0x4010 + ch
  let f := fun sub hi lo => setFld cs ix sub hi lo
  let nom := bitTime (f 1 30 26) (f 1 25 18) (f 1 17 11)
  let dat := bitTime (f 2 22 18) (f 2 17 13) (f 2 12 9)
  let fd := setBit cs (0x4000 + ch) 1 2
  let brs := setBit cs (0x4000 + ch) 1 3
  let tdc := setBit cs ix 3 31
  let bad := fun p sub => badIf p 0x0103 0x0311 [ch, sub]
  firstBad [bad (decide (nom < 80)) 1, bad (decide (dat < 10)) 2, bad (fd && decide (nom < dat)) 2, bad (decide (f 1 17 11 < f 1 6 0)) 1,
    bad (decide (f 2 12 9 < f 2 3 0)) 2, bad (brs && decide (dat < 80) && !tdc) 3, bad (tdc && decide (dat ≤ f 3 6 0)) 3, bad (brs && !fd) 1]

/-! ### Station network, time, redundancy (R298, R304, R305, R311, R321, R337, R342, R343) -/

/-- MAC of a station (R304). -/
def stationMac (cs : ConfigSet) (s : Nat) : Nat := setFld cs (0x5100 + s) 3 15 0 * 2 ^ 32 + setWord cs (0x5100 + s) 2

/-- A declared station input or output lies within its enabled station's block (R304). -/
def stationIn (cs : ConfigSet) (s off n hi lo : Nat) : Bool := setBit cs (0x5100 + s) 1 31 && decide (off + n ≤ setFld cs (0x5100 + s) 4 hi lo)

/-- R298, R304 and R305. -/
def stationsBad (cs : ConfigSet) : Option Bad :=
  let en := enabledStations cs
  let ts := tasksOf cs
  firstBad [
    declIf ((!en.isEmpty || cfgRole cs != 0) && !setBit cs 0x5000 3 8),
    badAny ts (fun t => declIf ((inDecls cs t).any (fun d => match d.src with | .station s o => !stationIn cs s.val o d.bytes 15 0 | _ => false)) [t]),
    badAny ts (fun t => declIf ((outDecls cs t).any (fun d => match d.dst with
      | .station s o => !stationIn cs s.val o (d.ty.size * d.elems) 31 16 | _ => false)) [t]),
    declIf (en.any (fun s => en.any (fun u => u < s && stationMac cs u == stationMac cs s))),
    declIf (cs.subst.any (fun e => !ts.any (fun t => (inDecls cs t).any (fun d =>
      d.varId == e.varId && (match d.src with | .station s _ => setBit cs (0x5100 + s.val) 1 31 | _ => false)))))]

/-- Reply completion of a set in ns (R311). -/
def replyNs (cs : ConfigSet) : Nat :=
  let g := if setFld cs 0x5000 1 1 0 = 1 then 12300 else 0
  ((enabledStations cs).foldl (fun (a : Nat × Nat) s =>
    let tx := a.1 + zslFrameNs cs (setFld cs (0x5100 + s) 4 31 16)
    let at_ := tx + (2 * setFld cs (0x5100 + s) 6 31 16 + setFld cs (0x5100 + s) 6 15 0) * 1000
    (tx, Nat.max a.2 at_ + zslFrameNs cs (setFld cs (0x5100 + s) 4 15 0))) (setWord cs 0x2000 2 * 1000 + g, 0)).2

/-- R311. -/
def zslBad (cs : ConfigSet) : Option Bad :=
  let cut := setWord cs 0x2000 3 - (if pairSet cs then 10 else 0)
  firstBad [
    badIf (decide (600 * setTick cs < Nat.max (zslLoadNs cs 31 16) (zslLoadNs cs 15 0))) 0x0401 0x0310 [0x0600, 0],
    badIf (decide (cut * 1000 < replyNs cs)) 0x0103 0x0311]

/-- Bytes of the snapshot of a set: values and status bytes of its merge table (R340). -/
def snapBytes (cs : ConfigSet) : Nat :=
  (cs.merge.map (fun e => match ((tasksOf cs).flatMap (inDecls cs)).find? (fun d => d.varId == e.varId) with | some d => d.bytes + 1 | none => 1)).sum

/-- R342, in 1/250 µs. -/
def heartbeatBad (cs : ConfigSet) : Option Bad :=
  let s := 40 + snapBytes cs + 256 + 4
  badIf (pairSet cs && decide (250 * setWord cs 0x2000 4 < 2000 + cdiv s 512 * 576
    + ((enabledStations cs).map (fun st => setFld cs (0x5100 + st) 4 15 0 + 80)).sum)) 0x0103 0x0311

/-- A declared input whose merge rule can only be LOCAL (R343, R465). -/
def localOnly (d : InDecl) : Bool :=
  match d.src with | .hart _ _ => true | .hartRsp _ => true | .canObj _ _ => true | .canTx _ => true | .cntr _ => true | _ => false

/-- R321, R337, R343 and R465. -/
def pairBad (cs : ConfigSet) : Option Bad :=
  let ins := (tasksOf cs).flatMap (inDecls cs)
  firstBad [
    declIf ((!setBit cs 0x5200 1 9 && setFld cs 0x5000 1 1 0 == 1) || (setBit cs 0x5200 1 8 && setWord cs 0x5008 1 == 0)
      || (decide (50000 < setWord cs 0x5202 1) && setFld cs 0x2000 1 2 0 == 0)),
    declIf (setBit cs 0x5300 1 16 && (tasksOf cs).any (fun t => (outDecls cs t).any (fun d => match d.dst with
      | .dout c => c.val == setFld cs 0x5300 1 14 10 | _ => false))),
    declIf (pairSet cs && ins.any (fun d => d.merged && !cs.merge.any (fun e => e.varId == d.varId))),
    declIf (pairSet cs && ins.any (fun d => (match d.src with | .cntr _ => true | _ => false) && !cs.merge.any (fun e => e.varId == d.varId))),
    declIf (pairSet cs && cs.merge.any (fun e => decide (4 < e.rule) || !(e.src == 1 || e.src == 2)
      || ins.any (fun d => d.varId == e.varId && (d.station || (e.rule == 3 && d.ty == .bool) || (e.rule != 0 && localOnly d)))))]

/-! ### Display (R369, R372, R374) -/

/-- DISPLAY_REFUSED with the panel and an offset. -/
def dispIf (p : Bool) (status pn off : Nat) : Option Bad := badIf p status 0x0C30 [pn, off]

/-- Strictly ascending. -/
def ascendingI (l : List Int) : Bool := (l.zip (l.drop 1)).all (fun p => decide (p.1 < p.2))

/-- An entry of a waveform table keeps to R372. -/
def waveOk (unknown : Bool) (w : WEntry) : Bool := !w.bad && w.phases.sum == 0 && decide (w.phases.length ≤ 64) && (!unknown || decide (1 ≤ w.phases.length))

/-- R369 for the waveform table of a panel. -/
def waveBad (p : Nat) (w : WTable) : Option Bad :=
  firstBad [
    dispIf w.formBad.isSome 0x0101 p (w.formBad.getD 0),
    badAny w.entries (fun e => dispIf (!waveOk (decide (2048 ≤ e.1)) e.2) 0x0103 p (64 + 32 * e.1)),
    badAny ((List.range 128).map (· + 2048)) (fun i => dispIf (!waveOk true (Map.getD w.entries i { phases := [] })) 0x0103 p (64 + 32 * i)),
    dispIf (!ascendingI w.bandLo) 0x0103 p 8,
    dispIf (decide (w.bandLo.getD 0 0 < w.tMin)) 0x0103 p 16]

/-- A bound field takes a GLB variable of a type its KIND accepts (R375). -/
def boundOk (cs : ConfigSet) (f : LField) : Bool :=
  match findVar cs f.varId with
  | some v => v.loc.sp == .glb && (match f.kind with | 1 => v.loc.ty.isNum | 2 => v.loc.ty.isF | 3 => v.loc.ty.isInt | _ => false)
  | none => false

/-- A layout field keeps to R374. -/
def lfieldOk (l : Layout) (no : Nat) (f : LField) : Bool :=
  decide (no < 1024) && decide (f.kind ≤ 3) && decide (f.flags < 4) && decide (f.fg ≤ 15) && decide (f.bg ≤ 15) && decide (f.font ≤ 2)
    && (f.bound || f.varId == 0)
    && (f.kind != 1 || (decide (f.fmt % 16 ≤ 6) && decide (1 ≤ f.fmt / 16 % 16) && decide (f.fmt / 16 % 16 ≤ 12) && decide (f.fmt < 512)))
    && (if f.kind = 3 then decide (f.symOff + 16 * f.w * f.h ≤ l.bitmap.length) else f.symOff == 0)

/-- Two fields overlap. -/
def overlap (a b : LField) : Bool := decide (a.x < b.x + b.w) && decide (b.x < a.x + a.w) && decide (a.y < b.y + b.h) && decide (b.y < a.y + a.h)

/-- Geometry of a panel in a set (R368). -/
def geometry (cs : ConfigSet) (p : Nat) : Nat × Nat := if p = 0 then (296, 128) else (setFld cs 0x7401 2 31 16, setFld cs 0x7401 2 15 0)

/-- R369 for the layout of a panel. -/
def layoutFieldBad (cs : ConfigSet) (p : Nat) (l : Layout) : Option Bad :=
  let g := geometry cs p
  firstBad [
    badAny l.fields (fun e => dispIf (decide (g.1 < e.2.x + e.2.w) || decide (g.2 < e.2.y + e.2.h) || !lfieldOk l e.1 e.2
      || l.fields.any (fun u => u.1 < e.1 && overlap u.2 e.2)) 0x0103 p (32 * e.1)),
    badAny l.fields (fun e => dispIf (e.2.bound && !boundOk cs e.2) 0x0103 p (32 * e.1))]

/-- R369. -/
def displayBad (cs : ConfigSet) : Option Bad :=
  badAny [0, 1] (fun p =>
    let g := geometry cs p
    firstBad [
      dispIf (setBit cs (0x7400 + p) 1 15 && !(g.1 % 8 == 0 && decide (8 ≤ g.1) && decide (g.1 ≤ 2048) && g.2 % 8 == 0 && decide (8 ≤ g.2)
        && decide (g.2 ≤ 1536))) 0x0103 p ((0x7400 + p) * 256 + 2),
      (Map.find cs.waves p).bind (waveBad p), (Map.find cs.layouts p).bind (layoutFieldBad cs p)])

/-! ### Thyme and power (R447, R475) -/

/-- A parameter that VIEW reads in a set: any but a counter of a group with a higher HOST_ROLE (R447, R463). -/
def viewReads (cs : ConfigSet) (ix : Nat) : Bool :=
  !(decide (0x7200 ≤ ix) && decide (ix < 0x7400))
    || (let g := cntGroup (cut ix 0x7200); setFld cs 0x7100 3 (2 * g + 1) (2 * g) == 0)

/-- R447. -/
def snapsBad (cs : ConfigSet) : Option Bad :=
  badAny cs.snaps (fun e => declIf (decide (16 < fixedWords e.code + e.refs.length) || decide (1 < cs.snaps.countP (fun x => x.code == e.code))
    || e.refs.any (fun r => (paramAt (r / 256) (r % 256)).isNone || !viewReads cs (r / 256))))

/-- R475. -/
def domainsBad (cs : ConfigSet) : Option Bad :=
  let ts := tasksOf cs
  let used := (List.range 64).filter (fun s => setBit cs (0x6100 + s) 1 0)
  firstBad [
    declIf ([0, 1].any (fun k => domOff cs (2 + k) && ts.any (fun t =>
      tfld cs t 1 12 8 / 12 == k || (setBit cs (0x2100 + t) 0x0A 5 && tfld cs t 0x0A 4 0 / 12 == k)))),
    declIf ([0, 1].any (fun k => domOff cs (4 + k) && used.any (fun s => homeOf cs s / 4 == k || altOf cs s / 4 == k))),
    declIf (domOff cs 8 && (List.range 4).any (fun ch => setFld cs (0x4000 + ch) 1 1 0 != 0)),
    declIf (domOff cs 11 && [0, 1].any (fun p => setBit cs (0x7400 + p) 1 15))]

/-! ### All of them -/

/-- The checks that a load makes (R143 step 4) and a throw repeats (R95, R178). -/
def setBad (cs : ConfigSet) : Option Bad :=
  firstBad [timingBad cs, releaseBad cs, budgetBad cs, planBad cs, sageBudgetBad cs, tableBad cs, bindBad cs, localBad cs,
    badAny cs.images (imageBad cs), uniqueBad cs, entryBad cs, shareBad cs, blockDeclBad cs, timersBad cs, retainBad cs, migrateBad cs,
    sageBad cs, fieldBadSet cs, badAny (List.range 4) (canTimingBad cs), stationsBad cs, zslBad cs, heartbeatBad cs, pairBad cs,
    displayBad cs, snapsBad cs, domainsBad cs]

/-- What refuses a package as the siding set beside a main set (R143, R145, R510). -/
def packageBad (main : ConfigSet) (p : Package) : Option Bad :=
  firstBad [formBad p, badIf (!p.signed) 0x0103 0x0312 [0], setBad p.set, layoutBad main p.set]

end Sys2Proof.Machine
end

