-- ==== Sys2Proof/Machine/Network.lean ====
section
/-! DEFINITION. The station network (chapter 12): OUT frames and IN frames of ZSL, the reply cut-off, duplicate discard, the HSR
ring, links, and the traffic a port answers or drops. -/
namespace Sys2Proof.Machine

open Sys2Proof

/-! ### Ports -/

/-- 0 for port A, 1 for port B. -/
def Port.idx (p : Port) : Nat := match p with | .a => 0 | .b => 1

/-- The other port. -/
def Port.other (p : Port) : Port := match p with | .a => .b | .b => .a

/-- Changes the network's state. -/
def updNet (f : Net → Net) (c : Chip) : Chip := { c with net := f c.net }

/-- SOURCE of a network event: the sequencer of the station ports. -/
def netUnit : Nat := 0x0402

/-- A frame dropped at a port (R298, R302). -/
def dropFrame (p : Port) (c : Chip) : Chip :=
  bump (0x196 + p.idx) (updNet (fun n => { n with dropped := (n.dropped + 1) % 2 ^ 32 }) c)

/-- A frame other than ZSL and PTP: whether the limiter of the port admits it (R302). -/
def letsIn (p : Port) (c : Chip) : Bool × Chip :=
  let sec := c.time.clock / 1000000000
  let (a, b) := if c.net.ingSec = sec then c.net.ingress else (0, 0)
  let n := match p with | .a => a | .b => b
  if cfg c 0x5000 4 31 0 ≤ n then (false, record 0x0807 netUnit [] (dropFrame p (updNet (fun n => { n with ingSec := sec, ingress := (a, b) }) c)))
  else (true, updNet (fun n => { n with ingSec := sec, ingress := (match p with | .a => (a + 1, b) | .b => (a, b + 1)) }) c)

/-! ### Duplicate discard (R300) -/

/-- The table of a source after a frame, and whether the frame is a duplicate. The numbers wrap at 65,536; a number up to 32,767
beyond the highest is ahead. -/
def dupStep (e : Nat × List Nat × Nat) (seq now : Nat) : Bool × (Nat × List Nat × Nat) :=
  let (hi, win, _) := e
  let behind := (hi + 65536 - seq) % 65536
  if behind < 64 then
    if win.contains seq then (true, (hi, win, now)) else (false, (hi, seq :: win, now))
  else
    let keep := win.filter (fun n => decide ((seq + 65536 - n) % 65536 < 64))
    if behind < 32768 then (false, (seq, [seq], now)) else (false, (seq, seq :: keep, now))

/-- Takes a frame of a source through the discard: whether it goes on (R300). -/
def dedup (p : Port) (src seq : Nat) (c : Chip) : Bool × Chip :=
  match Map.find c.net.sources src with
  | some e =>
    let (dup, e) := dupStep e seq c.time.clock
    let c := updNet (fun n => { n with sources := Map.put n.sources src e }) c
    if dup then (false, bump (0x194 + p.idx) (updNet (fun n => { n with dups := (n.dups + 1) % 2 ^ 32 }) c)) else (true, c)
  | none =>
    if 256 ≤ c.net.sources.length then
      (true, if c.net.srcFull then c else record 0x0806 netUnit [] (updNet (fun n => { n with srcFull := true }) c))
    else (true, updNet (fun n => { n with sources := Map.put n.sources src (seq, [seq], c.time.clock) }) c)

/-- SOURCE_AGED (R300). -/
def evSourceAged (dt src : Nat) (c : Chip) : Chip :=
  let c := pass dt c
  match Map.find c.net.sources src with
  | some (_, _, t) =>
    if t + 400000000 ≤ c.time.clock then
      updNet (fun n => { n with
        sources := Map.del n.sources src, srcFull := false, forwarded := n.forwarded.filter (fun f => f.2.1 != src) }) c
    else c
  | none => c

/-! ### OUT frames (R306, R308) -/

/-- The module sends OUT frames: boundaries run, it is no reserve, it has not withdrawn, does not re-synchronise, and is no tripped
or failing member of a pair whose partner carries on (R75, R308, R353, R359, R479). -/
def sendsOut (c : Chip) : Bool :=
  hasBoundaries c && c.tt.ticking && !isReserve c && !c.pair.withdrawn && c.pair.st != .resyncTarget && c.pair.st != .joining
    && !(c.sup.mstate == .trip && isPair c && c.pair.st == .paired && !c.pair.partnerTrip)
    && !(isPair c && c.sup.powerFail.isSome)

/-- One OUT frame. -/
def outFrame (st : Nat) (c : Chip) : Chip :=
  let b := outBlock c st (!inRun c)
  let fl := b01 (c.sup.mstate == .trip) + 2 * zslRole c
  let c := emit (.zsl st c.tt.tn fl (cfg c (0x5100 + st) 5 31 0) b (outDigest b)) c
  bump 0x19A (netSend 1 (updStation st (fun x => { x with outDig := outDigest b }) c))

/-- ZSL_OUT_TRANSMIT (R308). -/
def evZslOutTransmit (dt : Nat) (c : Chip) : Chip :=
  let c := pass dt c
  if !sendsOut c then c
  else
    let c := pass (bNs c c.tt.tn + cfg c 0x2000 2 31 0 * 1000 - c.time.clock) c
    updNet (fun n => { n with outTn := some c.tt.tn }) (forAll (enabledStations c.sets.main) outFrame c)

/-! ### IN frames (R307, R312, R313) -/

/-- The frame comes from an enabled station and has the right version, type and length (R312). -/
def inHeader (c : Chip) (z : ZIn) : Bool :=
  decide (z.station < 64) && setBit c.sets.main (0x5100 + z.station) 1 31 && z.version == 1 && z.type == 2
    && z.blockLen == cfg c (0x5100 + z.station) 4 15 0

/-- The digest of a frame is right. -/
def inDigest (z : ZIn) : Bool := z.digest == crc32c z.block

/-- The cut-off of the present tick for own frames in ns: 10 µs earlier in a pair (R313). -/
def cutNs (c : Chip) : Nat := bNs c c.tt.tn + (cfg c 0x2000 3 31 0 - (if isPair c then 10 else 0)) * 1000

/-- A good frame enters the exchange of its station (R312, R314). -/
def takeIn (z : ZIn) (c : Chip) : Chip :=
  let x := station c z.station
  if x.now.isSome then c
  else
    let safe := bit z.flags 0
    let c := updStation z.station (fun x => { x with
      now := some z, echoRole := bits z.flags 3 2, safe := safe, echoDig := z.echoDig, lastTn := z.tn }) c
    let c := when (isPair c && bits z.flags 3 2 == 3 - zslRole c) (updNet (fun n => { n with partnerEcho := some z.tn })) c
    when (safe && !x.safe) (record 0x0835 (0x0C00 + z.station) []) c

/-- The partner's CONFIG_ID check: sets and clears CFG_MISMATCH (R312). -/
def checkConfig (z : ZIn) (c : Chip) : Chip :=
  let bad := z.configId != cfg c (0x5100 + z.station) 5 31 0
  let was := (station c z.station).mismatch
  when (bad && !was) (record 0x0833 (0x0C00 + z.station) []) (updStation z.station (fun x => { x with mismatch := bad }) c)

/-- What becomes of a frame that is no network duplicate. -/
def inFrame (z : ZIn) (c : Chip) : Chip :=
  let u := 0x0C00 + z.station
  if !inHeader c z || z.tn != c.tt.tn then c
  else
    let c := checkConfig z c
    let same := z.configId == cfg c (0x5100 + z.station) 5 31 0
    let c := when (isPair c && same) (fun c => bump 0x1AD (emit (.forwardIn z) c)) c
    let late := decide (cutNs c < c.time.clock)
    let c := when late (fun c => bump 0x19D (record 0x0831 u [] c)) c
    let c := when (!inDigest z) (record 0x0834 u []) c
    when (same && !late && inDigest z) (takeIn z) c

/-- The reply shows that the LAN of a port delivers (R298). -/
def hearPort (p : Port) (z : ZIn) (c : Chip) : Chip :=
  when (inHeader c z && inDigest z && z.tn == c.tt.tn && z.configId == cfg c (0x5100 + z.station) 5 31 0)
    (updNet (fun n => match p with | .a => { n with heardA := true } | .b => { n with heardB := true })) c

/-- Address of the station a frame names. -/
def srcOk (c : Chip) (src : Nat) (z : ZIn) : Bool := src == stationMac c.sets.main z.station

/-- ZSL_IN_FRAME (R312, R341). -/
def evZslInFrame (dt : Nat) (p : Port) (src seq : Nat) (z : ZIn) (c : Chip) : Chip :=
  let c := bump (0x190 + p.idx) (pass dt c)
  let c := when (srcOk c src z) (hearPort p z) c
  let (on, c) := dedup p src seq c
  if on && srcOk c src z then inFrame z c else c

/-- ZSL_IN_FORWARD (R341): a good frame of the partner counts like an own one until B + T_ZSL_RX. -/
def evZslInForward (dt : Nat) (_l : Line) (z : ZIn) (valid : Bool) (c : Chip) : Chip :=
  let c := pass dt c
  if isPair c && c.pair.st != .degraded && valid && inHeader c z && inDigest z && z.tn == c.tt.tn
      && z.configId == cfg c (0x5100 + z.station) 5 31 0 && decide (c.time.clock ≤ bNs c c.tt.tn + cfg c 0x2000 3 31 0 * 1000)
  then takeIn z c else c

/-! ### The cut-off (R315, R516) -/

/-- A counter of 8 bits that saturates. -/
def sat8 (n : Nat) : Nat := Nat.min 255 (n + 1)

/-- A good exchange. -/
def goodExchange (st : Nat) (z : ZIn) (c : Chip) : Chip :=
  let x := station c st
  let c := bump 0x19B c
  match x.st with
  | .disabled => c
  | .transition => updStation st (fun x => { x with settle := x.settle + 1, good := sat8 x.good }) c
  | .substitute =>
    let done := decide (cfg c (0x5100 + st) 1 23 16 ≤ x.good + 1)
    let c := updStation st (fun x => { x with
      last := some z.block, good := sat8 x.good
      st := if done then .ok else .substitute, useSub := !done, miss := 0 }) c
    when done (record 0x0832 (0x0C00 + st) []) c
  | _ => updStation st (fun x => { x with st := .ok, useSub := false, last := some z.block, good := sat8 x.good, miss := 0 }) c

/-- The dropout of a station (R315). -/
def dropout (st : Nat) (c : Chip) : Chip :=
  let c := updStation st (fun x => { x with st := .substitute, useSub := true, dropouts := (x.dropouts + 1) % 2 ^ 32 }) c
  let c := bump 0x19E (record 0x0830 (0x0C00 + st) [] c)
  raiseBound (cfgb c (0x5100 + st) 1 30) 1 (cfg c (0x5100 + st) 1 7 0) c

/-- A missed exchange; in TRANSITION dropout counting is suspended (R160). -/
def missedExchange (st : Nat) (c : Chip) : Chip :=
  let x := station c st
  if x.st = .disabled ∨ x.st = .transition then c
  else
    let c := bump 0x19C (updStation st (fun x => { x with
      miss := sat8 x.miss, good := 0, missTotal := (x.missTotal + 1) % 2 ^ 32
      st := if x.st = .ok then .missed else x.st }) c)
    when ((x.st == .ok || x.st == .missed) && decide (cfg c (0x5100 + st) 1 15 8 ≤ x.miss + 1)) (dropout st) c

/-- The exchange of one station is judged. -/
def judge (st : Nat) (c : Chip) : Chip :=
  match (station c st).now with
  | some z => goodExchange st z c
  | none => missedExchange st c

/-- One LAN that delivers no replies for 16 ticks in which the other does (R298, R317). -/
def judgeLan (c : Chip) : Chip :=
  let n := c.net
  let qa := if n.heardA then 0 else if n.heardB then Nat.min 16 (n.quietA + 1) else n.quietA
  let qb := if n.heardB then 0 else if n.heardA then Nat.min 16 (n.quietB + 1) else n.quietB
  let la := if n.heardA then false else n.lanA || qa == 16
  let lb := if n.heardB then false else n.lanB || qb == 16
  let c := updNet (fun n => { n with quietA := qa, quietB := qb, lanA := la, lanB := lb, heardA := false, heardB := false }) c
  let c := when (la && !n.lanA) (record 0x0802 netUnit []) c
  let c := when (!la && n.lanA) (record 0x0803 netUnit []) c
  let c := when (lb && !n.lanB) (record 0x0802 netUnit []) c
  when (!lb && n.lanB) (record 0x0803 netUnit []) c

/-- ZSL_CUTOFF (R315): each exchange of the tick is judged once, at B + T_ZSL_RX, by when the partner's frames are in (R313). -/
def evZslCutoff (dt : Nat) (c : Chip) : Chip :=
  let c := pass dt c
  if !hasBoundaries c || !c.tt.ticking || c.net.cutTn == some c.tt.tn then c
  else
    let c := pass (bNs c c.tt.tn + cfg c 0x2000 3 31 0 * 1000 - c.time.clock) c
    let good := (enabledStations c.sets.main).any (fun st => (station c st).now.isSome)
    judgeLan (forAll (enabledStations c.sets.main) judge (updNet (fun n => { n with
      cutTn := some c.tt.tn, goodTicks := if good then n.goodTicks + 1 else 0 }) c))

/-! ### Links and the ring (R301, R317, R327) -/

/-- The link of a port. -/
def linkOf (c : Chip) (p : Port) : Bool := match p with | .a => c.net.linkA | .b => c.net.linkB

/-- PTP side of a port. -/
def ptpPort (c : Chip) (p : Port) : PtpPort := match p with | .a => c.time.portA | .b => c.time.portB

/-- Changes the PTP side of a port. -/
def updPtp (p : Port) (f : PtpPort → PtpPort) (c : Chip) : Chip :=
  match p with
  | .a => { c with time := { c.time with portA := f c.time.portA } }
  | .b => { c with time := { c.time with portB := f c.time.portB } }

/-- NET_LINK_CHANGE (R317): a port without a link is FAULTY for PTP, and listens again when its link returns. -/
def evNetLinkChange (dt : Nat) (p : Port) (up : Bool) (c : Chip) : Chip :=
  let c := pass dt c
  if linkOf c p = up then c
  else
    let c := updNet (fun n => match p with | .a => { n with linkA := up } | .b => { n with linkB := up }) c
    let c := if c.sup.mstate = .off then c
      else updPtp p (fun x => if up then { x with st := .listening } else if x.st = .slave then x else { x with st := .faulty, gm := none }) c
    record (if up then 0x0801 else 0x0800) netUnit [] c

/-- HSR_FORWARD (R301, R327): what is forwarded, with the correction of the transparent clock. Of each source and direction the model
keeps the newest 64 numbers. -/
def evHsrForward (dt : Nat) (p : Port) (src seq : Nat) (onlyMe faulty : Bool) (ptp : Option Nat) (c : Chip) : Chip :=
  let c := bump (0x190 + p.idx) (pass dt c)
  if c.net.mode != 1 || src == c.sup.mac || onlyMe || c.net.forwarded.contains (p.idx, src, seq) then c
  else
    let mine := c.net.forwarded.filter (fun f => f.1 == p.idx && f.2.1 == src)
    let rest := c.net.forwarded.filter (fun f => !(f.1 == p.idx && f.2.1 == src))
    let c := updNet (fun n => { n with forwarded := ((p.idx, src, seq) :: mine.take 63) ++ rest }) c
    let tc := ptp.isSome && cfgb c 0x5200 1 12
    let peer : Int := if ptp = some 0 ∧ cfgb c 0x5200 1 9 then ((ptpPort c p).delay.getD 0 : Int) else 0
    let corr := if tc then some (Config.residence c.sup.freeCtr + peer) else none
    let c := emit (.hsrFwd p.other.idx src seq corr) (when tc drawn c)
    when faulty (record 0x0808 netUnit []) (bump (0x198 + p.idx) c)

/-- HSR_RING_OPEN (R317). -/
def evHsrRingOpen (dt : Nat) (isOpen : Bool) (c : Chip) : Chip :=
  let c := pass dt c
  if c.net.mode != 1 || c.net.ringOpen == isOpen then c
  else record (if isOpen then 0x0804 else 0x0805) netUnit [] (updNet (fun n => { n with ringOpen := isOpen }) c)

/-! ### Other traffic (R302, R316) -/

/-- A request to an IPv4 address: answered when it is IP_ADDR, else dropped. -/
def ipRequest (p : Port) (ip : Nat) (answer : Out) (c : Chip) : Chip :=
  let c := bump (0x190 + p.idx) c
  if ip = 0 ∨ ip != cfg c 0x5008 1 31 0 then dropFrame p c
  else match letsIn p c with
    | (true, c) => netSend 1 (emit answer c)
    | (false, c) => c

/-- ARP_REQUEST. -/
def evArpRequest (dt : Nat) (p : Port) (ip : Nat) (c : Chip) : Chip := ipRequest p ip (.arp p.idx ip) (pass dt c)

/-- ICMP_ECHO. -/
def evIcmpEcho (dt : Nat) (p : Port) (ip src : Nat) (c : Chip) : Chip := ipRequest p ip (.icmp p.idx ip src) (pass dt c)

/-- IP_REASSEMBLY_TIMEOUT (R316): the datagram is dropped and counted. -/
def evIpReassemblyTimeout (dt _id : Nat) (c : Chip) : Chip :=
  updNet (fun n => { n with dropped := (n.dropped + 1) % 2 ^ 32 }) (pass dt c)

/-- UNSUPPORTED_FRAME_RECEIVED (R298, R302). -/
def evUnsupportedFrame (dt : Nat) (p : Port) (c : Chip) : Chip := dropFrame p (bump (0x190 + p.idx) (pass dt c))

/-! ### Rows -/

/-- ZSL_OUT_TRANSMIT. -/
def execZslOutTransmit (dt : Nat) : State → Host.Outcome State Fault Refusal := lift (evZslOutTransmit dt)

/-- ZSL_CUTOFF. -/
def execZslCutoff (dt : Nat) : State → Host.Outcome State Fault Refusal := lift (evZslCutoff dt)

/-- ZSL_IN_FRAME. -/
def execZslInFrame (dt : Nat) (p : Port) (src seq : Nat) (z : ZIn) : State → Host.Outcome State Fault Refusal :=
  lift (evZslInFrame dt p src seq z)

/-- ZSL_IN_FORWARD. -/
def execZslInForward (dt : Nat) (l : Line) (z : ZIn) (valid : Bool) : State → Host.Outcome State Fault Refusal :=
  lift (evZslInForward dt l z valid)

/-- NET_LINK_CHANGE. -/
def execNetLinkChange (dt : Nat) (p : Port) (up : Bool) : State → Host.Outcome State Fault Refusal := lift (evNetLinkChange dt p up)

/-- SOURCE_AGED. -/
def execSourceAged (dt src : Nat) : State → Host.Outcome State Fault Refusal := lift (evSourceAged dt src)

/-- HSR_FORWARD. -/
def execHsrForward (dt : Nat) (p : Port) (src seq : Nat) (onlyMe faulty : Bool) (ptp : Option Nat) :
    State → Host.Outcome State Fault Refusal := lift (evHsrForward dt p src seq onlyMe faulty ptp)

/-- ARP_REQUEST. -/
def execArpRequest (dt : Nat) (p : Port) (ip : Nat) : State → Host.Outcome State Fault Refusal := lift (evArpRequest dt p ip)

/-- ICMP_ECHO. -/
def execIcmpEcho (dt : Nat) (p : Port) (ip src : Nat) : State → Host.Outcome State Fault Refusal := lift (evIcmpEcho dt p ip src)

/-- IP_REASSEMBLY_TIMEOUT. -/
def execIpReassemblyTimeout (dt id : Nat) : State → Host.Outcome State Fault Refusal := lift (evIpReassemblyTimeout dt id)

/-- UNSUPPORTED_FRAME_RECEIVED. -/
def execUnsupportedFrameReceived (dt : Nat) (p : Port) : State → Host.Outcome State Fault Refusal := lift (evUnsupportedFrame dt p)

/-- HSR_RING_OPEN. -/
def execHsrRingOpen (dt : Nat) (isOpen : Bool) : State → Host.Outcome State Fault Refusal := lift (evHsrRingOpen dt isOpen)

end Sys2Proof.Machine
end

