-- ==== Sys2Proof/Machine/Ptp.lean ====
section
/-! DEFINITION. The time engine (chapter 13): timestamp rings, the selection of a master, delay exchanges, offset measurements and the
transitions of the servo, holdover, and the messages a port sends. -/
namespace Sys2Proof.Machine

open Sys2Proof

/-- Changes the time engine. -/
def updTime (f : TimeEng → TimeEng) (c : Chip) : Chip := { c with time := f c.time }

/-- DELAY_MECH is P2P (R320). -/
def p2p (c : Chip) : Bool := cfgb c 0x5200 1 9

/-- The module may become grandmaster: SLAVE_ONLY = 0 (R320). -/
def mayMaster (c : Chip) : Bool := !cfgb c 0x5200 1 11

/-- The port-independent module states in which the clock is never stepped (R330). -/
def heldState (c : Chip) : Bool := match c.sup.mstate with | .run => true | .trip => true | .service => true | _ => false

/-! ### Timestamp rings (R324) -/

/-- The 32 bytes of an entry. -/
def tsBytes (e : TsEntry) : List Byte :=
  leBytes 4 e.ts32 ++ leBytes 1 e.port ++ leBytes 1 e.mtype ++ leBytes 2 e.seq ++ leBytes 8 e.ref64 ++ leBytes 10 e.srcId
    ++ leBytes 1 e.domain ++ leBytes 1 e.flags ++ List.replicate 4 0

/-- Records once that a host copy of a timestamp was dropped since `before` (R324). -/
def tsDropped (before : Nat) (c : Chip) : Chip :=
  when (Map.getD c.cnt.val 0x1A5 0 != before) (record 0x0829 0 []) c

/-- Writes a stamp into a ring of port `p` and hands it to the subscribers. -/
def stamp (p : Port) (rx : Bool) (ts mtype seq srcId : Nat) (oneStep : Bool) (c : Chip) : Chip :=
  let r := 120 + p.idx + 2 * b01 rx
  let e : TsEntry := { ts32 := ts % 2 ^ 32, port := p.idx, mtype := mtype, seq := seq % 65536, ref64 := c.time.clock, srcId := srcId
                       domain := cfg c 0x5200 1 7 0, flags := b01 oneStep }
  let before := Map.getD c.cnt.val 0x1A5 0
  tsDropped before (exportRing r (tsBytes e)
    (updTime (fun t => { t with rings := Map.upd t.rings r [] (fun l => (e :: l).take 1024) }) c))

/-- sourcePortIdentity of the module's own messages: its clock identity and the port's number (R318, R324). -/
def ownPortId (c : Chip) (p : Port) : Nat := c.sup.serial % 2 ^ 64 + (p.idx + 1) * 2 ^ 64

/-- A transmitted event message: its stamp, one-step at once, two-step when the next command reaches the time engine unless it is
missing by then (R325, R326). -/
def sendEvent (p : Port) (mtype : Nat) (c : Chip) : Chip :=
  let n := (ptpPort c p).seq
  let c := emit (.ptp p.idx mtype n c.time.clock) (updPtp p (fun x => { x with seq := (x.seq + 1) % 65536 }) c)
  if cfgb c 0x5200 1 10 && (mtype == 0 || mtype == 3) then updPtp p (fun x => { x with stampDue := some mtype }) c
  else stamp p false c.time.clock mtype n (ownPortId c p) true c

/-- A stamp that is due arrives, and the Follow_Up or Pdelay_Resp_Follow_Up leaves with it (R326). -/
def stampArrives (p : Port) (c : Chip) : Chip :=
  let x := ptpPort c p
  match x.stampDue with
  | none => c
  | some m =>
    let n := (x.seq + 65535) % 65536
    let c := stamp p false c.time.clock m n (ownPortId c p) false (updPtp p (fun x => { x with stampDue := none }) c)
    emit (.ptp p.idx (if m = 0 then 8 else 10) n c.time.clock) c

/-- The stamps due on both ports arrive. -/
def stampsArrive (c : Chip) : Chip := stampArrives .b (stampArrives .a c)

/-- A message that reaches the time engine after `dt` ns; none does while the module has no supply. -/
def reach (dt : Nat) (f : Chip → Chip) (c : Chip) : Chip :=
  let c := pass dt c
  if c.sup.mstate = .off then c else f (stampsArrive c)

/-- PTP_TS_MISSING (R326): no follow-up. -/
def evPtpTsMissing (dt : Nat) (p : Port) (c : Chip) : Chip :=
  let c := pass dt c
  if (ptpPort c p).stampDue.isSome then
    bump 0x1A4 (record 0x082B 0 [] (updPtp p (fun x => { x with stampDue := none }) c))
  else c

/-! ### The master (R318, R319, R330) -/

/-- Order of two data sets in the default algorithm: lower wins (R318). -/
def gmBetter (a b : Gm) : Bool :=
  let ka := [a.prio1, a.clkClass, a.accuracy, a.variance, a.prio2, a.identity, a.steps]
  let kb := [b.prio1, b.clkClass, b.accuracy, b.variance, b.prio2, b.identity, b.steps]
  match (ka.zip kb).find? (fun p => p.1 != p.2) with | some p => decide (p.1 < p.2) | none => false

/-- The module's own data set (R320). -/
def ownGm (c : Chip) : Gm :=
  { prio1 := cfg c 0x5200 3 31 24, clkClass := cfg c 0x5200 3 15 8, prio2 := cfg c 0x5200 3 23 16, identity := c.sup.serial }

/-- The ports' roles after the algorithm has run: the port with the better master is SLAVE and the other PASSIVE; with the same
master on both, the port that is SLAVE already stays so. -/
def electPorts (c : Chip) : Chip :=
  let a := c.time.portA
  let b := c.time.portB
  let set := fun (sa sb : PortSt) (m : Option Gm) (c : Chip) =>
    let id := match m with | some g => g.identity | none => c.time.gmId
    let chg := m.isSome && c.time.master && id != c.time.gmId
    let fresh := m.isSome && (!c.time.master || id != c.time.gmId)
    let c := updTime (fun t => { t with master := m.isSome, gmId := id, firstOff := t.firstOff || fresh }) c
    let c := updPtp .a (fun x => { x with st := if linkOf c .a then sa else .faulty }) (updPtp .b (fun x => { x with st := if linkOf c .b then sb else .faulty }) c)
    when chg (record 0x0824 0 []) c
  match a.gm, b.gm with
  | none, none =>
    let s := if c.time.servo = .grandmaster then PortSt.master else .listening
    set s s none c
  | some g, none => set .slave .passive (some g) c
  | none, some g => set .passive .slave (some g) c
  | some g, some h =>
    if g.identity = h.identity then
      if b.st = .slave then set .passive .slave (some h) c else set .slave .passive (some g) c
    else if gmBetter h g then set .passive .slave (some h) c else set .slave .passive (some g) c

/-- PTP_ANNOUNCE_RECEIVED (R318, R330): the port keeps the best master it hears; a data set worse than the own one is none where the
module may be grandmaster itself. -/
def evPtpAnnounceReceived (dt : Nat) (p : Port) (g : Gm) : Chip → Chip := reach dt fun c =>
  if mayMaster c && !gmBetter g (ownGm c) then c
  else
    let take := match (ptpPort c p).gm with | none => true | some o => o.identity == g.identity || gmBetter g o
    if take then electPorts (updPtp p (fun x => { x with gm := some g }) c) else c

/-! ### The servo (R329 to R332, R517) -/

/-- Seconds of holdover kept when it ends, and the new state. -/
def setServo (v : Servo) (c : Chip) : Chip :=
  updTime (fun t =>
    let t := if t.servo = .holdover ∧ v ≠ .holdover then { t with holdS := (c.time.clock - t.holdAt) / 1000000000 } else t
    let t := if v = .holdover ∧ t.servo ≠ .holdover then { t with holdAt := c.time.clock, longDone := false } else t
    { t with servo := v, settled := false, inBand := 0, inLock := 0, slewing := false
             firstOff := t.firstOff || (v == .unlocked && t.servo != .unlocked) }) c

/-- Entry into HOLDOVER: the correction last learned is held (R330, R334). -/
def enterHoldover (code : Nat) (c : Chip) : Chip :=
  let was := c.time.servo
  let c := updTime (fun t => { t with freq := t.learned }) (setServo .holdover c)
  record code 0 [] (when (was != .holdover) (bump 0x1A2) c)

/-- Entry into LOCKED; out of HOLDOVER and GRANDMASTER with SLEWING = 1 (R330). -/
def enterLocked (slew : Bool) (c : Chip) : Chip :=
  record 0x0821 0 [] (updTime (fun t => { t with slewing := slew, diverged := false }) (setServo .locked c))

/-- Entry into UNLOCKED. -/
def enterUnlocked (c : Chip) : Chip := record 0x0822 0 [] (updTime (fun t => { t with diverged := false }) (setServo .unlocked c))

/-- The clock is set at once; in STOP the tick number is derived afresh (R329, R35). -/
def stepClock (new : Nat) (c : Chip) : Chip :=
  let old := c.time.clock
  let c := updTime (fun t => { t with clock := new, steps := (t.steps + 1) % 2 ^ 32, firstOff := false }) c
  let c := if c.sup.mstate = .stop then { c with tt := { c.tt with rederive := true } } else c
  bump 0x1A1 (record 0x0823 0 (w64 old ++ w64 new) c)

/-- A measured offset in the range of OFFSET_NS. -/
def satOffset (o : Int) : Int := max (-2147483648) (min 2147483647 o)

/-- The frequency correction learned at a measurement, within ±200 ppm (R329). -/
def learnFreq (o : Int) (c : Chip) : Chip :=
  let f := max (-200000) (min 200000 (Config.servoFreq c.sup.freeCtr c.time.freq o))
  drawn (updTime (fun t => { t with freq := f, learned := if t.servo = .locked then f else t.learned }) c)

/-- SETTLED after a measurement in LOCKED (R328). -/
def settle (o : Int) (c : Chip) : Chip :=
  let f := Config.servoFilter c.sup.freeCtr o
  drawn (updTime (fun t =>
    let n := if f.natAbs ≤ 25 then Nat.min 64 (t.inBand + 1) else 0
    { t with inBand := n, settled := n == 64 }) c)

/-- A master is present with offset `o` while the servo holds over or is grandmaster (R330, R331). -/
def followAgain (o : Int) (c : Chip) : Chip :=
  if heldState c then
    if o.natAbs ≤ cfg c 0x5202 4 31 0 * 1000 then enterLocked true c
    else if c.time.diverged then c
    else updTime (fun t => { t with diverged := true }) (enterHoldover 0x0825 c)
  else if o.natAbs ≤ cfg c 0x5202 2 31 0 * 1000 then enterLocked true c
  else enterUnlocked c

/-- The servo at an offset measurement (R330). -/
def servoStep (o : Int) (c : Chip) : Chip :=
  let n := o.natAbs
  let lock := cfg c 0x5202 3 31 0
  let stepThr := cfg c 0x5202 2 31 0 * 1000
  let c := updTime (fun t => { t with offset := satOffset o }) c
  match c.time.servo with
  | .unlocked => if heldState c || !c.time.firstOff then c else setServo .locking (stepClock ((c.time.clock : Int) - o).toNat c)
  | .locking =>
    if stepThr < n then enterUnlocked c
    else
      let c := learnFreq o (updTime (fun t => { t with inLock := if n ≤ lock then t.inLock + 1 else 0, slewing := decide (lock < n) }) c)
      if 16 ≤ c.time.inLock then enterLocked false c else c
  | .locked =>
    if heldState c && decide (cfg c 0x5202 4 31 0 * 1000 < n) then
      updTime (fun t => { t with diverged := true }) (enterHoldover 0x0825 c)
    else if !heldState c && decide (stepThr < n) then enterUnlocked c
    else settle o (learnFreq o (updTime (fun t => { t with slewing := decide (lock < n) }) c))
  | .holdover => followAgain o c
  | .grandmaster => followAgain o c

/-- PTP_SYNC (R324, R517): the receive stamp; on the SLAVE port with a valid path delay an offset measurement. -/
def evPtpSync (dt : Nat) (p : Port) (t1 t2 seq srcId : Nat) (oneStep : Bool) : Chip → Chip := reach dt fun c =>
  let c := stamp p true t2 0 seq srcId oneStep (c)
  let x := ptpPort c p
  if x.st != .slave && x.st != .passive then c
  else
    let c := bump 0x1A0 c
    match x.st, x.delay with
    | .slave, some d => servoStep ((t2 : Int) - t1 - d - signed 32 (cfg c 0x5203 (1 + p.idx) 31 0)) c
    | _, _ => c

/-- PTP_DELAY_EXCHANGE (R517): mean path delay or peer delay of the port, both half of what four stamps leave. -/
def evPtpDelayExchange (dt : Nat) (p : Port) (t1 t2 t3 t4 : Nat) : Chip → Chip := reach dt fun c =>
  let d := (((t2 : Int) - t1) + ((t4 : Int) - t3)) / 2
  updPtp p (fun x => { x with delay := some d.toNat }) (c)

/-- PTP_DELAY_REQ_SEND (R325, R517): a Delay_Req on a port that hears a master, or a Pdelay_Req on a port with a link. -/
def evPtpDelayReqSend (dt : Nat) (p : Port) : Chip → Chip := reach dt fun c =>
  let st := (ptpPort c p).st
  if p2p c then (if linkOf c p && st != .disabled then sendEvent p 2 c else c)
  else if st == .slave || st == .passive then sendEvent p 1 c else c

/-- PTP_PDELAY_REQ_RECEIVED (R325). -/
def evPtpPdelayReqReceived (dt : Nat) (p : Port) (seq srcId t2 : Nat) : Chip → Chip := reach dt fun c =>
  let c := stamp p true t2 2 seq srcId true (c)
  if p2p c && (ptpPort c p).st != .disabled then sendEvent p 3 c else c

/-- PTP_DELAY_REQ_RECEIVED (R318): as E2E master, the answer carries the receive stamp. -/
def evPtpDelayReqReceived (dt : Nat) (p : Port) (seq srcId t4 : Nat) : Chip → Chip := reach dt fun c =>
  let c := stamp p true t4 1 seq srcId true (c)
  if !p2p c && (ptpPort c p).st == .master then emit (.ptp p.idx 9 seq t4) c else c

/-- PTP_SYNC_SEND (R319, R325): as master, Sync and Announce. -/
def evPtpSyncSend (dt : Nat) (p : Port) : Chip → Chip := reach dt fun c =>
  if (ptpPort c p).st != .master then c
  else sendEvent p 0 (emit (.ptp p.idx 11 (ptpPort c p).seq c.sup.serial) c)

/-- PTP_ANNOUNCE_TIMEOUT (R330): no master is heard any more. -/
def evPtpAnnounceTimeout (dt : Nat) : Chip → Chip := reach dt fun c =>
  let c := updTime (fun t => { t with diverged := false }) (updPtp .a (fun x => { x with gm := none }) (updPtp .b (fun x => { x with gm := none }) c))
  let c := match c.time.servo with
    | .locked => enterHoldover 0x0820 c
    | .grandmaster => c
    | _ =>
      if mayMaster c then
        record 0x0828 0 [] (updTime (fun t => { t with gmId := c.sup.serial, freq := t.learned }) (setServo .grandmaster c))
      else c
  electPorts c

/-- PTP_SYNC_TIMEOUT (R330). -/
def evPtpSyncTimeout (dt : Nat) : Chip → Chip := reach dt fun c =>
  if c.time.servo = .locked then enterHoldover 0x0820 c else c

/-- PTP_PORT_CHANGED (R319): the PASSIVE port takes over from the SLAVE port without a step. -/
def evPtpPortChanged (dt : Nat) : Chip → Chip := reach dt fun c =>
  let swap := fun (old new : Port) (c : Chip) =>
    let c := updPtp new (fun x => { x with st := .slave, gm := match x.gm with | some g => some g | none => (ptpPort c old).gm }) c
    record 0x0827 0 [] (updPtp old (fun x => { x with st := if linkOf c old then .listening else .faulty, gm := none }) c)
  if c.time.portA.st = .slave ∧ c.time.portB.st = .passive then swap .a .b c
  else if c.time.portB.st = .slave ∧ c.time.portA.st = .passive then swap .b .a c
  else c

/-- HOLDOVER_LONG (R330): once for each holdover. -/
def evHoldoverLong (dt : Nat) (c : Chip) : Chip :=
  let c := pass dt c
  if c.time.servo = .holdover ∧ !c.time.longDone ∧ c.time.holdAt + cfg c 0x5202 5 31 0 * 1000000000 ≤ c.time.clock then
    record 0x0826 0 [] (updTime (fun t => { t with longDone := true }) c)
  else c

/-- FREQ_CORRECTION_SAVE (R334). -/
def evFreqCorrectionSave (dt : Nat) (c : Chip) : Chip :=
  let c := pass dt c
  if c.time.servo = .locked then { c with mem := { c.mem with savedFreq := c.time.learned, savedTcxo := some c.time.tcxo } } else c

/-! ### Rows -/

/-- PTP_SYNC. -/
def execPtpSync (dt : Nat) (p : Port) (t1 t2 : Nat) (seq srcId : Nat) (oneStep : Bool) : State → Host.Outcome State Fault Refusal :=
  lift (evPtpSync dt p t1 t2 seq srcId oneStep)

/-- PTP_DELAY_EXCHANGE. -/
def execPtpDelayExchange (dt : Nat) (p : Port) (t1 t2 t3 t4 : Nat) : State → Host.Outcome State Fault Refusal :=
  lift (evPtpDelayExchange dt p t1 t2 t3 t4)

/-- PTP_DELAY_REQ_SEND. -/
def execPtpDelayReqSend (dt : Nat) (p : Port) : State → Host.Outcome State Fault Refusal := lift (evPtpDelayReqSend dt p)

/-- PTP_PDELAY_REQ_RECEIVED. -/
def execPtpPdelayReqReceived (dt : Nat) (p : Port) (seq srcId t2 : Nat) : State → Host.Outcome State Fault Refusal :=
  lift (evPtpPdelayReqReceived dt p seq srcId t2)

/-- PTP_ANNOUNCE_RECEIVED. -/
def execPtpAnnounceReceived (dt : Nat) (p : Port) (gm : Gm) : State → Host.Outcome State Fault Refusal :=
  lift (evPtpAnnounceReceived dt p gm)

/-- PTP_ANNOUNCE_TIMEOUT. -/
def execPtpAnnounceTimeout (dt : Nat) : State → Host.Outcome State Fault Refusal := lift (evPtpAnnounceTimeout dt)

/-- PTP_SYNC_TIMEOUT. -/
def execPtpSyncTimeout (dt : Nat) : State → Host.Outcome State Fault Refusal := lift (evPtpSyncTimeout dt)

/-- PTP_SYNC_SEND. -/
def execPtpSyncSend (dt : Nat) (p : Port) : State → Host.Outcome State Fault Refusal := lift (evPtpSyncSend dt p)

/-- PTP_TS_MISSING. -/
def execPtpTsMissing (dt : Nat) (p : Port) : State → Host.Outcome State Fault Refusal := lift (evPtpTsMissing dt p)

/-- PTP_PORT_CHANGED. -/
def execPtpPortChanged (dt : Nat) : State → Host.Outcome State Fault Refusal := lift (evPtpPortChanged dt)

/-- HOLDOVER_LONG. -/
def execHoldoverLong (dt : Nat) : State → Host.Outcome State Fault Refusal := lift (evHoldoverLong dt)

/-- FREQ_CORRECTION_SAVE. -/
def execFreqCorrectionSave (dt : Nat) : State → Host.Outcome State Fault Refusal := lift (evFreqCorrectionSave dt)

/-- PTP_DELAY_REQ_RECEIVED. -/
def execPtpDelayReqReceived (dt : Nat) (p : Port) (seq srcId t4 : Nat) : State → Host.Outcome State Fault Refusal :=
  lift (evPtpDelayReqReceived dt p seq srcId t4)

end Sys2Proof.Machine
end

