-- ==== Sys2Proof/Machine/Throw.lean ====
section
/-! DEFINITION. The points throw (chapter 6): which staged items of two sets differ, their TRANSITION and its end, what a throw
refuses, its preparation, its attempts and the switch itself with all that passes from the old set to the new one, and the rollback. -/
namespace Sys2Proof.Machine

open Sys2Proof

/-! ### Engines and domains of a set (R11, R29, R474, R509) -/

/-- Place of a CE in a set. -/
def placeCe (cs : ConfigSet) (n : Nat) : EngSt := if ceActiveIn cs n then .active else if domOff cs (2 + n / 12) then .off else .reserve

/-- Place of an SE in a set. -/
def placeSe (cs : ConfigSet) (e : Nat) : EngSt := if seActiveIn cs e then .active else if domOff cs (4 + e / 4) then .off else .reserve

/-- An engine after a change of placement: one that failed, is fenced or stands in for another keeps its state. -/
def placed (m : Map Engine) (n : Nat) (st : EngSt) : Engine :=
  let e := Map.getD m n {}
  match e.st with
  | .failed => e
  | .fenced => e
  | _ => if m.any (fun x => x.2.subBy == some n) then e else { e with st := st }

/-- The CEs take the places of the main set; one that failed and is to be active is substituted (R21). -/
def placeCes (c : Chip) : Chip :=
  let old := c.hlth.ce
  let c := { c with hlth := { c.hlth with ce := (List.range 24).foldl (fun m n => Map.put m n (placed old n (placeCe c.sets.main n))) old } }
  forAll (List.range 24) (fun n c =>
    when (placeCe c.sets.main n == .active && (ceEng c n).st == .failed && (ceEng c n).subBy.isNone) (substCe n 0) c) c

/-- The SEs that the main set has active leave the reserve (R160 item 7). -/
def wakeSes (c : Chip) : Chip :=
  forAll (List.range 8) (fun e c =>
    when (placeSe c.sets.main e == .active && (seEng c e).st == .reserve) (updSe e (fun x => { x with st := .active })) c) c

/-- The SEs take the places of the main set. -/
def placeSes (c : Chip) : Chip :=
  let old := c.hlth.se
  { c with hlth := { c.hlth with se := (List.range 8).foldl (fun m n => Map.put m n (placed old n (placeSe c.sets.main n))) old } }

/-- The domains named in DOMAIN_OFF go off and the others of the list come back (R474). -/
def placeDomains (c : Chip) : Chip :=
  forAll [2, 3, 4, 5, 8, 11] (fun d c =>
    let off := domOff c.sets.main d
    match Map.getD c.hlth.dom d .off, off with
    | .on, true =>
      let c := setDom d .offByMode c
      if d = 11 then displayLost c else if d = 4 ∨ d = 5 then forAll (List.range 4) (fun i => updSe (4 * (d - 4) + i) (fun x => { x with st := .off })) c
      else c
    | .offByMode, false =>
      let c := setDom d .on c
      if d = 11 then displayReturn c
      else if d = 4 ∨ d = 5 then
        forAll (List.range 4) (fun i => updSe (4 * (d - 4) + i) (fun x => { x with st := placeSe c.sets.main (4 * (d - 4) + i) })) c
      else c
    | _, _ => c) c

/-! ### Staged items (R160) -/

/-- The staged items in table order, with their objects. -/
def stagedItems : List (Nat × Nat) :=
  [(1, 0), (2, 0), (3, 0)] ++ (List.range 4).map (fun i => (4, i)) ++ (List.range 24).map (fun i => (5, i))
    ++ (List.range 8).map (fun i => (6, i)) ++ [(7, 0), (8, 1)]

/-- The parameter words of a staged item. -/
def stagedWords (i : Nat × Nat) : List (Nat × Nat) :=
  match i.1 with
  | 1 => [(0x2000, 1)] | 2 => [(0x5200, 1), (0x5200, 2), (0x5200, 3)] | 3 => [(0x5000, 1)]
  | 4 => [(0x4010 + i.2, 1), (0x4010 + i.2, 2), (0x4010 + i.2, 3)]
  | 5 => [(0x3000 + i.2, 1)] | 6 => [(0x3020 + i.2, 1)] | 7 => [(0x6000, 1)] | _ => [(0x7400 + i.2, 2)]

/-- The staged bits of a word. -/
def stagedMask (ix sub : Nat) : Nat :=
  match paramAt ix sub with
  | some w => (w.fields.filter (fun f => f.kind == .stg)).foldl (fun a f => a + (2 ^ (f.hi + 1 - f.lo) - 1) * 2 ^ f.lo) 0
  | none => 0

/-- The staged items that differ between two sets, in table order. -/
def stagedDiff (a b : ConfigSet) : List (Nat × Nat) :=
  stagedItems.filter (fun i =>
    (stagedWords i).any (fun w => ((setWord a w.1 w.2 ^^^ setWord b w.1 w.2) &&& stagedMask w.1 w.2) != 0))

/-- STAGED_DIFF: bit n − 1 for the item of order n (R429). -/
def stagedBits (l : List (Nat × Nat)) : Nat :=
  (List.range 8).foldl (fun a n => a + b01 (l.any (fun i => i.1 == n + 1)) * 2 ^ n) 0

/-- A set with the staged bits of the given items taken from another set. -/
def withStaged (items : List (Nat × Nat)) (src cs : ConfigSet) : ConfigSet :=
  (items.flatMap stagedWords).foldl (fun cs w =>
    let m := stagedMask w.1 w.2
    let v := setWord cs w.1 w.2
    { cs with words := Map.put cs.words (w.1 * 256 + w.2) (v - (v &&& m) + (setWord src w.1 w.2 &&& m)) }) cs

/-- Longest settling time of an item, in ns, at the tick period in force. -/
def settleNs (c : Chip) (item : Nat) : Nat :=
  match item with
  | 1 => 20 * tTick c * 1000 | 2 => 60000000000 | 3 => 500000000 | 4 => 100000000 | 5 => 500000000 | 6 => 200000000
  | 7 => 10000 * tTick c * 1000 | _ => 10000000000

/-- Enabled stations show TRANSITION and count good exchanges. -/
def stationsTransition (c : Chip) : Chip :=
  forAll (enabledStations c.sets.main) (fun st => updStation st (fun x => { x with st := .transition, settle := 0 })) c

/-- The tick period of the main set takes effect at a boundary, which keeps its instant and takes its number in the new period (R31, R35,
R36). -/
def newTick (c : Chip) : Chip :=
  let old := c.tt.tn
  let us := tTick c
  let c := { c with tt := { c.tt with tickCode := cfg c 0x2000 1 2 0 } }
  let tn := old * us / tTick c
  let c := { c with tt := { c.tt with tn := tn }, sets := { c.sets with mainTn := tn }, net := { c.net with outTn := none, cutTn := none } }
  record 0x0410 0x0300 (w64 old ++ w64 tn) c

/-- An item enters TRANSITION: its substitute is shown (R160). -/
def beginItem (i : Nat × Nat) (c : Chip) : Chip :=
  let c := record 0x0350 0x0300 [i.1, i.2]
    { c with sets := { c.sets with trans := c.sets.trans.filter (fun e => (e.1, e.2.1) != i) ++ [(i.1, i.2, c.time.clock)] } }
  match i.1 with
  | 1 => stationsTransition c
  | 2 => electPorts (updPtp .a (fun x => { x with gm := none, delay := none }) (updPtp .b (fun x => { x with gm := none, delay := none })
      (enterHoldover 0x0820 c)))
  | 3 => stationsTransition { c with net := { c.net with mode := 3 } }
  | 4 => updCan i.2 (fun h => { h with st := if h.st = .off then .off else .transition }) c
  | 5 => updAi i.2 (fun a => { a with trans := true }) c
  | 6 => updAo i.2 (fun a => { a with trans := true }) c
  | 7 => wakeSes c
  | _ => refreshPanels (updPanel i.2 (fun x => { x with trans := true, identified := false }) (allUnknown i.2 c))

/-- A job of the engine placement before the last change is still there: it was submitted under another HOME_SE or ALT_SE, or runs on an
engine that is to become the reserve. -/
def oldPlacement (c : Chip) : Bool :=
  c.slots.any (fun p =>
    (p.2.st == .checking || p.2.st == .queued || p.2.st == .running)
      && (p.2.home != homeOf c.sets.main p.1 || p.2.alt != altOf c.sets.main p.1
          || (p.2.st == .running && placeSe c.sets.main p.2.runSe == .reserve)))

/-- The part of an item's success condition that the model's state shows; the rest the event STAGED_SETTLED reports (R160). -/
def itemSettled (c : Chip) (i : Nat × Nat) : Bool :=
  match i.1 with
  | 1 => (enabledStations c.sets.main).all (fun st => decide (8 ≤ (station c st).settle))
  | 2 => c.time.servo == .locked
  | 3 => (enabledStations c.sets.main).all (fun st => decide (8 ≤ (station c st).settle))
  | 7 => !oldPlacement c
  | 8 =>
    (panel c i.2).identified && !c.disp.queue.any (fun r => r.panel == i.2) && !c.disp.started.any (fun r => r.panel == i.2)
  | _ => true

/-- Stations leave TRANSITION once neither the tick period nor the port mode is in it. -/
def stationsSettle (c : Chip) : Chip :=
  if c.sets.trans.any (fun e => e.1 == 1 || e.1 == 3) then c
  else
    forAll ((enabledStations c.sets.main).filter (fun st => (station c st).st == .transition))
      (fun st => updStation st (fun x => { x with st := .ok, miss := 0, useSub := false })) c

/-- An item has settled: its substitute ends (R160). -/
def endItem (i : Nat × Nat) (c : Chip) : Chip :=
  let c := { c with sets := { c.sets with trans := c.sets.trans.filter (fun e => (e.1, e.2.1) != i) } }
  let c := match i.1 with
    | 1 => stationsSettle c
    | 3 => stationsSettle { c with net := { c.net with mode := cfg c 0x5000 1 1 0 } }
    | 4 => if (canCh c i.2).st = .transition then updCan i.2 (fun h => { h with st := canLive c i.2 h }) (canStart i.2 c) else c
    | 5 => hartStart i.2 (updAi i.2 (fun a => { a with trans := false }) c)
    | 6 =>
      let c := updAo i.2 (fun a => { a with trans := false }) c
      hartStart (24 + i.2) (pushAo i.2 (ao c i.2).committed c)
    | 7 => placeSes c
    | 8 => refreshPanels (updPanel i.2 (fun x => { x with trans := false }) c)
    | _ => c
  record 0x0351 0x0300 [i.1, i.2] c

/-! ### Forces at a throw (R157, R158) -/

/-- Type and element count of a variable of a set: declared as input or output, or of an image. -/
def varInfo (cs : ConfigSet) (id : Nat) : Option (Ty × Nat) :=
  let ins := (tasksOf cs).flatMap (fun t => (inDecls cs t).map (fun d => (d.varId, d.ty, d.elems)))
  let outs := (tasksOf cs).flatMap (fun t => (outDecls cs t).map (fun d => (d.varId, d.ty, d.elems)))
  let vars := (cs.images.flatMap (·.vars)).map (fun v => (v.id, v.loc.ty, v.elems))
  ((ins ++ outs ++ vars).find? (fun e => e.1 == id)).map (·.2)

/-- A task declares a variable as input, or as output. -/
def declaresVar (cs : ConfigSet) (id t : Nat) (outs : Bool) : Bool :=
  if outs then (outDecls cs t).any (fun d => d.varId == id) else (inDecls cs t).any (fun d => d.varId == id)

/-- A class S task declares the variable (R156). -/
def classSVar (cs : ConfigSet) (id : Nat) : Bool :=
  (tasksOf cs).any (fun t => clsIn cs t == .s && (declaresVar cs id t false || declaresVar cs id t true))

/-- A force that meets R156: set by the SERVICE role, to end within 8 h. -/
def meetsS (f : Force) : Bool := f.svc && (match f.expiry with | some t => decide (t ≤ f.setAt + 28800000000) | none => false)

/-- What a throw makes of a force: none when it is dropped (R157). -/
def forceAfter (old new : ConfigSet) (f : Force) : Option Force :=
  if (varInfo new f.varId).isNone || varInfo new f.varId != varInfo old f.varId then none
  else
    let s := classSVar new f.varId
    if s && !meetsS f then none
    else
      let acts := (tasksOf new).any (fun t => declaresVar new f.varId t (f.fkind == 1))
      some { f with flags := b01 s + b01 (!acts) * 2 }

/-- The forces that a throw would drop. -/
def droppedForces (old new : ConfigSet) (fs : List Force) : List Force := fs.filter (fun f => (forceAfter old new f).isNone)

/-- A task whose image differs between two sets declares the variable (R158). -/
def imageDiffers (a b : ConfigSet) (id : Nat) : Bool :=
  (List.range 256).any (fun t =>
    (imageOf a t).id != (imageOf b t).id
      && ((clsIn a t != .none && (declaresVar a id t false || declaresVar a id t true))
          || (clsIn b t != .none && (declaresVar b id t false || declaresVar b id t true))))

/-- A force on the variable is affected by a throw from one set to another (R158). -/
def affected (old new : ConfigSet) (f : Force) : Bool := (forceAfter old new f).isNone || imageDiffers old new f.varId

/-- Words of a record about a force (R508): session 0xFF when the module acted. -/
def forceWords (f : Force) (sess n : Nat) : List Nat := w64 f.varId ++ [f.elem, f.fkind, sess, n]

/-! ### What passes from the old set to the new one (R153) -/

/-- Sample period P of a task of a set in µs, as compatibility timers count it (R121). -/
def taskPeriod (cs : ConfigSet) (t : Nat) : Nat := tfld cs t 2 31 0 * setTick cs

/-- The task and the entry that hold an instance in a set. -/
def instHolder (cs : ConfigSet) (id : Nat) : Option (Nat × InstEntry) :=
  (instTasks cs id).findSome? (fun t => ((imageOf cs t).insts.find? (fun e => e.id == id)).map (fun e => (t, e)))

/-- State of an instance of the new set, with the record its transfer makes. ACC never exceeds the pt of the last evaluation, so the
smaller of the two in R153 is the whole periods in ACC. -/
def passInst (old new : ConfigSet) (c : Chip) (t : Nat) (e : InstEntry) : List Byte × Option Nat :=
  let init := instInit new e.opcode (bit e.iflags 4) (bit e.iflags 3) e.id e.bytes
  match instHolder old e.id with
  | none => (init, none)
  | some (u, o) =>
    if o.opcode != e.opcode then (init, some 0x0330)
    else
      let b := taskInst old (task c u) o
      if 0x0701 ≤ e.opcode ∧ e.opcode ≤ 0x0705 then
        let r := renumber new e b
        let f := fld r 16 1
        (r.take 16 ++ leBytes 1 (f % 16 + f / 32 * 32) ++ r.drop 17, none)
      else if 0x0801 ≤ e.opcode ∧ e.opcode ≤ 0x0803 then
        let p := taskPeriod new t
        (leBytes 4 (fld b 0 4 / p * p) ++ b.drop 4, if taskPeriod old u = p then none else some 0x0331)
      else (padTo e.bytes b, none)

/-- Bytes of an output of the new set: last committed by a task of the old set that declares it, with the safe value of an output that
only the new set declares. -/
def passOut (old : ConfigSet) (c : Chip) (safe : Mem) (d : OutDecl × Nat) : List Byte × Bool :=
  let n := d.1.ty.size * d.1.elems
  let from_ := (tasksOf old).findSome? (fun u =>
    ((outLayout 0 (outDecls old u)).find? (fun o => o.1.varId == d.1.varId && o.1.ty == d.1.ty && o.1.elems == d.1.elems)).map (fun o => (u, o.2)))
  match from_ with
  | some (u, o) => (Mem.rdN (task c u).committed o n, true)
  | none => (Mem.rdN safe d.2 n, false)

/-- A task of the new set (R78, R79, R153). `c` is still the block under the old set, `safe` the new safe staging. -/
def passTask (old new : ConfigSet) (c : Chip) (safe : Mem) (t : Nat) : Task :=
  let k := task c t
  let was := clsIn old t != .none
  let e := clsIn new t == .e
  let com := (outLayout 0 (outDecls new t)).foldl (fun m d => Mem.wrN m d.2 (passOut old c safe d).1) []
  { st := if !inRun c then .halted else if was && k.st == .suspended then .suspended else .idle
    ovrTotal := k.ovrTotal, lastResp := k.lastResp, maxResp := k.maxResp, evtLost := k.evtLost
    evtPend := if e then k.evtPend else 0, evtCount := if e then k.evtCount else 0
    evtNew := if e then k.evtNew else 0, evtNewN := if e then k.evtNewN else 0, evtTn := if e then k.evtTn else none
    committed := com, atSafe := was && k.atSafe
    loc := if was && (imageOf old t).id == (imageOf new t).id then k.loc else Map.getD new.initLoc t []
    insts := (instsOf new t).foldl (fun m i => Map.put m i.id (passInst old new c t i).1) []
    firstRun := was && k.firstRun, firstThrow := true }

/-- Variables in GLB of a set, once each. -/
def glbVars (cs : ConfigSet) : List VarEntry :=
  (cs.images.flatMap (·.vars)).foldl (fun l v => if v.loc.sp != .glb || l.any (fun w => w.id == v.id) then l else l ++ [v]) []

/-- The variable in GLB that a variable of the new set continues. -/
def glbSource (old : ConfigSet) (v : VarEntry) : Option VarEntry := (glbVars old).find? (fun w => w.id == v.id)

/-- Same TYPE and ELEMS. -/
def sameVar (v w : VarEntry) : Bool := v.loc.ty == w.loc.ty && v.elems == w.elems

/-- GLB of the new set. -/
def passGlb (old new : ConfigSet) (glb : Mem) : Mem :=
  (glbVars new).foldl (fun m v =>
    match glbSource old v with
    | some w => if sameVar v w then Mem.wrN m v.loc.addr (Mem.rdN glb w.loc.addr (v.elems * v.loc.ty.size)) else m
    | none => m) new.initGlb

/-- The retain directory of the new set: blocks that survive keep their validity (R18, R146). -/
def passDir (new : ConfigSet) (cur : RetDir) : RetDir :=
  { setId := new.setId, crcOk := true
    entries := (retBlocks new).map (fun r =>
      { blockId := r.1.blockId, sig := r.1.sig, off := r.1.off, bytes := r.1.bytes
        valid := ((cur.entries.find? (fun e => e.blockId == r.1.blockId)).map (·.valid)).getD true }) }

/-- Writes the alternate retain directory. -/
def setAltDir (d : RetDir) (c : Chip) : Chip :=
  if c.mem.selDir = 0 then { c with mem := { c.mem with dir1 := d } } else { c with mem := { c.mem with dir0 := d } }

/-- Hardware timer events of the new set: an event used for a START stays used (R120). -/
def passTimers (new : ConfigSet) (old : Map HwTimer) : Map HwTimer :=
  (List.range new.timers.length).foldl (fun m n =>
    let e := new.timers.getD n (0, 0)
    match old.find? (fun x => x.2.inst == e.1 && x.2.used.isSome) with
    | some x => Map.put m n { inst := e.1, task := e.2, used := x.2.used }
    | none => m) []

/-- A problem slot at a throw (R210, R225). -/
def passSlot (old new : ConfigSet) (s : Nat) (c : Chip) : Chip :=
  let a := descOf old s
  let b := descOf new s
  if a = b then c
  else
    match a, b with
    | some d, some e =>
      if d.descId = e.descId then updSlot s (fun x => { x with factor := false })  c
      else clearSlot s c
    | _, _ => clearSlot s c

/-- The CAN channels at a throw (R296). -/
def passCan (old new : ConfigSet) (tn : Nat) (c : Chip) : Chip :=
  forAll (List.range 4) (fun ch c =>
    let c := forAll ((canCh c ch).tx.filter (fun b => b.2.st == 1 && decide (tn < b.2.armTn))) (fun b c =>
      record 0x0731 (0x0B00 + ch) [] (canFinal ch b.1 4 0 (updTx ch b.1 (fun x => { x with held := none }) c))) c
    let c := updCan ch (fun h => { h with objs := h.objs.filter (fun o =>
      [1, 2, 3].all (fun i => setWord old (objIx ch o.1) i == setWord new (objIx ch o.1) i)) }) c
    if setWord old (0x4000 + ch) 1 = setWord new (0x4000 + ch) 1 then c
    else if (canBusy c ch).isSome then updCan ch (fun h => { h with setDue := true }) c
    else canApply ch c) c

/-- The stations at a throw (R315). -/
def passStations (old new : ConfigSet) (c : Chip) : Chip :=
  forAll (List.range 64) (fun st c =>
    if [1, 2, 3, 4, 5, 6].all (fun i => setWord old (0x5100 + st) i == setWord new (0x5100 + st) i) then c
    else
      updStation st (fun x => { x with
        st := if setBit new (0x5100 + st) 1 31 then .starting else .disabled
        useSub := true, miss := 0, good := 0, last := none, settle := 0, now := none }) c) c

/-- Digital channels at a throw (R254, R258, R263, R266, R269). -/
def passDigital (old new : ConfigSet) (c : Chip) : Chip :=
  let c := forAll (List.range 32) (fun ch c =>
    if setWord old (0x3100 + ch) 1 = setWord new (0x3100 + ch) 1 then c
    else updDi ch (fun d =>
      let d := if setBit new (0x3100 + ch) 1 0 && !setBit old (0x3100 + ch) 1 0 then
          { d with c := 0, y := false, tUp := 0, tDn := 0, tsRise := 0, tsFall := 0 } else d
      { d with
        c := Nat.min d.c (setFld new (0x3100 + ch) 1 15 6)
        caught := if setBit new (0x3100 + ch) 1 1 then d.caught else none }) c) c
  forAll (List.range 24) (fun ch c =>
    let w := fun (cs : ConfigSet) => (setBit cs (0x3140 + ch) 1 0, setBit cs (0x3140 + ch) 1 14)
    updDo ch (fun d =>
      let d := if w old = w new then d else { d with lo := 0, hi := 0, devCnt := 0, loadDev := false, learn := none }
      let d := { d with latched := d.latched && setBit new (0x3140 + ch) 1 12 }
      if setBit new (0x3140 + ch) 1 0 then d else { d with cmd := false, closed := false, pulse := false, onSince := none }) c) c

/-- HART channels whose first poll entries come with a throw start (R244). -/
def passHart (old : ConfigSet) (c : Chip) : Chip :=
  let was := { c with sets := { c.sets with main := old } }
  forAll (List.range 32) (fun h => when (nextPoll was h 15).isNone (hartStart h)) c

/-- The display at a throw (R391): every field of the new layouts is rendered. -/
def passDisplay (old new : ConfigSet) (c : Chip) : Chip :=
  refreshPanels (forAll [0, 1] (fun p c =>
    let c := when (Map.find old.layouts p != Map.find new.layouts p)
      (updPanel p (fun x => { x with rendered := [], written := [] })) c
    when (panelEn c p) (renderAll p) c) c)

/-- Thyme at a throw (R448, R451): buckets of changed codes start full, a changed configuration takes effect. -/
def passThyme (old new : ConfigSet) (c : Chip) : Chip :=
  let c := { c with thy := { c.thy with buckets := c.thy.buckets.filter (fun b =>
    policyWord old b.1 % 2 ^ 24 == policyWord new b.1 % 2 ^ 24) } }
  let l := setBit new 0x70FF 1 0
  if l == c.thy.large then c
  else record 0x0A03 0x0300 [] { c with thy := { c.thy with large := l, vol := if l then c.thy.vol else c.thy.vol.take 8192 } }

/-- Comparators keep their settings until step 1 of the next boundary (R461). -/
def passComparators (old : ConfigSet) (c : Chip) : Chip :=
  { c with cnt := { c.cnt with cmpOver := (List.range 32).map (fun k => (k, comparator old c.cnt.cmpOver k)) } }

/-- Outputs that only the old set declares, with the bytes they hold; station outputs released earlier stay at their safe values until
another output takes their place (R153). -/
def passReleased (old new : ConfigSet) (c : Chip) : List (OutDecl × Option (List Byte)) :=
  let has := fun (d : OutDecl) => (tasksOf new).any (fun t => declaresVar new d.varId t true)
  let gone := (tasksOf old).flatMap (fun t =>
    let src := if (task c t).atSafe then safeBytes c t else (task c t).committed
    ((outLayout 0 (outDecls old t)).filter (fun d => !has d.1)).map (fun d => (d.1, some (Mem.rdN src d.2 (d.1.ty.size * d.1.elems)))))
  c.sets.release.filter (fun d => !has d.1) ++ gone

/-- An output channel is declared by a task of the main set. -/
def outTaken (c : Chip) (d : Dst) : Bool := (usedTasks c).any (fun t => (outDecls c.sets.main t).any (fun o => o.dst == d))

/-- At the boundary after a throw the outputs that only the old set declared take their safe values (R153). -/
def releaseOuts (c : Chip) : Chip :=
  if c.tt.tn != c.sets.mainTn + 1 then c
  else
    let l := c.sets.release.filter (fun d => d.2.isSome)
    let stays := c.sets.release.filter (fun d => match d.1.dst with | .station _ _ => true | _ => false)
    let c := { c with sets := { c.sets with release := stays.map (fun d => (d.1, none)) } }
    forAll l (fun d c =>
      let c := record 0x0333 0x0300 (w64 d.1.varId) c
      if outTaken c d.1.dst then c
      else
        match d.1.dst with
        | .ao ch => pushAo ch.val (aoSafe c ch.val) c
        | .dout ch => pushDo ch.val (doSafe c ch.val) c
        | .station _ _ => c) c

/-! ### The switch (R148 steps 4 to 9) -/

/-- Class B jobs of the old set are discarded, but that a flush runs to its end (R514); pending events of a task that is not class E in the new set dropped (R79). -/
def dropForThrow (old new : ConfigSet) (c : Chip) : Chip :=
  let c := forAll (tasksOf old) (fun t c =>
    match (task c t).job with | some j => if j.done then finishJob t j c else recTask 0x0406 t j.tn c | none => c) c
  forAll (tasksOf old) (fun t c =>
    when (((task c t).evtPend ||| (task c t).evtNew) != 0 && clsIn new t != .e) (recTask 0x0406 t c.tt.tn) c) c

/-- Records what the transfer of instances, variables and forces changes (R153, R157). -/
def recordTransfer (old new : ConfigSet) (c : Chip) : Chip :=
  let c := forAll (tasksOf new) (fun t c =>
    forAll (instsOf new t) (fun e c =>
      match (passInst old new c t e).2 with | some code => record code 0x0300 (w64 e.id) c | none => c) c) c
  let c := forAll (glbVars new) (fun v c =>
    match glbSource old v with | some w => when (!sameVar v w) (record 0x0332 0x0300 (w64 v.id)) c | none => c) c
  let c := forAll (droppedForces old new c.sets.forces) (fun f => record 0x0342 0x0300 (forceWords f 0xFF 1)) c
  forAll (retGone new (curDir c)) (fun e => retRecord 0x0234 e.blockId) c

/-- The selector word names the other set and directory (R144). -/
def flipSelector (c : Chip) : Chip :=
  { c with mem := { c.mem with selMain := c.mem.selSide, selSide := c.mem.selMain, selDir := c.mem.selDir + 1 } }

/-- On-board outputs that only the new set declares take their safe values, in RUN (R153). -/
def pushNewOuts (old : ConfigSet) (c : Chip) : Chip :=
  if !inRun c then c
  else
    let has := fun (d : OutDecl) => (tasksOf old).any (fun t => declaresVar old d.varId t true)
    forAll (usedTasks c) (fun t c =>
      pushOuts ((outLayout 0 (outDecls c.sets.main t)).filter (fun d => !has d.1)) (task c t).committed c) c

/-- The set after the switch: of a rollback, the old set with the staged items still as they are (R161). -/
def throwTarget (main side : ConfigSet) (rollback : Bool) : ConfigSet :=
  if rollback then withStaged (stagedDiff side main) main side else side

/-- Everything that follows the main set is brought to the new one. -/
def followSet (old new : ConfigSet) (c : Chip) : Chip :=
  let c := forAll (List.range 64) (passSlot old new) c
  let c := passDisplay old new (passHart old (passDigital old new (passStations old new (passCan old new c.tt.tn c))))
  let c := placeCes (placeDomains c)
  let c := forAll (List.range 24) (fun ch => updAi ch id) (forAll (List.range 8) (fun ch => updAo ch id) c)
  let c := forAll (List.range 3) refreshGroup c
  let c := if setFld old 0x5300 1 2 0 != setFld new 0x5300 1 2 0 then { c with sets := { c.sets with roleDue := true } } else c
  passThyme old new c

/-- The next staged item of a rollback reverts towards its old value (R161). -/
def beginRevert (c : Chip) : Chip :=
  match c.sets.revert, c.sets.revertTo with
  | i :: r, some old =>
    let c := { c with sets := { c.sets with revert := r, main := withStaged [i] old c.sets.main } }
    let c := if i.1 = 1 then { c with tt := { c.tt with tickCode := cfg c 0x2000 1 2 0, rederive := true } } else c
    beginItem i c
  | _, _ =>
    let bad := c.sets.revertBad
    let c := { c with sets := { c.sets with rollback := false, revertTo := none, revertBad := false } }
    if bad then c else record 0x0353 0x0300 [] c

/-- The throw takes effect (R148 steps 4 to 9). -/
def throwNow (c : Chip) : Chip :=
  match c.sets.side with
  | none => c
  | some side =>
    let old := c.sets.main
    let back := c.sets.rollback
    let new := throwTarget old side back
    let tn := c.tt.tn
    let drops := droppedForces old new c.sets.forces
    let items := stagedDiff old side
    let c := recordTransfer old new (dropForThrow old new c)
    let rel := passReleased old new c
    let c1 := { c with sets := { c.sets with main := new } }
    let tasks := (tasksOf new).foldl (fun m t => Map.put m t (passTask old new c (safeBytes c1 t) t)) []
    let dir := passDir new (curDir c)
    let c := passComparators old c
    let c := flipSelector (setAltDir dir { c with
      tasks := tasks
      mem := { c.mem with glb := passGlb old new c.mem.glb }
      tt := { c.tt with hwTimers := passTimers new c.tt.hwTimers }
      sets := { c.sets with
        main := new, side := some old, siding := .held, named := false, attempt := false, throwTn := 0, caughtUp := false, doneTn := none
        forces := c.sets.forces.filterMap (forceAfter old new), release := rel, mainTn := tn, trans := if back then [] else c.sets.trans
        revert := if back then items.reverse else [], revertTo := if back then some side else none, revertBad := false }
      pair := { c.pair with setDirty := true, baseOwed := true } })
    let c := bump 0x017 (followSet old new (armAll tn (pushNewOuts old c)))
    let c := if back then c
      else forAll items (fun i c => if i.1 = 1 then beginItem i (newTick c) else beginItem i c) (if items.any (fun i => i.1 == 7) then c else placeSes c)
    let c := record 0x0320 0x0300 ([old.setId % 2 ^ 32, new.setId % 2 ^ 32] ++ w64 tn) c
    let c := endThrow 0 old.setId new.setId tn (if back then 0 else stagedBits items) drops c
    if back then beginRevert c else c

/-! ### Preparation and attempts (R148, R150 to R152) -/

/-- The retained blocks of the siding set that the main set does not hold get their initial contents, and the alternate directory is
written (R146). -/
def prepareRetained (c : Chip) : Chip :=
  match c.sets.side with
  | none => c
  | some side =>
    let olds := retBlocks c.sets.main
    let c := forAll ((retBlocks side).filter (fun r => !olds.any (fun o => o.1.blockId == r.1.blockId)))
      (fun r => memWrite true r.1.off (retInit r)) c
    setAltDir (passDir side (curDir c)) c

/-- PREPARATION_DONE (R148 step 1). -/
def evPreparationDone (dt : Nat) (c : Chip) : Chip :=
  let c := pass dt c
  if c.sets.siding != .preparing then c
  else
    let c := prepareRetained c
    { c with sets := { c.sets with siding := .named, chgOld := 0 } }

/-- The throw of the siding set is named for a boundary, which a change of the tick period moves to the next multiple of both periods
(R36, R148 step 1). -/
def nameThrow (tn : Nat) (fBlock rollback : Bool) (origin : Option (Nat × Nat)) (c : Chip) : Chip :=
  match c.sets.side with
  | none => c
  | some side =>
    let us := tTick c
    let m := if rollback then 1 else Nat.lcm us (setTick side) / us
    let tn' := cdiv tn m * m
    let c := when (tn' != tn) (record 0x0322 0x0300 []) c
    { c with sets := { c.sets with
      named := true, throwTn := tn', fBlock := fBlock, rollback := rollback, origin := origin, postponed := 0, attempt := false
      caughtUp := false, doneTn := none, toHeld := c.sets.siding == .held, siding := if rollback then .named else .preparing
      chgOld := if rollback then c.sets.chgOld else 0 } }

/-- The 100th postponement ends the throw; that of a rollback leads to TRIP (R152, R161). -/
def throwTimeout (c : Chip) : Chip :=
  let tn := c.sets.throwTn
  let back := c.sets.rollback
  let c := unnameThrow c
  if back then tripSequence (record 0x0354 0x0300 [] c)
  else endThrow 0x0402 c.sets.main.setId (sidingId c) tn 0 [] (record 0x0324 0x0300 [] c)

/-- The attempt is postponed to the next boundary (R150). -/
def postpone (cause : Nat) (c : Chip) : Chip :=
  let n := c.sets.postponed + 1
  let c := { c with sets := { c.sets with attempt := false, caughtUp := false, doneTn := none, postponed := n } }
  let c := bump 0x016 (record 0x0321 0x0300 [cause] c)
  if n = 100 then throwTimeout c
  else { c with sets := { c.sets with throwTn := c.tt.tn + 1 } }

/-- t_cu exceeds C_throw (R149), in units of 1/32,000 µs. -/
def catchupOver (c : Chip) (budget : Nat) : Bool :=
  decide (32000 * budget < 384000 + 768 * (c.sets.chgOld + c.sets.nW) + c.sets.sD)

/-- An affected variable is forced (R158). -/
def forcedAffected (c : Chip) : Bool :=
  match c.sets.side with
  | some side => c.sets.forces.any (affected c.sets.main side)
  | none => false

/-- The postponement cause at an attempt, if one applies (R150). -/
def postponeCause (c : Chip) : Option Nat :=
  if c.sets.siding = .preparing then some 1
  else if c.hlth.substNow then some 2
  else if (usedTasks c).any (fun t => (task c t).job.isSome && taskCls c t != .b) then some 3
  else if catchupOver c (live c 0x2020 1 31 0) then some 4
  else if c.sets.fBlock && forcedAffected c then some 7
  else none

/-- The attempt of a named throw at a boundary (R148 step 3, R151). A throw that changes the tick period is cancelled once the module is
in RUN, where a period never changes (R32, R147; log entry 63). -/
def attemptThrow (c : Chip) : Chip :=
  if !c.sets.named || decide (c.tt.tn < c.sets.throwTn) || c.sup.powerFail.isSome then c
  else if inRun c && !c.sets.rollback && (c.sets.side.map setTick).getD (tTick c) != tTick c then cancelThrow 0x0323 c
  else
    let c := bump 0x015 { c with sets := { c.sets with throwTn := c.tt.tn, delayRel := true } }
    match postponeCause c with
    | some k => postpone k c
    | none => { c with sets := { c.sets with attempt := true } }

/-- Instant in ns by which the attempt must have finished. -/
def throwLimit (c : Chip) : Nat := bNs c c.sets.throwTn + live c 0x2020 1 31 0 * 1000

/-- A member takes the throw once its own catch-up and the partner's DONE are there in time (R163). -/
def takeThrow (c : Chip) : Chip :=
  if c.sets.attempt && c.sets.caughtUp && decide (c.time.clock ≤ throwLimit c)
    && (!isPair c || c.sets.doneTn == some c.sets.throwTn) then throwNow c
  else c

/-- CATCHUP_DONE (R148 steps 4 and 5, R163). -/
def evCatchupDone (dt : Nat) (c : Chip) : Chip :=
  let c := pass dt c
  if !c.sets.attempt || c.sets.caughtUp || decide (throwLimit c < c.time.clock) then c
  else
    let c := { c with sets := { c.sets with caughtUp := true } }
    takeThrow (when (isPair c) (emit (.done c.sets.throwTn)) c)

/-- THROW_DONE_RECEIVED (R163). -/
def evThrowDoneReceived (dt tn : Nat) (c : Chip) : Chip :=
  let c := pass dt c
  if !isPair c || !c.sets.named then c else takeThrow { c with sets := { c.sets with doneTn := some tn } }

/-- THROW_CATCHUP_LIMIT (R150 causes 5 and 6). -/
def evThrowCatchupLimit (dt : Nat) (c : Chip) : Chip :=
  let c := pass dt c
  if !c.sets.attempt then c
  else
    let c := pass (throwLimit c - c.time.clock) c
    postpone (if c.sets.caughtUp then 6 else 5) c

/-! ### Staged items: settled or not (R160, R161) -/

/-- STAGED_SETTLED (R160): in a rollback the next item follows (R161). -/
def evStagedSettled (dt item obj : Nat) (c : Chip) : Chip :=
  let c := pass dt c
  let i := (item + 1, obj)
  if !c.sets.trans.any (fun e => (e.1, e.2.1) == i) || !itemSettled c i then c
  else
    let c := endItem i c
    if c.sets.revertTo.isSome then beginRevert c else c

/-- The rollback throw of a staged item that did not settle: to the HELD set at the first boundary at least 2 ticks later; in a pair
under the partner's agreement (R161, R162). -/
def startRollback (c : Chip) : Chip :=
  let tn := Nat.max (c.tt.tn + 2) (cdiv (c.time.clock + 2 * tTick c * 1000) (tTick c * 1000))
  if isPair c then
    emit (.proposal (.throw tn false true)) { c with
      sets := { c.sets with rollback := true }
      sup := { c.sup with pairCmds := c.sup.pairCmds ++ [(c.tt.tn, .named tn false true, 0xFF, 0)] } }
  else nameThrow tn false true none c

/-- STAGED_SETTLE_FAIL (R161). An item of a rollback that does not settle back keeps its substitute, and the next one follows. -/
def evStagedSettleFail (dt item obj : Nat) (c : Chip) : Chip :=
  let c := pass dt c
  let i := (item + 1, obj)
  match c.sets.trans.find? (fun e => (e.1, e.2.1) == i) with
  | none => c
  | some e =>
    if c.time.clock < e.2.2 + settleNs c i.1 then c
    else if c.sets.revertTo.isSome then
      beginRevert (record 0x0354 0x0300 [] { c with sets := { c.sets with
        trans := c.sets.trans.filter (fun e => (e.1, e.2.1) != i), revertBad := true } })
    else
      let c := record 0x0352 0x0300 [i.1, i.2] c
      if c.sets.rollback then { c with sets := { c.sets with trans := c.sets.trans.filter (fun e => (e.1, e.2.1) != i) } }
      else startRollback c

/-! ### What a throw command refuses (R147) -/

/-- Refusal of a throw: status, Thyme code, reason of R413. -/
structure ThrowBad where
  status : Nat
  code   : Nat
  reason : Nat := 2
  deriving DecidableEq, Repr

/-- The first refusal of R147 for the options FORCES_BLOCK and STAGED_POLICY, with the checks that are made again before every throw (R95,
R178, R311, R337). -/
def throwBad (c : Chip) (fBlock staged : Bool) : Option ThrowBad :=
  match c.sets.side with
  | none => some { status := 0x0301, code := 0x0210 }
  | some side =>
    let main := c.sets.main
    let items := stagedDiff main side
    let ct := live c 0x2020 1 31 0
    if c.sup.mstate != .run && c.sup.mstate != .stop then some { status := 0x0301, code := 0x0210, reason := 0 }
    else if (c.sets.siding != .loaded && c.sets.siding != .held) || c.sets.named || !c.sets.trans.isEmpty || c.sets.rollback then
      some { status := 0x0301, code := 0x0210 }
    else if !staged && !items.isEmpty then some { status := 0x0301, code := 0x0314 }
    else if items.any (fun i => i.1 == 1) && inRun c then some { status := 0x0301, code := 0x0314, reason := 0 }
    else if cfgRole main != cfgRole side && inRun c then some { status := 0x0301, code := 0x0210, reason := 0 }
    else if fBlock && forcedAffected c then some { status := 0x0301, code := 0x0210, reason := 5 }
    else if !((tasksOf main).all (releaseOk main ct) && (tasksOf side).all (releaseOk side ct)) then some { status := 0x0401, code := 0x0310 }
    else if setTick side < 2 * ct then some { status := 0x0103, code := 0x0311 }
    else (setBad side).map (fun b => { status := b.status, code := b.code })

/-! ### Siding loads (R143, R428, R429) -/

/-- The report of a load that passes its checks (R429). -/
def loadReport (main new : ConfigSet) (forces : List Force) (dir : RetDir) : List Byte :=
  let fs := droppedForces main new forces
  let outs := ((tasksOf main).flatMap (fun t => (outDecls main t).map (·.varId))).eraseDups.filter (fun v =>
    !(tasksOf new).any (fun t => declaresVar new v t true))
  let rets := (retGone new dir).map (·.blockId)
  let n := 16 + 16 * fs.length + 8 * outs.length + 8 * rets.length
  leBytes 4 new.setId ++ leBytes 1 (stagedBits (stagedDiff main new)) ++ leBytes 1 (b01 (decide (4096 < n))) ++ leBytes 2 fs.length
    ++ leBytes 2 outs.length ++ leBytes 2 rets.length ++ leBytes 4 n ++ fs.flatMap forceRef ++ outs.flatMap (leBytes 8)
    ++ rets.flatMap (leBytes 8)

/-- Payload of a load that fails (R429). -/
def loadFailed (code : Nat) (ws : List Nat) : List Byte :=
  leBytes 2 code ++ leBytes 2 0 ++ leBytes 4 (ws.getD 0 0) ++ leBytes 4 (ws.getD 1 0)

/-- A package is taken as the siding set: stored in NAND in the slot that does not hold the main set (R143 steps 2 and 3). -/
def storeSiding (new : ConfigSet) (st : SidingSt) (c : Chip) : Chip :=
  let n := c.mem.selMain + 1
  let c := { c with mem := if n = 0 then { c.mem with nand0 := some new, selSide := n } else { c.mem with nand1 := some new, selSide := n } }
  { c with sets := { c.sets with side := some new, siding := st, load := none } }

/-- The siding set is no more. -/
def clearSiding (c : Chip) : Chip := { c with sets := { c.sets with side := none, siding := .empty, load := none } }

/-- The load completes: LOADED, its report, its record; status and payload of the completion (R143, R429). -/
def loadDone (c : Chip) : List Byte × Chip :=
  match c.sets.side with
  | none => ([], c)
  | some new =>
    let r := loadReport c.sets.main new c.sets.forces (curDir c)
    (r.take 4096, record 0x0300 0x0300 [] { c with sets := { c.sets with siding := .loaded, report := r } })

/-- A load that fails (R143, R510). -/
def loadRefused (b : Bad) (c : Chip) : List Byte × Chip :=
  let p := loadFailed b.code b.words
  (p, record b.code 0x0300 b.words { clearSiding c with sets := { (clearSiding c).sets with report := p } })

/-! ### Rows -/

/-- PREPARATION_DONE. -/
def execPreparationDone (dt : Nat) : State → Host.Outcome State Fault Refusal := lift (evPreparationDone dt)

/-- CATCHUP_DONE. -/
def execCatchupDone (dt : Nat) : State → Host.Outcome State Fault Refusal := lift (evCatchupDone dt)

/-- THROW_CATCHUP_LIMIT. -/
def execThrowCatchupLimit (dt : Nat) : State → Host.Outcome State Fault Refusal := lift (evThrowCatchupLimit dt)

/-- THROW_DONE_RECEIVED: the path it arrives on makes no difference. -/
def execThrowDoneReceived (dt tn : Nat) (_l : Line) : State → Host.Outcome State Fault Refusal := lift (evThrowDoneReceived dt tn)

/-- STAGED_SETTLED. -/
def execStagedSettled (dt : Nat) (item : Fin 8) (obj : Nat) : State → Host.Outcome State Fault Refusal :=
  lift (evStagedSettled dt item.val obj)

/-- STAGED_SETTLE_FAIL. -/
def execStagedSettleFail (dt : Nat) (item : Fin 8) (obj : Nat) : State → Host.Outcome State Fault Refusal :=
  lift (evStagedSettleFail dt item.val obj)

end Sys2Proof.Machine
end

