-- ==== Sys2Proof/Machine/Access.lean ====
section
/-! DEFINITION. The command table of the mailbox (chapter 17): code, minimum role and states of every command (R425), and the payload
of a STATE_REFUSED answer (R413). -/
namespace Sys2Proof.Machine

open Sys2Proof

/-- Roles by their codes (R414): VIEW 0, OPERATE 1, ENGINEER 2, SERVICE 3. States as masks of module state codes: B is 6, S 8, R 16, T 32,
V 64, F 128. Code, role, states of every command (R427 to R434, R437 to R439), those that R393 does not serve in FAULT left out. -/
def cmdTable : List (Nat × Nat × Nat) :=
  [(0x0101, 0, 254), (0x0102, 0, 254), (0x0103, 0, 254), (0x0104, 0, 254), (0x0110, 0, 248), (0x0111, 0, 248), (0x0112, 0, 248),
   (0x0113, 0, 248), (0x0120, 3, 24), (0x0121, 3, 8), (0x0122, 3, 24), (0x0123, 3, 24), (0x0124, 3, 24)]
  ++ [(0x0201, 0, 120), (0x0202, 1, 8), (0x0203, 1, 48), (0x0204, 3, 8), (0x0205, 3, 64), (0x0206, 3, 168)]
  ++ [(0x0301, 2, 24), (0x0302, 2, 24), (0x0303, 2, 24), (0x0304, 2, 24), (0x0305, 2, 24), (0x0306, 2, 24), (0x0307, 0, 120)]
  ++ [(0x0401, 2, 24), (0x0402, 0, 120), (0x0403, 0, 120), (0x0501, 0, 120), (0x0502, 1, 24), (0x0503, 2, 120), (0x0504, 2, 120),
   (0x0505, 0, 120)]
  ++ [(0x0601, 2, 120), (0x0602, 2, 16), (0x0603, 1, 24), (0x0604, 2, 88), (0x0605, 3, 64), (0x0701, 1, 16), (0x0702, 1, 48),
   (0x0703, 0, 120), (0x0704, 1, 120), (0x0705, 0, 120), (0x0801, 0, 120), (0x0802, 0, 120), (0x0803, 2, 8)]
  ++ [(0x0901, 2, 24), (0x0902, 2, 16), (0x0903, 0, 120), (0x0904, 3, 16)]
  ++ [(0x0A01, 0, 248), (0x0A02, 0, 120), (0x0A03, 2, 24), (0x0B01, 1, 120), (0x0B02, 0, 120), (0x0B03, 2, 120), (0x0B04, 2, 120),
   (0x0C01, 0, 120), (0x0C02, 0, 120), (0x0D01, 2, 16), (0x0D02, 2, 8), (0x0D03, 2, 16), (0x0E01, 2, 24), (0x0E02, 3, 8),
   (0x0E03, 3, 120), (0x0F01, 0, 254), (0x0F02, 0, 120), (0x0F03, 0, 248)]

/-- Minimum role of a command. -/
def cmdRole (code : Nat) : Nat := match cmdTable.find? (fun e => e.1 == code) with | some e => e.2.1 | none => 0

/-- States of a command. -/
def cmdStates (code : Nat) : Nat := match cmdTable.find? (fun e => e.1 == code) with | some e => e.2.2 | none => 0

/-- RUN_ROLE codes a command asks for (R434); every one where it names none. -/
def cmdRoles (code : Nat) : Nat := match code with | 0x0D01 => 6 | 0x0D02 => 8 | 0x0D03 => 6 | _ => 31

/-- Payload of a STATE_REFUSED answer (R413). -/
def refusedPayload (code reason : Nat) (c : Chip) : List Byte :=
  leBytes 1 c.sup.mstate.code ++ leBytes 1 c.sup.role.code ++ leBytes 1 c.pair.st.code ++ leBytes 1 reason ++ leBytes 2 (cmdStates code)
    ++ leBytes 1 (cmdRoles code) ++ leBytes 1 c.sets.siding.code ++ leBytes 1 c.time.servo.code ++ [0, 0, 0]

/-- Completion of an accepted command with STATE_REFUSED (R413, R426). -/
def completeRefused (code s tag reason : Nat) (c : Chip) : Chip :=
  complete code s tag 0x0301 (refusedPayload code reason c) (record 0x0210 (0x0800 + s) [] c)

/-- Completes every waiting command of a code with STATE_REFUSED. -/
def refuseAll (code reason : Nat) (c : Chip) : Chip :=
  if c.sup.waiting.any (fun w => w.1 == code) then completeAll code 0x0301 (refusedPayload code reason c) (record 0x0210 0x0300 [] c) else c

end Sys2Proof.Machine
end

