-- ==== Sys2Proof/Machine/Merge.lean ====
section
/-! DEFINITION. What two members of a pair hold against each other (chapter 14): the snapshot of the merged inputs and the merge rules
of R343, the output digest of R344, and the parts of the state that cross in a re-synchronisation, a checkpoint or an adoption. -/
namespace Sys2Proof.Machine

open Sys2Proof

/-- Changes the redundancy engine's state. -/
def updPair (f : Pair → Pair) (c : Chip) : Chip := { c with pair := f c.pair }

/-- SOURCE of a redundancy event: the RDE (R443). -/
def pairUnit : Nat := 0x0600

/-! ### Snapshot and merge (R340, R343) -/

/-- The declaration of a merged variable. -/
def mergeDecl (c : Chip) (id : Nat) : Option InDecl :=
  ((usedTasks c).flatMap (inDecls c.sets.main)).find? (fun d => d.varId == id && d.merged)

/-- Local value and status of a merge entry. -/
def mergeLocal (c : Chip) (e : MergeEntry) : List Byte × Nat := match mergeDecl c e.varId with | some d => srcCap c d | none => ([], 0)

/-- Length of a merge entry's value. -/
def mergeLen (c : Chip) (e : MergeEntry) : Nat := match mergeDecl c e.varId with | some d => d.bytes | none => 0

/-- The snapshot: values, then status bytes, in merge-table order (R340). -/
def snapshotBytes (c : Chip) : List Byte :=
  (c.sets.main.merge.flatMap (fun e => padTo (mergeLen c e) (mergeLocal c e).1))
    ++ c.sets.main.merge.flatMap (fun e => leBytes 1 (mergeLocal c e).2)

/-- The values and statuses that a snapshot carries, in merge-table order. -/
def snapshotRead (c : Chip) (b : List Byte) : List (List Byte × Nat) :=
  let es := c.sets.main.merge
  let n := (es.map (mergeLen c)).sum
  (es.foldl (fun (a : List (List Byte × Nat) × Nat × Nat) e =>
    let k := mergeLen c e
    (a.1 ++ [(piece b a.2.1 k, fld b (n + a.2.2) 1)], a.2.1 + k, a.2.2 + 1)) ([], 0, 0)).1

/-- The mean of two values (R343): integers floored in a 64-bit intermediate, floats rounded to nearest even. -/
def mergeMean (t : Ty) (a b : Nat) : Nat :=
  if t.isF then
    match t.fmt.rat a, t.fmt.rat b with
    | some (n, d), some (m, e) => (t.fmt.roundInt (n * e + m * d) (2 * d * e) (bit a (t.fmt.w - 1) && bit b (t.fmt.w - 1))).1
    | _, _ => (t.fmt.add a b).1
  else
    let s := t.int a + t.int b
    let s := if t.sgn then signed 64 (unsigned 64 s) else (unsigned 64 s : Int)
    unsigned t.width (s / 2)

/-- An operation applied to two values element by element. -/
def elemWise (d : InDecl) (f : Nat → Nat → Nat) (a b : List Byte) : List Byte :=
  (List.range d.elems).flatMap (fun i => leBytes d.ty.size (f (fld a (i * d.ty.size) d.ty.size) (fld b (i * d.ty.size) d.ty.size)))

/-- The operation of MIN, MAX and MEAN. -/
def mergeOp (rule : Nat) (t : Ty) : Nat → Nat → Nat := match rule with | 1 => t.min | 2 => t.max | _ => mergeMean t

/-- A merged value with the partner's heartbeat present: `src` is SRC's value, `oth` the other member's, `a` and `b` those of PAIR_A and
PAIR_B. -/
def mergeBoth (d : InDecl) (rule : Nat) (src oth a b : List Byte × Nat) : List Byte × Nat :=
  match rule with
  | 0 => src
  | 4 => if src.2 = 0 then src else if oth.2 = 0 then oth else src
  | _ =>
    if src.2 = 0 ∧ oth.2 = 0 then (elemWise d (mergeOp rule d.ty) a.1 b.1, 0)
    else if src.2 = 0 then src else if oth.2 = 0 then oth else src

/-- This member is SRC of an entry; for the records of a CAN channel SRC is the member that transmits there (R295, R343). -/
def srcIsOwn (c : Chip) (d : InDecl) (e : MergeEntry) : Bool :=
  match d.src with
  | .canObj ch _ => (canCh c ch.val).txActive
  | .canTx ch => (canCh c ch.val).txActive
  | _ => if e.src = 1 then zslRole c == 1 else zslRole c == 2

/-- Code PARTNER_LOST of R343. -/
def partnerLost : Nat := 0x40

/-- A merge entry's merged value: `p` the partner's value of this tick, `last` the last one received from it. -/
def mergeEntry (c : Chip) (e : MergeEntry) (p last : Option (List Byte × Nat)) : Option (List Byte × Nat) :=
  match mergeDecl c e.varId with
  | none => none
  | some d =>
    let l := srcCap c d
    let own := srcIsOwn c d e
    match p with
    | some v =>
      let isA := zslRole c == 1
      some (mergeBoth d e.rule (if own then l else v) (if own then v else l) (if isA then l else v) (if isA then v else l))
    | none =>
      if e.rule = 0 && !own then
        some ((last.map (·.1)).getD ((List.range d.elems).flatMap (fun _ => leBytes d.ty.size d.init)), partnerLost)
      else some l

/-- The merged image of the present tick (R343). Only a member in PAIRED merges its partner's values. -/
def buildMerged (c : Chip) : Chip :=
  let es := c.sets.main.merge
  let now := if c.pair.st = .paired then c.pair.hb.map (fun h => snapshotRead c h.snapshot) else none
  let last := c.pair.lastHb.map (fun h => snapshotRead c h.snapshot)
  let vs := (List.range es.length).zip es |>.filterMap (fun e =>
    (mergeEntry c e.2 (now.bind (fun l => l[e.1]?)) (last.bind (fun l => l[e.1]?))).map (fun v => (e.2.varId, v)))
  updPair (fun p => { p with merged := true, mergedVal := vs.foldl (fun m v => Map.put m v.1 v.2) [] }) c

/-- MERGED_IMAGE_BUILD (R343): at B + T_SNAP, once a tick. -/
def evMergedImageBuild (dt : Nat) (c : Chip) : Chip :=
  let c := pass dt c
  if !merges c || !hasBoundaries c || !c.tt.ticking || c.pair.merged then c
  else buildMerged (pass (bNs c c.tt.tn + cfg c 0x2000 4 31 0 * 1000 - c.time.clock) c)

/-! ### Output digests (R344, R345) -/

/-- A CAN request as it enters the digest; the spec fixes no layout for it (log entry 33). -/
def canReqBytes (r : CanReq) : List Byte :=
  leBytes 1 r.ch ++ leBytes 1 r.buf ++ leBytes 2 r.arm ++ leBytes 4 (r.frame.id + b01 r.frame.ext * 2 ^ 31) ++ leBytes 1 r.frame.dlc
    ++ [0, 0, 0] ++ leBytes 4 r.tag ++ padTo 64 r.frame.data

/-- The digest of a commit from what each task contributed, in ascending task number (R344), with the CRC-32C of each (R345). -/
def pairCommit (ds : List (Nat × List Byte)) (c : Chip) : Chip :=
  if isPair c then
    updPair (fun p => { p with
      digest := crc64 (ds.flatMap (·.2)), taskDig := if p.mismNow then p.taskDig else ds.map (fun d => (d.1, crc32c d.2)) }) c
  else c

/-! ### Parts of the state that cross (R358, R359, R361) -/

/-- Number of the first page beyond GLB and RET, which stands for a base among the pages of a checkpoint. -/
def basePage : Nat := 18432

/-- 4 KiB page of a cell. -/
def pageOf (ret : Bool) (a : Nat) : Nat := b01 ret * 16384 + a / 4096

/-- Pages of a memory that hold a byte. -/
def usedPages (ret : Bool) (m : Mem) : List Nat := (m.map (fun e => pageOf ret e.1)).eraseDups

/-- The state of a task as it crosses: a job in progress does not. -/
def taskCopy (t : Nat) (k : Task) : TaskCopy :=
  { task := t, st := match k.st with | .suspended => .suspended | .halted => .halted | .empty => .empty | _ => .idle
    ovrConsec := k.ovrConsec, skip := k.skip, ovrTotal := k.ovrTotal, lastResp := k.lastResp, maxResp := k.maxResp
    evtPend := k.evtPend, evtCount := k.evtCount, evtLost := k.evtLost }

/-- A slot as it crosses, with the elements of its published bank (R359). -/
def slotCopy (d : Desc) (x : Slot) : SlotCopy :=
  let res := fun k => (blksOf d 1).any (fun p => p.1 == k / 2 ^ 20) && bit k 19 == x.pubBank
  { slot := d.slot, cur := (x.cur.word, x.cur.tag, x.cur.iter), latched := (x.latched.word, x.latched.tag, x.latched.iter)
    last := x.last, pubBank := x.pubBank, published := x.published, store := if x.published then x.store.filter (fun e => res e.1) else [] }

/-- Everything but the memories: instance states, locals, last committed outputs, task states, forces, stations, slots, timers, the
retain directory (R359). -/
def partRest (c : Chip) : StatePart :=
  { insts := c.tasks.flatMap (fun e => e.2.insts.map (fun i => (e.1, i.1, i.2)))
    locs := c.tasks.map (fun e => (e.1, e.2.loc)), outs := c.tasks.map (fun e => (e.1, e.2.committed)), forces := some c.sets.forces
    tasks := c.tasks.map (fun e => taskCopy e.1 e.2)
    stations := c.net.stations.map (fun e =>
      { st := e.1, code := e.2.st, miss := e.2.miss, good := e.2.good, useSub := e.2.useSub, last := e.2.last })
    slots := c.sets.main.descs.map (fun d => slotCopy d (slot c d.slot))
    timers := some ((c.tt.hwTimers.filter (fun e => e.2.armed)).map (fun e =>
      { no := e.1, inst := e.2.inst, task := e.2.task, tnEv := e.2.tnEv }))
    dir := some (curDir c) }

/-- The whole state that crosses. -/
def partFull (c : Chip) : StatePart := { partRest c with full := true, glb := c.mem.glb, ret := c.mem.ret }

/-- The state with the given pages of the memories only. -/
def partPages (ps : List Nat) (c : Chip) : StatePart :=
  { partRest c with
    pages := ps, glb := c.mem.glb.filter (fun e => ps.contains (pageOf false e.1)), ret := c.mem.ret.filter (fun e => ps.contains (pageOf true e.1)) }

/-- The journal of one tick: its writes byte by byte, the states of the jobs it completed, and the rest (R359 step 4). -/
def partJournal (c : Chip) : StatePart :=
  let cells := fun ret => (c.pair.jrn.filter (fun e => e.1 == ret)).flatMap (fun e =>
    (List.range e.2.2.length).zip e.2.2 |>.map (fun b => (e.2.1 + b.1, b.2)))
  let r := partRest c
  { r with
    glb := cells false, ret := cells true, insts := r.insts.filter (fun i => c.pair.jrnTasks.contains i.1)
    locs := r.locs.filter (fun l => c.pair.jrnTasks.contains l.1) }

/-- Bytes of a part on a line, without framing: whole pages of a base, 16 bytes an 8-byte journal entry, and the instance states and
locals (R359, R360). -/
def partBytes (p : StatePart) (journal : Bool) : Nat :=
  let i := (p.insts.map (fun e => e.2.2.length)).sum + (p.locs.map (fun e => e.2.length)).sum
  if journal then
    16 * ((p.glb.map (fun e => e.1 / 8)).eraseDups.length + (p.ret.map (fun e => e.1 / 8)).eraseDups.length) + i
  else 4096 * (if p.full then (usedPages false p.glb).length + (usedPages true p.ret).length else p.pages.length) + i

/-- Writes cells into a memory, after the pages named are cleared. -/
def putCells (p : StatePart) (ret : Bool) (cells : List Host.Cell) (m : Mem) : Mem :=
  cells.foldl (fun m e => Mem.wr m e.1 e.2) (if p.full then [] else m.filter (fun e => !p.pages.contains (pageOf ret e.1)))

/-- Changes tasks by what a part carries for each. -/
def putTasks (p : StatePart) (c : Chip) : Chip :=
  let c := forAll p.locs (fun e => updTask e.1 (fun k => { k with loc := e.2 })) c
  let c := forAll p.outs (fun e => updTask e.1 (fun k => { k with committed := e.2, atSafe := false })) c
  let c := forAll p.insts (fun e => updTask e.1 (fun k => { k with insts := Map.put k.insts e.2.1 e.2.2 })) c
  forAll p.tasks (fun e => updTask e.task (fun k => { k with
    st := e.st, ovrConsec := e.ovrConsec, skip := e.skip, ovrTotal := e.ovrTotal, lastResp := e.lastResp, maxResp := e.maxResp
    evtPend := e.evtPend, evtCount := e.evtCount, evtLost := e.evtLost, evtTn := if e.evtPend = 0 then none else some 0
    job := none, staged := [] })) c

/-- Applies a part to the state (R359, R361, R362). -/
def applyPart (p : StatePart) (c : Chip) : Chip :=
  let c := { c with mem := { c.mem with glb := putCells p false p.glb c.mem.glb, ret := putCells p true p.ret c.mem.ret } }
  let c := putTasks p c
  let c := match p.forces with | some f => { c with sets := { c.sets with forces := f } } | none => c
  let c := forAll p.stations (fun e => updStation e.st (fun x => { x with
    st := e.code, miss := e.miss, good := e.good, useSub := e.useSub, last := e.last })) c
  let c := forAll p.slots (fun e => updSlot e.slot (fun x => { x with
    cur := { word := e.cur.1, tag := e.cur.2.1, iter := e.cur.2.2 }, latched := { word := e.latched.1, tag := e.latched.2.1, iter := e.latched.2.2 }
    last := e.last, pubBank := e.pubBank, published := e.published, factor := false
    store := e.store.foldl (fun m v => Map.put m v.1 v.2) x.store })) c
  let c := match p.timers with
    | some l => { c with tt := { c.tt with
        hwTimers := l.foldl (fun m e => Map.put m e.no { armed := true, inst := e.inst, task := e.task, tnEv := e.tnEv }) [] } }
    | none => c
  match p.dir with | some d => updDir (fun _ => d) c | none => c

/-- A later part laid over an earlier one, as a reserve's state image holds them (R361). -/
def mergePart (a b : StatePart) : StatePart :=
  if b.full then b
  else
    { b with
      full := a.full, pages := (a.pages ++ b.pages).eraseDups, glb := putCells b false b.glb a.glb, ret := putCells b true b.ret a.ret
      forces := match b.forces with | some f => some f | none => a.forces }

/-! ### Rows -/

/-- MERGED_IMAGE_BUILD. -/
def execMergedImageBuild (dt : Nat) : State → Host.Outcome State Fault Refusal := lift (evMergedImageBuild dt)

end Sys2Proof.Machine
end

