-- ==== Sys2Proof/Machine/Pair.lean ====
section
/-! DEFINITION. The redundancy engine (chapter 14): heartbeats, beacons and the witness, the loss of a partner and its return, output
disagreement, adoption of a job's results, re-synchronisation, checkpoints, the reserve's switch-in and its proof runs. -/
namespace Sys2Proof.Machine

open Sys2Proof

/-! ### Members -/

/-- N_HB (R337). -/
def nHb (c : Chip) : Nat := cfg c 0x5300 1 9 3

/-- PEER2 names a reserve (R337). -/
def hasReserve (c : Chip) : Bool := setWord c.sets.main 0x5300 4 != 0 || cfg c 0x5300 5 15 0 != 0

/-- The role of the other member. -/
def partnerRole (c : Chip) : RRole := if c.sup.role = .pairA then .pairB else .pairA

/-- ROLE of an own heartbeat or beacon: 1 PAIR_A, 2 PAIR_B, 3 RESERVE; a reserve that joins speaks for the member it replaces. -/
def memberRole (c : Chip) : Nat :=
  match c.sup.role, c.pair.st with
  | .pairA, _ => 1 | .pairB, _ => 2
  | _, .joining => (match c.pair.lostRole with | some r => r.code | none => 3)
  | _, _ => 3

/-- The partner's heartbeats of the last N_HB ticks show RUN. -/
def partnerRuns (c : Chip) : Bool :=
  match c.pair.lastHb with | some h => h.mstate == 4 && decide (c.tt.tn ≤ c.pair.hbTn + nHb c) | none => false

/-- The member exchanges heartbeats. -/
def exchanges (c : Chip) : Bool := isPair c || c.pair.st == .joining

/-! ### Changes of state -/

/-- The module goes to STOP: what leaving RUN does, the tasks halted, the safe values; a divergence ends (R76, R131, R165, R331). -/
def enterStop (c : Chip) : Chip :=
  if c.sup.mstate = .stop then completeAll 0x0203 0 [] c
  else
  let c := haltTasks true (leaveRun c)
  let c := safeCommit (setMState .stop 0 { c with
    sets := { c.sets with release := [] }, time := { c.time with diverged := false }, sup := { c.sup with loopVals := [], svcSess := none } })
  let c := when (isPair c) (updPair (fun p => { p with st := .none, disagree := false, disTicks := 0, equal := 0, adopting := [], asked := [] })) c
  completeAll 0x0203 0 [] c

/-- The member becomes the target of its partner (R359 step 1): its jobs and what they staged are discarded, a named throw ends. -/
def beginTarget (c : Chip) : Chip :=
  let c := cancelSage (cancelThrow 0x0323 c)
  let c := forAll (usedTasks c) (fun t => updTask t (fun k => { k with
    st := if k.st = .suspended then .suspended else .idle, job := none, staged := [], limitAct := false })) c
  record 0x0D30 pairUnit [] (updPair (fun p => { p with
    st := .resyncTarget, baseDone := false, jrnLast := none, jrnTn := 0, resyncTn := c.tt.tn, resyncTwo := false, disagree := false
    disTicks := 0, equal := 0, adopting := [], asked := [] }) c)

/-- The member becomes the source (R359 step 1): it runs as in ALONE. -/
def beginSource (c : Chip) : Chip :=
  canTakeover (record 0x0D30 pairUnit [] (updPair (fun p => { p with
    st := .resyncSource, baseSent := false, jrn := [], jrnTasks := [], resyncTn := c.tt.tn, resyncTwo := false, withdrawn := false
    disagree := false, disTicks := 0, equal := 0 }) c))

/-- PAIR_B becomes target of PAIR_A. -/
def splitRoles (c : Chip) : Chip := if c.sup.role = .pairB then beginTarget c else beginSource c

/-- The call to the reserve: it is sent, and the patch is switched on where it is valid (R362). -/
def callReserve (c : Chip) : Chip :=
  record 0x0D42 pairUnit [] (emit (.reserveCall (partnerRole c)) (updPair (fun p => { p with patch := cfgb c 0x5300 1 16 }) c))

/-- A member enters ALONE (R354, R484). -/
def enterAlone (c : Chip) : Chip :=
  if !isPair c || !inRun c || c.pair.st == .alone || c.pair.st == .resyncTarget then c
  else
    let c := updPair (fun p => { p with st := .alone, disagree := false, disTicks := 0, equal := 0, withdrawn := false, queryTn := none }) c
    let shed := decide (2 ≤ c.hlth.stage)
    let was := c.hlth.shed
    let c := { c with hlth := { c.hlth with partnerShed := false, shed := shed } }
    let c := when (shed && !was) shedStart (when (!shed && was) shedEnd c)
    let c := canTakeover c
    when (cfgb c 0x5300 1 17 && hasReserve c && !c.pair.partnerTrip) callReserve c

/-- ALONE is ordered for the next boundary. -/
def dueAlone (c : Chip) : Chip :=
  if c.sup.due.any (fun e => e.2 == .enterAlone) then c
  else { c with sup := { c.sup with due := c.sup.due ++ [(c.tt.tn + 1, .enterAlone)] } }

/-- A DEGRADED member in RUN withdraws while its partner is seen to be in control (R353); what role negotiation found stands until
then (R473). -/
def judgeWithdraw (c : Chip) : Chip :=
  if !isPair c || !inRun c || c.pair.st != .degraded then c
  else
    let w := match c.pair.beacon with
      | some b => partnerSeen c && ((c.sup.role == .pairB && b.mstate == 4) || b.pstate == 3)
      | none => false
    updPair (fun p => { p with withdrawn := w }) c

/-- A member enters DEGRADED (R352, R353). -/
def enterDegraded (c : Chip) : Chip :=
  judgeWithdraw (record 0x0D06 pairUnit [] (updPair (fun p => { p with st := .degraded, queryTn := none, repeatTn := c.tt.tn }) c))

/-! ### Beacons and the witness (R350 to R353) -/

/-- A beacon of this module. -/
def beaconNow (c : Chip) : Beacon :=
  { role := memberRole c, pstate := c.pair.st.code, mstate := c.sup.mstate.code, tn := c.tt.tn, setId := c.sets.main.setId % 2 ^ 32 }

/-- Sends a PDU of R350 to GROUP_MAC. -/
def sendBeacon (type : Nat) (b : Beacon) (c : Chip) : Chip := netSend 1 (emit (.beacon type b) c)

/-- BEACON_SEND (R350). -/
def evBeaconSend (dt : Nat) (c : Chip) : Chip :=
  let c := pass dt c
  if isPair c && hasBoundaries c && c.tt.ticking then sendBeacon 0x10 (beaconNow c) c else c

/-- Sends the witness query (R351). -/
def sendQuery (c : Chip) : Chip :=
  bump 0x1B1 (sendBeacon 0x11 (beaconNow c) (updPair (fun p => { p with queryTn := some c.tt.tn, repeatTn := c.tt.tn }) c))

/-- What the member itself can see confirms the failure (R352). -/
def ownConfirms (c : Chip) : Bool :=
  !partnerSeen c && (match c.net.partnerEcho with | some t => decide (t + nHb c ≤ c.tt.tn) | none => true)
    && decide (nHb c ≤ c.net.goodTicks)

/-- Confirmed, or not: ALONE at the next boundary, else DEGRADED (R352). -/
def decideAlone (ok : Bool) (c : Chip) : Chip :=
  if ok then record 0x0D05 pairUnit [] (dueAlone (updPair (fun p => { p with queryTn := none }) c))
  else if c.pair.st = .degraded then updPair (fun p => { p with queryTn := none }) c
  else enterDegraded c

/-- PARTNER_PRESUMED_FAILED (R351). -/
def evPartnerPresumedFailed (dt : Nat) (c : Chip) : Chip :=
  let c := pass dt c
  if !isPair c || !inRun c || c.pair.st != .paired || decide (c.tt.tn < c.pair.hbTn + nHb c) || c.pair.queryTn.isSome
      || c.sup.due.any (fun e => e.2 == .enterAlone) then c
  else
    let c := record 0x0D04 pairUnit [] (pass (bNs c c.tt.tn + cfg c 0x2000 4 31 0 * 1000 - c.time.clock) c)
    if hasReserve c then sendQuery c else decideAlone (ownConfirms c) c

/-- WITNESS_QUERY (R350): the reserve answers with the last beacons it saw. -/
def evWitnessQuery (dt : Nat) (_b : Beacon) (c : Chip) : Chip :=
  let c := pass dt c
  if !isReserve c then c else sendBeacon 0x12 { beaconNow c with lastA := c.pair.lastA, lastB := c.pair.lastB } c

/-- WITNESS_ANSWER (R352). -/
def evWitnessAnswer (dt : Nat) (b : Beacon) (c : Chip) : Chip :=
  let c := pass dt c
  match c.pair.queryTn with
  | none => c
  | some q =>
    if q + 2 < c.tt.tn then c
    else
      let last := if c.sup.role = .pairA then b.lastB else b.lastA
      decideAlone (ownConfirms c && decide (last + nHb c ≤ c.tt.tn)) c

/-- WITNESS_TIMEOUT (R352). -/
def evWitnessTimeout (dt : Nat) (c : Chip) : Chip :=
  let c := pass dt c
  match c.pair.queryTn with
  | none => c
  | some q => if c.tt.tn < q + 2 then c else decideAlone false (record 0x0D45 pairUnit [] c)

/-- WITNESS_REPEAT (R352). -/
def evWitnessRepeat (dt : Nat) (c : Chip) : Chip :=
  let c := pass dt c
  if isPair c && c.pair.st == .degraded && hasReserve c && decide (c.pair.repeatTn + 100 ≤ c.tt.tn) then sendQuery c else c

/-- BEACON_RECEIVED (R350, R353). -/
def evBeaconReceived (dt : Nat) (b : Beacon) (c : Chip) : Chip :=
  let c := pass dt c
  if isReserve c then
    updPair (fun p => if b.role = 1 then { p with lastA := b.tn } else if b.role = 2 then { p with lastB := b.tn } else p) c
  else if isPair c && b.role == (partnerRole c).code then
    judgeWithdraw (updPair (fun p => { p with beaconTn := some c.tt.tn, beacon := some b }) c)
  else c

/-! ### Heartbeats (R340, R345, R348, R355 to R357) -/

/-- This module's heartbeat. -/
def heartbeatNow (c : Chip) : HB :=
  { role := memberRole c, mstate := c.sup.mstate.code, tn := c.tt.tn, pstate := c.pair.st.code
    flags := b01 c.pair.stFail + 2 * b01 (timeOk c) + 4 * b01 c.time.diverged + 8 * b01 (c.time.servo == .holdover) + 16 * b01 (partnerSeen c)
    setId := c.sets.main.setId % 2 ^ 32, digest := c.pair.digest, tSend := c.time.clock, snapshot := snapshotBytes c
    events := c.pair.events.take 64 }

/-- The heartbeat of the present tick goes out on both lines; what was held of the tick before is dropped (R339, R340). -/
def sendHeartbeat (c : Chip) : Chip :=
  if !exchanges c then updPair (fun p => { p with merged := false }) c
  else
    let h := heartbeatNow c
    emit (.heartbeat c.tt.tn h) (updPair (fun p => { p with
      sentEvts := p.events.take 64, events := p.events.drop 64, hb := none, merged := false, mismNow := false, hbSet := h.setId }) c)

/-- Counts of a line on a valid heartbeat of the present tick (R349). -/
def lineGood (l : Line) (c : Chip) : Chip :=
  match l with
  | .up => bump 0x1A8 (updPair (fun p => { p with missUp := 0, goodUp := p.goodUp + 1 }) c)
  | .down => bump 0x1A9 (updPair (fun p => { p with missDown := 0, goodDown := p.goodDown + 1 }) c)

/-- An event of the partner for this tick, unless this member sent the same one (R66). -/
def partnerEvt (e : Nat × Nat) (c : Chip) : Chip :=
  if c.pair.sentEvts.contains e then c
  else
    updTask e.2 (fun k =>
      if k.st = .suspended then { k with evtLost := (k.evtLost + 1) % 2 ^ 32 }
      else { k with
        evtPend := k.evtPend ||| 2 ^ e.1, evtCount := k.evtCount + 1, evtTn := if k.job.isSome then none else some (k.evtTn.getD c.tt.tn) }) c

/-- The digests of the tick are compared (R345, R347). -/
def compareDigest (h : HB) (c : Chip) : Chip :=
  if h.mstate != 4 || !inRun c then c
  else if h.digest = c.pair.digest then updPair (fun p => { p with equal := if p.disagree then p.equal + 1 else 0 }) c
  else
    bump 0x1AC (record 0x0D10 pairUnit [] (updPair (fun p => { p with
      mismatches := (p.mismatches + 1) % 2 ^ 32, disagree := true, mismNow := true, equal := 0 }) c))

/-- What a heartbeat's SET_ID, MODULE_STATE and PAIR_STATE make of the own state (R164, R354, R355, R359). -/
def seePartner (h : HB) (c : Chip) : Chip :=
  let st := c.pair.st
  let settled := decide (c.pair.resyncTn + 2 < c.tt.tn)
  if !inRun c then c
  else if (h.mstate = 5 ∨ h.mstate = 7) ∧ (st = .paired ∨ st = .degraded ∨ st = .resyncSource) then
    dueAlone (updPair (fun p => { p with partnerTrip := h.mstate == 5 }) c)
  else if st = .paired ∧ h.pstate = 1 ∧ h.mstate = 4 ∧ h.setId ≠ c.pair.hbSet then
    let c := record 0x0326 0x0300 [] c
    if c.tt.tn ≤ c.sets.mainTn + 2 then beginSource c else beginTarget c
  else if st = .degraded ∧ h.pstate = 2 then splitRoles (record 0x0D08 pairUnit [] c)
  else if st = .alone ∧ h.pstate = 3 then splitRoles (record 0x0D08 pairUnit [] c)
  else if st = .degraded ∧ h.pstate = 3 then beginTarget c
  else if st = .alone ∧ h.pstate = 6 then beginSource c
  else if (st = .alone ∨ st = .paired ∨ st = .degraded) ∧ h.pstate = 5 ∧ settled then beginSource c
  else if (st = .paired ∨ st = .degraded) ∧ h.pstate = 4 ∧ settled then beginTarget c
  else if st = .resyncSource ∧ h.pstate = 1 then
    completeAll 0x0D03 0 [] (completeAll 0x0D01 0 [] (record 0x0D31 pairUnit [] (updPair (fun p => { p with
      st := .paired, partnerTrip := false, jrn := [], jrnTasks := [] }) c)))
  else c

/-- The first valid copy of the heartbeat of the present tick. -/
def firstHeartbeat (h : HB) (c : Chip) : Chip :=
  let c := updPair (fun p => { p with hb := some h, lastHb := some h, hbTn := c.tt.tn, skew := 0 }) c
  let c := if c.pair.st = .paired then compareDigest h (forAll h.events partnerEvt c) else c
  seePartner h c

/-- HEARTBEAT_RECEIVED (R340). -/
def evHeartbeatReceived (dt : Nat) (l : Line) (h : HB) (c : Chip) : Chip :=
  let c := pass dt c
  if !exchanges c || !h.crcOk || !c.tt.ticking || !hasBoundaries c then c
  else if h.tn != c.tt.tn then
    let count := match l with | .up => true | .down => !c.pair.upOk
    updPair (fun p => { p with lastHb := some h, skew := if count then p.skew + 1 else p.skew }) c
  else if c.pair.hb.isSome then lineGood l c
  else if bNs c c.tt.tn + cfg c 0x2000 4 31 0 * 1000 < c.time.clock then record 0x0D21 pairUnit [] c
  else firstHeartbeat h (lineGood l c)

/-- What the end of a tick does to the counts of the lines and of DISAGREE, and the task digests after a mismatch (R345, R347,
R349). -/
def pairTickEnd (c : Chip) : Chip :=
  if !exchanges c then c
  else
    let p := c.pair
    let c := when (decide (1 ≤ p.missUp)) (bump 0x1AA) (when (decide (1 ≤ p.missDown)) (bump 0x1AB) c)
    let c := updPair (fun p => { p with
      goodUp := if 1 ≤ p.missUp then 0 else p.goodUp, goodDown := if 1 ≤ p.missDown then 0 else p.goodDown
      missUp := p.missUp + 1, missDown := p.missDown + 1, disTicks := if p.disagree then p.disTicks + 1 else 0 }) c
    when p.mismNow (emit (.taskDigests p.taskDig)) c

/-- The pair forms at the first boundary at which both members run one set (R356). -/
def formPair (c : Chip) : Chip :=
  if isPair c && inRun c && c.pair.st == .none && partnerRuns c
      && (match c.pair.lastHb with | some h => h.setId == c.sets.main.setId % 2 ^ 32 | none => false) then
    record 0x0D01 pairUnit [] (updPair (fun p => { p with st := .paired, withdrawn := false, partnerTrip := false }) c)
  else c

/-- PAIR_TN_SKEW (R357). -/
def evPairTnSkew (dt : Nat) (_l : Line) (c : Chip) : Chip :=
  let c := pass dt c
  if !isPair c || !hasBoundaries c || decide (c.pair.skew < nHb c) then c
  else
    let f := match c.pair.lastHb with | some h => h.flags | none => 0
    let hold := c.time.servo == .holdover
    let own := if c.time.diverged != bit f 2 then c.time.diverged else if hold != bit f 3 then hold else c.sup.role == .pairB
    if own then
      let c := record 0x0D09 pairUnit [] (enterStop c)
      updPair (fun p => { p with withdrawn := true, skew := 0 }) c
    else updPair (fun p => { p with skew := 0 }) c

/-- TASK_DIGESTS_RECEIVED (R345): the tasks whose digests differ. -/
def evTaskDigestsReceived (dt : Nat) (_l : Line) (ds : List (Nat × Nat)) (c : Chip) : Chip :=
  let c := pass dt c
  if !isPair c || !c.pair.disagree then c
  else
    let own := c.pair.taskDig
    let ts := ((own.map (·.1)) ++ (ds.map (·.1))).eraseDups
    updPair (fun p => { p with diffTasks := ts.filter (fun t => own.find? (fun e => e.1 == t) != ds.find? (fun e => e.1 == t)) }) c

/-- A station applied this member's outputs and echoes another digest than was sent (R346). -/
def echoBad (c : Chip) : Bool :=
  (enabledStations c.sets.main).any (fun st =>
    let x := station c st
    c.net.outTn == some x.lastTn && x.echoRole == zslRole c && x.echoDig != x.outDig)

/-- TIEBREAK_SELFTEST_DONE (R346). -/
def evTiebreakSelftestDone (dt : Nat) (builtinOk partnerFail : Bool) (c : Chip) : Chip :=
  let c := pass dt c
  if !isPair c || !c.pair.disagree || !inRun c then c
  else
    let c := when partnerFail (updPair (fun p => { p with lastHb := p.lastHb.map (fun h => { h with flags := h.flags ||| 1 }) })) c
    if !builtinOk || echoBad c then
      enterFault (recordF 48 0x0D13 pairUnit [] c.time.clock 0 true (updPair (fun p => { p with stFail := true }) c))
    else
      let c := updPair (fun p => { p with stFail := false }) c
      if partnerFail then c else record 0x0D11 pairUnit [] c

/-- DISAGREE_CLEARED (R347). -/
def evDisagreeCleared (dt : Nat) (c : Chip) : Chip :=
  let c := pass dt c
  if c.pair.disagree && decide (16 ≤ c.pair.equal) then
    record 0x0D12 pairUnit [] (updPair (fun p => { p with disagree := false, disTicks := 0, equal := 0, diffTasks := [] }) c)
  else c

/-- DISAGREE_LIMIT_REACHED (R347). -/
def evDisagreeLimitReached (dt : Nat) (c : Chip) : Chip :=
  let c := pass dt c
  if isPair c && inRun c && c.pair.st == .paired && c.pair.disagree && decide (cfg c 0x5300 8 31 0 ≤ c.pair.disTicks) then splitRoles c
  else c

/-! ### Lines (R349, R496) -/

/-- State of a line: in use, ticks without a heartbeat, valid heartbeats in a row, link. -/
def lineOf (l : Line) (p : Pair) : Bool × Nat × Nat × Bool :=
  match l with | .up => (p.upOk, p.missUp, p.goodUp, p.upLink) | .down => (p.downOk, p.missDown, p.goodDown, p.downLink)

/-- Sets UP_OK or DOWN_OK. -/
def setLine (l : Line) (ok : Bool) (c : Chip) : Chip :=
  updPair (fun p => match l with | .up => { p with upOk := ok } | .down => { p with downOk := ok }) c

/-- PATH_FAULT (R349). -/
def evPathFault (dt : Nat) (l : Line) (c : Chip) : Chip :=
  let c := pass dt c
  let (ok, miss, _, link) := lineOf l c.pair
  if exchanges c && ok && (decide (nHb c ≤ miss) || !link) then record 0x0D02 pairUnit [] (setLine l false c) else c

/-- PATH_RESTORED (R349). -/
def evPathRestored (dt : Nat) (l : Line) (c : Chip) : Chip :=
  let c := pass dt c
  let (ok, _, good, link) := lineOf l c.pair
  if exchanges c && !ok && link && decide (16 ≤ good) then record 0x0D03 pairUnit [] (setLine l true c) else c

/-- LINE_LINK_CHANGE (R349, R496): an optical module that X22 cannot take does not enable the Up line. -/
def evLineLinkChange (dt : Nat) (l : Line) (up sfpOk : Bool) (c : Chip) : Chip :=
  let c := pass dt c
  match l with
  | .down => updPair (fun p => { p with downLink := up, goodDown := if up then p.goodDown else 0 }) c
  | .up =>
    let bad := up && !sfpOk
    let c := updPair (fun p => { p with upLink := up && sfpOk, sfpBad := bad, goodUp := if up && sfpOk then p.goodUp else 0 }) c
    when bad (record 0x0809 pairUnit []) c

/-- PARTNER_ANNOUNCEMENT (R354). -/
def evPartnerAnnouncement (dt : Nat) (_l : Line) (trip : Bool) (c : Chip) : Chip :=
  let c := pass dt c
  if !isPair c || !inRun c || !(c.pair.st == .paired || c.pair.st == .degraded || c.pair.st == .resyncSource)
      || c.sup.due.any (fun e => e.2 == .enterAlone) then c
  else
    record 0x0D07 pairUnit [] (dueAlone (updPair (fun p => { p with
      partnerTrip := trip, lastHb := p.lastHb.map (fun h => { h with mstate := if trip then 5 else 7 }) }) c))

/-! ### Adoption of a job's results (R23, R358) -/

/-- ADOPTION_REQUEST (R358): answered after the task's job of the tick. -/
def evAdoptionRequest (dt : Nat) (_l : Line) (t : Nat) (c : Chip) : Chip :=
  let c := pass dt c
  if !isPair c || !inRun c then c
  else if (task c t).job.isSome then updPair (fun p => { p with asked := t :: p.asked.filter (· != t) }) c
  else answerAdoption t ((task c t).relTn.getD c.tt.tn) c

/-- ADOPTION_ANSWER (R358): taken before the commit boundary; a later one finds nothing to adopt. -/
def evAdoptionAnswer (dt : Nat) (_l : Line) (t tn : Nat) (p : StatePart) (c : Chip) : Chip :=
  let c := pass dt c
  match c.pair.adopting.find? (fun e => e.1 == t && e.2.2.1 == tn) with
  | none => c
  | some e =>
    if e.2.1 ≤ c.tt.tn then c
    else
      let bytes := match p.outs.find? (fun o => o.1 == t) with | some o => o.2 | none => (task c t).committed
      let loc := match p.locs.find? (fun o => o.1 == t) with | some o => o.2 | none => (task c t).loc
      let insts := (p.insts.filter (fun i => i.1 == t)).foldl (fun m i => Map.put m i.2.1 i.2.2) (task c t).insts
      let c := updTask t (fun k => { k with
        st := .staged, loc := loc, insts := insts, staged := k.staged ++ [{ tn := e.2.1, bytes := bytes }], ovrConsec := 0 }) c
      let c := updPair (fun p => { p with adopting := p.adopting.filter (fun x => x != e) }) c
      bump 0x1B0 (record 0x0E12 (0x0700 + t) ([t] ++ w64 tn ++ [e.2.2.2, taskCe c t]) c)

/-- Adoptions whose commit boundary has come without an answer are overruns of their class (R358). -/
def adoptionsLate (c : Chip) : Chip :=
  let late := c.pair.adopting.filter (fun e => decide (e.2.1 ≤ c.tt.tn))
  forAll late (fun e => overrunLost e.1 e.2.2.1) (updPair (fun p => { p with adopting := p.adopting.filter (fun e => !decide (e.2.1 ≤ c.tt.tn)) }) c)

/-! ### Re-synchronisation (R359, R360) -/

/-- A set becomes the main set by re-synchronisation or with a checkpoint, if it passes the checks of R143. -/
def loadMain (s : ConfigSet) (c : Chip) : Chip :=
  if (setBad s).isSome then c
  else
    let old := c.sets.main
    let st : TaskSt := if inRun c then .idle else .halted
    let c := { c with
      mem := if c.mem.selMain = 0 then { c.mem with nand0 := some s } else { c.mem with nand1 := some s }
      tasks := (List.range 256).foldl (fun m t => let k := freshTask s st t; if k.st = .empty then m else Map.put m t k) []
      sets := { c.sets with main := s, release := [], trans := [], revert := [], revertTo := none } }
    let c := when (setTick old != setTick s) newTick c
    let role := c.sets.roleDue
    let c := placeSes (followSet old s c)
    { c with sets := { c.sets with roleDue := role } }

/-- What the source sends at a boundary: first its set where it differs and the base, then the journal of each tick (R359). -/
def sourceTick (c : Chip) : Chip :=
  if c.pair.st != .resyncSource then c
  else if !c.pair.baseSent then
    let diff := match c.pair.lastHb with | some h => h.setId != c.sets.main.setId % 2 ^ 32 | none => false
    let p := partFull c
    let c := when diff (emit (.resync (.mainSet c.sets.main))) c
    bumpBy 0x1AF (partBytes p false) (emit (.resync (.base p true)) (updPair (fun x => { x with baseSent := true, jrn := [], jrnTasks := [] }) c))
  else
    let p := partJournal c
    let nw := (p.glb.map (fun e => e.1 / 8)).eraseDups.length + (p.ret.map (fun e => e.1 / 8)).eraseDups.length
    let sd := (p.insts.map (fun e => e.2.2.length)).sum + (p.locs.map (fun e => e.2.length)).sum
    bumpBy 0x1AF (partBytes p true) (emit (.resync (.journal (c.tt.tn - 1) nw sd p)) (updPair (fun x => { x with jrn := [], jrnTasks := [] }) c))

/-- The target's CAN channels stand by: the source transmits (R295, R359). -/
def canStandBy (c : Chip) : Chip :=
  forAll (List.range 4) (fun ch c =>
    if canMode c ch = 1 then canState ch (updCan ch (fun h => { h with txActive := false, takeover := false }) c) else c) c

/-- The outputs last committed by the tasks stand at the outputs. -/
def pushCommitted (c : Chip) : Chip :=
  forAll (usedTasks c) (fun t c => pushOuts (outLayout 0 (outDecls c.sets.main t)) (task c t).committed c) c

/-- The target adopts at the boundary just taken (R359 step 6); a reserve takes the lost member's role (R362). -/
def adopt (c : Chip) : Chip :=
  let joins := c.pair.st == .joining
  let c := match c.pair.jrnLast with | some (_, _, _, p) => applyPart p c | none => c
  let c := if joins then
      setMState .run 0 { c with sup := { c.sup with role := c.pair.lostRole.getD c.sup.role } }
    else c
  let c := { c with
    sets := { c.sets with mainTn := c.tt.tn }
    sup := { c.sup with restart := 0 }
    pair := { c.pair with
      st := .paired, withdrawn := false, partnerTrip := false, jrnLast := none, baseDone := false, adoptRel := true, resyncTn := c.tt.tn
      lostRole := none, callAt := none, useDown := false, ckptValid := c.pair.ckptValid && !joins } }
  let c := pushCommitted (canStandBy c)
  let c := bump 0x1B0 (record 0x0D31 pairUnit [] c)
  when joins (record 0x0D43 pairUnit []) c

/-- The target adopts once every tick but the last is applied and the last one fits (R149, R359 step 6). -/
def tryAdopt (c : Chip) : Chip :=
  match c.pair.jrnLast with
  | some (tn, nw, sd, _) =>
    let ct := live c 0x2020 1 31 0
    if (c.pair.st == .resyncTarget || c.pair.st == .joining) && c.pair.baseDone && tn + 1 == c.tt.tn
        && decide (384000 + 768 * nw + sd ≤ 32000 * ct) && decide (c.time.clock ≤ bNs c c.tt.tn + ct * 1000) then adopt c
    else c
  | none => c

/-- RESYNC_DATA_RECEIVED (R359): the journal is applied in tick order, its newest tick held back. -/
def evResyncDataReceived (dt : Nat) (s : ResyncSeg) (c : Chip) : Chip :=
  let c := pass dt c
  if c.pair.st != .resyncTarget && c.pair.st != .joining then c
  else
    match s with
    | .mainSet cs => loadMain cs c
    | .base p last =>
      bumpBy 0x1AF (partBytes p false) (updPair (fun x => { x with baseDone := x.baseDone || last, jrnLast := none }) (applyPart p c))
    | .journal tn nw sd p =>
      let inOrder := match c.pair.jrnLast with | some (t, _) => tn == t + 1 | none => c.pair.baseDone
      if !inOrder then c
      else
        let c := match c.pair.jrnLast with | some (t, _, _, q) => updPair (fun x => { x with jrnTn := t }) (applyPart q c) | none => c
        tryAdopt (bumpBy 0x1AF (partBytes p true) (updPair (fun x => { x with jrnLast := some (tn, nw, sd, p) }) c))

/-- RESYNC_TIMEOUT (R360, R362): a first failure starts again from a new base; the second ends it. -/
def evResyncTimeout (dt : Nat) (c : Chip) : Chip :=
  let c := pass dt c
  if c.tt.tn < c.pair.resyncTn + cfg c 0x5300 9 31 0 then c
  else
    let again := updPair (fun p => { p with resyncTwo := true, resyncTn := c.tt.tn, baseSent := false, baseDone := false, jrnLast := none, jrn := [], jrnTasks := [] })
    match c.pair.st with
    | .joining =>
      record 0x0D44 pairUnit [] (updPair (fun p => { p with
        st := .standby, ckptValid := false, image := {}, lostRole := none, callAt := none, useDown := false, jrnLast := none }) c)
    | .resyncTarget =>
      if c.pair.resyncTwo then enterStop (record 0x0D32 pairUnit [] c) else again c
    | .resyncSource =>
      if c.pair.resyncTwo then
        refuseAll 0x0D03 4 (refuseAll 0x0D01 4 (record 0x0D32 pairUnit [] (updPair (fun p => { p with st := .alone, jrn := [], jrnTasks := [] }) c)))
      else again c
    | _ => c

/-! ### Checkpoints (R361) -/

/-- This member ships the checkpoints. -/
def ships (c : Chip) : Bool :=
  inRun c && hasReserve c && (c.sup.role == .pairA || (c.sup.role == .pairB && !partnerRuns c)) && c.pair.st != .resyncTarget

/-- A checkpoint that did not get through: its pages are dirty again. -/
def mergeBack (c : Chip) : Chip :=
  match c.pair.ckptOut with
  | some (_, ps) =>
    updPair (fun p => { p with
      ckptOut := none, dirty := (p.dirty ++ ps.filter (· != basePage)).eraseDups, baseOwed := p.baseOwed || ps.contains basePage
      setDirty := true }) c
  | none => c

/-- The checkpoint of a boundary with TN mod K_CKPT = 0 (R361). -/
def freezeCheckpoint (c : Chip) : Chip :=
  if !ships c || c.tt.tn % cfg c 0x5300 6 31 0 != 0 then c
  else
    let c := when c.pair.ckptOut.isSome (fun c => record 0x0D40 pairUnit [] (mergeBack c)) c
    let base := c.pair.baseOwed
    let p := if base then partFull c else partPages c.pair.dirty c
    let p := if base || c.pair.setDirty then p else { p with forces := none }
    let n := if base then (usedPages false p.glb).length + (usedPages true p.ret).length else c.pair.dirty.length
    let c := bumpBy 0x1AE n (emit (.checkpoint c.tt.tn base p (if base || c.pair.setDirty then some c.sets.main else none)) c)
    updPair (fun x => { x with
      ckptOut := some (c.tt.tn, (if base then [basePage] else []) ++ x.dirty), dirty := [], baseOwed := false, setDirty := false }) c

/-- CHECKPOINT_ACK (R361): an acknowledgement of TN 0 asks for a base (log entry 34). -/
def evCheckpointAck (dt tn : Nat) (c : Chip) : Chip :=
  let c := pass dt c
  if !isPair c then c
  else
    match c.pair.ckptOut with
    | some (t, _) =>
      if tn = t then updPair (fun p => { p with ckptOut := none, ckptTn := tn }) c
      else if tn = 0 then updPair (fun p => { p with baseOwed := true }) (mergeBack c)
      else record 0x0D41 pairUnit [] (mergeBack c)
    | none => c

/-- CHECKPOINT_RECEIVED (R361): applied whole to the state image, and acknowledged. -/
def evCheckpointReceived (dt tn : Nat) (base : Bool) (p : StatePart) (set : Option ConfigSet) (c : Chip) : Chip :=
  let c := pass dt c
  if c.sup.role != .reserve || c.pair.st != .standby || c.pair.lostRole.isSome then c
  else if !base && !c.pair.ckptValid then emit (.ckptAck 0) c
  else
    let c := match set with | some s => loadMain s c | none => c
    emit (.ckptAck tn) (updPair (fun x => { x with image := mergePart x.image p, ckptValid := true, ckptTn := tn }) c)

/-! ### The reserve (R362, R364) -/

/-- A proof run ends: the reserve is back in STANDBY without a valid image (R364). -/
def leaveProof (c : Chip) : Chip :=
  let c := safeCommit (setMState .stop 0 (haltTasks false c))
  { c with
    sup := { c.sup with role := .reserve }
    pair := { c.pair with st := .standby, ckptValid := false, image := {}, proofRun := none } }

/-- RESERVE_CALL_RECEIVED (R362, R364). -/
def evReserveCallReceived (dt : Nat) (role : RRole) (c : Chip) : Chip :=
  let c := pass dt c
  if !isReserve c || c.pair.lostRole.isSome || !(role == .pairA || role == .pairB) then c
  else
    let c := if c.sup.role = .reserveProof then refuseAll 0x0D02 5 (record 0x0D53 pairUnit [] (leaveProof c)) else c
    record 0x0D42 pairUnit [] (updPair (fun p => { p with lostRole := some role, callAt := some c.time.clock }) c)

/-- RESERVE_IMAGE_LOADED (R362 step 2). -/
def evReserveImageLoaded (dt : Nat) (c : Chip) : Chip :=
  let c := pass dt c
  if c.sup.role != .reserve || c.pair.st != .standby || c.pair.lostRole.isNone then c
  else
    let c := when c.pair.ckptValid (applyPart c.pair.image) c
    updPair (fun p => { p with
      st := .joining, baseDone := false, jrnLast := none, jrnTn := 0, resyncTn := c.tt.tn, resyncTwo := false, missUp := 0, missDown := 0 }) c

/-- RESERVE_LINK_TIMEOUT (R362 step 4). -/
def evReserveLinkTimeout (dt : Nat) (c : Chip) : Chip :=
  let c := pass dt c
  match c.pair.callAt with
  | some t => if !c.pair.upLink && decide (t + 5000000000 ≤ c.time.clock) then updPair (fun p => { p with useDown := true }) c else c
  | none => c

/-- The instances of a state image as the save area holds them. -/
def imageInsts (c : Chip) (p : StatePart) : List (Nat × Nat × List Byte) :=
  p.insts.filterMap (fun e =>
    ((imageOf c.sets.main e.1).insts.find? (fun i => i.id == e.2.1)).map (fun i => (i.id, i.opcode, e.2.2)))

/-- A reserve with a valid image enters RESERVE_PROOF: a warm start from that image (R364). -/
def startProof (c : Chip) : Chip :=
  let p := c.pair.image
  let c := { c with
    mem := { c.mem with
      ret := p.ret
      save := { setId := c.sets.main.setId, tLast := bNs c c.tt.tn / 1000, valid := true, insts := imageInsts c p } }
    sup := { c.sup with role := .reserveProof }
    pair := { c.pair with proofRun := some c.time.clock, proofBad := false } }
  let c := match p.dir with | some d => updDir (fun _ => d) c | none => c
  setMState .run 0 (restartNow true 0 (record 0x0D50 pairUnit [] c))

/-- PROOF_RUN_START (R364). -/
def evProofRunStart (dt : Nat) (c : Chip) : Chip :=
  let c := pass dt c
  if c.sup.role == .reserve && c.pair.st == .standby && c.pair.ckptValid && c.pair.lostRole.isNone && c.sup.mstate == .stop
      && cfg c 0x5300 0x0A 31 0 != 0 then startProof c
  else c

/-- PROOF_RUN_END (R364). -/
def evProofRunEnd (dt : Nat) (loopOk : Bool) (c : Chip) : Chip :=
  let c := pass dt c
  match c.pair.proofRun with
  | none => c
  | some t =>
    if c.sup.role != .reserveProof || decide (c.time.clock < t + cfg c 0x5300 0x0B 31 0 * 1000000000) then c
    else
      let ok := loopOk && !c.pair.proofBad
      let c := record (if ok then 0x0D51 else 0x0D52) pairUnit [] (leaveProof c)
      let c := when ok (updPair (fun p => { p with proofAt := some (c.time.clock / 1000000000) })) c
      completeAll 0x0D02 0 [] c

/-! ### Rows -/

/-- BEACON_SEND. -/
def execBeaconSend (dt : Nat) : State → Host.Outcome State Fault Refusal := lift (evBeaconSend dt)

/-- HEARTBEAT_RECEIVED. -/
def execHeartbeatReceived (dt : Nat) (l : Line) (hb : HB) : State → Host.Outcome State Fault Refusal := lift (evHeartbeatReceived dt l hb)

/-- TASK_DIGESTS_RECEIVED. -/
def execTaskDigestsReceived (dt : Nat) (l : Line) (ds : List (Nat × Nat)) : State → Host.Outcome State Fault Refusal :=
  lift (evTaskDigestsReceived dt l ds)

/-- TIEBREAK_SELFTEST_DONE. -/
def execTiebreakSelftestDone (dt : Nat) (ok partnerFail : Bool) : State → Host.Outcome State Fault Refusal :=
  lift (evTiebreakSelftestDone dt ok partnerFail)

/-- DISAGREE_CLEARED. -/
def execDisagreeCleared (dt : Nat) : State → Host.Outcome State Fault Refusal := lift (evDisagreeCleared dt)

/-- DISAGREE_LIMIT_REACHED. -/
def execDisagreeLimitReached (dt : Nat) : State → Host.Outcome State Fault Refusal := lift (evDisagreeLimitReached dt)

/-- PATH_FAULT. -/
def execPathFault (dt : Nat) (l : Line) : State → Host.Outcome State Fault Refusal := lift (evPathFault dt l)

/-- PATH_RESTORED. -/
def execPathRestored (dt : Nat) (l : Line) : State → Host.Outcome State Fault Refusal := lift (evPathRestored dt l)

/-- PARTNER_PRESUMED_FAILED. -/
def execPartnerPresumedFailed (dt : Nat) : State → Host.Outcome State Fault Refusal := lift (evPartnerPresumedFailed dt)

/-- WITNESS_QUERY. -/
def execWitnessQuery (dt : Nat) (b : Beacon) : State → Host.Outcome State Fault Refusal := lift (evWitnessQuery dt b)

/-- WITNESS_ANSWER. -/
def execWitnessAnswer (dt : Nat) (b : Beacon) : State → Host.Outcome State Fault Refusal := lift (evWitnessAnswer dt b)

/-- WITNESS_TIMEOUT. -/
def execWitnessTimeout (dt : Nat) : State → Host.Outcome State Fault Refusal := lift (evWitnessTimeout dt)

/-- WITNESS_REPEAT. -/
def execWitnessRepeat (dt : Nat) : State → Host.Outcome State Fault Refusal := lift (evWitnessRepeat dt)

/-- BEACON_RECEIVED. -/
def execBeaconReceived (dt : Nat) (b : Beacon) : State → Host.Outcome State Fault Refusal := lift (evBeaconReceived dt b)

/-- PARTNER_ANNOUNCEMENT. -/
def execPartnerAnnouncement (dt : Nat) (l : Line) (trip : Bool) : State → Host.Outcome State Fault Refusal :=
  lift (evPartnerAnnouncement dt l trip)

/-- PAIR_TN_SKEW. -/
def execPairTnSkew (dt : Nat) (l : Line) : State → Host.Outcome State Fault Refusal := lift (evPairTnSkew dt l)

/-- ADOPTION_REQUEST. -/
def execAdoptionRequest (dt : Nat) (l : Line) (t : Fin 256) : State → Host.Outcome State Fault Refusal := lift (evAdoptionRequest dt l t.val)

/-- ADOPTION_ANSWER. -/
def execAdoptionAnswer (dt : Nat) (l : Line) (t : Fin 256) (tn : Nat) (p : StatePart) : State → Host.Outcome State Fault Refusal :=
  lift (evAdoptionAnswer dt l t.val tn p)

/-- RESYNC_DATA_RECEIVED. -/
def execResyncDataReceived (dt : Nat) (s : ResyncSeg) : State → Host.Outcome State Fault Refusal := lift (evResyncDataReceived dt s)

/-- RESYNC_TIMEOUT. -/
def execResyncTimeout (dt : Nat) : State → Host.Outcome State Fault Refusal := lift (evResyncTimeout dt)

/-- CHECKPOINT_RECEIVED. -/
def execCheckpointReceived (dt tn : Nat) (base : Bool) (p : StatePart) (set : Option ConfigSet) :
    State → Host.Outcome State Fault Refusal :=
  lift (evCheckpointReceived dt tn base p set)

/-- CHECKPOINT_ACK. -/
def execCheckpointAck (dt tn : Nat) : State → Host.Outcome State Fault Refusal := lift (evCheckpointAck dt tn)

/-- RESERVE_CALL_RECEIVED. -/
def execReserveCallReceived (dt : Nat) (role : RRole) : State → Host.Outcome State Fault Refusal := lift (evReserveCallReceived dt role)

/-- RESERVE_IMAGE_LOADED. -/
def execReserveImageLoaded (dt : Nat) : State → Host.Outcome State Fault Refusal := lift (evReserveImageLoaded dt)

/-- RESERVE_LINK_TIMEOUT. -/
def execReserveLinkTimeout (dt : Nat) : State → Host.Outcome State Fault Refusal := lift (evReserveLinkTimeout dt)

/-- LINE_LINK_CHANGE. -/
def execLineLinkChange (dt : Nat) (l : Line) (up sfpOk : Bool) : State → Host.Outcome State Fault Refusal := lift (evLineLinkChange dt l up sfpOk)

/-- PROOF_RUN_START. -/
def execProofRunStart (dt : Nat) : State → Host.Outcome State Fault Refusal := lift (evProofRunStart dt)

/-- PROOF_RUN_END. -/
def execProofRunEnd (dt : Nat) (loopOk : Bool) : State → Host.Outcome State Fault Refusal := lift (evProofRunEnd dt loopOk)

end Sys2Proof.Machine
end

