-- ==== Sys2Proof/Machine/Effects.lean ====
section
/-! DEFINITION. What commands order for a boundary (R9, R162, R415, R426): each effect as it takes place, the proposals of a pair with
their confirmation or refusal, and forces that expire. -/
namespace Sys2Proof.Machine

open Sys2Proof

/-! ### Live parameters (R9, R438) -/

/-- Clears a field that a host clears by writing 0. -/
def clearParam (ix sub : Nat) (c : Chip) : Chip :=
  if ix = 0x2003 then { c with tt := { c.tt with peak := Map.del c.tt.peak sub } }
  else if 0x2200 ≤ ix ∧ ix < 0x2300 then
    updTask (cut ix 0x2200) (fun k =>
      match sub with | 2 => { k with ovrTotal := 0 } | 4 => { k with maxResp := 0 } | 6 => { k with evtLost := 0 } | _ => k) c
  else if 0x4020 ≤ ix ∧ ix < 0x4024 then updCan (cut ix 0x4020) (fun h => { h with busoffs := 0 }) c
  else if 0x4028 ≤ ix ∧ ix < 0x402C then updCan (cut ix 0x4028) (fun h => { h with viol := Map.del h.viol sub }) c
  else if ix = 0x5001 then updNet (fun n => if sub = 2 then { n with dups := 0 } else { n with dropped := 0 }) c
  else if 0x5140 ≤ ix ∧ ix < 0x5180 then
    updStation (cut ix 0x5140) (fun x => if sub = 2 then { x with missTotal := 0 } else { x with dropouts := 0 }) c
  else if ix = 0x5201 then updTime (fun t => { t with steps := 0 }) c
  else if ix = 0x5301 then updPair (fun p => { p with mismatches := 0 }) c
  else if ix = 0x7408 ∨ ix = 0x7409 then updPanel (cut ix 0x7408) (fun x => { x with interrupts := 0 }) c
  else c

/-- One parameter word written: its live fields take the value, a field that is cleared by 0 is cleared. -/
def applyParam (key v : Nat) (c : Chip) : Chip :=
  let ix := key / 256
  let sub := key % 256
  match paramAt ix sub with
  | none => c
  | some w =>
    let m := w.liveMask
    if m = 0 then clearParam ix sub c
    else
      let old := liveWord c ix sub
      { c with sets := { c.sets with live := Map.put c.sets.live key (old - (old &&& m) + (v &&& m)) } }

/-! ### Module states -/

/-- The module enters RUN at the boundary just taken: by the restart decided (R132, R133), or, beside a partner that runs, as its target
(R356); ALONE where role negotiation confirmed that there is no partner (R473). A new redundancy role is negotiated first (R337). -/
def enterRun (warm : Bool) (cause : Nat) (c : Chip) : Chip :=
  if c.sup.mstate != .stop then c
  else if c.sets.roleDue then { c with sup := { c.sup with due := c.sup.due ++ [(c.tt.tn + 1, .enterRun warm cause)] } }
  else if isPair c && partnerRuns c then
    let tasks := (List.range 256).foldl (fun m t =>
      let k := freshTask c.sets.main .idle t
      if k.st = .empty then m else Map.put m t k) []
    let c := beginTarget (setMState .run (if cause = 1 then 0 else 3) { c with tasks := tasks, sup := { c.sup with restart := 0, autoWait := none } })
    completeAll 0x0202 0 (restartPayload c) (updPair (fun p => { p with withdrawn := false }) c)
  else if isPair c && c.pair.st == .degraded && c.pair.withdrawn then refuseAll 0x0202 1 c
  else
    let sole := isPair c && c.pair.st == .alone
    let c := { c with sup := { c.sup with autoWait := none } }
    let c := setMState .run (if cause = 1 then 0 else 3) (restartNow warm cause (updPair (fun p => { p with withdrawn := false }) c))
    completeAll 0x0202 0 (restartPayload c) (when sole (fun c => enterAlone (updPair (fun p => { p with st := .none }) c)) c)

/-- The module enters SERVICE. -/
def enterService (c : Chip) : Chip :=
  if c.sup.mstate != .stop then c
  else
    let c := setMState .service 0 { c with sup := { c.sup with loopVals := [] } }
    match c.sup.svcSess with
    | some s => if (sess c s).role = 3 then c else serviceEnds s c
    | none => c

/-! ### Forces (R154, R159) -/

/-- A force is set: it takes the place of the entry of its variable and element. -/
def setForce (f : Force) (c : Chip) : Chip :=
  let rest := c.sets.forces.filter (fun g => !(g.varId == f.varId && g.elem == f.elem))
  record 0x0340 0x0300 (forceWords f f.session 1) (updPair (fun p => { p with setDirty := true })
    { c with sets := { c.sets with forces := rest ++ [f] } })

/-- Whether a request to remove forces names an entry; ELEM 0xFFFF names every element. -/
def forceNamed (varId elem fkind : Nat) (f : Force) : Bool :=
  f.varId == varId && f.fkind == fkind && (elem == 0xFFFF || f.elem == elem)

/-- Forces are removed by a session; a request that names no entry removes none and records nothing (R159). -/
def clearForce (varId elem fkind sess : Nat) (c : Chip) : Chip :=
  let n := (c.sets.forces.filter (forceNamed varId elem fkind)).length
  if n = 0 then c
  else
    record 0x0341 0x0300 (w64 varId ++ [elem, fkind, sess, n]) (updPair (fun p => { p with setDirty := true })
      { c with sets := { c.sets with forces := c.sets.forces.filter (fun f => !forceNamed varId elem fkind f) } })

/-- FORCE_EXPIRED (R156): at the first boundary at or after EXPIRY, and in both members (R165). -/
def evForceExpired (dt : Nat) (c : Chip) : Chip :=
  let c := pass dt c
  let ended := fun (f : Force) => match f.expiry with | some t => decide (t * 1000 ≤ bNs c c.tt.tn) | none => false
  forAll (c.sets.forces.filter ended) (fun f c =>
    record 0x0343 0x0300 (forceWords f 0xFF 1) (updPair (fun p => { p with setDirty := true })
      { c with sets := { c.sets with forces := c.sets.forces.filter (· != f) } })) c

/-! ### Effects -/

/-- The agreed shedding of class B (R484). -/
def setShed (on : Bool) (c : Chip) : Chip :=
  if c.hlth.shed == on then c
  else
    let c := { c with hlth := { c.hlth with shed := on } }
    if on then shedStart c else shedEnd c

/-- A VAR_WRITE reaches its variable in GLB (R431). -/
def writeVar (varId first : Nat) (vals : List Nat) (c : Chip) : Chip :=
  match findVar c.sets.main varId with
  | none => c
  | some v =>
    let n := v.loc.ty.size
    memWrite false (v.loc.addr + first * n) (vals.flatMap (fun x => leBytes n (v.loc.ty.norm x))) c

/-- Counters are cleared (R461). -/
def clearCounters (first count : Nat) (c : Chip) : Chip :=
  let hit := fun n => first ≤ n && decide (n < first + count)
  record 0x0B02 0x0300 [first, count] { c with cnt := { c.cnt with
    val := c.cnt.val.filter (fun e => !hit e.1), sticky := c.cnt.sticky.filter (fun n => !hit n) } }

/-- An effect takes place, for the session and tag that ordered it. -/
def applyEffect (e : Effect) (s tag : Nat) (c : Chip) : Chip :=
  match e with
  | .params es => forAll es (fun p => applyParam p.1 p.2) c
  | .varWrite v f vs => writeVar v f vs c
  | .forceSet f => setForce f c
  | .forceClear v el k se => clearForce v el k se c
  | .taskResume t =>
    if (task c t).st = .suspended then updTask t (fun k => { k with st := .idle, ovrConsec := 0, skip := false }) c else c
  | .diReset m => forAll ((List.range 32).filter (fun ch => bit m ch)) (fun ch => updDi ch (fun d => { d with count := 0 })) c
  | .holdAck g => doAck g c
  | .loopCheck k ch v =>
    if c.sup.mstate = .service then
      { c with sup := { c.sup with loopVals := (k, ch, v) :: c.sup.loopVals.filter (fun x => !(x.1 == k && x.2.1 == ch)) } }
    else c
  | .cntClear f n => clearCounters f n c
  | .cntThreshold k src lim =>
    record 0x0B03 0x0300 [] { c with cnt := { c.cnt with
      cmpOver := Map.put c.cnt.cmpOver k (src, if setBit c.sets.main (0x7110 + k) 1 31 then lim else 2 ^ 64) } }
  | .slotSubmit sl us se tg => submitSage sl (bNs c c.tt.tn / 1000 + us) (c.tt.tn % 2 ^ 32) none (some (se, tg)) c
  | .deadlineTest sl us => record 0x091A (0x0D00 + sl) [] (updSlot sl (fun x => { x with test := some (us, c.tt.tn) }) c)
  | .canTx r se tg => canRequest c.tt.tn r [(se, tg)] c
  | .enterStop => enterStop c
  | .enterService => enterService c
  | .enterAlone => enterAlone c
  | .repairParity _ => repairParity c
  | .enterRun w k => enterRun w k c
  | .shed on => setShed (on || c.hlth.partnerShed) c
  | .partnerShed on =>
    let c := { c with hlth := { c.hlth with partnerShed := on } }
    setShed (on || decide (2 ≤ c.hlth.stage)) c
  | .throwCancel => cancelThrow 0x0323 c
  | .named tn f _ => nameThrow tn f false (some (s, tag)) c
  | .loaded => c

/-- The command that orders an effect (R426). -/
def Effect.cmd (e : Effect) : Nat :=
  match e with
  | .params _ => 0x0F02 | .varWrite _ _ _ => 0x0502 | .forceSet _ => 0x0503 | .forceClear _ _ _ _ => 0x0504 | .taskResume _ => 0x0401
  | .diReset _ => 0x0601 | .holdAck _ => 0x0603 | .loopCheck _ _ _ => 0x0605 | .cntClear _ _ => 0x0B03 | .cntThreshold _ _ _ => 0x0B04
  | .slotSubmit _ _ _ _ => 0x0902 | .deadlineTest _ _ => 0x0904 | .canTx _ _ _ => 0x0701 | .enterStop => 0x0203 | .enterService => 0x0204
  | .throwCancel => 0x0305 | .named _ _ _ => 0x0304 | .loaded => 0x0303 | .enterRun _ _ => 0x0202
  | .enterAlone => 0 | .repairParity _ => 0 | .shed _ => 0 | .partnerShed _ => 0

/-- Payload with which an effect completes. -/
def Effect.payload (e : Effect) : List Byte := match e with | .params _ => [255, 0, 0, 0] | _ => []

/-- The effects due at the boundary just taken, and the confirmed pair commands with their completions (R9, R162, R426). -/
def dueEffects (c : Chip) : Chip :=
  let tn := c.tt.tn
  let now := c.sup.due.filter (fun e => decide (e.1 ≤ tn))
  let conf := c.sup.confirmed.filter (fun e => decide (e.1 + 2 ≤ tn))
  let c := { c with sup := { c.sup with
    due := c.sup.due.filter (fun e => !decide (e.1 ≤ tn)), confirmed := c.sup.confirmed.filter (fun e => !decide (e.1 + 2 ≤ tn)) } }
  let c := forAll now (fun e => applyEffect e.2 0xFF 0) c
  forAll conf (fun e c =>
    let c := applyEffect e.2.1 e.2.2.1 e.2.2.2 c
    if e.2.2.1 = 0xFF then c else complete e.2.1.cmd e.2.2.1 e.2.2.2 0 e.2.1.payload c) c

/-- Orders an effect for a boundary. -/
def order (tn : Nat) (e : Effect) (c : Chip) : Chip := { c with sup := { c.sup with due := c.sup.due ++ [(tn, e)] } }

/-! ### Proposals in a pair (R162, R415, R426) -/

/-- Takes the first pair command out of the list. -/
def dropCmd (e : Nat × Effect × Nat × Nat) (c : Chip) : Chip :=
  { c with sup := { c.sup with pairCmds := c.sup.pairCmds.erase e } }

/-- A throw that the partner has not confirmed is not named (R162). -/
def throwUnconfirmed (s tag : Nat) (c : Chip) : Chip :=
  let c := record 0x0325 0x0300 [] { c with sets := { c.sets with rollback := false } }
  if s = 0xFF then c else completeRefused 0x0304 s tag 4 c

/-- PAIR_COMMAND_EFFECT (R162): the partner's confirmation of the oldest proposal, or its refusal. A command that is confirmed by
B(TN_a + 2) takes effect there; the others are refused, and shedding without agreement follows the own stage (R484). -/
def evPairCommandEffect (dt : Nat) (ok : Bool) (c : Chip) : Chip :=
  let c := pass dt c
  match c.sup.pairCmds with
  | [] => c
  | x :: _ =>
    let c := dropCmd x c
    let (tn, e, s, tag) := x
    match e with
    | .named n f _ => if ok then nameThrow n f c.sets.rollback (if s = 0xFF then none else some (s, tag)) c else throwUnconfirmed s tag c
    | .loaded =>
      if ok then
        let (p, c) := loadDone c
        complete 0x0303 s tag 0 p c
      else completeRefused 0x0303 s tag 4 (clearSiding c)
    | _ =>
      if ok && decide (c.tt.tn < tn + 2) then { c with sup := { c.sup with confirmed := c.sup.confirmed ++ [x] } }
      else if s = 0xFF then applyEffect e s tag c
      else completeRefused e.cmd s tag 4 c

/-- THROW_PROPOSAL_TIMEOUT (R162): no confirmation within 100 ms. -/
def evThrowProposalTimeout (dt : Nat) (c : Chip) : Chip :=
  let c := pass dt c
  match c.sup.pairCmds.find? (fun x => match x.2.1 with | .named _ _ _ => true | _ => false) with
  | none => c
  | some x =>
    if c.time.clock < bNs c x.1 + 100000000 then c else throwUnconfirmed x.2.2.1 x.2.2.2 (dropCmd x c)

/-- The effect a member carries out for its partner's proposal. -/
def Effect.ofPartner (e : Effect) : Effect := match e with | .shed on => .partnerShed on | e => e

/-- The member agrees with a proposal (R152, R161 to R163, R353). -/
def agrees (p : Proposal) (c : Chip) : Bool :=
  isPair c && c.pair.st != .degraded
    && (match p with
        | .throw _ f staged =>
          (throwBad c f staged).isNone || (!c.sets.trans.isEmpty && c.sets.siding == .held && !c.sets.named && staged)
        | .load pkg => (packageBad c.sets.main pkg).isNone && !c.sets.named && c.sets.trans.isEmpty && hasBoundaries c
        | .cmd tn _ => decide (c.tt.tn < tn + 2) && hasBoundaries c)

/-- THROW_PROPOSAL_RECEIVED (R162): confirmed where this member can take it too, and then carried out here. -/
def evThrowProposalReceived (dt : Nat) (p : Proposal) (c : Chip) : Chip :=
  let c := pass dt c
  if !isPair c then c
  else if !agrees p c then emit (.confirm false) c
  else
    let c := emit (.confirm true) c
    match p with
    | .throw tn f _ => nameThrow tn f (!c.sets.trans.isEmpty) none c
    | .load pkg => (loadDone (storeSiding pkg.set .loading c)).2
    | .cmd tn e => order (tn + 2) e.ofPartner c

/-! ### Rows -/

/-- FORCE_EXPIRED. -/
def execForceExpired (dt : Nat) : State → Host.Outcome State Fault Refusal := lift (evForceExpired dt)

/-- THROW_PROPOSAL_RECEIVED. -/
def execThrowProposalReceived (dt : Nat) (p : Proposal) : State → Host.Outcome State Fault Refusal := lift (evThrowProposalReceived dt p)

/-- THROW_PROPOSAL_TIMEOUT. -/
def execThrowProposalTimeout (dt : Nat) : State → Host.Outcome State Fault Refusal := lift (evThrowProposalTimeout dt)

/-- PAIR_COMMAND_EFFECT. -/
def execPairCommandEffect (dt : Nat) (confirmed : Bool) : State → Host.Outcome State Fault Refusal := lift (evPairCommandEffect dt confirmed)

end Sys2Proof.Machine
end

