-- ==== Sys2Proof/Machine/Mailbox.lean ====
section
/-! DEFINITION. Mailboxes (chapter 16): the arrival of a message with its checks, the taking of a command from its ring with the rest of
them, answers, sessions that time out, and events that wait for space. -/
namespace Sys2Proof.Machine

open Sys2Proof

/-! ### Sources and roles (R406, R414, R416) -/

/-- Changes the mailbox state. -/
def updMbx (f : Mbx → Mbx) (c : Chip) : Chip := { c with mbx := f c.mbx }

/-- The address of a source; the endpoint pairs of the service port stand beyond the addresses. -/
def Peer.key (p : Peer) : Nat := match p with | .udp a _ => a % 2 ^ 32 | .usb i => 2 ^ 32 + i.val

/-- The service port. -/
def Peer.isUsb (p : Peer) : Bool := match p with | .usb _ => true | .udp _ _ => false

/-- PEER_ADDR of a source: 0 on the service port. -/
def Peer.addr (p : Peer) : Nat := match p with | .udp a _ => a % 2 ^ 32 | .usb _ => 0

/-- TRANSPORT of a source (R414). -/
def Peer.transport (p : Peer) : Nat := match p with | .udp _ _ => 1 | .usb i => 2 + i.val

/-- The access list's entry with the longest prefix that contains the address, the lowest subindex among equals: prefix length plus 1,
ceiling. -/
def aclEntry (c : Chip) (a : Nat) : Nat × Nat :=
  (List.range 32).foldl (fun b i =>
    let w := liveWord c 0x1102 (i + 1)
    let p := bits w 5 0
    if bit w 8 && decide (b.1 < p + 1) && a / 2 ^ (32 - p) == liveWord c 0x1101 (i + 1) / 2 ^ (32 - p) then (p + 1, bits w 7 6) else b)
    (0, live c 0x1100 1 1 0)

/-- Role ceiling of a source (R414). -/
def ceilOf (c : Chip) (p : Peer) : Nat := match p with | .udp a _ => (aclEntry c (a % 2 ^ 32)).2 | .usb _ => 3

/-- The highest role the field lock leaves open (R416). -/
def lockOpen (c : Chip) : Nat := if c.mbx.lock then 1 else 3

/-- The open role of a session: the lowest of its request, its ceiling and the role the field lock leaves open (R406). -/
def openRole (c : Chip) (ss : Session) : Nat := Nat.min (Nat.min ss.roleReq ss.ceil) (lockOpen c)

/-- The module serves mailboxes on the transport of a source (R316, R393). -/
def serves (c : Chip) (p : Peer) : Bool :=
  match c.sup.mstate with
  | .off => false
  | .boot => p.isUsb && c.sup.serving
  | .selftest => p.isUsb && c.sup.serving
  | _ => p.isUsb || cfg c 0x5008 1 31 0 != 0

/-- An unlock path is closed after failed unlocks (R419): 0 password, 1 challenge. -/
def pathShut (c : Chip) (path : Nat) : Bool := match Map.find c.mbx.lockout path with | some t => decide (c.time.clock < t) | none => false

/-- PATHS of an answer to a session (R412): a password opens on the service port. -/
def pathsOpen (c : Chip) (p : Option Peer) : Nat :=
  b01 ((match p with | some q => q.isUsb | none => false) && !pathShut c 0) + 2 * b01 (!pathShut c 1)

/-! ### Answers (R399, R401, R410) -/

/-- An answer that belongs to no session; no series gives it a SEQUENCE (log entry 36). -/
def answerBare (p : Peer) (cmd tag status : Nat) (payload : List Byte) (c : Chip) : Chip :=
  let seq := Config.freeNat c.sup.freeCtr [cmd, tag] % 2 ^ 32
  postMsg p (header cmd 0xFF 1 tag payload.length status seq ++ payload) (drawn c)

/-- An answer in a session: it leaves under the session's next SEQUENCE and is kept for a retransmission of the command `seq`. -/
def answerTo (s cmd tag : Nat) (seq : Option Nat) (status : Nat) (payload : List Byte) (c : Chip) : Chip :=
  let ss := sess c s
  let c := match seq with
    | some q =>
      if ss.modSeq > 0xFFFFFFFF then c
      else updSess s (fun x => { x with cache := ((q, frameMsg ss s cmd 1 tag status payload) :: x.cache).take 8 }) c
    | none => c
  sendWith (closeSession · 6) s cmd 1 tag status payload c

/-- The command that a row takes from its session's ring: the oldest entry with its code and tag, and the ring without it. -/
def takeEntry (ss : Session) (cmd tag : Nat) : Option Nat × List (Nat × Nat × Nat × List Byte) :=
  match ss.ring.find? (fun e => e.1 == cmd && e.2.1 == tag) with
  | some e => (some e.2.2.1, ss.ring.erase e)
  | none => (none, ss.ring)

/-- Answers a command taken from a session's ring, which leaves the ring (R410). -/
def respond (cmd s tag status : Nat) (payload : List Byte) (c : Chip) : Chip :=
  let t := takeEntry (sess c s) cmd tag
  answerTo s cmd tag t.1 status payload (updSess s (fun x => { x with ring := t.2 }) c)

/-- Instants of the last 10 s. -/
def last10 (c : Chip) (l : List Nat) : List Nat := l.filter (fun t => decide (c.time.clock < t + 10000000000))

/-- Payload of a MALFORMED answer (R412). -/
def malformedPayload (reason off count : Nat) : List Byte :=
  leBytes 1 reason ++ [0] ++ leBytes 2 off ++ leBytes 2 (Nat.min count 65535) ++ [0, 0]

/-- A malformed message of a session: answered, counted, recorded; the 32nd within 10 s closes the session (R412). -/
def malformedSess (s cmd tag reason off : Nat) (taken : Bool) (c : Chip) : Chip :=
  let l := last10 c (sess c s).malf ++ [c.time.clock]
  let c := record 0x0102 (0x0800 + s) [] (bump 0x1C2 (updSess s (fun x => { x with malf := l }) c))
  let p := malformedPayload reason off l.length
  let c := if taken then respond cmd s tag 0x0101 p c else answerTo s cmd tag none 0x0101 p c
  if 32 ≤ l.length then closeSession s 3 (record 0x0103 (0x0800 + s) [] c) else c

/-- A source owns a session. -/
def ownsSession (c : Chip) (p : Peer) : Bool :=
  c.mbx.sess.any (fun e => match e.2.peer with | some q => e.2.st != .closed && q.key == p.key | none => false)

/-- A malformed message that no session owns: answered, counted to its source, recorded; the 32nd within 10 s from a UDP source without a
session blocks the source for 60 s (R412). -/
def malformedBare (p : Peer) (cmd tag reason off : Nat) (c : Chip) : Chip :=
  let l := last10 c (Map.getD c.mbx.srcMalf p.key []) ++ [c.time.clock]
  let c := record 0x0102 0x0300 [] (bump 0x1C2 (updMbx (fun m => { m with srcMalf := Map.put m.srcMalf p.key l }) c))
  let c := answerBare p cmd tag 0x0101 (malformedPayload reason off l.length) c
  if decide (32 ≤ l.length) && !p.isUsb && !ownsSession c p then
    record 0x0107 0x0300 [] (updMbx (fun m => { m with
      srcMalf := Map.del m.srcMalf p.key, blocked := Map.put m.blocked p.key (c.time.clock + 60000000000) }) c)
  else c

/-! ### Arrival (R411 steps 1 to 5) -/

/-- The wrong header field of a message, if one is: REASON and OFFSET of R412. `isSealed` is whether the session's messages are sealed. -/
def headerBad (bytes : List Byte) (isSealed : Bool) : Option (Nat × Nat) :=
  let f := fld bytes 3 1
  let len := fld bytes 8 2
  if bytes.length < 16 ∨ bytes.length ≠ 16 + len + (if bit f 2 then 16 else 0) then some (1, 8)
  else if bit f 0 || bit f 1 || bit f 2 != isSealed then some (3, 3)
  else if 8 ≤ f then some (2, 3)
  else if fld bytes 10 2 ≠ 0 then some (7, 10)
  else if 4096 < len then some (6, 8)
  else none

/-- The payload of a session's sealed message under its key; none when the tag fails (R409). -/
def openSealed (ss : Session) (bytes : List Byte) : Option (List Byte) :=
  if bytes.length ≠ 32 + fld bytes 8 2 then none
  else gcmOpen (ss.keys.take 32) ((ss.keys.drop 64).take 4 ++ leBytes 8 (fld bytes 12 4)) (bytes.take 16) (bytes.drop 16)

/-- A sealed message whose tag fails is dropped; the eighth within 10 s closes the session (R409). -/
def tagFailed (s : Nat) (c : Chip) : Chip :=
  let l := last10 c (sess c s).tagFail ++ [c.time.clock]
  let c := record 0x0105 (0x0800 + s) [] (bump 0x1C5 (updSess s (fun x => { x with tagFail := l }) c))
  if 8 ≤ l.length then closeSession s 4 c else c

/-- Counts a command taken over a transport (R459). -/
def countTaken (p : Peer) (c : Chip) : Chip := bump (if p.isUsb then 0x1C1 else 0x1C0) c

/-- A command of a session with a right header: its sequence, the commands outstanding, and the ring (R411 steps 4 and 5). A code that no
row has is answered as it is taken (step 6). -/
def arriveSess (p : Peer) (s cmd tag seq : Nat) (payload : List Byte) (c : Chip) : Chip :=
  let ss := sess c s
  if 1 ≤ seq ∧ seq ≤ ss.hostSeq ∧ ss.hostSeq < seq + 8 then
    match ss.cache.find? (fun e => e.1 == seq) with
    | some e => postMsg p e.2 c
    | none => c
  else if ss.hostSeq = 0xFFFFFFFF then closeSession s 6 c
  else if seq ≠ ss.hostSeq + 1 then malformedSess s cmd tag 5 12 false c
  else
    let c := updSess s (fun x => { x with hostSeq := seq, lastCmd := c.time.clock }) c
    if 8 ≤ ss.ring.length then answerTo s cmd tag (some seq) 0x0302 [] c
    else
      let c := updSess s (fun x => { x with ring := x.ring ++ [(cmd, tag, seq, payload)] }) c
      if cmdTable.any (fun e => e.1 == cmd) then c else respond cmd s tag 0x0102 [] (countTaken p c)

/-- MESSAGE_ARRIVAL (R411). -/
def evMessageArrival (dt : Nat) (p : Peer) (bytes : List Byte) (c : Chip) : Chip :=
  let c := pass dt c
  let shut := match Map.find c.mbx.blocked p.key with | some t => decide (c.time.clock < t) | none => false
  if !serves c p || shut then c
  else
    let cmd := fld bytes 0 2
    let s := fld bytes 2 1
    let tag := fld bytes 4 4
    let ss := sess c s
    let own := decide (3 ≤ bytes.length) && decide (s < 48) && ss.st != .closed && ss.peer == some p
    let isSealed := own && ss.sealed
    if isSealed && bit (fld bytes 3 1) 2 && (openSealed ss bytes).isNone then tagFailed s c
    else
      match headerBad bytes isSealed with
      | some (r, o) => if own then malformedSess s cmd tag r o false c else malformedBare p cmd tag r o c
      | none =>
        if own then arriveSess p s cmd tag (fld bytes 12 4) (if isSealed then (openSealed ss bytes).getD [] else bytes.drop 16) c
        else if s != 0xFF || cmd != 0x0101 then malformedBare p cmd tag 4 2 c
        else if fld bytes 12 4 != 1 then malformedBare p cmd tag 5 12 c
        else updMbx (fun m => { m with opens := m.opens ++ [(p, tag, bytes.drop 16)] }) c

/-! ### Taking a command (R411 steps 7 to 12) -/

/-- Why a command is not executed. -/
inductive No
  /-- MALFORMED with a REASON, at an offset of the payload (step 7). -/
  | malformed (reason off : Nat)
  /-- ACCESS_DENIED for a role, recorded under a code (step 8). -/
  | denied (need code : Nat)
  /-- LOCKED for a role (step 9). -/
  | locked (need : Nat)
  /-- ARG_RANGE (step 10). -/
  | arg
  /-- STATE_REFUSED with a REASON (step 11). -/
  | refused (reason : Nat)
  /-- A status of the command's own with a payload, recorded under a code of its own where there is one. -/
  | own (status : Nat) (payload : List Byte) (code : Option Nat)
  deriving DecidableEq, Repr

/-- The outcome of a command that executes: the answer's status and payload, the block after it, and what follows the answer. -/
structure Ans where
  status  : Nat := 0
  payload : List Byte := []
  chip    : Chip
  after   : Chip → Chip := id

/-- What a command's checks and execution come to: an answer, or a refusal. -/
abbrev Done := Except No Ans

/-- The command is answered OK. -/
def okWith (payload : List Byte) (c : Chip) : Done := .ok { payload := payload, chip := c }

/-- The command is answered ACCEPTED; what may complete it follows the answer. -/
def accept (c : Chip) (after : Chip → Chip := id) : Done := .ok { status := 1, chip := c, after := after }

/-- A check, with the refusal where it fails. -/
def check (ok : Bool) (n : No) : Except No Unit := if ok then .ok () else .error n

/-- The payload has a length and zeros in its reserved bytes (step 7, R8). -/
def form (p : List Byte) (len : Nat) (zeros : List Nat) : Except No Unit :=
  if p.length ≠ len then .error (.malformed 1 8)
  else match zeros.find? (fun i => p.getD i 0 != 0) with
    | some i => .error (.malformed 2 (16 + i))
    | none => .ok ()

/-- The session's role suffices (steps 8 and 9). -/
def role (need : Nat) (ss : Session) : Except No Unit :=
  if ss.ceil < need then .error (.denied need 0x0104) else if ss.role < need then .error (.locked need) else .ok ()

/-- The command comes over the service port. -/
def overUsb (need : Nat) (ss : Session) : Except No Unit :=
  check (match ss.peer with | some p => p.isUsb | none => false) (.denied need 0x0104)

/-- The module state is one of the command's (step 11, R425). -/
def gate (cmd : Nat) (c : Chip) : Except No Unit := check (bit (cmdStates cmd) c.sup.mstate.code) (.refused 0)

/-- Answers a command that is not executed (R411 to R413). No unlock reaches above the ceiling, where PATHS is 0 (the worked exchange of
chapter 16). -/
def refuse (cmd s tag : Nat) (n : No) (c : Chip) : Chip :=
  let ss := sess c s
  let paths := fun need => if ss.ceil < need then 0 else pathsOpen c ss.peer
  let head := fun need => [BitVec.ofNat 8 ss.role, BitVec.ofNat 8 need, BitVec.ofNat 8 (paths need), 0]
  match n with
  | .malformed r o => malformedSess s cmd tag r o true c
  | .denied need code => respond cmd s tag 0x0201 (head need) (bump 0x1C3 (record code (0x0800 + s) [] c))
  | .locked need => respond cmd s tag 0x0202 (head need) (bump 0x1C3 (record 0x0104 (0x0800 + s) [] c))
  | .arg => respond cmd s tag 0x0103 [] c
  | .refused r => respond cmd s tag 0x0301 (refusedPayload cmd r c) (bump 0x1C4 (record 0x0210 (0x0800 + s) [] c))
  | .own st p code =>
    let c := match code with | some k => record k (0x0800 + s) [] c | none => c
    respond cmd s tag st p (when (st == 0x0301) (bump 0x1C4) c)

/-- Takes a command of a session: its checks, its execution, its answer. A command of a session that has closed is discarded with the
session's rings (R408). -/
def serve (cmd : Nat) (run : Session → List Byte → Chip → Done) (q : Req) (c : Chip) : Chip :=
  let c := pass q.dt c
  let ss := sess c q.sess
  match ss.st, ss.peer with
  | .closed, _ => c
  | _, none => c
  | st, some p =>
    let c := countTaken p c
    if st = .opening ∧ cmd ≠ 0x0102 then refuse cmd q.sess q.tag (.refused 5) c
    else
      match run ss q.payload c with
      | .ok a => a.after (respond cmd q.sess q.tag a.status a.payload a.chip)
      | .error n => refuse cmd q.sess q.tag n c

/-- A command that a pair decides together: proposed to the partner and ACCEPTED in a pair, else ordered for the next boundary (R415,
R426). -/
def propose (e : Effect) (s tag : Nat) (payload : List Byte) (c : Chip) : Done :=
  if isPair c then
    accept (emit (.proposal (.cmd c.tt.tn e)) { c with sup := { c.sup with pairCmds := c.sup.pairCmds ++ [(c.tt.tn, e, s, tag)] } })
  else okWith payload (order (c.tt.tn + 1) e c)

/-- The block as reads of values find it: after the commit step of the last boundary (R431, R437), or as it is while there are no
boundaries. -/
def latched (s : State) : Chip := if s.chip.tt.ticking then s.snap else s.chip

/-! ### Time-outs and space (R403, R404, R408, R412, R417, R419) -/

/-- The unlock of a session ends and its open role returns (R417); cause 1 end of the unlock, 2 RELOCK. -/
def unlockEnds (s cause : Nat) (c : Chip) : Chip :=
  let ss := sess c s
  let r := openRole c ss
  let c := updSess s (fun x => { x with unlock := none, role := r }) c
  let c := event s 0x81F0 0 0 [BitVec.ofNat 8 ss.role, BitVec.ofNat 8 r, BitVec.ofNat 8 cause, 0] (record 0x0112 (0x0800 + s) [] c)
  if r < 3 then serviceEnds s c else c

/-- SESSION_KEEPALIVE_TIMEOUT (R408). -/
def evSessionKeepaliveTimeout (dt s : Nat) (c : Chip) : Chip :=
  let c := pass dt c
  let ss := sess c s
  if ss.st != .closed && decide (ss.lastCmd + 3 * ss.keepalive * 1000000000 ≤ c.time.clock) then closeSession s 1 c else c

/-- SESSION_CONFIRM_TIMEOUT (R408). -/
def evSessionConfirmTimeout (dt s : Nat) (c : Chip) : Chip :=
  let c := pass dt c
  let ss := sess c s
  if ss.st == .opening && decide (ss.openedAt + 5000000000 ≤ c.time.clock) then closeSession s 2 c else c

/-- UNLOCK_EXPIRED (R417). -/
def evUnlockExpired (dt s : Nat) (c : Chip) : Chip :=
  let c := pass dt c
  match (sess c s).unlock with
  | none => c
  | some t => if t ≤ c.time.clock then unlockEnds s 1 c else c

/-- UNLOCK_LOCKOUT_END (R419). -/
def evUnlockLockoutEnd (dt path : Nat) (c : Chip) : Chip :=
  let c := pass dt c
  if (Map.find c.mbx.lockout path).isSome && !pathShut c path then updMbx (fun m => { m with lockout := Map.del m.lockout path }) c else c

/-- SOURCE_BLOCK_END (R412). -/
def evSourceBlockEnd (dt addr : Nat) (c : Chip) : Chip :=
  let c := pass dt c
  match Map.find c.mbx.blocked addr with
  | none => c
  | some t => if t ≤ c.time.clock then updMbx (fun m => { m with blocked := Map.del m.blocked addr }) c else c

/-- USB_DETACH (R397). -/
def evUsbDetach (dt : Nat) (c : Chip) : Chip :=
  forAll [46, 47] (fun s c => if (sess c s).st = .closed then c else closeSession s 5 c) (pass dt c)

/-- Payload of EVENTS_LOST (R423). -/
def lostPayload (ss : Session) : List Byte :=
  leBytes 4 (Nat.min ss.evLost 0xFFFFFFFF)
    ++ (List.range 13).flatMap (fun i => leBytes 4 (Nat.min (Map.getD ss.entLost (112 + i) 0) 0xFFFFFFFF))

/-- EVENT_SPACE_FREED (R404): the session has taken events of so many bytes; EVENTS_LOST goes first where events were dropped. -/
def evEventSpaceFreed (dt s n : Nat) (c : Chip) : Chip :=
  let c := updSess s (fun x => { x with evBytes := x.evBytes - n }) (pass dt c)
  let ss := sess c s
  if ss.st = .closed || (ss.evLost = 0 && ss.entLost.isEmpty) || decide (262144 < ss.evBytes + eventCost ss 56) then c
  else event s 0x81F1 0 0 (lostPayload ss) (updSess s (fun x => { x with evLost := 0, entLost := [] }) c)

/-- EVENT_BATCH_TIMEOUT (R403): what a session has gathered of a ring is sent; stamps for which its share has no room are recorded
(R324). -/
def evEventBatchTimeout (dt s ring : Nat) (c : Chip) : Chip :=
  let c := pass dt c
  let lost := Map.getD (sess c s).entLost ring 0
  let c := flushRing s ring c
  if decide (120 ≤ ring) && decide (ring ≤ 123) && decide (lost < Map.getD (sess c s).entLost ring 0) then record 0x0829 0 [] c else c

/-! ### Rows -/

/-- MESSAGE_ARRIVAL. -/
def execMessageArrival (dt : Nat) (src : Peer) (bytes : List Byte) : State → Host.Outcome State Fault Refusal :=
  lift (evMessageArrival dt src bytes)

/-- SESSION_KEEPALIVE_TIMEOUT. -/
def execSessionKeepaliveTimeout (dt : Nat) (s : Fin 48) : State → Host.Outcome State Fault Refusal := lift (evSessionKeepaliveTimeout dt s)

/-- SESSION_CONFIRM_TIMEOUT. -/
def execSessionConfirmTimeout (dt : Nat) (s : Fin 48) : State → Host.Outcome State Fault Refusal := lift (evSessionConfirmTimeout dt s)

/-- UNLOCK_EXPIRED. -/
def execUnlockExpired (dt : Nat) (s : Fin 48) : State → Host.Outcome State Fault Refusal := lift (evUnlockExpired dt s)

/-- UNLOCK_LOCKOUT_END. -/
def execUnlockLockoutEnd (dt : Nat) (path : Fin 2) : State → Host.Outcome State Fault Refusal := lift (evUnlockLockoutEnd dt path)

/-- SOURCE_BLOCK_END. -/
def execSourceBlockEnd (dt addr : Nat) : State → Host.Outcome State Fault Refusal := lift (evSourceBlockEnd dt addr)

/-- USB_DETACH. -/
def execUsbDetach (dt : Nat) : State → Host.Outcome State Fault Refusal := lift (evUsbDetach dt)

/-- EVENT_SPACE_FREED. -/
def execEventSpaceFreed (dt : Nat) (s : Fin 48) (bytes : Nat) : State → Host.Outcome State Fault Refusal := lift (evEventSpaceFreed dt s bytes)

/-- EVENT_BATCH_TIMEOUT. -/
def execEventBatchTimeout (dt : Nat) (s : Fin 48) (ring : Nat) : State → Host.Outcome State Fault Refusal :=
  lift (evEventBatchTimeout dt s ring)

end Sys2Proof.Machine
end

