-- ==== Sys2Proof/Machine/Sessions.lean ====
section
/-! DEFINITION. Session and access commands (group 0x01 of R427): open, confirmation, close, unlocks, the field lock, and the secrets. -/
namespace Sys2Proof.Machine

open Sys2Proof

/-! ### Opening (R405 to R409) -/

/-- A free session number for a source (R407): the lowest of 0 to 45 for UDP, unless eight sessions share the address; the number of the
endpoint pair on the service port. -/
def freeNumber (c : Chip) (p : Peer) : Option Nat :=
  match p with
  | .usb i => if (sess c (46 + i.val)).st = .closed then some (46 + i.val) else none
  | .udp _ _ =>
    let same := c.mbx.sess.filter (fun e => match e.2.peer with | some q => e.2.st != .closed && q.key == p.key | none => false)
    if 8 ≤ same.length then none else (List.range 46).find? (fun s => (sess c s).st == .closed)

/-- Keys of a sealed session (R409). -/
def sessionKeys (kl nonceH nonceM : List Byte) (s serial : Nat) : List Byte :=
  hkdf (nonceH ++ nonceM) kl ("ZG960 mbx".toList.map (fun b => BitVec.ofNat 8 b.toNat) ++ leBytes 1 s ++ leBytes 8 serial) 72

/-- Payload of the open response (R405). -/
def openPayload (c : Chip) (ss : Session) (nonceM : List Byte) : List Byte :=
  leBytes 1 ss.role ++ leBytes 1 ss.ceil ++ leBytes 1 (b01 ss.sealed + 2 * b01 c.mbx.lock) ++ [0] ++ leBytes 1 c.sup.mstate.code
    ++ leBytes 1 c.sup.role.code ++ [0, 0] ++ leBytes 8 c.sup.serial ++ nonceM

/-- The session that an accepted open makes. -/
def openSession (p : Peer) (s tag : Nat) (payload : List Byte) (c : Chip) : Chip :=
  let sl := bit (fld payload 1 1) 0
  let nonceM := if sl then padTo 32 (Config.freeBytes c.sup.freeCtr 32) else List.replicate 32 0
  let c := when sl drawn c
  let ss0 : Session :=
    { st := if sl then .opening else .open, peer := some p, ceil := ceilOf c p, sealed := sl, roleReq := fld payload 0 1,
      keepalive := fld payload 2 2, lastCmd := c.time.clock, openedAt := c.time.clock, hostSeq := 1,
      keys := if sl then sessionKeys (c.mbx.lkey.getD []) (piece payload 32 32) nonceM s c.sup.serial else [] }
  let ss := { ss0 with role := openRole c ss0 }
  let c := updSess s (fun _ => ss) c
  let c := bump 0x1C7 (record 0x0100 (0x0800 + s) [s, p.transport, p.addr, ss.role] c)
  answerTo s 0x0101 tag (some 1) 0 (openPayload c ss nonceM) c

/-- SESSION_OPEN: the checks of R405, R407 and R411 in their order, then the session. -/
def evSessionOpen (q : Req) (c : Chip) : Chip :=
  let c := pass q.dt c
  let p := q.src
  let pl := q.payload
  let c := updMbx (fun m => { m with opens := m.opens.erase (p, q.tag, pl) }) c
  if !serves c p then c
  else
    let c := countTaken p c
    let sl := bit (fld pl 1 1) 0
    if pl.length ≠ 64 then malformedBare p 0x0101 q.tag 1 8 c
    else if 2 ≤ fld pl 1 1 then malformedBare p 0x0101 q.tag 2 17 c
    else if !p.isUsb && !sl && live c 0x1100 1 2 2 == 1 then
      answerBare p 0x0101 q.tag 0x0201 [0, 0, BitVec.ofNat 8 (pathsOpen c (some p)), 0] (bump 0x1C3 (record 0x0104 0x0300 [] c))
    else if 3 < fld pl 0 1 ∨ fld pl 2 2 = 0 ∨ 60 < fld pl 2 2 ∨ (!sl && (pl.drop 32).any (· != 0)) ∨ (sl && p.isUsb) then
      answerBare p 0x0101 q.tag 0x0103 [] c
    else
      match freeNumber c p with
      | none => answerBare p 0x0101 q.tag 0x0401 [] (record 0x0106 0x0300 [] c)
      | some s => if sl && c.mbx.lkey.isNone then answerBare p 0x0101 q.tag 0x0401 [] c else openSession p s q.tag pl c

/-- SESSION_CONFIRM ends the opening of a sealed session (R409); an open session stays open. -/
def doSessionConfirm (q : Req) (_ss : Session) (p : List Byte) (c : Chip) : Done := do
  form p 0 []
  okWith [] (updSess q.sess (fun x => { x with st := .open }) c)

/-- SESSION_CLOSE: the session closes after the answer. -/
def doSessionClose (q : Req) (_ss : Session) (p : List Byte) (c : Chip) : Done := do
  form p 0 []
  .ok { chip := c, after := closeSession q.sess 0 }

/-- KEEPALIVE. -/
def doKeepalive (_ss : Session) (p : List Byte) (c : Chip) : Done := do
  form p 0 []
  okWith [] c

/-! ### Unlocks (R417 to R419) -/

/-- An unlock is granted: role, end, record, answer (R417). -/
def grantUnlock (s path reqRole dur : Nat) (c : Chip) : Done :=
  let ss := sess c s
  let r := Nat.min reqRole ss.ceil
  let g := Nat.min dur (liveWord c 0x1100 2)
  let c := updSess s (fun x => { x with role := r, unlock := some (c.time.clock + g * 1000000000) }) c
  let c := record 0x0110 (0x0800 + s) [s, r, path, (match ss.peer with | some p => p.addr | none => 0), g, keyId c.mbx.vkey] c
  let c := if r < 3 then serviceEnds s c else c
  okWith (leBytes 4 r ++ leBytes 4 g) c

/-- An unlock that failed: recorded; the fifth on a path within 15 min closes the path for 15 min (R418, R419). -/
def failUnlock (s path : Nat) (c : Chip) : Done :=
  let l := (Map.getD c.mbx.fails path []).filter (fun t => decide (c.time.clock < t + 900000000000)) ++ [c.time.clock]
  let c := bump 0x1C3 (record 0x0111 (0x0800 + s) [] (updMbx (fun m => { m with fails := Map.put m.fails path l }) c))
  let c := if l.length < 5 then c
    else record 0x0113 0x0300 [path] (updMbx (fun m => { m with
      fails := Map.del m.fails path, lockout := Map.put m.lockout path (c.time.clock + 900000000000) }) c)
  let ss := sess c s
  .ok { status := 0x0201, payload := leBytes 1 ss.role ++ [0] ++ leBytes 1 (pathsOpen c ss.peer) ++ [0], chip := c }

/-- UNLOCK_PASSWORD (R417). -/
def doUnlockPassword (q : Req) (ss : Session) (p : List Byte) (c : Chip) : Done := do
  let n := fld p 6 1
  check (decide (12 ≤ n) && decide (n ≤ 64) && p.length == 8 + n) (.malformed 1 8)
  form p (8 + n) [1, 7]
  overUsb 0 ss
  check (!pathShut c 0) (.denied 0 0x0104)
  check (decide (fld p 0 1 ≤ 3)) .arg
  gate 0x0110 c
  match c.mbx.pw with
  | none => .error (.own 0x0401 [] none)
  | some (salt, h) =>
    if pbkdf2 (p.drop 8) salt 20000 = h then grantUnlock q.sess 0 (fld p 0 1) (fld p 2 4) c else failUnlock q.sess 0 c

/-- UNLOCK_CHALLENGE (R418). -/
def doUnlockChallenge (q : Req) (_ss : Session) (p : List Byte) (c : Chip) : Done := do
  form p 8 [1, 2, 3]
  check (!pathShut c 1) (.denied 0 0x0104)
  check (decide (fld p 0 1 ≤ 3)) .arg
  gate 0x0111 c
  check c.mbx.vkey.isSome (.own 0x0401 [] none)
  let nonce := padTo 32 (Config.freeBytes c.sup.freeCtr 32)
  okWith (nonce ++ leBytes 8 c.sup.serial ++ leBytes 2 60 ++ leBytes 1 (fld p 0 1) ++ List.replicate 5 0)
    (updSess q.sess (fun x => { x with nonce := some (nonce, fld p 0 1, fld p 4 4, c.time.clock + 60000000000) }) (drawn c))

/-- The 60 bytes that a MAC covers (R418). -/
def unlockMessage (nonce : List Byte) (serial s r dur : Nat) : List Byte :=
  "ZG960-UNLOCK".toList.map (fun b => BitVec.ofNat 8 b.toNat) ++ nonce ++ leBytes 8 serial ++ leBytes 1 s ++ leBytes 1 r ++ [0, 0]
    ++ leBytes 4 dur

/-- UNLOCK_RESPONSE (R418). -/
def doUnlockResponse (q : Req) (ss : Session) (p : List Byte) (c : Chip) : Done := do
  form p 40 [4, 5, 6, 7]
  check (!pathShut c 1) (.denied 0 0x0104)
  gate 0x0112 c
  let c' := updSess q.sess (fun x => { x with nonce := none }) c
  match ss.nonce, c.mbx.vkey with
  | some (nonce, r, dur, till), some k =>
    if fld p 0 4 = keyId (some k) ∧ c.time.clock < till ∧ hmac k (unlockMessage nonce c.sup.serial q.sess r dur) = p.drop 8 then
      grantUnlock q.sess 1 r dur c'
    else failUnlock q.sess 1 c'
  | _, _ => failUnlock q.sess 1 c'

/-- RELOCK (R417). -/
def doRelock (q : Req) (ss : Session) (p : List Byte) (c : Chip) : Done := do
  form p 0 []
  gate 0x0113 c
  okWith [] (when ss.unlock.isSome (unlockEnds q.sess 2) c)

/-! ### The field lock and the secrets (R416, R419) -/

/-- A session that held ENGINEER or SERVICE drops as the field lock engages. -/
def dropRole (s : Nat) (c : Chip) : Chip :=
  let ss := sess c s
  if ss.role < 2 then c
  else
    let r := Nat.min 1 ss.ceil
    serviceEnds s (event s 0x81F0 0 0 [BitVec.ofNat 8 ss.role, BitVec.ofNat 8 r, 0, 0] (updSess s (fun x => { x with role := r }) c))

/-- FIELD_LOCK_ENGAGE (R416). -/
def doFieldLockEngage (ss : Session) (p : List Byte) (c : Chip) : Done := do
  form p 0 []
  role 3 ss
  gate 0x0120 c
  check (c.mbx.vkey.isSome || c.mbx.pw.isSome) (.own 0x0401 [] none)
  okWith [] (forAll (c.mbx.sess.map (·.1)) dropRole (record 0x0114 0x0300 [] (updMbx (fun m => { m with lock := true }) c)))

/-- FIELD_LOCK_RELEASE (R416). -/
def doFieldLockRelease (ss : Session) (p : List Byte) (c : Chip) : Done := do
  form p 0 []
  overUsb 3 ss
  role 3 ss
  gate 0x0121 c
  okWith [] (record 0x0115 0x0300 [] (updMbx (fun m => { m with lock := false }) c))

/-- A secret has changed: every challenge nonce is invalid, and its identity is recorded (R419). -/
def secretChanged (kind ident : Nat) (c : Chip) : Chip :=
  record 0x0116 0x0300 [kind, ident] (updMbx (fun m => { m with sess := Map.mapV m.sess (fun _ x => { x with nonce := none }) }) c)

/-- SET_PASSWORD (R417, R419): the salt and the identity recorded are free values. -/
def doSetPassword (ss : Session) (p : List Byte) (c : Chip) : Done := do
  let n := fld p 0 1
  check (decide (12 ≤ n) && decide (n ≤ 64) && p.length == 4 + n) (.malformed 1 8)
  form p (4 + n) [1, 2, 3]
  overUsb 3 ss
  role 3 ss
  gate 0x0122 c
  let salt := padTo 16 (Config.freeBytes c.sup.freeCtr 16)
  let ident := Config.freeNat c.sup.freeCtr [0x0122] % 2 ^ 32
  okWith [] (secretChanged 0 ident (updMbx (fun m => { m with pw := some (salt, pbkdf2 (p.drop 4) salt 20000) }) (drawn c)))

/-- SET_VESSEL_KEY (R419): over the service port or in a sealed session. -/
def doSetVesselKey (ss : Session) (p : List Byte) (c : Chip) : Done := do
  form p 32 []
  check (ss.sealed || (match ss.peer with | some x => x.isUsb | none => false)) (.denied 3 0x0104)
  role 3 ss
  gate 0x0123 c
  okWith (leBytes 4 (keyId (some p))) (secretChanged 1 (keyId (some p)) (updMbx (fun m => { m with vkey := some p }) c))

/-- SET_LINK_KEY (R419). -/
def doSetLinkKey (ss : Session) (p : List Byte) (c : Chip) : Done := do
  form p 32 []
  overUsb 3 ss
  role 3 ss
  gate 0x0124 c
  okWith (leBytes 4 (keyId (some p))) (secretChanged 2 (keyId (some p)) (updMbx (fun m => { m with lkey := some p }) c))

/-! ### Rows -/

/-- SESSION_OPEN. -/
def execSessionOpen (q : Req) : State → Host.Outcome State Fault Refusal := lift (evSessionOpen q)

/-- SESSION_CONFIRM. -/
def execSessionConfirm (q : Req) : State → Host.Outcome State Fault Refusal := lift (serve 0x0102 (doSessionConfirm q) q)

/-- SESSION_CLOSE. -/
def execSessionClose (q : Req) : State → Host.Outcome State Fault Refusal := lift (serve 0x0103 (doSessionClose q) q)

/-- KEEPALIVE. -/
def execKeepalive (q : Req) : State → Host.Outcome State Fault Refusal := lift (serve 0x0104 doKeepalive q)

/-- UNLOCK_PASSWORD. -/
def execUnlockPassword (q : Req) : State → Host.Outcome State Fault Refusal := lift (serve 0x0110 (doUnlockPassword q) q)

/-- UNLOCK_CHALLENGE. -/
def execUnlockChallenge (q : Req) : State → Host.Outcome State Fault Refusal := lift (serve 0x0111 (doUnlockChallenge q) q)

/-- UNLOCK_RESPONSE. -/
def execUnlockResponse (q : Req) : State → Host.Outcome State Fault Refusal := lift (serve 0x0112 (doUnlockResponse q) q)

/-- RELOCK. -/
def execRelock (q : Req) : State → Host.Outcome State Fault Refusal := lift (serve 0x0113 (doRelock q) q)

/-- FIELD_LOCK_ENGAGE. -/
def execFieldLockEngage (q : Req) : State → Host.Outcome State Fault Refusal := lift (serve 0x0120 doFieldLockEngage q)

/-- FIELD_LOCK_RELEASE. -/
def execFieldLockRelease (q : Req) : State → Host.Outcome State Fault Refusal := lift (serve 0x0121 doFieldLockRelease q)

/-- SET_PASSWORD. -/
def execSetPassword (q : Req) : State → Host.Outcome State Fault Refusal := lift (serve 0x0122 doSetPassword q)

/-- SET_VESSEL_KEY. -/
def execSetVesselKey (q : Req) : State → Host.Outcome State Fault Refusal := lift (serve 0x0123 doSetVesselKey q)

/-- SET_LINK_KEY. -/
def execSetLinkKey (q : Req) : State → Host.Outcome State Fault Refusal := lift (serve 0x0124 doSetLinkKey q)

end Sys2Proof.Machine
end

