-- ==== Sys2Proof/Machine/Module.lean ====
section
/-! DEFINITION. Commands of the module state and of the sets (groups 0x02 and 0x03 of R427 and R428): state, restart, stop, service,
reset; siding loads, throws and their reports. -/
namespace Sys2Proof.Machine

open Sys2Proof

/-! ### Module state (R427) -/

/-- STATE_GET. -/
def doStateGet (ss : Session) (p : List Byte) (c : Chip) : Done := do
  form p 0 []
  role 0 ss
  gate 0x0201 c
  okWith (leBytes 1 c.sup.mstate.code ++ leBytes 1 c.sup.role.code ++ leBytes 1 c.pair.st.code ++ leBytes 1 c.sets.siding.code
    ++ leBytes 1 c.time.servo.code ++ [0, 0, 0] ++ leBytes 8 c.tt.tn) c

/-- What RESTART and SERVICE_ENTER ask of the servo and the thermal stage (R33, R332, R485). -/
def runReady (c : Chip) : Except No Unit := do
  check (c.time.servo != .unlocked && c.time.servo != .locking) (.refused 3)
  check (decide (c.hlth.stage < 3)) (.refused 5)

/-- RESTART (R33, R138, R139, R427): a reserve, a module in a role conflict and a withdrawn member stay in STOP. -/
def doRestart (q : Req) (ss : Session) (p : List Byte) (c : Chip) : Done := do
  form p 4 [1, 2, 3]
  let cold := fld p 0 1 == 1
  role (if cold then 2 else 1) ss
  check (cold || fld p 0 1 == 2) .arg
  gate 0x0202 c
  runReady c
  check (!isReserve c && !c.sup.conflict && !(isPair c && c.pair.st == .degraded && c.pair.withdrawn)) (.refused 1)
  check (cold || dirIntact c) (.refused 5)
  let go := fun c => accept (order (c.tt.tn + 1) (.enterRun (!cold) 1) (await 0x0202 q.sess q.tag c))
  if cold then go c
  else
    match warmRefused c with
    | (none, c) => go c
    | (some 0x0403, c) => accept c (complete 0x0202 q.sess q.tag 0x0403 [])
    | (some st, c) => .ok { status := st, chip := c }

/-- STOP (R76, R427). -/
def doStop (q : Req) (ss : Session) (p : List Byte) (c : Chip) : Done := do
  form p 0 []
  role 1 ss
  gate 0x0203 c
  accept (order (c.tt.tn + 1) .enterStop (await 0x0203 q.sess q.tag c))

/-- SERVICE_ENTER (R332, R394, R427). -/
def doServiceEnter (q : Req) (ss : Session) (p : List Byte) (c : Chip) : Done := do
  form p 0 []
  role 3 ss
  gate 0x0204 c
  runReady c
  okWith [] (order (c.tt.tn + 1) .enterService { c with sup := { c.sup with svcSess := some q.sess } })

/-- SERVICE_EXIT (R394, R427). -/
def doServiceExit (ss : Session) (p : List Byte) (c : Chip) : Done := do
  form p 0 []
  role 3 ss
  gate 0x0205 c
  okWith [] (order (c.tt.tn + 1) .enterStop c)

/-- RESET: every session ends as at a loss of logic power, and the module starts from BOOT (R394, R427). -/
def resetModule (c : Chip) : Chip :=
  let c := powerDown (saveAtFail c)
  { c with sup := { c.sup with mstate := .boot, fromReset := true } }

/-- RESET. -/
def doReset (ss : Session) (p : List Byte) (c : Chip) : Done := do
  form p 0 []
  role 3 ss
  gate 0x0206 c
  .ok { chip := c, after := resetModule }

/-! ### Siding loads (R143, R428, R429) -/

/-- No throw is named and no staged item is in TRANSITION (R143). -/
def sidingFree (c : Chip) : Bool :=
  !c.sets.named && c.sets.trans.isEmpty && !c.sets.rollback && c.sets.revertTo.isNone
    && !c.sup.pairCmds.any (fun x => match x.2.1 with | .named _ _ _ => true | .loaded => true | _ => false)

/-- A partial load is discarded (R428). -/
def discardLoad (c : Chip) : Done := .ok { status := 0x0103, chip := if c.sets.load.isSome then clearSiding c else c }

/-- SET_LOAD_BEGIN. -/
def doSetLoadBegin (ss : Session) (p : List Byte) (c : Chip) : Done := do
  form p 8 []
  role 2 ss
  if 2 ^ 28 < fld p 0 4 then discardLoad c
  else
    gate 0x0301 c
    check (sidingFree c) (.refused 2)
    okWith [] { c with sets := { c.sets with side := none, siding := .loading, load := some (fld p 0 4, fld p 4 4, 0) } }

/-- SET_LOAD_DATA: the segment whose OFFSET equals the bytes already received. -/
def doSetLoadData (ss : Session) (p : List Byte) (c : Chip) : Done := do
  check (decide (9 ≤ p.length) && decide (p.length ≤ 4096)) (.malformed 1 8)
  form p p.length [4, 5, 6, 7]
  role 2 ss
  match c.sets.load with
  | none => discardLoad c
  | some (total, id, n) =>
    if fld p 0 4 ≠ n ∨ total < n + (p.length - 8) then discardLoad c
    else
      gate 0x0302 c
      check (sidingFree c) (.refused 2)
      okWith [] { c with sets := { c.sets with load := some (total, id, n + (p.length - 8)) } }

/-- SET_LOAD_END: the package is checked; in a pair the load is passed to the partner (R143, R162, R429). -/
def doSetLoadEnd (q : Req) (pkg : Package) (ss : Session) (p : List Byte) (c : Chip) : Done := do
  form p 0 []
  role 2 ss
  match c.sets.load with
  | none => discardLoad c
  | some (total, _, n) =>
    if n < total then discardLoad c
    else
      gate 0x0303 c
      check (sidingFree c) (.refused 2)
      match packageBad c.sets.main pkg with
      | some b =>
        let (r, c) := loadRefused b c
        accept c (complete 0x0303 q.sess q.tag b.status r)
      | none =>
        let c := storeSiding pkg.set .loading c
        if isPair c then
          accept (emit (.proposal (.load pkg)) { c with
            sup := { c.sup with pairCmds := c.sup.pairCmds ++ [(c.tt.tn, .loaded, q.sess, q.tag)] } })
        else
          let (r, c) := loadDone c
          accept c (complete 0x0303 q.sess q.tag 0 r)

/-! ### Throws (R147, R162, R428, R430) -/

/-- An option of THROW: its value where it is given, else its default (R147). -/
def throwOption (o : Nat) (given value : Nat) (default : Nat) : Bool := if bit o given then bit o value else default == 1

/-- A throw that is refused: its own status and code, and for STATE_REFUSED the payload of R413. -/
def throwNo (b : ThrowBad) (c : Chip) : No :=
  if b.code = 0x0210 then .refused b.reason
  else .own b.status (if b.status = 0x0301 then refusedPayload 0x0304 b.reason c else []) (some b.code)

/-- THROW. -/
def doThrow (q : Req) (ss : Session) (p : List Byte) (c : Chip) : Done := do
  form p 16 [9, 10, 11, 12, 13, 14, 15]
  let o := fld p 8 1
  check (decide (o < 16)) (.malformed 2 24)
  role 2 ss
  let tn := fld p 0 8
  check (decide (c.tt.tn + 16 ≤ tn)) .arg
  gate 0x0304 c
  let f := throwOption o 0 1 (live c 0x2020 2 1 1)
  let st := throwOption o 2 3 (live c 0x2020 2 0 0)
  check (sidingFree c) (.refused 2)
  match throwBad c f st with
  | some b => .error (throwNo b c)
  | none =>
    if isPair c then
      if c.pair.st = .degraded then .error (throwNo { status := 0x0301, code := 0x0325, reason := 4 } c)
      else
        accept (emit (.proposal (.throw tn f st)) { c with
          sup := { c.sup with pairCmds := c.sup.pairCmds ++ [(c.tt.tn, .named tn f st, q.sess, q.tag)] } })
    else accept (nameThrow tn f false (some (q.sess, q.tag)) c)

/-- THROW_CANCEL: a throw that the host named ends at once; in a pair by agreement (R428). -/
def doThrowCancel (q : Req) (ss : Session) (p : List Byte) (c : Chip) : Done := do
  form p 0 []
  role 2 ss
  gate 0x0305 c
  check (c.sets.named && !c.sets.rollback) (.refused 2)
  if isPair c then propose .throwCancel q.sess q.tag [] c else okWith [] (cancelThrow 0x0323 c)

/-- SIDING_CLEAR. -/
def doSidingClear (ss : Session) (p : List Byte) (c : Chip) : Done := do
  form p 0 []
  role 2 ss
  gate 0x0306 c
  check (sidingFree c) (.refused 2)
  okWith [] (clearSiding c)

/-- REPORT_READ. -/
def doReportRead (ss : Session) (p : List Byte) (c : Chip) : Done := do
  form p 4 []
  role 0 ss
  gate 0x0307 c
  okWith ((c.sets.report.drop (fld p 0 4)).take 4096) c

/-! ### Rows -/

/-- STATE_GET. -/
def execStateGet (q : Req) : State → Host.Outcome State Fault Refusal := lift (serve 0x0201 doStateGet q)

/-- RESTART. -/
def execRestart (q : Req) : State → Host.Outcome State Fault Refusal := lift (serve 0x0202 (doRestart q) q)

/-- STOP. -/
def execStop (q : Req) : State → Host.Outcome State Fault Refusal := lift (serve 0x0203 (doStop q) q)

/-- SERVICE_ENTER. -/
def execServiceEnter (q : Req) : State → Host.Outcome State Fault Refusal := lift (serve 0x0204 (doServiceEnter q) q)

/-- SERVICE_EXIT. -/
def execServiceExit (q : Req) : State → Host.Outcome State Fault Refusal := lift (serve 0x0205 doServiceExit q)

/-- RESET. -/
def execReset (q : Req) : State → Host.Outcome State Fault Refusal := lift (serve 0x0206 doReset q)

/-- SET_LOAD_BEGIN. -/
def execSetLoadBegin (q : Req) : State → Host.Outcome State Fault Refusal := lift (serve 0x0301 doSetLoadBegin q)

/-- SET_LOAD_DATA. -/
def execSetLoadData (q : Req) : State → Host.Outcome State Fault Refusal := lift (serve 0x0302 doSetLoadData q)

/-- SET_LOAD_END. -/
def execSetLoadEnd (q : Req) (p : Package) : State → Host.Outcome State Fault Refusal := lift (serve 0x0303 (doSetLoadEnd q p) q)

/-- THROW. -/
def execThrow (q : Req) : State → Host.Outcome State Fault Refusal := lift (serve 0x0304 (doThrow q) q)

/-- THROW_CANCEL. -/
def execThrowCancel (q : Req) : State → Host.Outcome State Fault Refusal := lift (serve 0x0305 (doThrowCancel q) q)

/-- SIDING_CLEAR. -/
def execSidingClear (q : Req) : State → Host.Outcome State Fault Refusal := lift (serve 0x0306 doSidingClear q)

/-- REPORT_READ. -/
def execReportRead (q : Req) : State → Host.Outcome State Fault Refusal := lift (serve 0x0307 doReportRead q)

end Sys2Proof.Machine
end

