-- ==== Sys2Proof/Machine/Variables.lean ====
section
/-! DEFINITION. Commands of tasks, images, variables and forces (groups 0x04 and 0x05 of R431). -/
namespace Sys2Proof.Machine

open Sys2Proof

/-! ### Tasks and images -/

/-- TASK_RESUME (R70, R71). -/
def doTaskResume (q : Req) (ss : Session) (p : List Byte) (c : Chip) : Done := do
  form p 4 [1, 2, 3]
  role 2 ss
  gate 0x0401 c
  check ((task c (fld p 0 1)).st == .suspended) (.refused 5)
  propose (.taskResume (fld p 0 1)) q.sess q.tag [] c

/-- TASK_READ: the task's parameters and its state as one boundary left them; `sn` is the block at that boundary. -/
def doTaskRead (sn : Chip) (ss : Session) (p : List Byte) (c : Chip) : Done := do
  form p 4 [1, 2, 3]
  role 0 ss
  gate 0x0402 c
  let t := fld p 0 1
  let words := (List.range 10).map (fun i => (0x2100 + t, i + 1)) ++ (List.range 6).map (fun i => (0x2200 + t, i + 1))
  okWith (words.flatMap (fun w => leBytes 4 ((paramWord sn w.1 w.2).getD 0))) c

/-- One byte into the reflected CRC-32 register. -/
def crc32Byte (r : BitVec 32) (b : Byte) : BitVec 32 :=
  (List.range 8).foldl (fun x _ => if x.getLsbD 0 then (x >>> 1) ^^^ 0xEDB88320#32 else x >>> 1) (r ^^^ b.setWidth 32)

/-- CRC-32 of IEEE 802.3 (R80). -/
def crc32 (bs : List Byte) : Nat := ((bs.foldl crc32Byte 0xFFFFFFFF#32) ^^^ 0xFFFFFFFF#32).toNat

/-- The 64 bytes of an image's header (R80). -/
def imageHeader (i : Image) : List Byte :=
  let b := leBytes 4 0x4950475A ++ leBytes 2 i.fmtMajor ++ leBytes 2 i.fmtMinor ++ leBytes 4 i.bytes ++ leBytes 2 i.no ++ leBytes 2 i.nSect
    ++ leBytes 8 i.id ++ leBytes 4 i.toolVer ++ leBytes 4 i.features ++ leBytes 4 i.codeBytes ++ leBytes 4 i.conBytes
    ++ leBytes 4 i.locBytes ++ leBytes 4 i.instBytes ++ leBytes 4 i.journalWc ++ leBytes 4 i.lists.length ++ leBytes 4 0
  b ++ leBytes 4 (crc32 b)

/-- IMAGE_INFO. -/
def doImageInfo (ss : Session) (p : List Byte) (c : Chip) : Done := do
  form p 4 [2, 3]
  role 0 ss
  match c.sets.main.images.find? (fun i => i.no == fld p 0 2) with
  | none => .error .arg
  | some i =>
    gate 0x0403 c
    okWith (imageHeader i) c

/-! ### Variables -/

/-- Value bytes and status of a variable (R431): an input as captured, an output as committed, any other where it is stored. -/
def varValue (c : Chip) (id : Nat) : Option (List Byte × Nat) :=
  let cs := c.sets.main
  match (tasksOf cs).findSome? (fun t => (inDecls cs t).find? (fun d => d.varId == id)) with
  | some d => some (declCap c d)
  | none =>
    match (tasksOf cs).findSome? (fun t => ((outLayout 0 (outDecls cs t)).find? (fun d => d.1.varId == id)).map (fun d => (t, d))) with
    | some (t, d) => some (Mem.rdN (task c t).committed d.2 (d.1.elems * d.1.ty.size), 0)
    | none =>
      match cs.images.findSome? (fun i => (i.vars.find? (fun v => v.id == id)).map (fun v => (i, v))) with
      | none => none
      | some (i, v) =>
        let a := v.loc.addr
        let n := v.elems * v.loc.ty.size
        let loc := ((tasksOf cs).find? (fun t => setFld cs (0x2100 + t) 6 31 16 == i.no)).elim [] (fun t => (task c t).loc)
        some (match v.loc.sp with
          | .glb => Mem.rdN c.mem.glb a n
          | .ret => Mem.rdN c.mem.ret a n
          | .loc => Mem.rdN loc a n
          | .con => Mem.rdN i.con a n
          | _ => List.replicate n 0, 0)

/-- An entry of a VAR_READ request: variable, first element, elements. -/
def varReq (p : List Byte) (i : Nat) : Nat × Nat × Nat := (fld p (4 + 16 * i) 8, fld p (12 + 16 * i) 2, fld p (14 + 16 * i) 2)

/-- The answer to an entry of VAR_READ; none where it reaches outside a variable. -/
def varAnswer (c : Chip) (e : Nat × Nat × Nat) : Option (List Byte) :=
  match varInfo c.sets.main e.1, varValue c e.1 with
  | some (ty, elems), some (b, st) =>
    if elems < e.2.1 + e.2.2 then none
    else
      let n := e.2.2 * ty.size
      some (leBytes 8 e.1 ++ leBytes 2 e.2.1 ++ leBytes 2 e.2.2 ++ leBytes 1 ty.code ++ leBytes 1 st ++ [0, 0]
        ++ padTo (cdiv n 8 * 8) (piece b (e.2.1 * ty.size) n))
  | _, _ => none

/-- VAR_READ: every value as the commit step of the last boundary left it. -/
def doVarRead (sn : Chip) (ss : Session) (p : List Byte) (c : Chip) : Done := do
  let n := fld p 0 1
  form p (4 + 16 * n) ([1, 2, 3] ++ (List.range n).flatMap (fun i => (List.range 4).map (fun k => 16 + 16 * i + k)))
  role 0 ss
  let as := (List.range n).map (fun i => varAnswer sn (varReq p i))
  check (as.all (·.isSome)) .arg
  let b := (as.filterMap id).flatten
  check (decide (b.length ≤ 4096)) .arg
  gate 0x0501 c
  okWith b c

/-- A GLB variable that no task writes (R59, R84). -/
def hostWritten (cs : ConfigSet) (id : Nat) : Option VarEntry :=
  let vs := (cs.images.flatMap (·.vars)).filter (fun v => v.id == id)
  if vs.any (fun v => bit v.flags 1) then none else vs.find? (fun v => v.loc.sp == .glb)

/-- VAR_WRITE. -/
def doVarWrite (q : Req) (ss : Session) (p : List Byte) (c : Chip) : Done := do
  check (decide (17 ≤ p.length) && decide (p.length ≤ 4096)) (.malformed 1 8)
  form p p.length [13, 14, 15]
  role 1 ss
  let n := fld p 10 2
  match hostWritten c.sets.main (fld p 0 8) with
  | none => .error .arg
  | some v =>
    let sz := v.loc.ty.size
    check (v.loc.ty.code == fld p 12 1 && n != 0 && decide (fld p 8 2 + n ≤ v.elems) && p.length == 16 + n * sz) .arg
    gate 0x0502 c
    propose (.varWrite (fld p 0 8) (fld p 8 2) ((List.range n).map (fun i => fld p (16 + i * sz) sz))) q.sess q.tag [] c

/-! ### Forces (R154 to R158) -/

/-- Role a force command needs: SERVICE for a variable that a class S task declares, and ACCESS_DENIED where a session holds ENGINEER
only (R156). -/
def forceRole (c : Chip) (p : List Byte) (ss : Session) : Except No Unit :=
  if classSVar c.sets.main (fld p 0 8) then (if ss.role = 2 then .error (.denied 3 0x0104) else role 3 ss) else role 2 ss

/-- An entry of the force table as its 32 bytes (R154). -/
def forceBytes (f : Force) : List Byte :=
  leBytes 8 f.varId ++ leBytes 2 f.elem ++ leBytes 1 f.fkind ++ leBytes 1 f.flags ++ leBytes 1 f.session ++ [0, 0, 0] ++ leBytes 8 f.value
    ++ leBytes 8 (f.expiry.getD 0xFFFFFFFFFFFFFFFF)

/-- A throw under FORCES_BLOCK is named, and a throw would affect one of the forces (R158). -/
def forceShut (c : Chip) (fs : List Force) : Bool :=
  match c.sets.side with
  | some side => c.sets.named && c.sets.fBlock && fs.any (affected c.sets.main side)
  | none => false

/-- What a force command asks of the module's state (R353, R431). -/
def forceReady (cmd : Nat) (fs : List Force) (c : Chip) : Except No Unit := do
  gate cmd c
  check (!(isPair c && c.pair.st == .degraded)) (.refused 4)
  check (!forceShut c fs) (.refused 5)

/-- The force a FORCE_SET asks for. -/
def forceAsked (c : Chip) (s : Nat) (ss : Session) (p : List Byte) : Force :=
  let cs := c.sets.main
  let id := fld p 0 8
  let acts := (tasksOf cs).any (fun t => declaresVar cs id t (fld p 10 1 == 1))
  { varId := id, elem := fld p 8 2, fkind := fld p 10 1, flags := b01 (classSVar cs id) + 2 * b01 (!acts), session := s, value := fld p 16 8
    expiry := if fld p 24 8 = 0xFFFFFFFFFFFFFFFF then none else some (fld p 24 8), svc := ss.role == 3, setAt := mTime c }

/-- FORCE_SET. -/
def doForceSet (q : Req) (ss : Session) (p : List Byte) (c : Chip) : Done := do
  form p 32 [13, 14, 15]
  check (decide (fld p 11 1 < 4)) (.malformed 2 27)
  forceRole c p ss
  let f := forceAsked c q.sess ss p
  match varInfo c.sets.main f.varId with
  | none => .error .arg
  | some (_, elems) =>
    check (decide (f.elem < elems) && decide (f.fkind < 2) && fld p 12 1 == 0 && (!bit f.flags 0 || meetsS f)) .arg
    forceReady 0x0503 [f] c
    check (decide (c.sets.forces.length < 512) || c.sets.forces.any (fun g => g.varId == f.varId && g.elem == f.elem)) (.own 0x0401 [] none)
    propose (.forceSet f) q.sess q.tag [] c

/-- FORCE_CLEAR. -/
def doForceClear (q : Req) (ss : Session) (p : List Byte) (c : Chip) : Done := do
  form p 16 [11, 12, 13, 14, 15]
  forceRole c p ss
  check (decide (fld p 10 1 < 2)) .arg
  forceReady 0x0504 (c.sets.forces.filter (forceNamed (fld p 0 8) (fld p 8 2) (fld p 10 1))) c
  propose (.forceClear (fld p 0 8) (fld p 8 2) (fld p 10 1) q.sess) q.sess q.tag [] c

/-- FORCE_LIST. -/
def doForceList (ss : Session) (p : List Byte) (c : Chip) : Done := do
  form p 4 [2, 3]
  role 0 ss
  gate 0x0505 c
  let fs := (c.sets.forces.drop (fld p 0 2)).take 127
  okWith (leBytes 4 fs.length ++ fs.flatMap forceBytes) c

/-! ### Rows -/

/-- TASK_RESUME. -/
def execTaskResume (q : Req) : State → Host.Outcome State Fault Refusal := lift (serve 0x0401 (doTaskResume q) q)

/-- TASK_READ. -/
def execTaskRead (q : Req) (n : State) : Host.Outcome State Fault Refusal := lift (serve 0x0402 (doTaskRead (latched n)) q) n

/-- IMAGE_INFO. -/
def execImageInfo (q : Req) : State → Host.Outcome State Fault Refusal := lift (serve 0x0403 doImageInfo q)

/-- VAR_READ. -/
def execVarRead (q : Req) (n : State) : Host.Outcome State Fault Refusal := lift (serve 0x0501 (doVarRead (latched n)) q) n

/-- VAR_WRITE. -/
def execVarWrite (q : Req) : State → Host.Outcome State Fault Refusal := lift (serve 0x0502 (doVarWrite q) q)

/-- FORCE_SET. -/
def execForceSet (q : Req) : State → Host.Outcome State Fault Refusal := lift (serve 0x0503 (doForceSet q) q)

/-- FORCE_CLEAR. -/
def execForceClear (q : Req) : State → Host.Outcome State Fault Refusal := lift (serve 0x0504 (doForceClear q) q)

/-- FORCE_LIST. -/
def execForceList (q : Req) : State → Host.Outcome State Fault Refusal := lift (serve 0x0505 doForceList q)

end Sys2Proof.Machine
end

