-- ==== Sys2Proof/Machine/Io.lean ====
section
/-! DEFINITION. Commands of field I/O, CAN, time and Sage (groups 0x06 to 0x09 of R432 and R433). -/
namespace Sys2Proof.Machine

open Sys2Proof

/-! ### Digital and analogue channels (group 0x06) -/

/-- DI_COUNT_RESET (R256). -/
def doDiCountReset (q : Req) (ss : Session) (p : List Byte) (c : Chip) : Done := do
  form p 4 []
  role 2 ss
  gate 0x0601 c
  propose (.diReset (fld p 0 4)) q.sess q.tag [] c

/-- DO_LEARN (R269): on a channel with LEARN_EN = 1 that is not learning already. -/
def doDoLearn (q : Req) (ss : Session) (p : List Byte) (c : Chip) : Done := do
  form p 4 [1, 2, 3]
  role 2 ss
  let ch := fld p 0 1
  check (decide (ch < 24)) .arg
  gate 0x0602 c
  check (doEn c ch && cfgb c (0x3140 + ch) 1 14) (.refused 5)
  check (dov c ch).learn.isNone (.own 0x0302 [] none)
  accept (updDo ch (fun d => { d with learn := some (16, none, 0, q.sess, q.tag), learnOn := false, learnCur := none }) c)

/-- HOLD_ACK (R272). -/
def doHoldAck (q : Req) (ss : Session) (p : List Byte) (c : Chip) : Done := do
  form p 4 [1, 2, 3]
  role 1 ss
  let g := fld p 0 1
  check (decide (g < 3)) .arg
  gate 0x0603 c
  check (Map.getD c.io.hold g false) (.refused 5)
  propose (.holdAck g) q.sess q.tag [] c

/-- A class S task declares the value of a HART channel: its AI or AO channel, or its records (R249). -/
def hartClassS (c : Chip) (h : Nat) : Bool :=
  let cs := c.sets.main
  (tasksOf cs).any (fun t => clsIn cs t == .s &&
    ((inDecls cs t).any (fun d => match d.src with
        | .ai ch => ch.val == h | .aoRb ch => ch.val + 24 == h | .hart x _ => x.val == h | .hartRsp x => x.val == h | _ => false)
      || (outDecls cs t).any (fun d => match d.dst with | .ao ch => ch.val + 24 == h | _ => false)))

/-- HART_SEND (R248, R249). -/
def doHartSend (q : Req) (ss : Session) (p : List Byte) (c : Chip) : Done := do
  let n := fld p 3 1
  check (decide (n ≤ 64)) (.malformed 1 8)
  form p (4 + n) []
  let h := fld p 0 1
  let cmd := fld p 2 1
  role (if hartRefused cmd then 3 else 2) ss
  check (decide (h < 32) && decide (fld p 1 1 < 64)) .arg
  gate 0x0604 c
  check (!hartRefused cmd || !hartClassS c h || c.sup.mstate == .stop) (.refused 0)
  check (decide ((hch c h).queue.length < 4)) (.own 0x0302 [] none)
  accept c (hartPush { h := h, addr := fld p 1 1, cmd := cmd, data := p.drop 4, tag := q.tag % 2 ^ 32, sess := some q.sess })

/-- LOOP_CHECK: the value holds until SERVICE ends. -/
def doLoopCheck (ss : Session) (p : List Byte) (c : Chip) : Done := do
  form p 8 [2, 3]
  role 3 ss
  let k := fld p 0 1
  let ch := fld p 1 1
  let v := fld p 4 4
  check ((k == 0 && decide (ch < 24) && decide (v < 2)) || (k == 1 && decide (ch < 8) && decide (v ≤ 44000))) .arg
  gate 0x0605 c
  okWith [] (order (c.tt.tn + 1) (.loopCheck k ch v) c)

/-! ### CAN (group 0x07) -/

/-- A channel and a buffer of TB2 (R281). -/
def hostBuf (ch bf : Nat) : Bool := decide (ch < 4) && decide (32 ≤ bf) && decide (bf < 48)

/-- CAN_TX (R282): the request takes effect at the next boundary; its tag in the transmit status record is the request's own. -/
def doCanTx (q : Req) (ss : Session) (p : List Byte) (c : Chip) : Done := do
  form p 76 [9, 10, 11]
  role 1 ss
  let ch := fld p 0 1
  let arm := fld p 2 2
  let dlc := fld p 8 1
  check (hostBuf ch (fld p 1 1) && decide (arm ≤ 10000) && decide (dlc < 16) && (decide (dlc ≤ 8) || cfgb c (0x4000 + ch) 1 2)) .arg
  gate 0x0701 c
  let f : CanFrame := { ext := flg p 7 7, id := fld p 4 4 % 2 ^ 29, dlc := dlc, data := (p.drop 12).take (dlcLen dlc) }
  accept (order (c.tt.tn + 1)
    (.canTx { ch := ch, buf := fld p 1 1, frame := f, arm := arm, tag := q.tag % 2 ^ 32 } q.sess q.tag) c)

/-- CAN_ABORT (R285). -/
def doCanAbort (ss : Session) (p : List Byte) (c : Chip) : Done := do
  form p 4 [2, 3]
  role 1 ss
  check (hostBuf (fld p 0 1) (fld p 1 1)) .arg
  gate 0x0702 c
  okWith [] (canAbortBuf (fld p 0 1) (fld p 1 1) c)

/-- CAN_OBJ_READ (R289, R290): the copy of the object with its NEW bit before any clearing. -/
def doCanObjRead (ss : Session) (p : List Byte) (c : Chip) : Done := do
  form p 4 [3]
  let ch := fld p 0 1
  let o := fld p 1 1
  let clear := fld p 2 1
  role (if clear = 0 then 0 else 1) ss
  check (decide (ch < 4) && decide (o < 128) && decide (clear < 2)) .arg
  gate 0x0703 c
  let x := Map.getD (canCh c ch).objs o {}
  let b := match canCopy x with | some r => rxBytes r x.isNew false | none => List.replicate 80 0
  okWith b (when (clear == 1) (updCan ch (fun h => { h with objs := Map.upd h.objs o {} (fun x => { x with isNew := false }) })) c)

/-- CAN_RECOVER (R294). -/
def doCanRecover (ss : Session) (p : List Byte) (c : Chip) : Done := do
  form p 4 [1, 2, 3]
  role 1 ss
  let ch := fld p 0 1
  check (decide (ch < 4)) .arg
  gate 0x0704 c
  check ((canCh c ch).st == .busOff && cfgb c (0x4000 + ch) 1 7) (.refused 5)
  okWith [] (updCan ch (fun h => { h with st := .recovering }) c)

/-- A session's subscriptions of the rings from bit `lo` on, `n` of them, become `mask` (R403). -/
def subscribe (s lo n mask : Nat) (c : Chip) : Chip :=
  updSess s (fun x => { x with subs := x.subs % 2 ^ lo + mask * 2 ^ lo + x.subs / 2 ^ (lo + n) * 2 ^ (lo + n) }) c

/-- The entries that a CAN ring has kept go to its subscribers in ring order. -/
def drainCan (r : Nat) (c : Chip) : Chip :=
  let h := canCh c (r / 2)
  let l := if r % 2 = 0 then h.ring0 else h.ring1
  forAll l (fun f => exportRing (112 + r) (rxBytes f false true))
    (updCan (r / 2) (fun h => if r % 2 = 0 then { h with ring0 := [] } else { h with ring1 := [] }) c)

/-- CAN_SUBSCRIBE. -/
def doCanSubscribe (q : Req) (ss : Session) (p : List Byte) (c : Chip) : Done := do
  form p 4 [1, 2, 3]
  role 0 ss
  gate 0x0705 c
  let m := fld p 0 1
  .ok { chip := subscribe q.sess 0 8 m c, after := forAll ((List.range 8).filter (fun r => bit m r)) drainCan }

/-! ### Time (group 0x08) -/

/-- TS_SUBSCRIBE (R324). -/
def doTsSubscribe (q : Req) (ss : Session) (p : List Byte) (c : Chip) : Done := do
  form p 4 [1, 2, 3]
  role 0 ss
  check (decide (fld p 0 1 < 16)) .arg
  gate 0x0801 c
  okWith [] (subscribe q.sess 8 4 (fld p 0 1) c)

/-- TIME_GET. -/
def doTimeGet (ss : Session) (p : List Byte) (c : Chip) : Done := do
  form p 0 []
  role 0 ss
  gate 0x0802 c
  okWith (leBytes 8 c.time.clock ++ (List.range 8).flatMap (fun i => leBytes 4 ((paramWord c 0x5201 (i + 1)).getD 0))) c

/-- TIME_SET (R333). -/
def doTimeSet (ss : Session) (p : List Byte) (c : Chip) : Done := do
  form p 8 []
  role 2 ss
  gate 0x0803 c
  check (c.time.servo == .grandmaster) (.refused 3)
  okWith [] (stepClock (fld p 0 8) (record 0x082A 0 [] c))

/-! ### Sage (group 0x09) -/

/-- Descriptor of a slot that only hosts submit to (R204). -/
def hostSlot (c : Chip) (s : Nat) : Option Desc := (descOf c.sets.main s).filter (fun d => d.owner == 0xFFFF)

/-- A job of the slot is pending, or a submission waits for its boundary. -/
def slotBusy (c : Chip) (s : Nat) : Bool :=
  ((slot c s).st != .idle && (slot c s).st != .empty)
    || c.sup.due.any (fun e => match e.2 with | .slotSubmit n _ _ _ => n == s | _ => false)

/-- Host values into an input block from an element on; a factor source that changes sets SRC_DIRTY (R209). -/
def writeSlot (d : Desc) (b : SBlk) (bi first : Nat) (vs : List Int) (x : Slot) : Slot :=
  let changed := ((List.range vs.length).zip vs).any (fun p => Map.getD x.store (slotAt bi (first + p.1) false) 0 != p.2)
  { x with
    store := ((List.range vs.length).zip vs).foldl (fun m p => Map.put m (slotAt bi (first + p.1) false) p.2) x.store
    dirty := x.dirty || (srcRole d b.role && changed) }

/-- SLOT_WRITE (R204). -/
def doSlotWrite (ss : Session) (p : List Byte) (c : Chip) : Done := do
  let n := (p.length - 8) / 4
  check (p.length == 8 + 4 * n && decide (1 ≤ n) && decide (n ≤ 1020)) (.malformed 1 8)
  form p p.length [2, 3]
  role 2 ss
  let s := fld p 0 1
  match hostSlot c s with
  | none => .error .arg
  | some d =>
    match d.blks[fld p 1 1]? with
    | none => .error .arg
    | some b =>
      check (b.kind == 0 && decide (fld p 4 4 + n ≤ b.count)) .arg
      gate 0x0901 c
      check (!slotBusy c s) (.own 0x0302 [] (some 0x091C))
      okWith [] (updSlot s (writeSlot d b (fld p 1 1) (fld p 4 4) ((List.range n).map (fun i => signed 32 (fld p (8 + 4 * i) 4)))) c)

/-- SLOT_SUBMIT (R204): the submission takes effect at the next boundary, and the tag of its outcome is that boundary's TN. -/
def doSlotSubmit (q : Req) (ss : Session) (p : List Byte) (c : Chip) : Done := do
  form p 8 [1, 2, 3]
  role 2 ss
  let s := fld p 0 1
  let us := fld p 4 4
  check ((hostSlot c s).isSome && decide (1000 ≤ us) && decide (us ≤ 10000000)) .arg
  gate 0x0902 c
  check (decide (c.hlth.stage < 3)) (.refused 5)
  check (!slotBusy c s) (.own 0x0302 [] (some 0x091C))
  accept (order (c.tt.tn + 1) (.slotSubmit s us q.sess q.tag) c)

/-- SLOT_READ: result blocks from the published bank. -/
def doSlotRead (ss : Session) (p : List Byte) (c : Chip) : Done := do
  form p 12 [2, 3]
  role 0 ss
  let s := fld p 0 1
  let first := fld p 4 4
  let n := fld p 8 4
  match (descOf c.sets.main s).bind (fun d => d.blks[fld p 1 1]?) with
  | none => .error .arg
  | some b =>
    check (decide (n ≤ 1020) && decide (first + n ≤ b.count)) .arg
    gate 0x0903 c
    let x := slot c s
    let sz := if b.role = 0x21 then 2 else 4
    okWith (leBytes 4 x.cur.word ++ ((slotRead x (fld p 1 1) (first + n) (b.kind == 1 && x.pubBank)).drop first).flatMap (fun v =>
      leBytes sz (unsigned 32 v))) c

/-- DEADLINE_TEST (R224): it acts from B(TN_a + 2) on. -/
def doDeadlineTest (q : Req) (ss : Session) (p : List Byte) (c : Chip) : Done := do
  form p 8 [1, 2, 3]
  role 3 ss
  let s := fld p 0 1
  let us := fld p 4 4
  match descOf c.sets.main s with
  | none => .error .arg
  | some d =>
    check (d.owner != 0xFFFF && us != 0 && decide (us + d.marginUs < cfg c (0x2100 + d.owner) 2 31 0 * tTick c)) .arg
    gate 0x0904 c
    if isPair c then propose (.deadlineTest s us) q.sess q.tag [] c else okWith [] (order (c.tt.tn + 2) (.deadlineTest s us) c)

/-! ### Rows -/

/-- DI_COUNT_RESET. -/
def execDiCountReset (q : Req) : State → Host.Outcome State Fault Refusal := lift (serve 0x0601 (doDiCountReset q) q)

/-- DO_LEARN. -/
def execDoLearn (q : Req) : State → Host.Outcome State Fault Refusal := lift (serve 0x0602 (doDoLearn q) q)

/-- HOLD_ACK. -/
def execHoldAck (q : Req) : State → Host.Outcome State Fault Refusal := lift (serve 0x0603 (doHoldAck q) q)

/-- HART_SEND. -/
def execHartSend (q : Req) : State → Host.Outcome State Fault Refusal := lift (serve 0x0604 (doHartSend q) q)

/-- LOOP_CHECK. -/
def execLoopCheck (q : Req) : State → Host.Outcome State Fault Refusal := lift (serve 0x0605 doLoopCheck q)

/-- CAN_TX. -/
def execCanTx (q : Req) : State → Host.Outcome State Fault Refusal := lift (serve 0x0701 (doCanTx q) q)

/-- CAN_ABORT. -/
def execCanAbort (q : Req) : State → Host.Outcome State Fault Refusal := lift (serve 0x0702 doCanAbort q)

/-- CAN_OBJ_READ. -/
def execCanObjRead (q : Req) : State → Host.Outcome State Fault Refusal := lift (serve 0x0703 doCanObjRead q)

/-- CAN_RECOVER. -/
def execCanRecover (q : Req) : State → Host.Outcome State Fault Refusal := lift (serve 0x0704 doCanRecover q)

/-- CAN_SUBSCRIBE. -/
def execCanSubscribe (q : Req) : State → Host.Outcome State Fault Refusal := lift (serve 0x0705 (doCanSubscribe q) q)

/-- TS_SUBSCRIBE. -/
def execTsSubscribe (q : Req) : State → Host.Outcome State Fault Refusal := lift (serve 0x0801 (doTsSubscribe q) q)

/-- TIME_GET. -/
def execTimeGet (q : Req) : State → Host.Outcome State Fault Refusal := lift (serve 0x0802 doTimeGet q)

/-- TIME_SET. -/
def execTimeSet (q : Req) : State → Host.Outcome State Fault Refusal := lift (serve 0x0803 doTimeSet q)

/-- SLOT_WRITE. -/
def execSlotWrite (q : Req) : State → Host.Outcome State Fault Refusal := lift (serve 0x0901 doSlotWrite q)

/-- SLOT_SUBMIT. -/
def execSlotSubmit (q : Req) : State → Host.Outcome State Fault Refusal := lift (serve 0x0902 (doSlotSubmit q) q)

/-- SLOT_READ. -/
def execSlotRead (q : Req) : State → Host.Outcome State Fault Refusal := lift (serve 0x0903 doSlotRead q)

/-- DEADLINE_TEST. -/
def execDeadlineTest (q : Req) : State → Host.Outcome State Fault Refusal := lift (serve 0x0904 (doDeadlineTest q) q)

end Sys2Proof.Machine
end

