-- ==== Sys2Proof/Machine/Observe.lean ====
section
/-! DEFINITION. Commands of Thyme, counters, display, redundancy and maintenance (groups 0x0A to 0x0E of R434). -/
namespace Sys2Proof.Machine

open Sys2Proof

/-! ### Thyme (R452 to R457) -/

/-- The records held in either store with SEQ from `n` on, in ascending SEQ, each once (R452). -/
def heldFrom (c : Chip) (n : Nat) : List Rec :=
  let seqs := c.thy.vol.map (·.seq)
  ((c.thy.vol ++ c.thy.per.filter (fun r => !seqs.contains r.seq)).filter (fun r => decide (n ≤ r.seq))).mergeSort
    (fun a b => decide (a.seq ≤ b.seq))

/-- A number from `a` on is missing before the last of the records. -/
def hasGap (a : Nat) (l : List Rec) : Bool := match l.getLast? with | some r => l.length != r.seq + 1 - a | none => false

/-- THYME_READ (R452). FIRST_SEQ of a response without records is a free value: the spec states none. -/
def doThymeRead (ss : Session) (p : List Byte) (c : Chip) : Done := do
  form p 16 [9, 10, 11, 12, 13, 14, 15]
  role 0 ss
  check (decide (fld p 8 1 ≤ 31)) .arg
  gate 0x0A01 c
  let a := fld p 0 8
  let l := (heldFrom c a).take (fld p 8 1)
  let tail := leBytes 1 l.length ++ leBytes 1 (b01 (hasGap a l)) ++ List.replicate 6 0 ++ l.flatMap recBytes
  match l.head? with
  | some r => okWith (leBytes 8 r.seq ++ tail) c
  | none => okWith (leBytes 8 (Config.freeNat c.sup.freeCtr [0x0A01] % 2 ^ 64) ++ tail) (drawn c)

/-- Hands one entry of a ring to one session; a full event is sent (R403). -/
def feed (s r : Nat) (entry : List Byte) (c : Chip) : Chip :=
  let c := updSess s (fun x => { x with batch := Map.upd x.batch r [] (· ++ [entry]) }) c
  if (Map.getD (sess c s).batch r []).length < batchMax r then c else flushRing s r c

/-- THYME_SUBSCRIBE (R455): the held records go first. -/
def doThymeSubscribe (q : Req) (ss : Session) (p : List Byte) (c : Chip) : Done := do
  form p 16 [1, 2, 3, 4, 5, 6, 7]
  role 0 ss
  let on := fld p 0 1
  check (decide (on < 2)) .arg
  gate 0x0A02 c
  .ok { chip := subscribe q.sess 12 1 on c
        after := fun c => if on = 1 then forAll (heldFrom c (fld p 8 8)) (fun r => feed q.sess 124 (recBytes r)) c else c }

/-- The clearing of R457; CLEARED_TO_SEQ of its completion. -/
def clearThyme (s : Nat) (c : Chip) : Nat × Chip :=
  let addr := match (sess c s).peer with | some p => p.addr | none => 0
  let n := c.thy.seq
  let c := record 0x0A01 (0x0800 + s) [s, addr, keyId c.mbx.vkey] c
  let gone := (c.thy.vol ++ c.thy.per).filter (fun r => decide (r.seq < n)) |>.map (·.seq) |>.eraseDups
  let keep := fun (l : List Rec) => l.filter (fun r => decide (n ≤ r.seq))
  (n, record 0x0A02 0x0300 (w64 n ++ [gone.length]) { c with thy := { c.thy with vol := keep c.thy.vol, per := keep c.thy.per } })

/-- THYME_CLEAR (R457): from a session with an unlock. -/
def doThymeClear (q : Req) (ss : Session) (p : List Byte) (c : Chip) : Done := do
  form p 0 []
  role 2 ss
  check ss.unlock.isSome (.locked 2)
  gate 0x0A03 c
  let r := clearThyme q.sess c
  accept r.2 (complete 0x0A03 q.sess q.tag 0 (leBytes 8 r.1))

/-! ### Counters (R459 to R464) -/

/-- CNT_SNAPSHOT (R460). -/
def doCntSnapshot (q : Req) (ss : Session) (p : List Byte) (c : Chip) : Done := do
  form p 0 []
  role 1 ss
  gate 0x0B01 c
  accept { c with cnt := { c.cnt with waiting := c.cnt.waiting ++ [(q.sess, q.tag)] } }

/-- Role that a read of a counter needs: HOST_ROLE of its group (R463). -/
def cntRole (c : Chip) (n : Nat) : Nat := let g := cntGroup n; cfg c 0x7100 3 (2 * g + 1) (2 * g)

/-- Counters of a range that exist. -/
def cntRange (first n : Nat) : List Nat := (List.range n).map (first + ·) |>.filter (fun i => decide (i < 512))

/-- CNT_READ (R460, R464). -/
def doCntRead (ss : Session) (p : List Byte) (c : Chip) : Done := do
  form p 4 []
  let first := fld p 0 2
  let n := fld p 2 2
  role ((cntRange first n).foldl (fun m i => Nat.max m (cntRole c i)) 0) ss
  check (decide (n ≤ 511) && decide (first + n ≤ 512)) .arg
  gate 0x0B02 c
  okWith (leBytes 8 c.cnt.snapTn ++ (cntRange first n).flatMap (fun i =>
    leBytes 8 (Map.getD c.cnt.snap i 0 + b01 (c.cnt.snapStk.contains i) * 2 ^ 63))) c

/-- CNT_CLEAR (R461). -/
def doCntClear (ss : Session) (p : List Byte) (c : Chip) : Done := do
  form p 4 []
  role 2 ss
  check (decide (fld p 0 2 + fld p 2 2 ≤ 512)) .arg
  gate 0x0B03 c
  okWith [] (order (c.tt.tn + 1) (.cntClear (fld p 0 2) (fld p 2 2)) c)

/-- CNT_THRESHOLD (R461, R462). -/
def doCntThreshold (ss : Session) (p : List Byte) (c : Chip) : Done := do
  form p 8 [1]
  role 2 ss
  check (decide (fld p 0 1 < 32) && sourceOk (fld p 2 2)) .arg
  gate 0x0B04 c
  okWith [] (order (c.tt.tn + 1) (.cntThreshold (fld p 0 1) (fld p 2 2) (fld p 4 4)) c)

/-! ### Display (R380, R389) -/

/-- An entry of the display journal (R389). -/
def journalEntry (e : Nat × Nat × Nat × Nat × Nat × Nat) : List Byte :=
  leBytes 1 e.1 ++ leBytes 1 e.2.1 ++ leBytes 2 e.2.2.1 ++ leBytes 4 e.2.2.2.1 ++ leBytes 4 e.2.2.2.2.1 ++ leBytes 4 e.2.2.2.2.2

/-- The first 64 bytes of the display journal as a stop wrote them; its CRC is that of the complete journal. A journal that no stop has
written holds nothing. -/
def journalHead (m : Memories) : List Byte :=
  if m.dispTStop = 0 ∧ m.dispEntries = [] then List.replicate 64 0
  else
    let h := fun v => leBytes 4 0x4A44475A ++ leBytes 2 m.dispEntries.length ++ leBytes 1 (b01 v) ++ [0] ++ leBytes 8 (m.dispSerial.getD 0 0)
      ++ leBytes 8 (m.dispSerial.getD 1 0) ++ leBytes 8 m.dispTStop ++ List.replicate 28 0
    h m.dispJournalValid ++ leBytes 4 (crc32c (h true ++ m.dispEntries.flatMap journalEntry))

/-- DISP_JOURNAL_READ. -/
def doDispJournalRead (ss : Session) (p : List Byte) (c : Chip) : Done := do
  form p 4 [2, 3]
  role 0 ss
  gate 0x0C01 c
  okWith (journalHead c.mem ++ ((c.mem.dispEntries.drop (fld p 0 2)).take 250).flatMap journalEntry) c

/-- Tiles of a panel and their columns, as its mirror lays them out (R389). -/
def tilesOf (p : Nat) : Nat × Nat := if p = 0 then (592, 37) else (49152, 256)

/-- LEDGER_READ. -/
def doLedgerRead (ss : Session) (p : List Byte) (c : Chip) : Done := do
  form p 4 [1]
  role 0 ss
  let pn := fld p 0 1
  let t := tilesOf pn
  let first := fld p 2 2
  check (decide (pn < 2) && decide (first < t.1)) .arg
  gate 0x0C02 c
  let n := Nat.min 2040 (t.1 - first)
  let l := (panel c pn).ledger
  okWith (leBytes 4 n ++ (List.range n).flatMap (fun i =>
    leBytes 2 (unsigned 16 (Map.getD l ((first + i) / t.2 * 256 + (first + i) % t.2) 0)))) c

/-! ### Redundancy (R359, R362, R364) -/

/-- RESERVE_CALL: from an ALONE member with a reserve. -/
def doReserveCall (q : Req) (ss : Session) (p : List Byte) (c : Chip) : Done := do
  form p 0 []
  role 2 ss
  gate 0x0D01 c
  check (isPair c && c.pair.st == .alone && hasReserve c) (.refused 1)
  accept (callReserve (await 0x0D01 q.sess q.tag c))

/-- PROOF_START: in a reserve with a complete checkpoint. -/
def doProofStart (q : Req) (ss : Session) (p : List Byte) (c : Chip) : Done := do
  form p 0 []
  role 2 ss
  gate 0x0D02 c
  check (c.sup.role == .reserve) (.refused 1)
  check c.pair.ckptValid (.refused 5)
  accept (startProof (await 0x0D02 q.sess q.tag c))

/-- PAIR_RESYNC: in a pair that disagrees. -/
def doPairResync (q : Req) (ss : Session) (p : List Byte) (c : Chip) : Done := do
  form p 0 []
  role 2 ss
  gate 0x0D03 c
  check (isPair c) (.refused 1)
  check c.pair.disagree (.refused 5)
  accept (splitRoles (await 0x0D03 q.sess q.tag c))

/-! ### Spares (R488, R490) -/

/-- The unit that KIND and UNIT name, coded as a record's SOURCE; none where there is none (R490). -/
def unitOf (kind u : Nat) : Option Nat :=
  match kind with
  | 1 => if u < 24 then some (0x0100 + u) else none
  | 2 => if u < 8 then some (0x0200 + u) else none
  | 3 => if u < 24 then some (0x0900 + u) else none
  | 4 => if u < 8 then some (0x0918 + u) else none
  | _ => none

/-- A substitution of the unit has been advised (R22, R239). -/
def unitAdvised (c : Chip) (kind u : Nat) : Bool :=
  match kind with | 1 => (ceEng c u).advised | 2 => (seEng c u).advised | 3 => (ai c u).advised | _ => false

/-- SUBSTITUTE: an engine at its boundary, an analogue input at once. -/
def doSubstitute (q : Req) (ss : Session) (p : List Byte) (c : Chip) : Done := do
  form p 4 [2, 3]
  role 2 ss
  let k := fld p 0 1
  let u := fld p 1 1
  match unitOf k u with
  | none => .error .arg
  | some unit =>
    gate 0x0E01 c
    check (unitAdvised c k u) (.refused 5)
    let c := await (substKey unit) q.sess q.tag c
    match k with
    | 1 => accept (updCe u (fun e => { e with swap := some 2 }) c)
    | 2 => accept (updSe u (fun e => { e with swap := some 2 }) c)
    | _ => accept c (substAi u 2)

/-- The unit has been substituted and not restored. -/
def unitOut (c : Chip) (kind u : Nat) : Bool :=
  match kind with
  | 1 => (ceEng c u).st == .failed
  | 2 => (seEng c u).st == .failed
  | 3 => (ai c u).onSpare
  | _ => (ao c u).onSpare

/-- An engine returns to service, and its spare to RESERVE unless it stands for another engine too. -/
def restoreEngine (n : Nat) (back : EngSt) (m : Map Engine) : Map Engine :=
  let by_ := (Map.getD m n {}).subBy
  let m := Map.put m n { st := back }
  match by_ with
  | some r => if m.any (fun e => e.2.subBy == some r) then m else Map.upd m r {} (fun e => { e with st := .reserve })
  | none => m

/-- The unit returns from its spare. -/
def restoreUnit (kind u : Nat) (c : Chip) : Chip :=
  let cs := c.sets.main
  match kind with
  | 1 => { c with hlth := { c.hlth with ce := restoreEngine u (if ceActiveIn cs u then .active else .reserve) c.hlth.ce } }
  | 2 => { c with hlth := { c.hlth with se := restoreEngine u (if seActiveIn cs u then .active else .reserve) c.hlth.se } }
  | 3 => setSpare (u / 8) .reserve 0 (updAi u (fun a => { a with subst := true }) c)
  | _ => setSpare (3 + u / 4) .reserve 0 (updAo u (fun a => { a with subst := true }) c)

/-- SPARE_RESTORE: `checkOk` is the outcome of the unit's built-in check. -/
def doSpareRestore (checkOk : Bool) (ss : Session) (p : List Byte) (c : Chip) : Done := do
  form p 4 [2, 3]
  role 3 ss
  let k := fld p 0 1
  let u := fld p 1 1
  match unitOf k u with
  | none => .error .arg
  | some unit =>
    gate 0x0E02 c
    check (unitOut c k u) (.refused 5)
    check checkOk (.own 0x0401 [] none)
    okWith [] (record 0x0E16 unit [unit, 4] (restoreUnit k u c))

/-! ### Diagnostic reads (R13) -/

/-- The windows of the physical map: base, bytes. -/
def windows : List (Nat × Nat) :=
  [(0x0000000000, 0x40000), (0x0010000000, 0x800000), (0x0020000000, 0x600000), (0x0030000000, 0x2000000), (0x0038000000, 0x200000),
   (0x0040000000, 0x1000000), (0x0060000000, 0x10000000), (0x0100000000, 0xE0000000)]

/-- A byte of a slot's storage: an element of a block, a padding byte of a result or work block; none elsewhere (R179, R180). -/
def slotByte (c : Chip) (s o : Nat) : Option Byte :=
  (descOf c.sets.main s).bind (fun d =>
    ((List.range d.blks.length).zip d.blks).findSome? (fun e =>
      let b := e.2
      let sz := if b.role = 0x21 then 2 else 4
      let bank := b.rows * b.stride
      let len := if b.kind = 1 then 2 * bank else bank
      if o < b.off ∨ b.off + len ≤ o then none
      else
        let r := (o - b.off) % bank
        let j := r % b.stride / sz
        if j < b.cols then
          some ((leBytes sz (unsigned 32 (Map.getD (slot c s).store
            (slotAt e.1 (r / b.stride * b.cols + j) (decide (bank ≤ o - b.off))) 0))).getD (r % b.stride % sz) 0)
        else if b.kind = 0 then none else some 0))

/-- A byte of the physical map; a byte of a region whose layout the spec does not state is a free value (log entry 2). -/
def diagByte (c : Chip) (a : Nat) : Byte :=
  if 0x0110000000 ≤ a ∧ a < 0x0114000000 then Mem.rd c.mem.glb (cut a 0x0110000000)
  else if 0x0040000000 ≤ a ∧ a < 0x0040800000 then Mem.rd c.mem.ret (cut a 0x0040000000)
  else if 0x0114000000 ≤ a ∧ a < 0x0134000000 then
    (slotByte c ((cut a 0x0114000000) / 0x800000) ((cut a 0x0114000000) % 0x800000)).getD (Config.diagByte c.sup.freeCtr a)
  else if 0x0040A00000 ≤ a ∧ a < 0x0040A00000 + 64 + 16 * c.mem.dispEntries.length then
    (journalHead c.mem ++ c.mem.dispEntries.flatMap journalEntry).getD (cut a 0x0040A00000) 0
  else Config.diagByte c.sup.freeCtr a

/-- DIAG_READ. -/
def doDiagRead (ss : Session) (p : List Byte) (c : Chip) : Done := do
  form p 12 []
  role 3 ss
  let a := fld p 0 8
  let n := fld p 8 4
  check (decide (n ≤ 4080) && windows.any (fun w => decide (w.1 ≤ a) && decide (a + n ≤ w.1 + w.2))) .arg
  gate 0x0E03 c
  okWith (leBytes 8 c.time.clock ++ (List.range n).map (fun i => diagByte c (a + i))) (drawn c)

/-! ### Rows -/

/-- THYME_READ. -/
def execThymeRead (q : Req) : State → Host.Outcome State Fault Refusal := lift (serve 0x0A01 doThymeRead q)

/-- THYME_SUBSCRIBE. -/
def execThymeSubscribe (q : Req) : State → Host.Outcome State Fault Refusal := lift (serve 0x0A02 (doThymeSubscribe q) q)

/-- THYME_CLEAR. -/
def execThymeClear (q : Req) : State → Host.Outcome State Fault Refusal := lift (serve 0x0A03 (doThymeClear q) q)

/-- CNT_SNAPSHOT. -/
def execCntSnapshot (q : Req) : State → Host.Outcome State Fault Refusal := lift (serve 0x0B01 (doCntSnapshot q) q)

/-- CNT_READ. -/
def execCntRead (q : Req) : State → Host.Outcome State Fault Refusal := lift (serve 0x0B02 doCntRead q)

/-- CNT_CLEAR. -/
def execCntClear (q : Req) : State → Host.Outcome State Fault Refusal := lift (serve 0x0B03 doCntClear q)

/-- CNT_THRESHOLD. -/
def execCntThreshold (q : Req) : State → Host.Outcome State Fault Refusal := lift (serve 0x0B04 doCntThreshold q)

/-- DISP_JOURNAL_READ. -/
def execDispJournalRead (q : Req) : State → Host.Outcome State Fault Refusal := lift (serve 0x0C01 doDispJournalRead q)

/-- LEDGER_READ. -/
def execLedgerRead (q : Req) : State → Host.Outcome State Fault Refusal := lift (serve 0x0C02 doLedgerRead q)

/-- RESERVE_CALL. -/
def execReserveCall (q : Req) : State → Host.Outcome State Fault Refusal := lift (serve 0x0D01 (doReserveCall q) q)

/-- PROOF_START. -/
def execProofStart (q : Req) : State → Host.Outcome State Fault Refusal := lift (serve 0x0D02 (doProofStart q) q)

/-- PAIR_RESYNC. -/
def execPairResync (q : Req) : State → Host.Outcome State Fault Refusal := lift (serve 0x0D03 (doPairResync q) q)

/-- SUBSTITUTE. -/
def execSubstitute (q : Req) : State → Host.Outcome State Fault Refusal := lift (serve 0x0E01 (doSubstitute q) q)

/-- SPARE_RESTORE. -/
def execSpareRestore (q : Req) (checkOk : Bool) : State → Host.Outcome State Fault Refusal := lift (serve 0x0E02 (doSpareRestore checkOk) q)

/-- DIAG_READ. -/
def execDiagRead (q : Req) : State → Host.Outcome State Fault Refusal := lift (serve 0x0E03 doDiagRead q)

end Sys2Proof.Machine
end

