-- ==== Sys2Proof/Machine/Parameters.lean ====
section
/-! DEFINITION. The parameter commands (group 0x0F of R435 to R439), writes of live parameters, and counter wraps. -/
namespace Sys2Proof.Machine

open Sys2Proof

/-! ### Reading (R435 to R437) -/

/-- An entry of a PARAM_READ: index, first subindex, words. -/
def readEntry (p : List Byte) (i : Nat) : Nat × Nat × Nat := (fld p (4 + 4 * i) 2, fld p (6 + 4 * i) 1, fld p (7 + 4 * i) 1)

/-- The word at `ix`:`sub` as a host reads it; subindex 0 gives the highest subindex of the index (R436). -/
def hostWord (c : Chip) (ix sub : Nat) : Option Nat := if sub = 0 then paramTop ix else paramWord c ix sub

/-- Whether the maps define every word of an entry. -/
def entryKnown (e : Nat × Nat × Nat) : Bool :=
  (List.range e.2.2).all (fun k => if e.2.1 + k = 0 then (paramTop e.1).isSome else (paramAt e.1 (e.2.1 + k)).isSome)
    && (paramTop e.1).isSome

/-- The answer to an entry of a PARAM_READ: ARG_RANGE and zeros where the maps do not define it (R436). -/
def entryAnswer (c : Chip) (e : Nat × Nat × Nat) : List Byte :=
  let ok := entryKnown e
  leBytes 2 e.1 ++ leBytes 1 e.2.1 ++ leBytes 1 e.2.2 ++ leBytes 2 (if ok then 0 else 0x0103) ++ [0, 0]
    ++ (List.range e.2.2).flatMap (fun k => leBytes 4 (if ok then (hostWord c e.1 (e.2.1 + k)).getD 0 else 0))

/-- Role that an entry needs: that of its counter group beside the snapshot (R463), else VIEW. -/
def entryRole (c : Chip) (e : Nat × Nat × Nat) : Nat := if 0x7200 ≤ e.1 ∧ e.1 < 0x7400 then cntRole c (cut e.1 0x7200) else 0

/-- An entry covers TN_LO, whose read latches TN_HI (R37). -/
def readsTn (e : Nat × Nat × Nat) : Bool := e.1 == 0x2001 && decide (e.2.1 ≤ 1) && decide (1 < e.2.1 + e.2.2)

/-- PARAM_READ: every value as one boundary left it; `sn` is the block at that boundary. -/
def doParamRead (sn : Chip) (ss : Session) (p : List Byte) (c : Chip) : Done := do
  let n := fld p 0 1
  form p (4 + 4 * n) [1, 2, 3]
  let es := (List.range n).map (readEntry p)
  role (es.foldl (fun m e => Nat.max m (entryRole c e)) 0) ss
  check (decide (n ≤ 127) && decide (4 + (es.map (fun e => 8 + 4 * e.2.2)).sum ≤ 4096)) .arg
  gate 0x0F01 c
  check (!(c.sup.mstate == .boot || c.sup.mstate == .selftest) || es.all (fun e => decide (0x1000 ≤ e.1) && decide (e.1 < 0x2000))) (.refused 0)
  let hi := if es.any readsTn then sn.tt.tn / 2 ^ 32 % 2 ^ 32 else c.tt.tnHi
  let sn := { sn with tt := { sn.tt with tnHi := hi } }
  okWith (leBytes 4 n ++ es.flatMap (entryAnswer sn)) { c with tt := { c.tt with tnHi := hi } }

/-! ### Writing (R435, R438) -/

/-- An entry of a PARAM_WRITE: index, subindex, value. -/
def writeEntry (p : List Byte) (i : Nat) : Nat × Nat × Nat := (fld p (4 + 8 * i) 2, fld p (6 + 8 * i) 1, fld p (8 + 8 * i) 4)

/-- The access settings, which stay each member's own (R415). -/
def accessIx (ix : Nat) : Bool := decide (0x1100 ≤ ix) && decide (ix ≤ 0x1102)

/-- C_THROW fits the tick of the main set and of a set that is LOADED or HELD (R142). -/
def cThrowOk (c : Chip) (v : Nat) : Bool :=
  let fits := fun cs => decide (2 * v ≤ tickUs (setFld cs 0x2000 1 2 0))
  decide (20 ≤ v) && fits c.sets.main
    && (match c.sets.side with | some cs => fits cs || !(c.sets.siding == .loaded || c.sets.siding == .held) | none => true)

/-- A live parameter takes a value (R438): its word is one that hosts write, a field that is cleared by 0 gets 0, every other field keeps
to its map. -/
def writeOk (c : Chip) (ix sub v : Nat) : Bool :=
  match paramAt ix sub with
  | none => false
  | some w =>
    sub != 0 && w.fields.any (fun f => f.kind == .live || f.kind == .cz) && !w.fields.any (fun f => f.kind == .thr || f.kind == .stg)
      && w.fields.all (fun f => match f.kind with | .live => f.ok v | .cz => bits v f.hi f.lo == 0 | _ => true)
      && (ix != 0x2020 || sub != 1 || cThrowOk c v)

/-- Role that a write of a word needs: the highest that the word's map gives a field (R435). -/
def writeRole (ix sub : Nat) : Nat :=
  match paramAt ix sub with
  | none => 0
  | some w => if sub = 0 then 0 else w.fields.foldl (fun m f => match f.kind with | .ro => m | _ => Nat.max m f.role) 0

/-- The offset in the payload of the first entry that is malformed: its reserved byte, or a reserved bit of its word (R8). -/
def writeBad (p : List Byte) (n : Nat) : Option Nat :=
  (List.range n).findSome? (fun i =>
    let e := writeEntry p i
    if fld p (7 + 8 * i) 1 != 0 then some (7 + 8 * i)
    else if e.2.1 != 0 && (match paramAt e.1 e.2.1 with | some w => w.reservedSet e.2.2 | none => false) then some (8 + 8 * i)
    else none)

/-- PARAM_WRITE: all entries or none. -/
def doParamWrite (q : Req) (ss : Session) (p : List Byte) (c : Chip) : Done := do
  let n := fld p 0 1
  form p (4 + 8 * n) [1, 2, 3]
  match writeBad p n with
  | some o => .error (.malformed 2 (16 + o))
  | none =>
    let es := (List.range n).map (writeEntry p)
    role (es.foldl (fun m e => Nat.max m (writeRole e.1 e.2.1)) 0) ss
    check (decide (n ≤ 127) && (es.all (fun e => accessIx e.1) || !es.any (fun e => accessIx e.1))) .arg
    match (List.range n).find? (fun i => let e := writeEntry p i; !writeOk c e.1 e.2.1 e.2.2) with
    | some i => .error (.own 0x0103 (leBytes 4 i) none)
    | none =>
      gate 0x0F02 c
      check (!(c.sets.named && es.any (fun e => e.1 == 0x2020 && e.2.1 == 1))) (.refused 2)
      let eff := Effect.params (es.map (fun e => (e.1 * 256 + e.2.1, e.2.2)))
      if n != 0 && es.all (fun e => accessIx e.1) then okWith [255, 0, 0, 0] (order (c.tt.tn + 1) eff c)
      else propose eff q.sess q.tag [255, 0, 0, 0] c

/-- PARAM_REGISTER_WRITE (R9, R438): a live parameter that is written takes its value at the next boundary; a write that R438 does not
allow changes nothing. -/
def evParamRegisterWrite (dt ix sub v : Nat) (c : Chip) : Chip :=
  let c := pass dt c
  let bad := match paramAt ix sub with | some w => w.reservedSet v | none => true
  if bad || !writeOk c ix sub v || (c.sets.named && ix == 0x2020 && sub == 1) then c
  else order (c.tt.tn + 1) (.params [(ix * 256 + sub, v)]) c

/-! ### Descriptors (R439) -/

/-- Role needed to read an index. -/
def readRole (c : Chip) (ix : Nat) : Nat := entryRole c (ix, 0, 0)

/-- The descriptor of a word; subindex 0 is one read-only UINT32. -/
def descriptor (c : Chip) (ix sub : Nat) : Option (List Byte) :=
  let fs := if sub = 0 then (paramTop ix).map (fun _ => [descField 31 0 7 0 0]) else (paramAt ix sub).map (fun w => descFields 32 w.fields)
  fs.map (fun l => leBytes 1 l.length ++ leBytes 1 (readRole c ix) ++ [0, 0] ++ l.flatten)

/-- PARAM_DESCRIBE. -/
def doParamDescribe (ss : Session) (p : List Byte) (c : Chip) : Done := do
  form p 4 [3]
  role 0 ss
  match descriptor c (fld p 0 2) (fld p 2 1) with
  | none => .error .arg
  | some b =>
    gate 0x0F03 c
    okWith b c

/-! ### Counter wraps -/

/-- CNT_WRAP (R459): a counter that has wrapped is recorded. -/
def evCntWrap (dt n : Nat) (c : Chip) : Chip :=
  let c := pass dt c
  if c.cnt.wrapDue.contains n then record 0x0B01 0x0300 [n] { c with cnt := { c.cnt with wrapDue := c.cnt.wrapDue.erase n } } else c

/-! ### Rows -/

/-- PARAM_READ. -/
def execParamRead (q : Req) (n : State) : Host.Outcome State Fault Refusal := lift (serve 0x0F01 (doParamRead (latched n)) q) n

/-- PARAM_WRITE. -/
def execParamWrite (q : Req) : State → Host.Outcome State Fault Refusal := lift (serve 0x0F02 (doParamWrite q) q)

/-- PARAM_DESCRIBE. -/
def execParamDescribe (q : Req) : State → Host.Outcome State Fault Refusal := lift (serve 0x0F03 doParamDescribe q)

/-- PARAM_REGISTER_WRITE. -/
def execParamRegisterWrite (dt index sub : Nat) (value : Word) : State → Host.Outcome State Fault Refusal :=
  lift (evParamRegisterWrite dt index sub value.toNat)

/-- CNT_WRAP. -/
def execCntWrap (dt : Nat) (n : Fin 512) : State → Host.Outcome State Fault Refusal := lift (evCntWrap dt n.val)

end Sys2Proof.Machine
end

