-- ==== Sys2Proof/Machine/Startup.lean ====
section
/-! DEFINITION. Start-up (chapter 19): the steps of R467 from the logic supply to the restart decision, the heaters, role negotiation
and its conflict, and auto-run. -/
namespace Sys2Proof.Machine

open Sys2Proof

/-! ### Boot (R449, R458, R467, R468) -/

/-- The recorder starts: SEQ goes on from SEQ_BASE, and THYME_STARTED is its first record (R449). -/
def startThyme (c : Chip) : Chip :=
  let sp := c.thy.per.foldl (fun m r => Nat.max m (r.seq + 1)) 0
  let c := { c with thy := { c.thy with seq := c.thy.seqBase, large := setBit c.sets.main 0x70FF 1 0 } }
  record 0x0A04 0x0300 (w64 sp ++ w64 c.thy.seq) c

/-- Both copies of Maruth fail: the boot ROM leaves its record in the persistent section, and the module stays in BOOT (R468). -/
def bootFailed (c : Chip) : Chip :=
  let c := { c with thy := { c.thy with seq := c.thy.seqBase } }
  let c := (store 0x0E03 0 [] c.time.clock 0 0 true c).2
    |> fun r => { c with thy := { c.thy with
        seq := c.thy.seq + 1, seqBase := if c.thy.seq = c.thy.seqBase then c.thy.seqBase + 4096 else c.thy.seqBase
        per := (r :: c.thy.per).take 16384 } }
  { c with sup := { c.sup with mstate := .boot, bootFail := true, fromReset := false, heating := none, serving := false } }

/-- The main set of the selector word, empty where its slot holds none or it fails a check of R143 (R144, R471). -/
def storedMain (r : StartUp) (c : Chip) : ConfigSet × Bool :=
  match if c.mem.selMain = 0 then c.mem.nand0 else c.mem.nand1 with
  | none => ({}, false)
  | some s => if r.setOk && (setBad s).isNone then (s, true) else ({}, false)

/-- The siding set of the selector word, where one is kept (R144, R165). -/
def storedSide (c : Chip) : Chip :=
  match c.sets.siding, (if c.mem.selSide = 0 then c.mem.nand0 else c.mem.nand1) with
  | .empty, _ => { c with sets := { c.sets with side := none } }
  | _, none => { c with sets := { c.sets with side := none, siding := .empty } }
  | _, some s => { c with sets := { c.sets with side := some s } }

/-- A clearing of the recorder that a power loss cut short is finished (R458). -/
def finishClear (c : Chip) : Chip :=
  match c.thy.per.find? (fun r => r.code == 0x0A01 || r.code == 0x0A02) with
  | none => c
  | some r =>
    if r.code = 0x0A02 then c
    else
      let n := r.seq
      let gone := c.thy.per.filter (fun x => decide (x.seq < n))
      let keep := fun (l : List Rec) => l.filter (fun x => decide (n ≤ x.seq))
      recordF 48 0x0A02 0x0300 (w64 n ++ [gone.length]) c.time.clock 4 true
        { c with thy := { c.thy with vol := keep c.thy.vol, per := keep c.thy.per } }

/-- A retained rewrite that a power loss cut short is repeated from its copy (R136). -/
def finishRewrite (c : Chip) : Chip :=
  match c.mem.restartCopy with
  | none => c
  | some (m, d) => record 0x0238 0x0300 [] (updDir (fun _ => d) { c with mem := { c.mem with ret := m, restartCopy := none } })

/-! ### Domains, time, network (R330, R334, R467 step 3) -/

/-- The domains come up but those that the main set keeps off, and with them the engines and their status (R11, R467, R474). -/
def powerDomains (c : Chip) : Chip :=
  let c := forAll (List.range 12) (fun d => setDom d (if domOff c.sets.main d then .offByMode else .on)) c
  let on := fun i => if i = 6 ∧ pd11 c ≠ .on then EngSt.off else .active
  { c with hlth := { c.hlth with other := (List.range 8).map (fun i => (i, ({ st := on i } : Engine))) } }

/-- The time engine starts from the clock and the correction saved in MRAM, the correction only on the TCXO it was learned on. -/
def startTime (c : Chip) : Chip :=
  let f := if c.mem.savedTcxo = some c.time.tcxo then c.mem.savedFreq else 0
  updTime (fun t => { t with clock := c.mem.savedClock, freq := f, learned := f, servo := .unlocked, firstOff := true }) c

/-- The ports, the mode of the network and the tick of the main set. -/
def startNet (c : Chip) : Chip :=
  let c := electPorts c
  startStations { c with
    net := { c.net with mode := cfg c 0x5000 1 1 0 }
    tt := { c.tt with tickCode := cfg c 0x2000 1 2 0 } }

/-! ### Self-test (R470) -/

/-- The source of an I/O group: 0 to 2 analogue inputs, 3 and 4 analogue outputs, 5 to 8 digital inputs, 9 to 11 digital outputs. -/
def groupUnit (g : Nat) : Nat :=
  if g < 3 then 0x0900 + 8 * g else if g < 5 then 0x0918 + 4 * (g - 3) else if g < 9 then 0x0A00 + 8 * (g - 5) else 0x0A20 + 8 * (g - 9)

/-- An I/O group whose field logic does not answer. -/
def deadGroup (g : Nat) (c : Chip) : Chip :=
  let c := record 0x0E04 (groupUnit g) [] c
  if g < 3 then forAll (List.range 8) (fun i => updAi (8 * g + i) (fun a => { a with afe := true })) c
  else if g < 5 then forAll (List.range 4) (fun i => updAo (4 * (g - 3) + i) (fun a => { a with drv := true })) c
  else if g < 9 then { c with io := { c.io with diDown := Map.put c.io.diDown (g - 5) 101 } }
  else refreshGroup (g - 9) { c with io := { c.io with fd := Map.put c.io.fd (g - 9) 3 } }

/-- An oscillator fails its test: as when it stops; the cold spare is only taken out. -/
def failTcxo (n : Nat) (c : Chip) : Chip :=
  if c.time.cold = some n then updTime (fun t => { t with cold := none }) c else evTcxoStopped 0 n c

/-- The hold-up capacitance (R481). -/
def measureHoldup (pct : Nat) (c : Chip) : Chip :=
  let c := { c with hlth := { c.hlth with holdup := Nat.min pct 255 } }
  let c := when (decide (pct < 80)) (record 0x0E60 0 [0x782102, pct]) c
  when (decide (pct < 70)) (record 0x0E43 0 []) c

/-- Engines that fail are marked, and the others take their places; an active one that failed is substituted (R21, R470). -/
def testEngines (r : StartUp) (c : Chip) : Chip :=
  let bad := fun (l : List Nat) (n : Nat) (m : Map Engine) => if l.contains n then Map.upd m n {} (fun e => { e with st := .failed }) else m
  let c := { c with hlth := { c.hlth with
    ce := (List.range 24).foldl (fun m n => bad r.ceFail n m) c.hlth.ce, se := (List.range 8).foldl (fun m n => bad r.seFail n m) c.hlth.se } }
  let c := placeSes (placeCes c)
  forAll (List.range 8) (fun e c =>
    when (placeSe c.sets.main e == .active && (seEng c e).st == .failed && (seEng c e).subBy.isNone) (substSe e 0) c) c

/-- A display rail fails its test (R383). -/
def failRails (c : Chip) : Chip :=
  if pd11 c = .on then
    record 0x0C20 0x0500 [] { c with disp := { c.disp with rails := false, railDown := true, railFault := true, downAt := c.time.clock } }
  else c

/-- The findings of the self-test and what the module does about them. -/
def selfTest (r : StartUp) (c : Chip) : Chip :=
  let c := forAll r.rows (fun h => spareRow h.pool h.unit h.addr) c
  let c := testEngines r c
  let c := match r.tcxoFail with | some n => failTcxo n c | none => c
  let c := measureHoldup r.holdup c
  let c := forAll (r.groupsDead.filter (fun g => decide (g < 12))) deadGroup c
  let c := when r.railFail failRails c
  if r.fatal then enterFault (record 0x0E04 0 [] c) else c

/-! ### Display (R386, R390) -/

/-- Panel 1 is identified where one is on the connector; panel 0 is the module's own. -/
def findPanels (r : StartUp) (c : Chip) : Chip :=
  let c := updPanel 0 (fun x => { x with present := true, identified := true }) c
  match r.panel1 with
  | some i => identify i c
  | none => updPanel 1 (fun x => { x with present := false, identified := false }) c

/-- The display journal serves a panel: its journalled lines are driven to rest first; a journal of another serial is discarded. -/
def recoverPanel (p : Nat) (c : Chip) : Chip :=
  let x := panel c p
  let ys := (c.mem.dispEntries.filter (fun e => e.1 == p)).map (fun e => e.2.2.1)
  if !c.mem.dispJournalValid || !drawable c p then c
  else if c.mem.dispSerial.getD p 0 ≠ x.serial then
    record 0x0C14 (0x0E00 + p) [] { c with mem := { c.mem with dispEntries := c.mem.dispEntries.filter (fun e => e.1 != p) } }
  else if ys.isEmpty then c
  else updPanel p (fun x => ys.foldl (fun x y => x.setLine y (fun l => { l with journal := true, start := true })) { x with recovery := true }) c

/-- The display engine starts: every line UNKNOWN, the ledgers from their mirrors, the recovery, the first full render of the panels that
need none. -/
def startDisplay (r : StartUp) (c : Chip) : Chip :=
  let c := forAll [0, 1] allUnknown c
  if pd11 c ≠ .on then refreshPanels c
  else
    let c := findPanels r c
    let c := forAll [0, 1] (fun p => updPanel p (fun x => { x with
      ledger := (c.mem.ledgerMirror.filter (fun e => e.1 / 65536 == p)).map (fun e => (e.1 % 65536, e.2)), rendered := [] })) c
    let c := forAll [0, 1] recoverPanel c
    let left := c.mem.dispEntries.any (fun e => (panel c e.1).recovery || !drawable c e.1)
    let c := { c with mem := { c.mem with dispJournalValid := c.mem.dispJournalValid && left }, disp := { c.disp with waveAt := c.time.clock } }
    refreshPanels (forAll ([0, 1].filter (fun p => drawable c p && !(panel c p).recovery)) renderAll c)

/-! ### Steps 2 to 5 -/

/-- Steps 2 to 5 of R467, after `heat` seconds of heaters where they ran (R469). -/
def boot (r : StartUp) (heat : Option Nat) (c : Chip) : Chip :=
  let cause := if c.sup.fromReset then 2 else if r.cause = 0 then 0 else 1
  let c := { c with sup := { c.sup with heating := none }, hlth := { c.hlth with
    vlA := Nat.min r.vlA 65535, vlB := Nat.min r.vlB 65535, laOk := decide (18000 ≤ r.vlA), lbOk := decide (18000 ≤ r.vlB) } }
  if !r.boot1Ok && !r.boot2Ok then bootFailed c
  else
    let (main, ok) := storedMain r c
    let c := storedSide { c with sets := { c.sets with main := main } }
    let c := startThyme (startTime c)
    let c := match heat with | some s => record 0x0E08 0 [s] c | none => c
    let c := record 0x0E01 0 [cause] { c with sup := { c.sup with mstate := .selftest, serving := true, fromReset := false } }
    let c := when (!r.boot1Ok || !r.boot2Ok) (record 0x0E02 0x0300 []) (startNet (powerDomains c))
    let c := selfTest r c
    if c.sup.mstate = .fault then c
    else
      let c := finishClear (finishRewrite (forAll (List.range 32) hartStart (startDisplay r c)))
      let c := when (!ok) (record 0x0E05 0x0300 []) c
      let c := { c with tasks := (List.range 256).foldl (fun m t =>
        let k := freshTask c.sets.main .halted t
        if k.st = .empty then m else Map.put m t k) [] }
      let c := advise (forAll (List.range 64) clearSlot c)
      let (d, c) := if ok then powerUpRestart c else (0, c)
      { c with sup := { c.sup with restart := d, roleWait := true } }

/-- A module that start-up may begin in: without power, or in BOOT before its start-up. Cause 1 is the return of a supply that was lost
without a warning, from whatever state the module was in (R467). -/
def mayBoot (r : StartUp) (c : Chip) : Bool :=
  decide (r.cause = 1) || ((c.sup.mstate == .off || c.sup.mstate == .boot) && !c.sup.bootFail && c.sup.heating.isNone)

/-- POWER_UP (R467): steps 1 to 5. A ZG-960-CX that is cold runs its heaters first (R469). -/
def evPowerUp (dt : Nat) (r : StartUp) (c : Chip) : Chip :=
  let c := pass dt c
  if !mayBoot r c then c
  else
    let c := if r.cause = 1 ∧ c.sup.mstate ≠ .boot ∨ c.sup.bootFail then powerDown c else c
    if r.heater && c.sup.orderCx then { c with sup := { c.sup with heating := some r } } else boot r none c

/-- HEATER_RUN_END (R469). -/
def evHeaterRunEnd (dt secs : Nat) (c : Chip) : Chip :=
  let c := pass dt c
  match c.sup.heating with
  | some r => boot r (some secs) c
  | none => c

/-! ### Role negotiation (R473) -/

/-- The role of CFG_ROLE. -/
def roleOf (cs : ConfigSet) : RRole := match cfgRole cs with | 1 => .pairA | 2 => .pairB | 3 => .reserve | _ => .solo

/-- PAIR_STATE and WITHDRAWN with which a module leaves role negotiation. -/
def negotiated (role : RRole) (h : Heard) : PState × Bool :=
  match role with
  | .solo => (.none, false)
  | .reserve => (.standby, false)
  | .reserveProof => (.standby, false)
  | _ =>
    match h.hbState, h.beaconState with
    | some _, _ => (.none, false)
    | none, some b => (.degraded, role == .pairB || b == 4)
    | none, none => (if h.witnessOk then .alone else .degraded, false)

/-- The pair role another module claims is recorded (R473). -/
def conflictNow (c : Chip) : Chip := when c.sup.conflict (record 0x0E07 0x0600 []) c

/-- The role is taken: role, PAIR_STATE, conflict; a partner that runs makes the restart decision lapse (R472). With
neither heartbeat nor beacon the reserve is asked (R351). -/
def takeRole (h : Heard) (c : Chip) : Chip :=
  let role := roleOf c.sets.main
  let ps := negotiated role h
  let pairRole := role == .pairA || role == .pairB
  let clash := pairRole && h.sameRole
  let lapse := pairRole && !clash && h.hbState == some 4
  let c := { c with
    sup := { c.sup with role := role, conflict := clash, roleWait := false, restart := if lapse then 0 else c.sup.restart }
    sets := { c.sets with roleDue := false }
    pair := { c.pair with st := if clash then .none else ps.1, withdrawn := !clash && ps.2 } }
  let ask := pairRole && !clash && h.hbState.isNone && h.beaconState.isNone && hasReserve c
  let c := when ask (fun c => updPair (fun p => { p with queryTn := none }) (sendQuery c)) c
  conflictNow (record 0x0E06 0x0600 [role.code, c.pair.st.code] c)

/-- Step 6 ends: the module enters STOP with its safe values, and auto-run begins where it is set (R467, R474). -/
def reachStop (c : Chip) : Chip :=
  let auto := live c 0x7800 1 0 0 == 1 && c.sup.role != .reserve && !c.sup.conflict
  let c := forAll (List.range 4) canStart { c with sup := { c.sup with autoWait := if auto then some c.time.clock else none } }
  safeCommit (setMState .stop 3 c)

/-- ROLE_NEGOTIATION (R473): at the end of start-up, or in STOP after a throw that changed CFG_ROLE or while the role is contested. -/
def evRoleNegotiation (dt : Nat) (h : Heard) (c : Chip) : Chip :=
  let c := pass dt c
  if c.sup.mstate = .selftest ∧ c.sup.roleWait then reachStop (takeRole h c)
  else if c.sup.mstate = .stop ∧ (c.sets.roleDue ∨ c.sup.conflict) then
    let c := takeRole h c
    forAll (List.range 4) (fun ch => canStateAfterRole ch) c
  else c
where
  canStateAfterRole (ch : Nat) (c : Chip) : Chip := canState ch (updCan ch (fun x => { x with txActive := canTxMember c ch }) c)

/-- ROLE_CONFLICT (R473): every 10 s while the conflict holds. -/
def evRoleConflict (dt : Nat) (c : Chip) : Chip := conflictNow (pass dt c)

/-! ### Auto-run (R474) -/

/-- AUTO_RUN: from STOP as soon as the module is TIME_OK, at the next boundary, by the restart decided or beside a partner that runs. -/
def evAutoRun (dt : Nat) (c : Chip) : Chip :=
  let c := pass dt c
  if c.sup.mstate != .stop || c.sup.autoWait.isNone || live c 0x7800 1 0 0 == 0 || c.sup.role == .reserve || c.sup.conflict || !timeOk c then c
  else
    let c := { c with sup := { c.sup with autoWait := none } }
    if c.sup.restart = 0 && !(isPair c && partnerRuns c) then c else order (c.tt.tn + 1) (.enterRun (c.sup.restart == 2) 0) c

/-- AUTORUN_TIMEOUT. -/
def evAutorunTimeout (dt : Nat) (c : Chip) : Chip :=
  let c := pass dt c
  match c.sup.autoWait with
  | some t =>
    if c.sup.mstate != .stop || timeOk c || decide (c.time.clock < t + liveWord c 0x7800 2 * 1000000000) then c
    else record 0x0E09 0x0300 [] { c with sup := { c.sup with autoWait := none } }
  | none => c

/-! ### Rows -/

/-- POWER_UP. -/
def execPowerUp (dt : Nat) (r : StartUp) : State → Host.Outcome State Fault Refusal := lift (evPowerUp dt r)

/-- HEATER_RUN_END. -/
def execHeaterRunEnd (dt secs : Nat) : State → Host.Outcome State Fault Refusal := lift (evHeaterRunEnd dt secs)

/-- ROLE_NEGOTIATION. -/
def execRoleNegotiation (dt : Nat) (h : Heard) : State → Host.Outcome State Fault Refusal := lift (evRoleNegotiation dt h)

/-- ROLE_CONFLICT. -/
def execRoleConflict (dt : Nat) : State → Host.Outcome State Fault Refusal := lift (evRoleConflict dt)

/-- AUTO_RUN. -/
def execAutoRun (dt : Nat) : State → Host.Outcome State Fault Refusal := lift (evAutoRun dt)

/-- AUTORUN_TIMEOUT. -/
def execAutorunTimeout (dt : Nat) : State → Host.Outcome State Fault Refusal := lift (evAutorunTimeout dt)

end Sys2Proof.Machine
end

