-- ==== Sys2Proof/Machine/Boundary.lean ====
section
/-! DEFINITION. The tick boundary (R39): what closes the tick, the number of the boundary, the snapshot of the counters, the effects that
take place, the commit of the staged outputs, the watchdogs, the captures, substitutions and fence plans, the attempt of a throw,
and what a pair member sends. -/
namespace Sys2Proof.Machine

open Sys2Proof

/-! ### The tick that ends (R37, R49, R459) -/

/-- The unit of an engine subindex of 0x2002. -/
def engUnit (sub : Nat) : Nat :=
  if sub ≤ 0x18 then 0x0100 + (sub - 1) else if sub ≤ 0x20 then 0x0200 + (sub - 0x19) else if sub ≤ 0x24 then 0x0400 + (sub - 0x21)
  else if sub = 0x25 then 0x0500 else 0x0600

/-- Declared busy cycles of the placement of an engine in the tick `tn` of its hyperperiod (R46, R47). -/
def declBusy (cs : ConfigSet) (sub tn : Nat) : Nat :=
  let l := Map.getD cs.declLoad sub []
  l.getD (tn % Nat.max 1 l.length) 0

/-- Declared busy cycles of an engine: those of its placement, with the placements it has taken over (R23). -/
def declBusyNow (c : Chip) (sub tn : Nat) : Nat :=
  let own := declBusy c.sets.main sub tn
  let taken := fun (m : Map Engine) (base : Nat) =>
    m.foldl (fun a e => if e.2.subBy == some (sub - base) then a + declBusy c.sets.main (base + e.1) tn else a) own
  if 1 ≤ sub ∧ sub ≤ 0x18 then taken c.hlth.ce 1 else if 0x19 ≤ sub ∧ sub ≤ 0x20 then taken c.hlth.se 0x19 else own

/-- The measured busy cycles of an engine in the tick that ends: PEAK_LOAD, its counter, and a record beyond the declaration. -/
def engineBusy (sub cycles : Nat) (c : Chip) : Chip :=
  let load := Nat.min 65535 (cycles * 1000 / engCapacity (tTick c) sub)
  let c := { c with tt := { c.tt with peak := Map.upd c.tt.peak sub 0 (fun p => Nat.max p load) } }
  let c := if sub ≤ 0x18 then bumpBy (0x020 + (sub - 1)) cycles c else if sub ≤ 0x20 then bumpBy (0x090 + (sub - 0x19)) cycles c else c
  if declBusyNow c sub c.tt.tn < cycles then bump 0x012 (record 0x0413 (engUnit sub) (engUnit sub :: w64 c.tt.tn) c) else c

/-- What closes a tick. -/
def closeTick (busy : List (Nat × Nat)) (c : Chip) : Chip :=
  let c := forAll (busy.filter (fun b => decide (1 ≤ b.1) && decide (b.1 ≤ 0x26))) (fun b => engineBusy b.1 b.2) c
  pairTickEnd (when c.time.slewing (bump 0x1A3) c)

/-! ### The boundary's number (R31, R32, R35) -/

/-- The next boundary: in RUN, TRIP and SERVICE its number is one more; the first boundary, and the first after a time step in STOP, takes
it from the clock. -/
def nextBoundary (c : Chip) : Chip :=
  let t := tTick c * 1000
  if c.tt.ticking && !(c.tt.rederive && c.sup.mstate == .stop) then
    let tn := c.tt.tn + 1
    pass (bNs c tn - c.time.clock) { c with tt := { c.tt with tn := tn } }
  else
    let old := c.tt.tn
    let tn := cdiv c.time.clock t
    let again := c.tt.ticking
    let c := pass (tn * t - c.time.clock) { c with tt := { c.tt with tn := tn, ticking := true, rederive := false } }
    when again (record 0x0410 0x0300 (w64 old ++ w64 tn)) c

/-! ### Counters (R460, R461) -/

/-- The counters latch where a snapshot is due. -/
def latchCounters (c : Chip) : Chip :=
  let m := cfg c 0x7100 1 15 0
  let ws := c.cnt.waiting
  if (m != 0 && c.tt.tn % m == 0) || !ws.isEmpty then
    let c := { c with cnt := { c.cnt with snap := c.cnt.val, snapStk := c.cnt.sticky, snapTn := c.tt.tn, waiting := [] } }
    forAll ws (fun w => complete 0x0B01 w.1 w.2 0 (leBytes 8 c.tt.tn)) c
  else c

/-- The comparator settings of a set thrown at the boundary before take effect (R461). -/
def newComparators (c : Chip) : Chip :=
  if c.tt.tn = c.sets.mainTn + 1 ∧ c.cnt.cmpOver.length = 32 then { c with cnt := { c.cnt with cmpOver := [] } } else c

/-! ### Commits (R62, R63, R70, R248, R282, R376) -/

/-- The values of a staging become those last committed, on-board outputs only where the module drives them. -/
def commitValues (t : Nat) (s : Staged) (c : Chip) : Chip :=
  if s.early || c.sup.role == .reserveProof then
    let m := forceOut c.sets.forces (outLayout 0 (outDecls c.sets.main t)) s.bytes
    updTask t (fun k => { k with committed := m, atSafe := false }) c
  else commitStaging t s.bytes c

/-- One entry that a completed job left for this boundary: its outputs, CAN and HART requests, panel writes and timer events. -/
def commitEntry (t : Nat) (s : Staged) (c : Chip) : Chip :=
  let proof := c.sup.role == .reserveProof
  let c := when s.outs (commitValues t s) c
  let c := when (!s.early && !proof) (fun c => forAll s.can (fun r => canRequest c.tt.tn r []) c) c
  let c := when (!proof) (forAll s.hart hartQueue) c
  let c := forAll s.panels panelWrite c
  forAll s.timers (fun i => armTimer t i c.tt.tn) c

/-- OVR_POLICY acts (R70). -/
def overrunPolicy (t : Nat) (c : Chip) : Chip :=
  let p := cfg c (0x2100 + t) 1 23 22
  let c := updTask t (fun k => { k with limitAct := false }) c
  if p = 0 then c
  else
    let c := if c.sup.role == .reserveProof then
        updTask t (fun k => { k with committed := forceOut c.sets.forces (outLayout 0 (outDecls c.sets.main t)) (safeBytes c t), atSafe := false }) c
      else commitSafe t c
    if p = 2 then updTask t (fun k => { k with st := .suspended }) c else c

/-- What a task commits at this boundary, and its part of the output digest (R344). -/
def commitTask (t : Nat) (c : Chip) : Chip × Option (List Byte) :=
  let k := task c t
  let now := k.staged.filter (fun s => decide (s.tn ≤ c.tt.tn))
  let safe := k.limitAct && cfg c (0x2100 + t) 1 23 22 != 0
  let c := updTask t (fun k =>
    let left := k.staged.filter (fun s => !decide (s.tn ≤ c.tt.tn))
    { k with staged := left, st := if k.st = .staged ∧ left.isEmpty then .idle else k.st }) c
  let c := forAll now (commitEntry t) c
  let c := when k.limitAct (overrunPolicy t) c
  if now.any (·.outs) || safe then
    (c, some (stagingBytes c t (task c t).committed ++ (now.filter (·.outs)).flatMap (fun s => s.can.flatMap canReqBytes)))
  else (c, none)

/-- The commits of every task in RUN, in ascending order. -/
def commitTasks (c : Chip) : Chip × List (Nat × List Byte) :=
  (usedTasks c).foldl (fun a t =>
    let r := commitTask t a.1
    (r.1, match r.2 with | some b => a.2 ++ [(t, b)] | none => a.2)) (c, [])

/-- The commit of the boundary: the staged outputs in RUN, else the safe values (R34); a target of re-synchronisation holds its outputs
(R359), a reserve in a proof run holds its safe values (R364). -/
def commitAll (c : Chip) : Chip :=
  if !inRun c then pairCommit [] (safeCommit c)
  else if c.pair.st = .resyncTarget then pairCommit [] c
  else
    let r := commitTasks c
    let c := pairCommit r.2 (releaseOuts r.1)
    let c := when (c.sup.role == .reserveProof) safeCommit c
    when c.pair.patch (pushDo (cfg c 0x5300 1 14 10) true) c

/-! ### Watchdogs (R237, R265, R272) -/

/-- The AO groups are refreshed; a group whose field side had fallen back takes its committed values again. -/
def refreshAo (c : Chip) : Chip :=
  if Map.getD c.hlth.dom 9 .off != .on then c
  else
    forAll [0, 1] (fun g c =>
      let was := Map.getD c.io.aoWd g false
      let c := { c with io := { c.io with refresh := Map.put c.io.refresh g c.time.clock, aoWd := Map.put c.io.aoWd g false } }
      when was (fun c => forAll (List.range 4) (fun i c => pushAo (4 * g + i) (ao c (4 * g + i)).committed c)
        (record 0x0612 (0x0918 + 4 * g) [] c)) c) c

/-- The DO groups are refreshed and initialised where they wait for it; a group whose field logic had fallen back takes its committed
values again. -/
def refreshDo (c : Chip) : Chip :=
  if Map.getD c.hlth.dom 10 .off != .on then c
  else
    forAll [0, 1, 2] (fun g c =>
      let was := (List.range 8).any (fun i => (dov c (8 * g + i)).wd)
      let c := { c with io := { c.io with refresh := Map.put c.io.refresh (2 + g) c.time.clock } }
      let c := when was (fun c => forAll (List.range 8) (fun i c =>
          let ch := 8 * g + i
          if (dov c ch).wd then pushDo ch (dov c ch).committed (updDo ch (fun d => { d with wd := false }) c) else c)
        (record 0x0655 (0x0A20 + 8 * g) [] c)) c
      doInit g c) c

/-- The field-side watchdogs are refreshed, until the releases cease at a power failure (R479). -/
def refreshField (c : Chip) : Chip := if c.sup.refreshOff then c else refreshDo (refreshAo c)

/-! ### Events, substitution, fence plans (R23, R25, R65 to R67) -/

/-- Events recorded in the tick join the pending ones, which the release of this boundary serves where no job is active. -/
def serveEvents (c : Chip) : Chip :=
  { c with tasks := Map.mapV c.tasks (fun _ k =>
      let pend := k.evtPend ||| k.evtNew
      { k with
        evtPend := pend, evtCount := k.evtCount + k.evtNewN, evtNew := 0, evtNewN := 0
        evtTn := if k.job.isSome then none else if pend = 0 then none else some (k.evtTn.getD c.tt.tn) }) }

/-- Substitutions complete, waiting ones are made, fence placements switch, and the jobs that have moved run on their engines. -/
def substitute (c : Chip) : Chip :=
  let before := (c.hlth.ce, c.hlth.se)
  let c := swapEngines c
  let subst := c.hlth.ce.any (fun e => e.2.due) || before.1.map (fun e => e.2.st) != c.hlth.ce.map (fun e => e.2.st)
    || before.2.map (fun e => e.2.st) != c.hlth.se.map (fun e => e.2.st)
  let fence := !c.hlth.fenceDue.isEmpty
  let c := { c with hlth := { c.hlth with
    ce := Map.mapV c.hlth.ce (fun _ e => { e with due := false })
    fencePlan := c.hlth.fencePlan ++ c.hlth.fenceDue, fenceDue := [], substNow := subst || fence } }
  repairParity (when fence (forAll (List.range 24) dispatch) c)

/-- The change journal of a throw: the entries of earlier ticks are applied once it is named, and gather while it is prepared; those of
the tick that ended stay for the attempt (R148, R149). -/
def trackChanges (c : Chip) : Chip :=
  { c with sets := { c.sets with chgOld := if c.sets.siding = .preparing then c.sets.chgOld else 0 } }

/-- After the attempt the tick's entries are entries of an earlier tick. -/
def shiftChanges (c : Chip) : Chip :=
  { c with sets := { c.sets with chgOld := if c.sets.siding = .preparing then c.sets.chgOld + c.sets.nW else c.sets.chgOld, nW := 0, sD := 0 } }

/-! ### The boundary -/

/-- Step 1 of R39: the snapshot, the effects, the commits, the watchdogs, the armed CAN buffers. -/
def stepCommit (c : Chip) : Chip :=
  let c := { c with
    pair := { c.pair with adoptRel := false }
    sets := { c.sets with delayRel := false }
    hlth := { c.hlth with substNow := false }
    net := { c.net with stations := Map.mapV c.net.stations (fun _ x => { x with now := none }) } }
  let c := bump 0x000 (latchCounters c)
  let c := adoptionsLate (dueEffects (newComparators c))
  let c := { c with tt := { c.tt with tLastRun := if inRun c then bNs c c.tt.tn / 1000 else c.tt.tLastRun } }
  canArmed (refreshField (commitAll c))

/-- Step 2 of R39, with the fields that are sampled. -/
def stepCapture (c : Chip) : Chip := sampleFields (canCapture (digCapture (anaCapture c)))

/-- What a pair member does at the boundary once the outputs are committed: the pair forms, a target adopts, a source and a checkpoint
are served (R356, R359, R361). -/
def stepPair (c : Chip) : Chip := freezeCheckpoint (sourceTick (judgeWithdraw (tryAdopt (formPair c))))

/-- Step 3 of R39: events, substitutions, the attempt of a throw. -/
def stepApply (c : Chip) : Chip := shiftChanges (attemptThrow (trackChanges (substitute (serveEvents c))))

/-- A boundary in FAULT only serves the counters (R466); none comes after the loss of the time engine's domain. -/
def faultBoundary (c : Chip) : Chip :=
  if c.tt.ticking then bump 0x000 (latchCounters (nextBoundary c)) else c

/-- BOUNDARY (R39): the block after it, and the block as the commit and the capture left it, from which values are read (R437). -/
def evBoundary (dt : Nat) (busy : List (Nat × Nat)) (c : Chip) : Chip × Option Chip :=
  let c := stampsArrive (pass dt c)
  if c.sup.mstate = .fault then
    let c := faultBoundary c
    (c, if c.tt.ticking then some c else none)
  else if !hasBoundaries c then (c, none)
  else
    let c := nextBoundary (when c.tt.ticking (closeTick busy) c)
    let c := stepCapture (stepPair (stepCommit c))
    (sendHeartbeat (stepApply c), some c)

/-! ### Rows -/

/-- BOUNDARY. -/
def execBoundary (dt : Nat) (busy : List (Nat × Nat)) (n : State) : Host.Outcome State Fault Refusal :=
  let r := evBoundary dt busy n.chip
  .next { n with chip := r.1, snap := r.2.getD n.snap }

end Sys2Proof.Machine
end

