-- ==== Sys2Proof/Machine/Dispatch.lean ====
section
/-! DEFINITION. The meaning of every command: one arm per constructor, each a direct call of that command's own meaning. -/
namespace Sys2Proof.Machine

open Sys2Proof

/-- What a command does to everything but the queue. -/
def exec (i : Instr) (s : State) : Host.Outcome State Fault Refusal :=
  match i with
  | .boundary dt busy => Sys2Proof.Machine.execBoundary dt busy s
  | .offPulseStart dt c => Sys2Proof.Machine.execOffPulseStart dt c s
  | .offPulseEnd dt c rb => Sys2Proof.Machine.execOffPulseEnd dt c rb s
  | .taskRelease dt t => Sys2Proof.Machine.execTaskRelease dt t s
  | .hwTimerEvent dt e => Sys2Proof.Machine.execHwTimerEvent dt e s
  | .zslOutTransmit dt => Sys2Proof.Machine.execZslOutTransmit dt s
  | .zslCutoff dt => Sys2Proof.Machine.execZslCutoff dt s
  | .mergedImageBuild dt => Sys2Proof.Machine.execMergedImageBuild dt s
  | .beaconSend dt => Sys2Proof.Machine.execBeaconSend dt s
  | .and b => Sys2Proof.Machine.execAnd b s
  | .or b => Sys2Proof.Machine.execOr b s
  | .xor b => Sys2Proof.Machine.execXor b s
  | .not b => Sys2Proof.Machine.execNot b s
  | .shl b => Sys2Proof.Machine.execShl b s
  | .shr b => Sys2Proof.Machine.execShr b s
  | .asr b => Sys2Proof.Machine.execAsr b s
  | .rol b => Sys2Proof.Machine.execRol b s
  | .ror b => Sys2Proof.Machine.execRor b s
  | .bitget b => Sys2Proof.Machine.execBitget b s
  | .bitset b => Sys2Proof.Machine.execBitset b s
  | .popcnt b => Sys2Proof.Machine.execPopcnt b s
  | .eq b => Sys2Proof.Machine.execEq b s
  | .ne b => Sys2Proof.Machine.execNe b s
  | .lt b => Sys2Proof.Machine.execLt b s
  | .le b => Sys2Proof.Machine.execLe b s
  | .gt b => Sys2Proof.Machine.execGt b s
  | .ge b => Sys2Proof.Machine.execGe b s
  | .sel b => Sys2Proof.Machine.execSel b s
  | .mux b => Sys2Proof.Machine.execMux b s
  | .min b => Sys2Proof.Machine.execMin b s
  | .max b => Sys2Proof.Machine.execMax b s
  | .limit b => Sys2Proof.Machine.execLimit b s
  | .move b => Sys2Proof.Machine.execMove b s
  | .ldx b => Sys2Proof.Machine.execLdx b s
  | .stx b => Sys2Proof.Machine.execStx b s
  | .getst b => Sys2Proof.Machine.execGetst b s
  | .add b => Sys2Proof.Machine.execAdd b s
  | .sub b => Sys2Proof.Machine.execSub b s
  | .mul b => Sys2Proof.Machine.execMul b s
  | .div b => Sys2Proof.Machine.execDiv b s
  | .mod b => Sys2Proof.Machine.execMod b s
  | .neg b => Sys2Proof.Machine.execNeg b s
  | .abs b => Sys2Proof.Machine.execAbs b s
  | .qadd b => Sys2Proof.Machine.execQadd b s
  | .qsub b => Sys2Proof.Machine.execQsub b s
  | .qmul b => Sys2Proof.Machine.execQmul b s
  | .qdiv b => Sys2Proof.Machine.execQdiv b s
  | .qneg b => Sys2Proof.Machine.execQneg b s
  | .qabs b => Sys2Proof.Machine.execQabs b s
  | .qscale b => Sys2Proof.Machine.execQscale b s
  | .fadd b => Sys2Proof.Machine.execFadd b s
  | .fsub b => Sys2Proof.Machine.execFsub b s
  | .fmul b => Sys2Proof.Machine.execFmul b s
  | .fdiv b => Sys2Proof.Machine.execFdiv b s
  | .fsqrt b => Sys2Proof.Machine.execFsqrt b s
  | .fabs b => Sys2Proof.Machine.execFabs b s
  | .fneg b => Sys2Proof.Machine.execFneg b s
  | .fexp b => Sys2Proof.Machine.execFexp b s
  | .fln b => Sys2Proof.Machine.execFln b s
  | .fsin b => Sys2Proof.Machine.execFsin b s
  | .fcos b => Sys2Proof.Machine.execFcos b s
  | .fatan2 b => Sys2Proof.Machine.execFatan2 b s
  | .cvt b => Sys2Proof.Machine.execCvt b s
  | .scale b => Sys2Proof.Machine.execScale b s
  | .unscale b => Sys2Proof.Machine.execUnscale b s
  | .lint b => Sys2Proof.Machine.execLint b s
  | .ton b => Sys2Proof.Machine.execTon b s
  | .tof b => Sys2Proof.Machine.execTof b s
  | .tp b => Sys2Proof.Machine.execTp b s
  | .tpulse b => Sys2Proof.Machine.execTpulse b s
  | .tret b => Sys2Proof.Machine.execTret b s
  | .tons b => Sys2Proof.Machine.execTons b s
  | .tofs b => Sys2Proof.Machine.execTofs b s
  | .tps b => Sys2Proof.Machine.execTps b s
  | .ctu b => Sys2Proof.Machine.execCtu b s
  | .ctd b => Sys2Proof.Machine.execCtd b s
  | .ctud b => Sys2Proof.Machine.execCtud b s
  | .ctw b => Sys2Proof.Machine.execCtw b s
  | .rtrig b => Sys2Proof.Machine.execRtrig b s
  | .ftrig b => Sys2Proof.Machine.execFtrig b s
  | .edge2 b => Sys2Proof.Machine.execEdge2 b s
  | .pid b => Sys2Proof.Machine.execPid b s
  | .pidq b => Sys2Proof.Machine.execPidq b s
  | .lag1 b => Sys2Proof.Machine.execLag1 b s
  | .leadlag b => Sys2Proof.Machine.execLeadlag b s
  | .ramp b => Sys2Proof.Machine.execRamp b s
  | .deadb b => Sys2Proof.Machine.execDeadb b s
  | .mavg b => Sys2Proof.Machine.execMavg b s
  | .integ b => Sys2Proof.Machine.execInteg b s
  | .step b => Sys2Proof.Machine.execStep b s
  | .trans b => Sys2Proof.Machine.execTrans b s
  | .seqrst b => Sys2Proof.Machine.execSeqrst b s
  | .almhl b => Sys2Proof.Machine.execAlmhl b s
  | .almdly b => Sys2Proof.Machine.execAlmdly b s
  | .alminh b => Sys2Proof.Machine.execAlminh b s
  | .almshv b => Sys2Proof.Machine.execAlmshv b s
  | .almfo b => Sys2Proof.Machine.execAlmfo b s
  | .v1oo2 b => Sys2Proof.Machine.execV1oo2 b s
  | .v2oo3 b => Sys2Proof.Machine.execV2oo3 b s
  | .v1oo2a b => Sys2Proof.Machine.execV1oo2a b s
  | .v2oo3a b => Sys2Proof.Machine.execV2oo3a b s
  | .sdl b => Sys2Proof.Machine.execSdl b s
  | .sgsub b => Sys2Proof.Machine.execSgsub b s
  | .sgcol b => Sys2Proof.Machine.execSgcol b s
  | .sgstat b => Sys2Proof.Machine.execSgstat b s
  | .cantx b => Sys2Proof.Machine.execCantx b s
  | .canrx b => Sys2Proof.Machine.execCanrx b s
  | .hcmd b => Sys2Proof.Machine.execHcmd b s
  | .hvar b => Sys2Proof.Machine.execHvar b s
  | .tmark b => Sys2Proof.Machine.execTmark b s
  | .cntrd b => Sys2Proof.Machine.execCntrd b s
  | .ptext b => Sys2Proof.Machine.execPtext b s
  | .pfield b => Sys2Proof.Machine.execPfield b s
  | .jmp b => Sys2Proof.Machine.execJmp b s
  | .jmpc b => Sys2Proof.Machine.execJmpc b s
  | .jmpn b => Sys2Proof.Machine.execJmpn b s
  | .loopb b => Sys2Proof.Machine.execLoopb b s
  | .call b => Sys2Proof.Machine.execCall b s
  | .ret b => Sys2Proof.Machine.execRet b s
  | .nop b => Sys2Proof.Machine.execNop b s
  | .jobEnd dt t => Sys2Proof.Machine.execJobEnd dt t s
  | .jobDeadline dt t => Sys2Proof.Machine.execJobDeadline dt t s
  | .eccUncorrectable dt addr job => Sys2Proof.Machine.execEccUncorrectable dt addr job s
  | .scrubPass dt kind hits => Sys2Proof.Machine.execScrubPass dt kind hits s
  | .parityError dt addr eng => Sys2Proof.Machine.execParityError dt addr eng s
  | .ceFailed dt n => Sys2Proof.Machine.execCeFailed dt n s
  | .seFailed dt e => Sys2Proof.Machine.execSeFailed dt e s
  | .lockstepMismatch dt => Sys2Proof.Machine.execLockstepMismatch dt s
  | .tcxoDrift dt bad => Sys2Proof.Machine.execTcxoDrift dt bad s
  | .tcxoStopped dt n => Sys2Proof.Machine.execTcxoStopped dt n s
  | .domainFault dt n => Sys2Proof.Machine.execDomainFault dt n s
  | .logicInputLost dt p mv => Sys2Proof.Machine.execLogicInputLost dt p mv s
  | .logicInputRestored dt p mv => Sys2Proof.Machine.execLogicInputRestored dt p mv s
  | .preparationDone dt => Sys2Proof.Machine.execPreparationDone dt s
  | .catchupDone dt => Sys2Proof.Machine.execCatchupDone dt s
  | .throwCatchupLimit dt => Sys2Proof.Machine.execThrowCatchupLimit dt s
  | .throwDoneReceived dt tn l => Sys2Proof.Machine.execThrowDoneReceived dt tn l s
  | .throwProposalReceived dt p => Sys2Proof.Machine.execThrowProposalReceived dt p s
  | .throwProposalTimeout dt => Sys2Proof.Machine.execThrowProposalTimeout dt s
  | .pairCommandEffect dt confirmed => Sys2Proof.Machine.execPairCommandEffect dt confirmed s
  | .stagedSettled dt item obj => Sys2Proof.Machine.execStagedSettled dt item obj s
  | .stagedSettleFail dt item obj => Sys2Proof.Machine.execStagedSettleFail dt item obj s
  | .forceExpired dt => Sys2Proof.Machine.execForceExpired dt s
  | .sageInputCheckDone dt n => Sys2Proof.Machine.execSageInputCheckDone dt n s
  | .sageJobStart dt e => Sys2Proof.Machine.execSageJobStart dt e s
  | .sageJobEnd dt e => Sys2Proof.Machine.execSageJobEnd dt e s
  | .sageDeadline dt n => Sys2Proof.Machine.execSageDeadline dt n s
  | .sageOutcomeReceived dt n tag digest o => Sys2Proof.Machine.execSageOutcomeReceived dt n tag digest o s
  | .sageAgreement dt n => Sys2Proof.Machine.execSageAgreement dt n s
  | .aiConversion dt c counts limiter miswire => Sys2Proof.Machine.execAiConversion dt c counts limiter miswire s
  | .spareComparison dt c diffUa => Sys2Proof.Machine.execSpareComparison dt c diffUa s
  | .aiSubstitutionDone dt c counts => Sys2Proof.Machine.execAiSubstitutionDone dt c counts s
  | .aoReadbackSample dt c rb headroomMv => Sys2Proof.Machine.execAoReadbackSample dt c rb headroomMv s
  | .aoDrvFault dt c => Sys2Proof.Machine.execAoDrvFault dt c s
  | .aoWatchdogExpired dt g => Sys2Proof.Machine.execAoWatchdogExpired dt g s
  | .faLow dt mv => Sys2Proof.Machine.execFaLow dt mv s
  | .faSag dt mv => Sys2Proof.Machine.execFaSag dt mv s
  | .faReset dt mv => Sys2Proof.Machine.execFaReset dt mv s
  | .faRecovered dt mv => Sys2Proof.Machine.execFaRecovered dt mv s
  | .hartResponse dt h dev comm data => Sys2Proof.Machine.execHartResponse dt h dev comm data s
  | .hartNoResponse dt h => Sys2Proof.Machine.execHartNoResponse dt h s
  | .hartBurstFrame dt h e cmd dev comm data => Sys2Proof.Machine.execHartBurstFrame dt h e cmd dev comm data s
  | .diSample dt raw edges testFail => Sys2Proof.Machine.execDiSample dt raw edges testFail s
  | .diGroupSupplyLost dt g => Sys2Proof.Machine.execDiGroupSupplyLost dt g s
  | .doReadbackSample dt rb limiting ma => Sys2Proof.Machine.execDoReadbackSample dt rb limiting ma s
  | .doOverload dt c => Sys2Proof.Machine.execDoOverload dt c s
  | .doOverloadRetry dt c => Sys2Proof.Machine.execDoOverloadRetry dt c s
  | .doLoadWindow dt c ma => Sys2Proof.Machine.execDoLoadWindow dt c ma s
  | .doGroupCurrent dt g => Sys2Proof.Machine.execDoGroupCurrent dt g s
  | .doWatchdogExpired dt g => Sys2Proof.Machine.execDoWatchdogExpired dt g s
  | .fdLow dt g mv => Sys2Proof.Machine.execFdLow dt g mv s
  | .fdSag dt g mv => Sys2Proof.Machine.execFdSag dt g mv s
  | .fdReset dt g mv => Sys2Proof.Machine.execFdReset dt g mv s
  | .fdRecovered dt g mv => Sys2Proof.Machine.execFdRecovered dt g mv s
  | .canFrameReceived dt ch age f => Sys2Proof.Machine.execCanFrameReceived dt ch age f s
  | .canArbitration dt ch => Sys2Proof.Machine.execCanArbitration dt ch s
  | .canFrameSent dt ch tdcv => Sys2Proof.Machine.execCanFrameSent dt ch tdcv s
  | .canArbitrationLost dt ch => Sys2Proof.Machine.execCanArbitrationLost dt ch s
  | .canBusError dt ch cls id dTec dRec => Sys2Proof.Machine.execCanBusError dt ch cls id dTec dRec s
  | .canRecoveryDone dt ch => Sys2Proof.Machine.execCanRecoveryDone dt ch s
  | .canIntegrated dt ch => Sys2Proof.Machine.execCanIntegrated dt ch s
  | .zslInFrame dt p src seq z => Sys2Proof.Machine.execZslInFrame dt p src seq z s
  | .zslInForward dt l z valid => Sys2Proof.Machine.execZslInForward dt l z valid s
  | .netLinkChange dt p up => Sys2Proof.Machine.execNetLinkChange dt p up s
  | .sourceAged dt src => Sys2Proof.Machine.execSourceAged dt src s
  | .hsrForward dt p src seq onlyMe faulty ptp => Sys2Proof.Machine.execHsrForward dt p src seq onlyMe faulty ptp s
  | .arpRequest dt p ip => Sys2Proof.Machine.execArpRequest dt p ip s
  | .icmpEcho dt p ip src => Sys2Proof.Machine.execIcmpEcho dt p ip src s
  | .ipReassemblyTimeout dt id => Sys2Proof.Machine.execIpReassemblyTimeout dt id s
  | .ptpSync dt p t1 t2 seq srcId oneStep => Sys2Proof.Machine.execPtpSync dt p t1 t2 seq srcId oneStep s
  | .ptpDelayExchange dt p t1 t2 t3 t4 => Sys2Proof.Machine.execPtpDelayExchange dt p t1 t2 t3 t4 s
  | .ptpDelayReqSend dt p => Sys2Proof.Machine.execPtpDelayReqSend dt p s
  | .ptpPdelayReqReceived dt p seq srcId t2 => Sys2Proof.Machine.execPtpPdelayReqReceived dt p seq srcId t2 s
  | .ptpAnnounceReceived dt p gm => Sys2Proof.Machine.execPtpAnnounceReceived dt p gm s
  | .ptpAnnounceTimeout dt => Sys2Proof.Machine.execPtpAnnounceTimeout dt s
  | .ptpSyncTimeout dt => Sys2Proof.Machine.execPtpSyncTimeout dt s
  | .ptpSyncSend dt p => Sys2Proof.Machine.execPtpSyncSend dt p s
  | .ptpTsMissing dt p => Sys2Proof.Machine.execPtpTsMissing dt p s
  | .ptpPortChanged dt => Sys2Proof.Machine.execPtpPortChanged dt s
  | .holdoverLong dt => Sys2Proof.Machine.execHoldoverLong dt s
  | .freqCorrectionSave dt => Sys2Proof.Machine.execFreqCorrectionSave dt s
  | .heartbeatReceived dt l hb => Sys2Proof.Machine.execHeartbeatReceived dt l hb s
  | .taskDigestsReceived dt l ds => Sys2Proof.Machine.execTaskDigestsReceived dt l ds s
  | .tiebreakSelftestDone dt builtinOk partnerFail => Sys2Proof.Machine.execTiebreakSelftestDone dt builtinOk partnerFail s
  | .disagreeCleared dt => Sys2Proof.Machine.execDisagreeCleared dt s
  | .disagreeLimitReached dt => Sys2Proof.Machine.execDisagreeLimitReached dt s
  | .pathFault dt l => Sys2Proof.Machine.execPathFault dt l s
  | .pathRestored dt l => Sys2Proof.Machine.execPathRestored dt l s
  | .partnerPresumedFailed dt => Sys2Proof.Machine.execPartnerPresumedFailed dt s
  | .witnessQuery dt b => Sys2Proof.Machine.execWitnessQuery dt b s
  | .witnessAnswer dt b => Sys2Proof.Machine.execWitnessAnswer dt b s
  | .witnessTimeout dt => Sys2Proof.Machine.execWitnessTimeout dt s
  | .witnessRepeat dt => Sys2Proof.Machine.execWitnessRepeat dt s
  | .beaconReceived dt b => Sys2Proof.Machine.execBeaconReceived dt b s
  | .partnerAnnouncement dt l trip => Sys2Proof.Machine.execPartnerAnnouncement dt l trip s
  | .pairTnSkew dt l => Sys2Proof.Machine.execPairTnSkew dt l s
  | .adoptionRequest dt l t => Sys2Proof.Machine.execAdoptionRequest dt l t s
  | .adoptionAnswer dt l t tn p => Sys2Proof.Machine.execAdoptionAnswer dt l t tn p s
  | .resyncDataReceived dt n => Sys2Proof.Machine.execResyncDataReceived dt n s
  | .resyncTimeout dt => Sys2Proof.Machine.execResyncTimeout dt s
  | .checkpointReceived dt tn base p set => Sys2Proof.Machine.execCheckpointReceived dt tn base p set s
  | .checkpointAck dt tn => Sys2Proof.Machine.execCheckpointAck dt tn s
  | .reserveCallReceived dt role => Sys2Proof.Machine.execReserveCallReceived dt role s
  | .reserveImageLoaded dt => Sys2Proof.Machine.execReserveImageLoaded dt s
  | .reserveLinkTimeout dt => Sys2Proof.Machine.execReserveLinkTimeout dt s
  | .lineLinkChange dt l up sfpOk => Sys2Proof.Machine.execLineLinkChange dt l up sfpOk s
  | .proofRunStart dt => Sys2Proof.Machine.execProofRunStart dt s
  | .proofRunEnd dt loopOk => Sys2Proof.Machine.execProofRunEnd dt loopOk s
  | .displayFrame dt => Sys2Proof.Machine.execDisplayFrame dt s
  | .panelTempRead dt p c => Sys2Proof.Machine.execPanelTempRead dt p c s
  | .ledgerCompensation dt p => Sys2Proof.Machine.execLedgerCompensation dt p s
  | .railIdleOff dt => Sys2Proof.Machine.execRailIdleOff dt s
  | .railFault dt => Sys2Proof.Machine.execRailFault dt s
  | .railRetry dt ok => Sys2Proof.Machine.execRailRetry dt ok s
  | .boostPhaseSwitched dt => Sys2Proof.Machine.execBoostPhaseSwitched dt s
  | .panelInserted dt panel => Sys2Proof.Machine.execPanelInserted dt panel s
  | .panelRemoved dt => Sys2Proof.Machine.execPanelRemoved dt s
  | .dispRecovered dt p => Sys2Proof.Machine.execDispRecovered dt p s
  | .messageArrival dt src bytes => Sys2Proof.Machine.execMessageArrival dt src bytes s
  | .sessionKeepaliveTimeout dt n => Sys2Proof.Machine.execSessionKeepaliveTimeout dt n s
  | .sessionConfirmTimeout dt n => Sys2Proof.Machine.execSessionConfirmTimeout dt n s
  | .unlockExpired dt n => Sys2Proof.Machine.execUnlockExpired dt n s
  | .unlockLockoutEnd dt path => Sys2Proof.Machine.execUnlockLockoutEnd dt path s
  | .sourceBlockEnd dt addr => Sys2Proof.Machine.execSourceBlockEnd dt addr s
  | .usbDetach dt => Sys2Proof.Machine.execUsbDetach dt s
  | .eventSpaceFreed dt n bytes => Sys2Proof.Machine.execEventSpaceFreed dt n bytes s
  | .eventBatchTimeout dt n ring => Sys2Proof.Machine.execEventBatchTimeout dt n ring s
  | .sessionOpen q => Sys2Proof.Machine.execSessionOpen q s
  | .sessionConfirm q => Sys2Proof.Machine.execSessionConfirm q s
  | .sessionClose q => Sys2Proof.Machine.execSessionClose q s
  | .keepalive q => Sys2Proof.Machine.execKeepalive q s
  | .unlockPassword q => Sys2Proof.Machine.execUnlockPassword q s
  | .unlockChallenge q => Sys2Proof.Machine.execUnlockChallenge q s
  | .unlockResponse q => Sys2Proof.Machine.execUnlockResponse q s
  | .relock q => Sys2Proof.Machine.execRelock q s
  | .fieldLockEngage q => Sys2Proof.Machine.execFieldLockEngage q s
  | .fieldLockRelease q => Sys2Proof.Machine.execFieldLockRelease q s
  | .setPassword q => Sys2Proof.Machine.execSetPassword q s
  | .setVesselKey q => Sys2Proof.Machine.execSetVesselKey q s
  | .setLinkKey q => Sys2Proof.Machine.execSetLinkKey q s
  | .stateGet q => Sys2Proof.Machine.execStateGet q s
  | .restart q => Sys2Proof.Machine.execRestart q s
  | .stop q => Sys2Proof.Machine.execStop q s
  | .serviceEnter q => Sys2Proof.Machine.execServiceEnter q s
  | .serviceExit q => Sys2Proof.Machine.execServiceExit q s
  | .reset q => Sys2Proof.Machine.execReset q s
  | .setLoadBegin q => Sys2Proof.Machine.execSetLoadBegin q s
  | .setLoadData q => Sys2Proof.Machine.execSetLoadData q s
  | .setLoadEnd q pkg => Sys2Proof.Machine.execSetLoadEnd q pkg s
  | .throw q => Sys2Proof.Machine.execThrow q s
  | .throwCancel q => Sys2Proof.Machine.execThrowCancel q s
  | .sidingClear q => Sys2Proof.Machine.execSidingClear q s
  | .reportRead q => Sys2Proof.Machine.execReportRead q s
  | .taskResume q => Sys2Proof.Machine.execTaskResume q s
  | .taskRead q => Sys2Proof.Machine.execTaskRead q s
  | .imageInfo q => Sys2Proof.Machine.execImageInfo q s
  | .varRead q => Sys2Proof.Machine.execVarRead q s
  | .varWrite q => Sys2Proof.Machine.execVarWrite q s
  | .forceSet q => Sys2Proof.Machine.execForceSet q s
  | .forceClear q => Sys2Proof.Machine.execForceClear q s
  | .forceList q => Sys2Proof.Machine.execForceList q s
  | .diCountReset q => Sys2Proof.Machine.execDiCountReset q s
  | .doLearn q => Sys2Proof.Machine.execDoLearn q s
  | .holdAck q => Sys2Proof.Machine.execHoldAck q s
  | .hartSend q => Sys2Proof.Machine.execHartSend q s
  | .loopCheck q => Sys2Proof.Machine.execLoopCheck q s
  | .canTx q => Sys2Proof.Machine.execCanTx q s
  | .canAbort q => Sys2Proof.Machine.execCanAbort q s
  | .canObjRead q => Sys2Proof.Machine.execCanObjRead q s
  | .canRecover q => Sys2Proof.Machine.execCanRecover q s
  | .canSubscribe q => Sys2Proof.Machine.execCanSubscribe q s
  | .tsSubscribe q => Sys2Proof.Machine.execTsSubscribe q s
  | .timeGet q => Sys2Proof.Machine.execTimeGet q s
  | .timeSet q => Sys2Proof.Machine.execTimeSet q s
  | .slotWrite q => Sys2Proof.Machine.execSlotWrite q s
  | .slotSubmit q => Sys2Proof.Machine.execSlotSubmit q s
  | .slotRead q => Sys2Proof.Machine.execSlotRead q s
  | .deadlineTest q => Sys2Proof.Machine.execDeadlineTest q s
  | .thymeRead q => Sys2Proof.Machine.execThymeRead q s
  | .thymeSubscribe q => Sys2Proof.Machine.execThymeSubscribe q s
  | .thymeClear q => Sys2Proof.Machine.execThymeClear q s
  | .cntSnapshot q => Sys2Proof.Machine.execCntSnapshot q s
  | .cntRead q => Sys2Proof.Machine.execCntRead q s
  | .cntClear q => Sys2Proof.Machine.execCntClear q s
  | .cntThreshold q => Sys2Proof.Machine.execCntThreshold q s
  | .dispJournalRead q => Sys2Proof.Machine.execDispJournalRead q s
  | .ledgerRead q => Sys2Proof.Machine.execLedgerRead q s
  | .reserveCall q => Sys2Proof.Machine.execReserveCall q s
  | .proofStart q => Sys2Proof.Machine.execProofStart q s
  | .pairResync q => Sys2Proof.Machine.execPairResync q s
  | .substitute q => Sys2Proof.Machine.execSubstitute q s
  | .spareRestore q checkOk => Sys2Proof.Machine.execSpareRestore q checkOk s
  | .diagRead q => Sys2Proof.Machine.execDiagRead q s
  | .paramRead q => Sys2Proof.Machine.execParamRead q s
  | .paramWrite q => Sys2Proof.Machine.execParamWrite q s
  | .paramDescribe q => Sys2Proof.Machine.execParamDescribe q s
  | .cntWrap dt n => Sys2Proof.Machine.execCntWrap dt n s
  | .powerUp dt r => Sys2Proof.Machine.execPowerUp dt r s
  | .heaterRunEnd dt secs => Sys2Proof.Machine.execHeaterRunEnd dt secs s
  | .roleNegotiation dt h => Sys2Proof.Machine.execRoleNegotiation dt h s
  | .autoRun dt => Sys2Proof.Machine.execAutoRun dt s
  | .autorunTimeout dt => Sys2Proof.Machine.execAutorunTimeout dt s
  | .powerFailWarning dt => Sys2Proof.Machine.execPowerFailWarning dt s
  | .powerFailSafeCommit dt => Sys2Proof.Machine.execPowerFailSafeCommit dt s
  | .thermalSample dt die board mem => Sys2Proof.Machine.execThermalSample dt die board mem s
  | .wearLedgerUpdate dt capC boostC nandPe mramWr tcxoPpb drift => Sys2Proof.Machine.execWearLedgerUpdate dt capC boostC nandPe mramWr tcxoPpb drift s
  | .wearLedgerNandCopy dt => Sys2Proof.Machine.execWearLedgerNandCopy dt s
  | .nandBlockFailure dt blk => Sys2Proof.Machine.execNandBlockFailure dt blk s
  | .paramRegisterWrite dt index sub value => Sys2Proof.Machine.execParamRegisterWrite dt index sub value s
  | .faLowCleared dt mv => Sys2Proof.Machine.execFaLowCleared dt mv s
  | .fdLowCleared dt g mv => Sys2Proof.Machine.execFdLowCleared dt g mv s
  | .fdSagCleared dt g mv => Sys2Proof.Machine.execFdSagCleared dt g mv s
  | .diGroupSupplyRestored dt g => Sys2Proof.Machine.execDiGroupSupplyRestored dt g s
  | .afeMonitorFault dt c => Sys2Proof.Machine.execAfeMonitorFault dt c s
  | .aoSubstitutionDone dt c => Sys2Proof.Machine.execAoSubstitutionDone dt c s
  | .ptpDelayReqReceived dt p seq srcId t4 => Sys2Proof.Machine.execPtpDelayReqReceived dt p seq srcId t4 s
  | .unsupportedFrameReceived dt p => Sys2Proof.Machine.execUnsupportedFrameReceived dt p s
  | .hsrRingOpen dt isOpen => Sys2Proof.Machine.execHsrRingOpen dt isOpen s
  | .roleConflict dt => Sys2Proof.Machine.execRoleConflict dt s
  | .domainRestored dt => Sys2Proof.Machine.execDomainRestored dt s

end Sys2Proof.Machine
end

