-- ==== Sys2Proof/WellFormed.lean ====
section
/-! DEFINITION. Well-formed commands: a block has the form R86 and R107 give its opcode; every value that arrives from outside fits the
width of the field that carries it; memories that cross are in canonical form. Steps never check this; statements assume it where
they need it. -/
namespace Sys2Proof

open Sys2Proof.Machine

/-- A peer: IPv4 address and port (R396). -/
def Machine.Peer.wf (p : Peer) : Bool := match p with | .udp a q => decide (a < 2 ^ 32) && decide (q < 2 ^ 16) | .usb _ => true

/-- A mailbox command as its header and ring can carry it (R399, R402). -/
def Machine.Req.wf (q : Req) : Bool := decide (q.sess < 256) && decide (q.tag < 2 ^ 32) && decide (q.payload.length ≤ 4096) && q.src.wf

/-- Bytes that a DLC code stands for (R282). -/
def frameLen (fdf : Bool) (dlc : Nat) : Nat :=
  if dlc ≤ 8 then dlc else if fdf then [12, 16, 20, 24, 32, 48, 64].getD (dlc - 9) 64 else 8

/-- A CAN frame as the bus can carry it (R282, R288). -/
def Machine.CanFrame.wf (f : CanFrame) : Bool :=
  decide (f.id < 2 ^ 29) && decide (f.dlc < 16) && decide (f.data.length ≤ frameLen f.fdf f.dlc) && !(f.fdf && f.rtr)

/-- An IN frame as its fields can carry it (R307). -/
def Machine.ZIn.wf (z : ZIn) : Bool :=
  decide (z.version < 256) && decide (z.type < 256) && decide (z.flags < 2 ^ 16) && decide (z.station < 256) && decide (z.tn < 2 ^ 64)
    && decide (z.blockLen < 2 ^ 16) && decide (z.digest < 2 ^ 32) && decide (z.block.length ≤ 1500)

/-- A heartbeat as its fields can carry it (R340). -/
def Machine.HB.wf (h : HB) : Bool := decide (h.tn < 2 ^ 64) && decide (h.role < 8) && decide (h.mstate < 8) && decide (h.pstate < 8)

/-- A beacon as its fields can carry it (R350). -/
def Machine.Beacon.wf (b : Beacon) : Bool := decide (b.tn < 2 ^ 64) && decide (b.role < 8) && decide (b.mstate < 8) && decide (b.pstate < 8)

/-- A part of the state that crosses (R359): whole memories in canonical form; cells of pages or of a journal at addresses that exist. -/
def Machine.StatePart.wf (p : StatePart) : Bool :=
  (!p.full || (Mem.wf p.glb && Mem.wf p.ret)) && p.glb.all (fun e => decide (e.1 < 2 ^ 26)) && p.ret.all (fun e => decide (e.1 < 2 ^ 23)) && p.locs.all (fun x => Mem.wf x.2) && p.outs.all (fun x => Mem.wf x.2)

/-- A set: memories in canonical form. -/
def Machine.ConfigSet.wf (s : ConfigSet) : Bool :=
  Mem.wf s.initGlb && s.initLoc.all (fun x => Mem.wf x.2) && s.images.all (fun i => Mem.wf i.con)

/-- A segment of the re-synchronisation stream. -/
def Machine.ResyncSeg.wf (r : ResyncSeg) : Bool := match r with | .mainSet s => s.wf | .base p _ => p.wf | .journal _ _ _ p => p.wf

/-- A proposal of the partner (R162, R415). -/
def Machine.Proposal.wf (p : Proposal) : Bool :=
  match p with | .throw tn _ _ => decide (tn < 2 ^ 64) | .load k => k.set.wf | .cmd tn _ => decide (tn < 2 ^ 64)

/-- A corrected error: memory kind and address (R13). -/
def Machine.Hit.wf (h : Hit) : Bool := decide (h.kind < 5) && decide (h.num < 24)

/-- A best-master data set (R318). -/
def Machine.Gm.wf (g : Gm) : Bool := decide (g.prio1 < 256) && decide (g.prio2 < 256) && decide (g.clkClass < 256) && decide (g.identity < 2 ^ 64)

/-- A panel identity (R386). -/
def Machine.PanelId.wf (i : PanelId) : Bool := decide (i.width < 2 ^ 16) && decide (i.height < 2 ^ 16) && decide (i.serial < 2 ^ 64)

/-- A partner's Sage outcome: a status code of R203. -/
def Machine.SOut.wf (o : SOut) : Bool := decide (o.code < 16)

/-- What was heard: a state code (R473). -/
def Machine.Heard.wf (h : Heard) : Bool := decide (h.hbState.getD 0 < 8) && decide (h.beaconState.getD 0 < 8)

/-- Findings of start-up: engines that exist (R470). -/
def Machine.StartUp.wf (r : StartUp) : Bool :=
  decide (r.cause < 3) && r.ceFail.all (fun n => decide (n < 24)) && r.seFail.all (fun n => decide (n < 8)) && decide (r.holdup ≤ 100)

/-- A well-formed command. -/
def Instr.wf (i : Instr) : Bool :=
  match i with
  | .boundary _ _ => true
  | .offPulseStart _ _ => true
  | .offPulseEnd _ _ _ => true
  | .taskRelease _ _ => true
  | .hwTimerEvent _ _ => true
  | .zslOutTransmit _ => true
  | .zslCutoff _ => true
  | .mergedImageBuild _ => true
  | .beaconSend _ => true
  | .and b => Sig.good (sigLogic 0x0101) b
  | .or b => Sig.good (sigLogic 0x0102) b
  | .xor b => Sig.good (sigLogic 0x0103) b
  | .not b => Sig.good sigNot b
  | .shl b => Sig.good (sigShift 0x0105 Ty.isInt) b
  | .shr b => Sig.good (sigShift 0x0106 Ty.isInt) b
  | .asr b => Sig.good (sigShift 0x0107 Ty.isI) b
  | .rol b => Sig.good (sigShift 0x0108 Ty.isU) b
  | .ror b => Sig.good (sigShift 0x0109 Ty.isU) b
  | .bitget b => Sig.good sigBitget b
  | .bitset b => Sig.good sigBitset b
  | .popcnt b => Sig.good sigPopcnt b
  | .eq b => Sig.good (sigCmp 0x0201 (fun _ => true)) b
  | .ne b => Sig.good (sigCmp 0x0202 (fun _ => true)) b
  | .lt b => Sig.good (sigCmp 0x0203 Ty.isNum) b
  | .le b => Sig.good (sigCmp 0x0204 Ty.isNum) b
  | .gt b => Sig.good (sigCmp 0x0205 Ty.isNum) b
  | .ge b => Sig.good (sigCmp 0x0206 Ty.isNum) b
  | .sel b => Sig.good sigSel b
  | .mux b => Sig.good sigMux b
  | .min b => Sig.good (sigMinMax 0x0209) b
  | .max b => Sig.good (sigMinMax 0x020A) b
  | .limit b => Sig.good sigLimit b
  | .move b => Sig.good sigMove b
  | .ldx b => Sig.good sigLdx b
  | .stx b => Sig.good sigStx b
  | .getst b => Sig.good sigGetst b
  | .add b => Sig.good (sigInt 0x0301 2 8 Ty.isInt) b
  | .sub b => Sig.good (sigInt 0x0302 2 2 Ty.isInt) b
  | .mul b => Sig.good (sigInt 0x0303 2 4 Ty.isInt) b
  | .div b => Sig.good (sigInt 0x0304 2 2 Ty.isInt) b
  | .mod b => Sig.good (sigInt 0x0305 2 2 Ty.isInt) b
  | .neg b => Sig.good (sigInt 0x0306 1 1 Ty.isI) b
  | .abs b => Sig.good (sigInt 0x0307 1 1 Ty.isI) b
  | .qadd b => Sig.good (sigQ 0x0401 2) b
  | .qsub b => Sig.good (sigQ 0x0402 2) b
  | .qmul b => Sig.good (sigQany 0x0403 2) b
  | .qdiv b => Sig.good (sigQany 0x0404 2) b
  | .qneg b => Sig.good (sigQ 0x0405 1) b
  | .qabs b => Sig.good (sigQ 0x0406 1) b
  | .qscale b => Sig.good (sigQany 0x0407 1) b
  | .fadd b => Sig.good (sigF 0x0501 2) b
  | .fsub b => Sig.good (sigF 0x0502 2) b
  | .fmul b => Sig.good (sigF 0x0503 2) b
  | .fdiv b => Sig.good (sigF 0x0504 2) b
  | .fsqrt b => Sig.good (sigF 0x0505 1) b
  | .fabs b => Sig.good (sigF 0x0506 1) b
  | .fneg b => Sig.good (sigF 0x0507 1) b
  | .fexp b => Sig.good (sigF 0x0508 1) b
  | .fln b => Sig.good (sigF 0x0509 1) b
  | .fsin b => Sig.good (sigF 0x050A 1) b
  | .fcos b => Sig.good (sigF 0x050B 1) b
  | .fatan2 b => Sig.good (sigF 0x050C 2) b
  | .cvt b => Sig.good sigCvt b
  | .scale b => Sig.good (sigF32 0x0602 5) b
  | .unscale b => Sig.good (sigF32 0x0603 5) b
  | .lint b => Sig.good sigLint b
  | .ton b => Sig.good (sigNt 0x0701) b
  | .tof b => Sig.good (sigNt 0x0702) b
  | .tp b => Sig.good (sigNt 0x0703) b
  | .tpulse b => Sig.good (sigNt 0x0704) b
  | .tret b => Sig.good sigTret b
  | .tons b => Sig.good (sigCt 0x0801) b
  | .tofs b => Sig.good (sigCt 0x0802) b
  | .tps b => Sig.good (sigCt 0x0803) b
  | .ctu b => Sig.good (sigCtu 0x0901) b
  | .ctd b => Sig.good (sigCtu 0x0902) b
  | .ctud b => Sig.good sigCtud b
  | .ctw b => Sig.good sigCtw b
  | .rtrig b => Sig.good (sigEdge 0x0A01 1) b
  | .ftrig b => Sig.good (sigEdge 0x0A02 1) b
  | .edge2 b => Sig.good (sigEdge 0x0A03 2) b
  | .pid b => Sig.good (sigPid 0x0B01 (· == .f32)) b
  | .pidq b => Sig.good (sigPid 0x0B02 Ty.isQ) b
  | .lag1 b => Sig.good (sigFilt 0x0B03 2) b
  | .leadlag b => Sig.good (sigFilt 0x0B04 4) b
  | .ramp b => Sig.good (sigFilt 0x0B05 3) b
  | .deadb b => Sig.good (sigFilt 0x0B06 2) b
  | .mavg b => Sig.good sigMavg b
  | .integ b => Sig.good sigInteg b
  | .step b => Sig.good sigStep b
  | .trans b => Sig.good sigTrans b
  | .seqrst b => Sig.good sigSeqrst b
  | .almhl b => Sig.good sigAlmhl b
  | .almdly b => Sig.good sigAlmdly b
  | .alminh b => Sig.good sigAlminh b
  | .almshv b => Sig.good sigAlmshv b
  | .almfo b => Sig.good sigAlmfo b
  | .v1oo2 b => Sig.good sigV1oo2 b
  | .v2oo3 b => Sig.good sigV2oo3 b
  | .v1oo2a b => Sig.good sigV1oo2a b
  | .v2oo3a b => Sig.good sigV2oo3a b
  | .sdl b => Sig.good sigSdl b
  | .sgsub b => Sig.good sigSgsub b
  | .sgcol b => Sig.good sigSgcol b
  | .sgstat b => Sig.good sigSgstat b
  | .cantx b => Sig.good sigCantx b
  | .canrx b => Sig.good sigCanrx b
  | .hcmd b => Sig.good sigHcmd b
  | .hvar b => Sig.good sigHvar b
  | .tmark b => Sig.good sigTmark b
  | .cntrd b => Sig.good sigCntrd b
  | .ptext b => Sig.good sigPtext b
  | .pfield b => Sig.good sigPfield b
  | .jmp b => Sig.good sigJmp b
  | .jmpc b => Sig.good sigJmpc b
  | .jmpn b => Sig.good sigJmpn b
  | .loopb b => Sig.good sigLoopb b
  | .call b => Sig.good sigCall b
  | .ret b => Sig.good sigRet b
  | .nop b => Sig.good sigNop b
  | .jobEnd _ _ => true
  | .jobDeadline _ _ => true
  | .eccUncorrectable _ addr _ => decide (addr < 2 ^ 32)
  | .scrubPass _ _ hits => hits.all Hit.wf
  | .parityError _ addr _ => decide (addr < 2 ^ 32)
  | .ceFailed _ _ => true
  | .seFailed _ _ => true
  | .lockstepMismatch _ => true
  | .tcxoDrift _ _ => true
  | .tcxoStopped _ _ => true
  | .domainFault _ _ => true
  | .logicInputLost _ _ mv => decide (mv < 2 ^ 16)
  | .logicInputRestored _ _ mv => decide (mv < 2 ^ 16)
  | .preparationDone _ => true
  | .catchupDone _ => true
  | .throwCatchupLimit _ => true
  | .throwDoneReceived _ tn _ => decide (tn < 2 ^ 64)
  | .throwProposalReceived _ p => p.wf
  | .throwProposalTimeout _ => true
  | .pairCommandEffect _ _ => true
  | .stagedSettled _ _ _ => true
  | .stagedSettleFail _ _ _ => true
  | .forceExpired _ => true
  | .sageInputCheckDone _ _ => true
  | .sageJobStart _ _ => true
  | .sageJobEnd _ _ => true
  | .sageDeadline _ _ => true
  | .sageOutcomeReceived _ _ tag digest o => decide (tag < 2 ^ 32) && decide (digest < 2 ^ 64) && o.wf
  | .sageAgreement _ _ => true
  | .aiConversion _ _ counts _ _ => decide (counts < 2 ^ 16)
  | .spareComparison _ _ diffUa => decide (diffUa < 2 ^ 16)
  | .aiSubstitutionDone _ _ counts => decide (counts < 2 ^ 16)
  | .aoReadbackSample _ _ rb _ => decide (rb < 2 ^ 16)
  | .aoDrvFault _ _ => true
  | .aoWatchdogExpired _ _ => true
  | .faLow _ mv => decide (mv < 2 ^ 16)
  | .faSag _ mv => decide (mv < 2 ^ 16)
  | .faReset _ mv => decide (mv < 2 ^ 16)
  | .faRecovered _ mv => decide (mv < 2 ^ 16)
  | .hartResponse _ _ dev comm data => decide (dev < 2 ^ 8) && decide (comm < 2 ^ 8) && decide (data.length ≤ 255)
  | .hartNoResponse _ _ => true
  | .hartBurstFrame _ _ _ cmd dev comm data => decide (cmd < 2 ^ 8) && decide (dev < 2 ^ 8) && decide (comm < 2 ^ 8) && decide (data.length ≤ 255)
  | .diSample _ _ edges _ => edges.all (fun x => decide (x.c < 32))
  | .diGroupSupplyLost _ _ => true
  | .doReadbackSample _ _ _ ma => ma.all (fun x => decide (x < 2 ^ 16))
  | .doOverload _ _ => true
  | .doOverloadRetry _ _ => true
  | .doLoadWindow _ _ ma => decide (ma < 2 ^ 16)
  | .doGroupCurrent _ _ => true
  | .doWatchdogExpired _ _ => true
  | .fdLow _ _ mv => decide (mv < 2 ^ 16)
  | .fdSag _ _ mv => decide (mv < 2 ^ 16)
  | .fdReset _ _ mv => decide (mv < 2 ^ 16)
  | .fdRecovered _ _ mv => decide (mv < 2 ^ 16)
  | .canFrameReceived _ _ _ f => f.wf
  | .canArbitration _ _ => true
  | .canFrameSent _ _ _ => true
  | .canArbitrationLost _ _ => true
  | .canBusError _ _ _ id _ _ => (id.map (fun x => decide (x < 2 ^ 29))).getD true
  | .canRecoveryDone _ _ => true
  | .canIntegrated _ _ => true
  | .zslInFrame _ _ src seq z => decide (src < 2 ^ 48) && decide (seq < 2 ^ 16) && z.wf
  | .zslInForward _ _ z _ => z.wf
  | .netLinkChange _ _ _ => true
  | .sourceAged _ src => decide (src < 2 ^ 48)
  | .hsrForward _ _ src seq _ _ _ => decide (src < 2 ^ 48) && decide (seq < 2 ^ 16)
  | .arpRequest _ _ ip => decide (ip < 2 ^ 32)
  | .icmpEcho _ _ ip src => decide (ip < 2 ^ 32) && decide (src < 2 ^ 32)
  | .ipReassemblyTimeout _ id => decide (id < 2 ^ 16)
  | .ptpSync _ _ _ _ seq srcId _ => decide (seq < 2 ^ 16) && decide (srcId < 2 ^ 64)
  | .ptpDelayExchange _ _ _ _ _ _ => true
  | .ptpDelayReqSend _ _ => true
  | .ptpPdelayReqReceived _ _ seq srcId _ => decide (seq < 2 ^ 16) && decide (srcId < 2 ^ 64)
  | .ptpAnnounceReceived _ _ gm => gm.wf
  | .ptpAnnounceTimeout _ => true
  | .ptpSyncTimeout _ => true
  | .ptpSyncSend _ _ => true
  | .ptpTsMissing _ _ => true
  | .ptpPortChanged _ => true
  | .holdoverLong _ => true
  | .freqCorrectionSave _ => true
  | .heartbeatReceived _ _ hb => hb.wf
  | .taskDigestsReceived _ _ ds => ds.all (fun x => decide (x.1 < 256) && decide (x.2 < 2 ^ 32))
  | .tiebreakSelftestDone _ _ _ => true
  | .disagreeCleared _ => true
  | .disagreeLimitReached _ => true
  | .pathFault _ _ => true
  | .pathRestored _ _ => true
  | .partnerPresumedFailed _ => true
  | .witnessQuery _ b => b.wf
  | .witnessAnswer _ b => b.wf
  | .witnessTimeout _ => true
  | .witnessRepeat _ => true
  | .beaconReceived _ b => b.wf
  | .partnerAnnouncement _ _ _ => true
  | .pairTnSkew _ _ => true
  | .adoptionRequest _ _ _ => true
  | .adoptionAnswer _ _ _ tn p => decide (tn < 2 ^ 64) && p.wf
  | .resyncDataReceived _ s => s.wf
  | .resyncTimeout _ => true
  | .checkpointReceived _ tn _ p set => decide (tn < 2 ^ 64) && p.wf && (set.map ConfigSet.wf).getD true
  | .checkpointAck _ tn => decide (tn < 2 ^ 64)
  | .reserveCallReceived _ _ => true
  | .reserveImageLoaded _ => true
  | .reserveLinkTimeout _ => true
  | .lineLinkChange _ _ _ _ => true
  | .proofRunStart _ => true
  | .proofRunEnd _ _ => true
  | .displayFrame _ => true
  | .panelTempRead _ _ _ => true
  | .ledgerCompensation _ _ => true
  | .railIdleOff _ => true
  | .railFault _ => true
  | .railRetry _ _ => true
  | .boostPhaseSwitched _ => true
  | .panelInserted _ panel => panel.wf
  | .panelRemoved _ => true
  | .dispRecovered _ _ => true
  | .messageArrival _ src bytes => src.wf && decide (bytes.length ≤ 4128)
  | .sessionKeepaliveTimeout _ _ => true
  | .sessionConfirmTimeout _ _ => true
  | .unlockExpired _ _ => true
  | .unlockLockoutEnd _ _ => true
  | .sourceBlockEnd _ addr => decide (addr < 2 ^ 32)
  | .usbDetach _ => true
  | .eventSpaceFreed _ _ _ => true
  | .eventBatchTimeout _ _ ring => decide (112 ≤ ring) && decide (ring ≤ 124)
  | .sessionOpen q => q.wf
  | .sessionConfirm q => q.wf
  | .sessionClose q => q.wf
  | .keepalive q => q.wf
  | .unlockPassword q => q.wf
  | .unlockChallenge q => q.wf
  | .unlockResponse q => q.wf
  | .relock q => q.wf
  | .fieldLockEngage q => q.wf
  | .fieldLockRelease q => q.wf
  | .setPassword q => q.wf
  | .setVesselKey q => q.wf
  | .setLinkKey q => q.wf
  | .stateGet q => q.wf
  | .restart q => q.wf
  | .stop q => q.wf
  | .serviceEnter q => q.wf
  | .serviceExit q => q.wf
  | .reset q => q.wf
  | .setLoadBegin q => q.wf
  | .setLoadData q => q.wf
  | .setLoadEnd q pkg => q.wf && pkg.set.wf
  | .throw q => q.wf
  | .throwCancel q => q.wf
  | .sidingClear q => q.wf
  | .reportRead q => q.wf
  | .taskResume q => q.wf
  | .taskRead q => q.wf
  | .imageInfo q => q.wf
  | .varRead q => q.wf
  | .varWrite q => q.wf
  | .forceSet q => q.wf
  | .forceClear q => q.wf
  | .forceList q => q.wf
  | .diCountReset q => q.wf
  | .doLearn q => q.wf
  | .holdAck q => q.wf
  | .hartSend q => q.wf
  | .loopCheck q => q.wf
  | .canTx q => q.wf
  | .canAbort q => q.wf
  | .canObjRead q => q.wf
  | .canRecover q => q.wf
  | .canSubscribe q => q.wf
  | .tsSubscribe q => q.wf
  | .timeGet q => q.wf
  | .timeSet q => q.wf
  | .slotWrite q => q.wf
  | .slotSubmit q => q.wf
  | .slotRead q => q.wf
  | .deadlineTest q => q.wf
  | .thymeRead q => q.wf
  | .thymeSubscribe q => q.wf
  | .thymeClear q => q.wf
  | .cntSnapshot q => q.wf
  | .cntRead q => q.wf
  | .cntClear q => q.wf
  | .cntThreshold q => q.wf
  | .dispJournalRead q => q.wf
  | .ledgerRead q => q.wf
  | .reserveCall q => q.wf
  | .proofStart q => q.wf
  | .pairResync q => q.wf
  | .substitute q => q.wf
  | .spareRestore q _ => q.wf
  | .diagRead q => q.wf
  | .paramRead q => q.wf
  | .paramWrite q => q.wf
  | .paramDescribe q => q.wf
  | .cntWrap _ _ => true
  | .powerUp _ r => r.wf
  | .heaterRunEnd _ _ => true
  | .roleNegotiation _ h => h.wf
  | .autoRun _ => true
  | .autorunTimeout _ => true
  | .powerFailWarning _ => true
  | .powerFailSafeCommit _ => true
  | .thermalSample _ _ _ _ => true
  | .wearLedgerUpdate _ _ _ _ _ _ _ => true
  | .wearLedgerNandCopy _ => true
  | .nandBlockFailure _ _ => true
  | .paramRegisterWrite _ index sx _ => decide (index < 2 ^ 16) && decide (sx < 2 ^ 8)
  | .faLowCleared _ mv => decide (mv < 2 ^ 16)
  | .fdLowCleared _ _ mv => decide (mv < 2 ^ 16)
  | .fdSagCleared _ _ mv => decide (mv < 2 ^ 16)
  | .diGroupSupplyRestored _ _ => true
  | .afeMonitorFault _ _ => true
  | .aoSubstitutionDone _ _ => true
  | .ptpDelayReqReceived _ _ seq srcId _ => decide (seq < 2 ^ 16) && decide (srcId < 2 ^ 64)
  | .unsupportedFrameReceived _ _ => true
  | .hsrRingOpen _ _ => true
  | .roleConflict _ => true
  | .domainRestored _ => true

end Sys2Proof
end

