-- ==== Sys2Proof/Safety.lean ====
section
/-! DEFINITION. The terms the statements use: which rows are blocks and which are requests of a session, commands that the outside can
send, a step that goes on, memories in canonical form, what a block of a running job sees and leaves, what an event comes to once its time
has passed, and when a mailbox command is granted and what it answers. -/
namespace Sys2Proof

open Sys2Proof.Machine

/-- The form and the block of a block row (R107). -/
def Instr.block (i : Instr) : Option (Sig × Blk) :=
  match i with
  | .and b => some ((sigLogic 0x0101), b)
  | .or b => some ((sigLogic 0x0102), b)
  | .xor b => some ((sigLogic 0x0103), b)
  | .not b => some (sigNot, b)
  | .shl b => some ((sigShift 0x0105 Ty.isInt), b)
  | .shr b => some ((sigShift 0x0106 Ty.isInt), b)
  | .asr b => some ((sigShift 0x0107 Ty.isI), b)
  | .rol b => some ((sigShift 0x0108 Ty.isU), b)
  | .ror b => some ((sigShift 0x0109 Ty.isU), b)
  | .bitget b => some (sigBitget, b)
  | .bitset b => some (sigBitset, b)
  | .popcnt b => some (sigPopcnt, b)
  | .eq b => some ((sigCmp 0x0201 (fun _ => true)), b)
  | .ne b => some ((sigCmp 0x0202 (fun _ => true)), b)
  | .lt b => some ((sigCmp 0x0203 Ty.isNum), b)
  | .le b => some ((sigCmp 0x0204 Ty.isNum), b)
  | .gt b => some ((sigCmp 0x0205 Ty.isNum), b)
  | .ge b => some ((sigCmp 0x0206 Ty.isNum), b)
  | .sel b => some (sigSel, b)
  | .mux b => some (sigMux, b)
  | .min b => some ((sigMinMax 0x0209), b)
  | .max b => some ((sigMinMax 0x020A), b)
  | .limit b => some (sigLimit, b)
  | .move b => some (sigMove, b)
  | .ldx b => some (sigLdx, b)
  | .stx b => some (sigStx, b)
  | .getst b => some (sigGetst, b)
  | .add b => some ((sigInt 0x0301 2 8 Ty.isInt), b)
  | .sub b => some ((sigInt 0x0302 2 2 Ty.isInt), b)
  | .mul b => some ((sigInt 0x0303 2 4 Ty.isInt), b)
  | .div b => some ((sigInt 0x0304 2 2 Ty.isInt), b)
  | .mod b => some ((sigInt 0x0305 2 2 Ty.isInt), b)
  | .neg b => some ((sigInt 0x0306 1 1 Ty.isI), b)
  | .abs b => some ((sigInt 0x0307 1 1 Ty.isI), b)
  | .qadd b => some ((sigQ 0x0401 2), b)
  | .qsub b => some ((sigQ 0x0402 2), b)
  | .qmul b => some ((sigQany 0x0403 2), b)
  | .qdiv b => some ((sigQany 0x0404 2), b)
  | .qneg b => some ((sigQ 0x0405 1), b)
  | .qabs b => some ((sigQ 0x0406 1), b)
  | .qscale b => some ((sigQany 0x0407 1), b)
  | .fadd b => some ((sigF 0x0501 2), b)
  | .fsub b => some ((sigF 0x0502 2), b)
  | .fmul b => some ((sigF 0x0503 2), b)
  | .fdiv b => some ((sigF 0x0504 2), b)
  | .fsqrt b => some ((sigF 0x0505 1), b)
  | .fabs b => some ((sigF 0x0506 1), b)
  | .fneg b => some ((sigF 0x0507 1), b)
  | .fexp b => some ((sigF 0x0508 1), b)
  | .fln b => some ((sigF 0x0509 1), b)
  | .fsin b => some ((sigF 0x050A 1), b)
  | .fcos b => some ((sigF 0x050B 1), b)
  | .fatan2 b => some ((sigF 0x050C 2), b)
  | .cvt b => some (sigCvt, b)
  | .scale b => some ((sigF32 0x0602 5), b)
  | .unscale b => some ((sigF32 0x0603 5), b)
  | .lint b => some (sigLint, b)
  | .ton b => some ((sigNt 0x0701), b)
  | .tof b => some ((sigNt 0x0702), b)
  | .tp b => some ((sigNt 0x0703), b)
  | .tpulse b => some ((sigNt 0x0704), b)
  | .tret b => some (sigTret, b)
  | .tons b => some ((sigCt 0x0801), b)
  | .tofs b => some ((sigCt 0x0802), b)
  | .tps b => some ((sigCt 0x0803), b)
  | .ctu b => some ((sigCtu 0x0901), b)
  | .ctd b => some ((sigCtu 0x0902), b)
  | .ctud b => some (sigCtud, b)
  | .ctw b => some (sigCtw, b)
  | .rtrig b => some ((sigEdge 0x0A01 1), b)
  | .ftrig b => some ((sigEdge 0x0A02 1), b)
  | .edge2 b => some ((sigEdge 0x0A03 2), b)
  | .pid b => some ((sigPid 0x0B01 (· == .f32)), b)
  | .pidq b => some ((sigPid 0x0B02 Ty.isQ), b)
  | .lag1 b => some ((sigFilt 0x0B03 2), b)
  | .leadlag b => some ((sigFilt 0x0B04 4), b)
  | .ramp b => some ((sigFilt 0x0B05 3), b)
  | .deadb b => some ((sigFilt 0x0B06 2), b)
  | .mavg b => some (sigMavg, b)
  | .integ b => some (sigInteg, b)
  | .step b => some (sigStep, b)
  | .trans b => some (sigTrans, b)
  | .seqrst b => some (sigSeqrst, b)
  | .almhl b => some (sigAlmhl, b)
  | .almdly b => some (sigAlmdly, b)
  | .alminh b => some (sigAlminh, b)
  | .almshv b => some (sigAlmshv, b)
  | .almfo b => some (sigAlmfo, b)
  | .v1oo2 b => some (sigV1oo2, b)
  | .v2oo3 b => some (sigV2oo3, b)
  | .v1oo2a b => some (sigV1oo2a, b)
  | .v2oo3a b => some (sigV2oo3a, b)
  | .sdl b => some (sigSdl, b)
  | .sgsub b => some (sigSgsub, b)
  | .sgcol b => some (sigSgcol, b)
  | .sgstat b => some (sigSgstat, b)
  | .cantx b => some (sigCantx, b)
  | .canrx b => some (sigCanrx, b)
  | .hcmd b => some (sigHcmd, b)
  | .hvar b => some (sigHvar, b)
  | .tmark b => some (sigTmark, b)
  | .cntrd b => some (sigCntrd, b)
  | .ptext b => some (sigPtext, b)
  | .pfield b => some (sigPfield, b)
  | .jmp b => some (sigJmp, b)
  | .jmpc b => some (sigJmpc, b)
  | .jmpn b => some (sigJmpn, b)
  | .loopb b => some (sigLoopb, b)
  | .call b => some (sigCall, b)
  | .ret b => some (sigRet, b)
  | .nop b => some (sigNop, b)
  | _ => none

/-- The code and the request of a mailbox row that a session sends (R427 to R439); SESSION_OPEN belongs to no session yet. -/
def Instr.request (i : Instr) : Option (Nat × Req) :=
  match i with
  | .sessionConfirm q => some (0x0102, q)
  | .sessionClose q => some (0x0103, q)
  | .keepalive q => some (0x0104, q)
  | .unlockPassword q => some (0x0110, q)
  | .unlockChallenge q => some (0x0111, q)
  | .unlockResponse q => some (0x0112, q)
  | .relock q => some (0x0113, q)
  | .fieldLockEngage q => some (0x0120, q)
  | .fieldLockRelease q => some (0x0121, q)
  | .setPassword q => some (0x0122, q)
  | .setVesselKey q => some (0x0123, q)
  | .setLinkKey q => some (0x0124, q)
  | .stateGet q => some (0x0201, q)
  | .restart q => some (0x0202, q)
  | .stop q => some (0x0203, q)
  | .serviceEnter q => some (0x0204, q)
  | .serviceExit q => some (0x0205, q)
  | .reset q => some (0x0206, q)
  | .setLoadBegin q => some (0x0301, q)
  | .setLoadData q => some (0x0302, q)
  | .setLoadEnd q _ => some (0x0303, q)
  | .throw q => some (0x0304, q)
  | .throwCancel q => some (0x0305, q)
  | .sidingClear q => some (0x0306, q)
  | .reportRead q => some (0x0307, q)
  | .taskResume q => some (0x0401, q)
  | .taskRead q => some (0x0402, q)
  | .imageInfo q => some (0x0403, q)
  | .varRead q => some (0x0501, q)
  | .varWrite q => some (0x0502, q)
  | .forceSet q => some (0x0503, q)
  | .forceClear q => some (0x0504, q)
  | .forceList q => some (0x0505, q)
  | .diCountReset q => some (0x0601, q)
  | .doLearn q => some (0x0602, q)
  | .holdAck q => some (0x0603, q)
  | .hartSend q => some (0x0604, q)
  | .loopCheck q => some (0x0605, q)
  | .canTx q => some (0x0701, q)
  | .canAbort q => some (0x0702, q)
  | .canObjRead q => some (0x0703, q)
  | .canRecover q => some (0x0704, q)
  | .canSubscribe q => some (0x0705, q)
  | .tsSubscribe q => some (0x0801, q)
  | .timeGet q => some (0x0802, q)
  | .timeSet q => some (0x0803, q)
  | .slotWrite q => some (0x0901, q)
  | .slotSubmit q => some (0x0902, q)
  | .slotRead q => some (0x0903, q)
  | .deadlineTest q => some (0x0904, q)
  | .thymeRead q => some (0x0A01, q)
  | .thymeSubscribe q => some (0x0A02, q)
  | .thymeClear q => some (0x0A03, q)
  | .cntSnapshot q => some (0x0B01, q)
  | .cntRead q => some (0x0B02, q)
  | .cntClear q => some (0x0B03, q)
  | .cntThreshold q => some (0x0B04, q)
  | .dispJournalRead q => some (0x0C01, q)
  | .ledgerRead q => some (0x0C02, q)
  | .reserveCall q => some (0x0D01, q)
  | .proofStart q => some (0x0D02, q)
  | .pairResync q => some (0x0D03, q)
  | .substitute q => some (0x0E01, q)
  | .spareRestore q _ => some (0x0E02, q)
  | .diagRead q => some (0x0E03, q)
  | .paramRead q => some (0x0F01, q)
  | .paramWrite q => some (0x0F02, q)
  | .paramDescribe q => some (0x0F03, q)
  | _ => none

end Sys2Proof

namespace Sys2Proof.Safety

open Sys2Proof Sys2Proof.Machine

/-! ### Steps -/

/-- Every command that waits is well formed. -/
def Ready (s : State) : Prop := ∀ i ∈ s.pending, i.wf = true

/-- The command goes through: a next state with the queue and the latched block as they were, whose block is `c`. -/
def Goes (i : Instr) (s : State) (c : Chip) : Prop := exec i s = .next { s with chip := c }

/-- The command goes through, and the block after it has `P`. -/
def Does (i : Instr) (s : State) (P : Chip → Prop) : Prop := ∃ c, Goes i s c ∧ P c

/-- Wherever the block, once `dt` ns have passed, meets `pre`, the command goes through and leaves the block that `eff` makes of it. -/
def Takes (i : Instr) (dt : Nat) (pre : Chip → Prop) (eff : Chip → Chip) : Prop :=
  ∀ s : State, pre (pass dt s.chip) → Goes i s (eff (pass dt s.chip))

/-- Global variable memory and retained memory are in canonical form. -/
def Canonical (c : Chip) : Prop := Mem.wf c.mem.glb = true ∧ Mem.wf c.mem.ret = true

/-- A set the module holds: main, siding, the one a rollback returns to, and the two stored ones. -/
def Holds (c : Chip) (cs : ConfigSet) : Prop :=
  cs = c.sets.main ∨ c.sets.side = some cs ∨ c.sets.revertTo = some cs ∨ c.mem.nand0 = some cs ∨ c.mem.nand1 = some cs

/-- What every step keeps: the commands that wait are well formed; the memories, those of the sets, of the reserve's image and of a rewrite
in progress are in canonical form; every counter has 48 bits. -/
def Inv (s : State) : Prop :=
  Ready s ∧ Canonical s.chip ∧ (∀ cs, Holds s.chip cs → Mem.wf cs.initGlb = true)
    ∧ Mem.wf s.chip.pair.image.glb = true ∧ Mem.wf s.chip.pair.image.ret = true
    ∧ (∀ m d, s.chip.mem.restartCopy = some (m, d) → Mem.wf m = true) ∧ ∀ e ∈ s.chip.cnt.val, e.2 < 2 ^ 48

/-! ### Blocks of a job -/

/-- The block is the next one of running job `j`, and its enable input, where it has one, reads TRUE (R96, R98). -/
def Runs (sg : Sig) (b : Blk) (s : State) (j : Job) : Prop :=
  sg.good b = true ∧ (task s.chip b.task.val).job = some j ∧ (task s.chip b.task.val).st = .running ∧ j.done = false
    ∧ b.skips j s.chip = false

/-- Every block row `mk` of form `sg` comes to what `f` says of its inputs, outputs and instance, for every running job. -/
def Computes (sg : Sig) (mk : Blk → Instr) (f : Env → List Ref → List Ref → List Byte → BRes) : Prop :=
  ∀ (b : Blk) (s : State) (j : Job), Runs sg b s j →
    Goes (mk b) s (chipAfter sg b j (f (b.env j s.chip) (sg.ins b) (sg.outs b) ((b.env j s.chip).inst sg)) s.chip)

/-! ### Mailbox commands -/

/-- A session may have command `cmd` executed at the instant it is taken: it is open, its ceiling and role reach `need`, and the command
is one of the module state (R411, R425, R426). `c` is the block at that instant, `ss` the session, `p` its peer. -/
def Granted (cmd need : Nat) (q : Req) (c : Chip) (ss : Session) (p : Peer) : Prop :=
  sess c q.sess = ss ∧ ss.st = .open ∧ ss.peer = some p ∧ need ≤ ss.ceil ∧ need ≤ ss.role
    ∧ bit (cmdStates cmd) c.sup.mstate.code = true

/-- The block when a mailbox command is taken: the time before it has passed, and the command is counted to its transport (R459). -/
def taken (q : Req) (p : Peer) (s : State) : Chip := countTaken p (pass q.dt s.chip)

/-- Wherever a session may have command `cmd` executed and `pre` holds of the request and the block, the row `mk` goes through: the session
gets the answer that `ans` gives, and the block is the one `ans` leaves, with what follows the answer. -/
def Answers (cmd need : Nat) (mk : Req → Instr) (pre : Req → Session → Chip → Prop) (ans : Req → Session → Chip → Ans) : Prop :=
  ∀ (q : Req) (s : State) (ss : Session) (p : Peer), Granted cmd need q s.chip ss p → pre q ss (taken q p s) →
    Goes (mk q) s ((ans q ss (taken q p s)).after (respond cmd q.sess q.tag (ans q ss (taken q p s)).status (ans q ss (taken q p s)).payload
      (ans q ss (taken q p s)).chip))

/-- A payload has a length and zeros in its reserved bytes. -/
def Shaped (p : List Byte) (len : Nat) (zeros : List Nat) : Prop := p.length = len ∧ ∀ i ∈ zeros, p.getD i 0 = 0

/-- A session of the service port. -/
def OverUsb (ss : Session) : Prop := ∃ u, ss.peer = some (.usb u)

/-- The answer to a command that a pair decides together: ACCEPTED with a proposal to the partner in a pair, else OK with the effect ordered
for the next boundary (R415, R426). -/
def decided (e : Effect) (q : Req) (payload : List Byte) (c : Chip) : Ans :=
  if isPair c then
    { status := 1
      chip := emit (.proposal (.cmd c.tt.tn e)) { c with sup := { c.sup with pairCmds := c.sup.pairCmds ++ [(c.tt.tn, e, q.sess, q.tag)] } } }
  else { payload := payload, chip := order (c.tt.tn + 1) e c }

/-- The answer to a command that is ACCEPTED and acts at the next boundary. -/
def acceptedFor (e : Effect) (c : Chip) : Ans := { status := 1, chip := order (c.tt.tn + 1) e c }

/-- The answer to a command that is OK and acts at the next boundary. -/
def doneFor (e : Effect) (c : Chip) : Ans := { chip := order (c.tt.tn + 1) e c }

end Sys2Proof.Safety
end

