-- ==== Sys2Proof/Certificates/Slice0/Obligations.lean ====
section
/-! DEFINITION. The statements the provers are asked for: one definition of a proposition each, family by family. -/
open Sys2Proof Sys2Proof.Machine Sys2Proof.Safety

/-- R107, R89: AND, OR and XOR fold the raw inputs bit by bit, NOT turns every bit of its operand over (the other truth value of a BOOL);
4 cycles, and 1 more per started group of 4 inputs beyond 4.
R99: SHL and SHR by the width or more give 0, ASR all sign bits, ROL and ROR take the count modulo the width; a bit number of the width
or more reads FALSE and changes nothing; POPCNT counts the bits set; 4 cycles each (R107). -/
def Obligations.LogicShiftAndBitBlocks : Prop :=
  (Computes (sigLogic 0x0101) .and (fun e ins outs _ =>
      { wr := puts outs [foldRaw Nat.land (ins.map e.val)], cyc := 4 + cdiv (ins.length - 4) 4 })
    ∧ Computes (sigLogic 0x0102) .or (fun e ins outs _ =>
      { wr := puts outs [foldRaw Nat.lor (ins.map e.val)], cyc := 4 + cdiv (ins.length - 4) 4 })
    ∧ Computes (sigLogic 0x0103) .xor (fun e ins outs _ =>
      { wr := puts outs [foldRaw Nat.xor (ins.map e.val)], cyc := 4 + cdiv (ins.length - 4) 4 })
    ∧ Computes sigNot .not (fun e ins outs _ =>
      { wr := puts outs [match (at_ ins 0).ty with
          | .bool => 1 - e.val (at_ ins 0)
          | t => 2 ^ t.width - 1 - e.val (at_ ins 0)], cyc := 4 }))
    ∧ (Computes (sigShift 0x0105 Ty.isInt) .shl (fun e ins outs _ =>
      { wr := puts outs [shlRaw (at_ ins 0).ty.width (e.val (at_ ins 0)) (e.val (at_ ins 1))], cyc := 4 })
    ∧ Computes (sigShift 0x0106 Ty.isInt) .shr (fun e ins outs _ =>
      { wr := puts outs [shrRaw (at_ ins 0).ty.width (e.val (at_ ins 0)) (e.val (at_ ins 1))], cyc := 4 })
    ∧ Computes (sigShift 0x0107 Ty.isI) .asr (fun e ins outs _ =>
      { wr := puts outs [asrRaw (at_ ins 0).ty.width (e.val (at_ ins 0)) (e.val (at_ ins 1))], cyc := 4 })
    ∧ Computes (sigShift 0x0108 Ty.isU) .rol (fun e ins outs _ =>
      { wr := puts outs [rolRaw (at_ ins 0).ty.width (e.val (at_ ins 0)) (e.val (at_ ins 1))], cyc := 4 })
    ∧ Computes (sigShift 0x0109 Ty.isU) .ror (fun e ins outs _ =>
      { wr := puts outs [rorRaw (at_ ins 0).ty.width (e.val (at_ ins 0)) (e.val (at_ ins 1))], cyc := 4 })
    ∧ Computes sigBitget .bitget (fun e ins outs _ =>
      { wr := puts outs [if (at_ ins 0).ty.width ≤ e.val (at_ ins 1) then 0
          else b01 ((e.val (at_ ins 0)).testBit (e.val (at_ ins 1)))], cyc := 4 })
    ∧ Computes sigBitset .bitset (fun e ins outs _ =>
      { wr := puts outs [if (at_ ins 0).ty.width ≤ e.val (at_ ins 1) then e.val (at_ ins 0)
          else if e.val (at_ ins 2) ≠ 0 then e.val (at_ ins 0) ||| 2 ^ e.val (at_ ins 1)
          else e.val (at_ ins 0) - (if (e.val (at_ ins 0)).testBit (e.val (at_ ins 1)) then 2 ^ e.val (at_ ins 1) else 0)], cyc := 4 })
    ∧ Computes sigPopcnt .popcnt (fun e ins outs _ =>
      { wr := puts outs [((List.range (at_ ins 0).ty.width).filter (fun i => (e.val (at_ ins 0)).testBit i)).length], cyc := 4 }))

/-- R99: the raw shift and rotate operations are those of bit strings of the width, for every value of the width and every count. -/
def Obligations.ShiftsAreBitStringShifts : Prop :=
  ∀ w a n : Nat, 0 < w → a < 2 ^ w →
    shlRaw w a n = (BitVec.ofNat w a <<< n).toNat ∧ shrRaw w a n = (BitVec.ofNat w a >>> n).toNat
      ∧ asrRaw w a n = ((BitVec.ofNat w a).sshiftRight n).toNat
      ∧ rolRaw w a n = ((BitVec.ofNat w a).rotateLeft n).toNat ∧ rorRaw w a n = ((BitVec.ofNat w a).rotateRight n).toNat

/-- R102, R107: the compares give TRUE in the orders their names say; with a NaN operand all give FALSE but NE; 6 cycles on floats, else 4.
R102, R106, R107, R512: SEL takes b when g is TRUE, MUX input k with k clamped, MIN, MAX and LIMIT order by the type, MOVE copies (the
number of elements is the model's reading, log entry 16), LDX and STX index an array and beyond it read 0 or write nothing with
INDEX_RANGE, GETST gives the status byte. -/
def Obligations.CompareSelectAndMoveBlocks : Prop :=
  (Computes (sigCmp 0x0201 (fun _ => true)) .eq (fun e ins outs _ =>
      { wr := puts outs [b01 ((at_ ins 0).ty.cmp (e.val (at_ ins 0)) (e.val (at_ ins 1)) == some .eq)], cyc := fCyc (at_ ins 0).ty })
    ∧ Computes (sigCmp 0x0202 (fun _ => true)) .ne (fun e ins outs _ =>
      { wr := puts outs [b01 ((at_ ins 0).ty.cmp (e.val (at_ ins 0)) (e.val (at_ ins 1)) != some .eq)], cyc := fCyc (at_ ins 0).ty })
    ∧ Computes (sigCmp 0x0203 Ty.isNum) .lt (fun e ins outs _ =>
      { wr := puts outs [b01 ((at_ ins 0).ty.cmp (e.val (at_ ins 0)) (e.val (at_ ins 1)) == some .lt)], cyc := fCyc (at_ ins 0).ty })
    ∧ Computes (sigCmp 0x0204 Ty.isNum) .le (fun e ins outs _ =>
      { wr := puts outs [b01 ([some .lt, some .eq].contains ((at_ ins 0).ty.cmp (e.val (at_ ins 0)) (e.val (at_ ins 1))))]
        cyc := fCyc (at_ ins 0).ty })
    ∧ Computes (sigCmp 0x0205 Ty.isNum) .gt (fun e ins outs _ =>
      { wr := puts outs [b01 ((at_ ins 0).ty.cmp (e.val (at_ ins 0)) (e.val (at_ ins 1)) == some .gt)], cyc := fCyc (at_ ins 0).ty })
    ∧ Computes (sigCmp 0x0206 Ty.isNum) .ge (fun e ins outs _ =>
      { wr := puts outs [b01 ([some .gt, some .eq].contains ((at_ ins 0).ty.cmp (e.val (at_ ins 0)) (e.val (at_ ins 1))))]
        cyc := fCyc (at_ ins 0).ty })
    ∧ ∀ t : Ty, fCyc t = if t.isF then 6 else 4)
    ∧ (Computes sigSel .sel (fun e ins outs _ =>
      { wr := puts outs [if e.val (at_ ins 0) = 0 then e.val (at_ ins 1) else e.val (at_ ins 2)], cyc := 4 })
    ∧ Computes sigMux .mux (fun e ins outs _ =>
      { wr := puts outs [e.val (at_ ins (Nat.min ((at_ ins 0).ty.int (e.val (at_ ins 0))).toNat (ins.length - 1 - 1) + 1))], cyc := 6 })
    ∧ Computes (sigMinMax 0x0209) .min (fun e ins outs _ =>
      { wr := puts outs [foldRaw (at_ ins 0).ty.min (ins.map e.val)], cyc := fCyc (at_ ins 0).ty })
    ∧ Computes (sigMinMax 0x020A) .max (fun e ins outs _ =>
      { wr := puts outs [foldRaw (at_ ins 0).ty.max (ins.map e.val)], cyc := fCyc (at_ ins 0).ty })
    ∧ Computes sigLimit .limit (fun e ins outs _ =>
      { wr := puts outs [(at_ ins 0).ty.min ((at_ ins 0).ty.max (e.val (at_ ins 1)) (e.val (at_ ins 0))) (e.val (at_ ins 2))]
        cyc := fCyc (at_ ins 0).ty })
    ∧ Computes sigMove .move (fun e ins outs _ =>
      let bytes := (List.range (Nat.min (e.elems (at_ ins 0)) (e.elems (at_ outs 0)))).flatMap
        (fun i => leBytes (at_ ins 0).ty.size (e.elem (at_ ins 0) i))
      { wr := [(at_ outs 0, 0, bytes)], cyc := 4 + bytes.length / 32 })
    ∧ Computes sigLdx .ldx (fun e ins outs _ =>
      if e.elems (at_ ins 0) ≤ e.val (at_ ins 1) then { wr := puts outs [0], cyc := 6, eff := e.note 0x0421 0x086 }
      else { wr := puts outs [e.elem (at_ ins 0) (e.val (at_ ins 1))], cyc := 6 })
    ∧ Computes sigStx .stx (fun e ins outs _ =>
      if e.elems (at_ outs 0) ≤ e.val (at_ ins 1) then { cyc := 6, eff := e.note 0x0421 0x086 }
      else { wr := [(at_ outs 0, e.val (at_ ins 1) * (at_ outs 0).ty.size, leBytes (at_ outs 0).ty.size (e.val (at_ ins 0)))], cyc := 6 })
    ∧ Computes sigGetst .getst (fun e ins outs _ => { wr := puts outs [(e.status (at_ ins 0)).getD 0], cyc := 4 }))

/-- R99, R100: ADD, SUB, MUL, NEG and ABS form the exact result and clamp it once with SAT, else wrap it once; DIV goes toward zero and MOD
takes the sign of the dividend; a zero divisor gives the results of R100, with DIV_BY_ZERO and its counter. -/
def Obligations.IntegerBlocks : Prop :=
  Computes (sigInt 0x0301 2 8 Ty.isInt) .add (fun e ins outs _ =>
      { wr := puts outs [(at_ outs 0).ty.raw e.blk.sat (ins.map (fun r => r.ty.int (e.val r))).sum], cyc := 4 })
    ∧ Computes (sigInt 0x0302 2 2 Ty.isInt) .sub (fun e ins outs _ =>
      { wr := puts outs [(at_ outs 0).ty.raw e.blk.sat ((e.ints ins).getD 0 0 - (e.ints ins).getD 1 0)], cyc := 4 })
    ∧ Computes (sigInt 0x0303 2 4 Ty.isInt) .mul (fun e ins outs _ =>
      { wr := puts outs [(at_ outs 0).ty.raw e.blk.sat (ins.map (fun r => r.ty.int (e.val r))).prod]
        cyc := if (at_ ins 0).ty.size = 8 then 6 else 4 })
    ∧ Computes (sigInt 0x0304 2 2 Ty.isInt) .div (fun e ins outs _ =>
      if (e.ints ins).getD 1 0 = 0 then
        { wr := puts outs [(at_ outs 0).ty.raw e.blk.sat (if 0 < (e.ints ins).getD 0 0 then (at_ outs 0).ty.hi
            else if (e.ints ins).getD 0 0 < 0 then (at_ outs 0).ty.lo else 0)]
          cyc := if (at_ ins 0).ty.size = 8 then 40 else 12, eff := e.note 0x0420 0x084 }
      else { wr := puts outs [(at_ outs 0).ty.raw e.blk.sat (((e.ints ins).getD 0 0).tdiv ((e.ints ins).getD 1 0))]
             cyc := if (at_ ins 0).ty.size = 8 then 40 else 12 })
    ∧ Computes (sigInt 0x0305 2 2 Ty.isInt) .mod (fun e ins outs _ =>
      if (e.ints ins).getD 1 0 = 0 then
        { wr := puts outs [(at_ outs 0).ty.raw e.blk.sat 0], cyc := if (at_ ins 0).ty.size = 8 then 40 else 12, eff := e.note 0x0420 0x084 }
      else { wr := puts outs [(at_ outs 0).ty.raw e.blk.sat (((e.ints ins).getD 0 0).tmod ((e.ints ins).getD 1 0))]
             cyc := if (at_ ins 0).ty.size = 8 then 40 else 12 })
    ∧ Computes (sigInt 0x0306 1 1 Ty.isI) .neg (fun e ins outs _ =>
      { wr := puts outs [(at_ outs 0).ty.raw e.blk.sat (-((e.ints ins).getD 0 0))], cyc := 4 })
    ∧ Computes (sigInt 0x0307 1 1 Ty.isI) .abs (fun e ins outs _ =>
      { wr := puts outs [(at_ outs 0).ty.raw e.blk.sat ((e.ints ins).getD 0 0).natAbs], cyc := 4 })

/-- R99, R100: what an integer block writes reads back as the exact result clamped to the range of its type with SAT, and without it as the
value of the range that agrees with the result modulo 2^w; MIN / −1 is the largest value with SAT, MIN without. -/
def Obligations.IntegerRangeRules : Prop :=
  ∀ t : Ty, t.isInt = true → ∀ x : Int,
    t.int (t.raw true x) = Max.max t.lo (Min.min t.hi x)
      ∧ t.lo ≤ t.int (t.raw false x) ∧ t.int (t.raw false x) ≤ t.hi ∧ (2 ^ t.width : Int) ∣ t.int (t.raw false x) - x
      ∧ (t.lo ≤ x → x ≤ t.hi → t.int (t.raw false x) = x)
      ∧ (t.isI = true → t.int (t.raw true (t.lo.tdiv (-1))) = t.hi ∧ t.int (t.raw false (t.lo.tdiv (-1))) = t.lo)

/-- R101, R100: Q blocks saturate; QMUL brings the exact product of fa + fb fraction bits to fy bits, QDIV the exact quotient, QSCALE its
operand, each rounded once to nearest even; a zero divisor gives the results of R100 with DIV_BY_ZERO. -/
def Obligations.QBlocks : Prop :=
  Computes (sigQ 0x0401 2) .qadd (fun e ins outs _ =>
      { wr := puts outs [(at_ outs 0).ty.raw true (e.ints ins).sum], cyc := 4 })
    ∧ Computes (sigQ 0x0402 2) .qsub (fun e ins outs _ =>
      { wr := puts outs [(at_ outs 0).ty.raw true ((e.ints ins).getD 0 0 - (e.ints ins).getD 1 0)], cyc := 4 })
    ∧ Computes (sigQany 0x0403 2) .qmul (fun e ins outs _ =>
      { wr := puts outs [(at_ outs 0).ty.raw true
          (qTo (e.ints ins).prod ((at_ ins 0).ty.frac + (at_ ins 1).ty.frac) (at_ outs 0).ty.frac)], cyc := 6 })
    ∧ Computes (sigQany 0x0404 2) .qdiv (fun e ins outs _ =>
      if (e.ints ins).getD 1 0 = 0 then
        { wr := puts outs [(at_ outs 0).ty.raw true (if 0 < (e.ints ins).getD 0 0 then (at_ outs 0).ty.hi
            else if (e.ints ins).getD 0 0 < 0 then (at_ outs 0).ty.lo else 0)], cyc := 20, eff := e.note 0x0420 0x085 }
      else { wr := puts outs [(at_ outs 0).ty.raw true (qQuot ((e.ints ins).getD 0 0) ((e.ints ins).getD 1 0) (at_ ins 0).ty.frac
               (at_ ins 1).ty.frac (at_ outs 0).ty.frac)], cyc := 20 })
    ∧ Computes (sigQ 0x0405 1) .qneg (fun e ins outs _ =>
      { wr := puts outs [(at_ outs 0).ty.raw true (-((e.ints ins).getD 0 0))], cyc := 4 })
    ∧ Computes (sigQ 0x0406 1) .qabs (fun e ins outs _ =>
      { wr := puts outs [(at_ outs 0).ty.raw true ((e.ints ins).getD 0 0).natAbs], cyc := 4 })
    ∧ Computes (sigQany 0x0407 1) .qscale (fun e ins outs _ =>
      { wr := puts outs [(at_ outs 0).ty.raw true (qTo ((e.ints ins).getD 0 0) (at_ ins 0).ty.frac (at_ outs 0).ty.frac)], cyc := 4 })

/-- R101: a value brought to more fraction bits is exact; dropping bits gives the nearest integer, the even one at the half; the quotient of
two Q values is the nearest one, the even one at the half. -/
def Obligations.QRoundingRules : Prop :=
  (∀ (i : Int) (f g : Nat), f ≤ g → qTo i f g = i * 2 ^ (g - f))
    ∧ (∀ (i : Int) (f g : Nat), g < f →
        (2 * (qTo i f g * 2 ^ (f - g) - i)).natAbs ≤ 2 ^ (f - g)
          ∧ ((2 * (qTo i f g * 2 ^ (f - g) - i)).natAbs = 2 ^ (f - g) → 2 ∣ qTo i f g))
    ∧ (∀ (a b : Int) (fa fb fy : Nat), b ≠ 0 →
        2 * (qQuot a b fa fb fy * b * 2 ^ fa - a * 2 ^ (fy + fb)).natAbs ≤ b.natAbs * 2 ^ fa
          ∧ (2 * (qQuot a b fa fb fy * b * 2 ^ fa - a * 2 ^ (fy + fb)).natAbs = b.natAbs * 2 ^ fa → 2 ∣ qQuot a b fa fb fy))

/-- R102, R107: a float block writes the result of its operation, rounded once, and counts its events; FEXP to FATAN2 by the model's choice
within 1 ulp (log entry 14).
R103, R512: CVT writes its operand in the output's type, SCALE and UNSCALE interpolate with one rounding, LINT reads its table; 4 or 6,
8, 8, and 10 + 2 n cycles. -/
def Obligations.FloatAndConversionBlocks : Prop :=
  ((∀ (op : Nat) (mk : Blk → Instr) (f : Fmt → Nat → Nat → Nat × List Fev) (a b : Nat),
      (op, mk, f, a, b) ∈ [(0x0501, Instr.fadd, Fmt.add, 4, 6), (0x0502, Instr.fsub, Fmt.sub, 4, 6), (0x0503, Instr.fmul, Fmt.mul, 4, 8),
        (0x0504, Instr.fdiv, Fmt.div, 14, 24), (0x050C, Instr.fatan2, Fmt.atan2, 60, 120)] →
      Computes (sigF op 2) mk (fun e ins outs _ =>
        { wr := puts outs [(f (at_ ins 0).ty.fmt (e.val (at_ ins 0)) (e.val (at_ ins 1))).1]
          eff := countEvs (f (at_ ins 0).ty.fmt (e.val (at_ ins 0)) (e.val (at_ ins 1))).2
          cyc := if (at_ ins 0).ty.size = 8 then b else a }))
    ∧ ∀ (op : Nat) (mk : Blk → Instr) (f : Fmt → Nat → Nat × List Fev) (a b : Nat),
      (op, mk, f, a, b) ∈ [(0x0505, Instr.fsqrt, Fmt.sqrt, 16, 30), (0x0506, Instr.fabs, fun f x => f.keep (f.abs x), 4, 4),
        (0x0507, Instr.fneg, fun f x => f.keep (f.neg x), 4, 4), (0x0508, Instr.fexp, Fmt.exp, 40, 80), (0x0509, Instr.fln, Fmt.ln, 40, 80),
        (0x050A, Instr.fsin, fun f => f.trig 0, 48, 96), (0x050B, Instr.fcos, fun f => f.trig 1, 48, 96)] →
      Computes (sigF op 1) mk (fun e ins outs _ =>
        { wr := puts outs [(f (at_ ins 0).ty.fmt (e.val (at_ ins 0))).1]
          eff := countEvs (f (at_ ins 0).ty.fmt (e.val (at_ ins 0))).2
          cyc := if (at_ ins 0).ty.size = 8 then b else a }))
    ∧ (Computes sigCvt .cvt (fun e ins outs _ =>
      { wr := puts outs [(cvtRaw (at_ ins 0).ty (at_ outs 0).ty e.blk.optA e.blk.sat (e.val (at_ ins 0))).1]
        eff := countEvs (cvtRaw (at_ ins 0).ty (at_ outs 0).ty e.blk.optA e.blk.sat (e.val (at_ ins 0))).2
        cyc := if (at_ ins 0).ty.isF || (at_ outs 0).ty.isF then 6 else 4 })
    ∧ Computes (sigF32 0x0602 5) .scale (fun e ins outs _ =>
      let r := lerp ((ins.map e.val).getD 0 0) ((ins.map e.val).getD 1 0) ((ins.map e.val).getD 2 0) ((ins.map e.val).getD 3 0)
        ((ins.map e.val).getD 4 0)
      { wr := puts outs [r.1], eff := countEvs r.2, cyc := 8 })
    ∧ Computes (sigF32 0x0603 5) .unscale (fun e ins outs _ =>
      let r := lerp ((ins.map e.val).getD 0 0) ((ins.map e.val).getD 1 0) ((ins.map e.val).getD 2 0) ((ins.map e.val).getD 3 0)
        ((ins.map e.val).getD 4 0)
      { wr := puts outs [r.1], eff := countEvs r.2, cyc := 8 })
    ∧ Computes sigLint .lint (fun e ins outs _ =>
      let r := if fmt32.dec (e.val (at_ ins 0)) = .nan then (0x7FC00000, [])
        else lintRaw (e.val (at_ ins 0)) (e.points (at_ ins 1) (e.val (at_ ins 2)))
      { wr := puts outs [r.1], eff := countEvs r.2, cyc := 10 + 2 * e.val (at_ ins 2) }))

/-- R112, R114, R115, R117: the native timers apply their rule at t_ev to the timer held in the instance, write q and et, keep the 32 bytes
of the instance, and take 10 cycles, 14 with OPT_B; a running timer whose start lies in the future starts anew with TIMER_TIME_BACK. R121,
R123, R125: compatibility timers by their rule with P and the job's TN; counters by their priorities, counting edges against the stored
inputs; edges against the previous clk, which at the first evaluation is the input, or FALSE with OPT_A. -/
def Obligations.TimerCounterAndEdgeBlocks : Prop :=
  (∀ res : Env → List Ref → List Byte → Bool → Bool → Nat → (NT → NT) → BRes,
    (res = fun e outs st i rst pt f =>
      let n := NT.load st
      let back := n.run && decide (2 ^ 63 ≤ (e.job.rel + e.job.cyc / 1000 + 2 ^ 64 - n.start) % 2 ^ 64)
      let n := f (if back then { n with start := e.job.rel + e.job.cyc / 1000 } else n)
      { wr := puts outs [b01 n.q, n.et], inst := some (n.store st i rst pt)
        job := fun j => { j with evalInst := if j.evalInst.contains (e.blk.inst.getD 0) then j.evalInst
                                             else j.evalInst ++ [e.blk.inst.getD 0] }
        eff := fun c => if back then record 0x0430 (0x0700 + e.t) (w64 (e.blk.inst.getD 0)) c else c
        cyc := if e.blk.optB then 14 else 10 }) →
    (∀ (op : Nat) (mk : Blk → Instr) (f : NT → Bool → Nat → Nat → NT),
      (op, mk, f) ∈ [(0x0701, Instr.ton, NT.ton), (0x0702, Instr.tof, NT.tof), (0x0703, Instr.tp, NT.tp), (0x0704, Instr.tpulse, NT.tpulse)] →
      Computes (sigNt op) mk (fun e ins outs st =>
        res e outs st (e.val (at_ ins 0) != 0) false (e.val (at_ ins 1)) (fun n => f n (e.val (at_ ins 0) != 0) (e.val (at_ ins 1)) e.tEv)))
    ∧ Computes sigTret .tret (fun e ins outs st =>
        res e outs st (e.val (at_ ins 0) != 0) (e.val (at_ ins 1) != 0) (e.val (at_ ins 2))
          (fun n => n.tret (e.val (at_ ins 0) != 0) (e.val (at_ ins 1) != 0) (e.val (at_ ins 2)) e.tEv)))
    ∧ (∀ (op : Nat) (mk : Blk → Instr) (f : CT → Bool → Nat → Nat → Nat → CT),
      (op, mk, f) ∈ [(0x0801, Instr.tons, CT.tons), (0x0802, Instr.tofs, CT.tofs), (0x0803, Instr.tps, CT.tps)] →
      Computes (sigCt op) mk (fun e ins outs st =>
        let n := f (CT.load st) (e.val (at_ ins 0) != 0) e.period (e.val (at_ ins 1)) (e.job.tn % 2 ^ 32)
        { wr := puts outs [b01 n.q, n.et], inst := some (n.store (e.val (at_ ins 0) != 0)), cyc := 8 }))
    ∧ Computes (sigCtu 0x0901) .ctu (fun e ins outs st =>
        let cu := e.val (at_ ins 0) != 0
        let v := signed 32 (fld st 0 4)
        let cv := if e.val (at_ ins 1) ≠ 0 then 0 else if cu && !flg st 4 0 && flg st 4 2 then e.count (v + 1) else v
        { wr := puts outs [b01 (decide (Ty.i32.int (e.val (at_ ins 2)) ≤ cv)), unsigned 32 cv]
          inst := some (cntState 4 (unsigned 32 cv) cu (flg st 4 1) 3), cyc := 8 })
    ∧ Computes (sigCtu 0x0902) .ctd (fun e ins outs st =>
        let cd := e.val (at_ ins 0) != 0
        let v := signed 32 (fld st 0 4)
        let cv := if e.val (at_ ins 1) ≠ 0 then Ty.i32.int (e.val (at_ ins 2))
          else if cd && !flg st 4 1 && flg st 4 2 then e.count (v - 1) else v
        { wr := puts outs [b01 (decide (cv ≤ 0)), unsigned 32 cv]
          inst := some (cntState 4 (unsigned 32 cv) (flg st 4 0) cd 3), cyc := 8 })
    ∧ Computes sigCtud .ctud (fun e ins outs st =>
        let cu := e.val (at_ ins 0) != 0
        let cd := e.val (at_ ins 1) != 0
        let pv := Ty.i32.int (e.val (at_ ins 4))
        let v := signed 32 (fld st 0 4)
        let up := cu && !flg st 4 0 && flg st 4 2
        let dn := cd && !flg st 4 1 && flg st 4 2
        let cv := if e.val (at_ ins 2) ≠ 0 then 0 else if e.val (at_ ins 3) ≠ 0 then pv
          else if up && !dn then e.count (v + 1) else if dn && !up then e.count (v - 1) else v
        { wr := puts outs [b01 (decide (pv ≤ cv)), b01 (decide (cv ≤ 0)), unsigned 32 cv]
          inst := some (cntState 4 (unsigned 32 cv) cu cd 3), cyc := 8 })
    ∧ Computes sigCtw .ctw (fun e ins outs st =>
        let cu := e.val (at_ ins 0) != 0
        let cv := if e.val (at_ ins 1) ≠ 0 then 0 else if cu && !flg st 8 0 && flg st 8 2 then Ty.u64.raw e.blk.sat (fld st 0 8 + 1)
          else fld st 0 8
        { wr := puts outs [cv], inst := some (cntState 8 cv cu (flg st 8 1) 7), cyc := 8 })
    ∧ ∀ (op n : Nat) (mk : Blk → Instr) (f : Bool → Bool → List Bool),
      (op, n, mk, f) ∈ [(0x0A01, 1, Instr.rtrig, fun c p => [c && !p]), (0x0A02, 1, Instr.ftrig, fun c p => [!c && p]),
        (0x0A03, 2, Instr.edge2, fun c p => [c && !p, !c && p])] →
      Computes (sigEdge op n) mk (fun e ins outs st =>
        let clk := e.val (at_ ins 0) != 0
        let prev := if flg st 0 1 then flg st 0 0 else if e.blk.optA then false else clk
        { wr := puts outs ((f clk prev).map b01), inst := some (flagByte [clk, true] ++ List.replicate 7 0), cyc := 6 })

/-- R114: the rows of the table for TON, TOF, TP, TPULSE and TRET: start, running and end, for every timer, pt and t_ev. -/
def Obligations.NativeTimerRules : Prop :=
  ∀ (n : NT) (pt t : Nat), t < 2 ^ 64 →
    let d := (t + 2 ^ 64 - n.start) % 2 ^ 64
    -- TON
    (n.prev = false → n.ton true pt t = { n with start := t, run := true, et := 0, q := decide (pt = 0) })
    ∧ (n.prev = true → n.run = true → n.ton true pt t = { n with et := Nat.min d pt, q := decide (pt ≤ d) })
    ∧ n.ton false pt t = { n with q := false, et := 0, run := false }
    -- TOF
    ∧ n.tof true pt t = { n with q := true, et := 0, run := false, expired := false }
    ∧ (n.prev = true → 0 < pt → n.tof false pt t = { n with start := t, run := true, q := true, et := 0 })
    ∧ (n.prev = false → n.run = true → d < pt → n.tof false pt t = { n with q := true, et := d })
    ∧ (n.prev = false → n.run = true → pt ≤ d → n.tof false pt t = { n with q := false, et := pt, run := false, expired := true })
    ∧ (n.prev = false → n.run = false → n.tof false pt t = { n with q := false, et := if n.expired then pt else 0 })
    -- TP
    ∧ (n.prev = false → n.run = false → 0 < pt → n.tp true pt t = { n with start := t, run := true, q := true, et := 0 })
    ∧ (∀ i, n.run = true → d < pt → n.tp i pt t = { n with q := true, et := d })
    ∧ (∀ i, n.run = true → pt ≤ d → n.tp i pt t = { n with q := false, run := false, et := if i then pt else 0 })
    -- TPULSE
    ∧ (n.prev = false → 0 < pt → n.tpulse true pt t = { n with start := t, run := true, q := true, et := 0 })
    ∧ (∀ i, (i = true → n.prev = true) → n.run = true → d < pt → n.tpulse i pt t = { n with q := true, et := d })
    ∧ (∀ i, (i = true → n.prev = true) → n.run = true → pt ≤ d → n.tpulse i pt t = { n with q := false, run := false, et := 0 })
    -- TRET
    ∧ (∀ i, n.tret i true pt t = { n with acc := 0, et := 0, q := false, run := false })
    ∧ (n.prev = false → n.tret true false pt t
        = { n with start := t, run := true, et := Nat.min n.acc pt, q := decide (pt ≤ n.acc) })
    ∧ (n.prev = true → n.run = true → n.tret true false pt t = { n with et := Nat.min (n.acc + d) pt, q := decide (pt ≤ n.acc + d) })
    ∧ (n.run = true → (n.tret false false pt t).acc = Nat.min (n.acc + d) pt ∧ (n.tret false false pt t).run = false)
    ∧ (n.run = false → n.tret false false pt t = { n with et := Nat.min n.acc pt, q := decide (pt ≤ n.acc) })

/-- R108, R109: y = mv in manual, else the formula the spec does not state (a free value, log entry 15) brought into the limits; MAVG is the
mean of the last n values; STEP, TRANS and SEQRST move activity by the readings of log entry 17.
R96, R512, R514: JMP, JMPC, JMPN, LOOPB, CALL, RET and NOP: where the job goes and what it writes, with the cycles of R107. -/
def Obligations.ControlSequenceAndFlowBlocks : Prop :=
  (∀ (op cyc : Nat) (mk : Blk → Instr) (p : Ty → Bool),
      (op, cyc, mk, p) ∈ [(0x0B01, 60, Instr.pid, fun t => t == .f32), (0x0B02, 40, Instr.pidq, Ty.isQ)] →
      Computes (sigPid op p) mk (fun e ins outs st =>
        { wr := puts outs [if e.val (at_ ins 7) ≠ 0 then e.val (at_ ins 8) else
            limitRaw (at_ outs 0).ty (e.val (at_ ins 5)) (e.ctlFree op (ins.map e.val) st (at_ outs 0).ty) (e.val (at_ ins 6))]
          inst := some (e.ctlInst op (ins.map e.val ++ [b01 e.blk.optA]) st), cyc := cyc }))
    ∧ (∀ (op n cyc : Nat) (mk : Blk → Instr),
      (op, n, cyc, mk) ∈ [(0x0B03, 2, 12, Instr.lag1), (0x0B04, 4, 20, Instr.leadlag), (0x0B05, 3, 12, Instr.ramp), (0x0B06, 2, 6, Instr.deadb)] →
      Computes (sigFilt op n) mk (fun e ins outs st =>
        { wr := puts outs [e.ctlFree op (ins.map e.val) st .f32], inst := some (e.ctlInst op (ins.map e.val) st), cyc := cyc }))
    ∧ Computes sigMavg .mavg (fun e ins outs st =>
        let n := (at_ ins 1).ty.int (e.val (at_ ins 1))
        let xs := (e.val (at_ ins 0) :: (List.range (Nat.min (fld st 256 1) 64)).map (fun i => fld st (4 * i) 4)).take 64
        let r := if 1 ≤ n ∧ n ≤ 64 then meanRaw (xs.take n.toNat)
          else (e.ctlFree 0x0B07 [e.val (at_ ins 0), e.val (at_ ins 1)] st .f32, [])
        { wr := puts outs [r.1], inst := some (padTo 256 (xs.flatMap (leBytes 4)) ++ leBytes 1 xs.length ++ List.replicate 7 0)
          eff := countEvs r.2, cyc := 14 })
    ∧ Computes sigInteg .integ (fun e ins outs st =>
        { wr := puts outs [limitRaw .f32 ((ins.map e.val).getD 1 0) (e.ctlFree 0x0B08 (ins.map e.val) st .f32) ((ins.map e.val).getD 2 0)]
          inst := some (e.ctlInst 0x0B08 (ins.map e.val) st), cyc := 10 })
    ∧ Computes sigStep .step (fun e ins outs st =>
        let i := e.val (at_ ins 0) != 0
        let act := e.val (at_ outs 0) != 0 || (i && !flg st 8 1)
        let start := if act && !flg st 8 0 then e.tEv else fld st 0 8
        { wr := puts outs [b01 act, if act then (e.tEv + 2 ^ 64 - start) % 2 ^ 64 else 0]
          inst := some (leBytes 8 start ++ flagByte [act, i] ++ List.replicate 7 0), cyc := 8 })
    ∧ Computes sigTrans .trans (fun e ins outs _ =>
        if e.val (at_ ins 0) != 0 && (ins.drop 1).all (fun r => e.val r != 0) then
          { wr := (ins.drop 1).map (fun r => r.put 0) ++ puts outs [1]
              ++ ((stepsOf e.img).filter (fun p => p.1 == at_ outs 0)).map (fun p => p.2.put 1), cyc := 8 }
        else { wr := puts outs [0], cyc := 8 })
    ∧ Computes sigSeqrst .seqrst (fun e ins _ _ =>
        { wr := if e.val (at_ ins 0) != 0 then
            (ins.drop 1).map (fun r => r.put (b01 ((stepsOf e.img).any (fun p => p.2 == r && e.val p.1 != 0)))) else []
          cyc := 8 + 2 * (ins.drop 1).length })
    ∧ Computes sigJmp .jmp (fun e ins _ _ => { cyc := 2, ctl := .jump (e.val (at_ ins 0)) })
    ∧ Computes sigJmpc .jmpc (fun e ins _ _ => { cyc := 3, ctl := if e.val (at_ ins 0) ≠ 0 then .jump (e.val (at_ ins 1)) else .next })
    ∧ Computes sigJmpn .jmpn (fun e ins _ _ => { cyc := 3, ctl := if e.val (at_ ins 0) = 0 then .jump (e.val (at_ ins 1)) else .next })
    ∧ Computes sigLoopb .loopb (fun e ins outs _ =>
      if (e.val (at_ outs 0) + 1) % 65536 < e.val (at_ ins 0) then
        { wr := puts outs [(e.val (at_ outs 0) + 1) % 65536], cyc := 4, ctl := .jump (e.val (at_ ins 1)) }
      else { wr := puts outs [0], cyc := 4 })
    ∧ Computes sigCall .call (fun e ins _ _ => { cyc := 6, ctl := .call (e.val (at_ ins 0)) })
    ∧ Computes sigRet .ret (fun _ _ _ _ => { cyc := 4, ctl := .ret })
    ∧ Computes sigNop .nop (fun _ _ _ _ => { cyc := 1 })
    ∧ (∀ (j : Job) (l : Nat) (now : Nat), (j.go (.call l) now).list = l ∧ (j.go (.call l) now).idx = 0
        ∧ (j.go (.call l) now).go .ret now = { j with idx := j.idx + 1 })
    ∧ ∀ (j : Job) (now : Nat), j.stack = [] → j.go .ret now = if now ≤ j.dl * 1000 then { j with done := true } else j

/-- R108: the alarm, voting and latch blocks; a vote of an unhealthy input is TRUE; an analogue vote selects among the healthy inputs and
holds y with none. -/
def Obligations.AlarmVoteAndLatchBlocks : Prop :=
  Computes sigAlmhl .almhl (fun e ins outs st =>
      let x := e.val (at_ ins 0)
      let cmp := fun a b => fmt32.cmp a b
      let qh := if [some .gt, some .eq].contains (cmp x (e.val (at_ ins 1))) then true
        else if beyond true x (e.val (at_ ins 1)) (e.val (at_ ins 3)) then false else flg st 0 0
      let ql := if [some .gt, some .eq].contains (cmp (e.val (at_ ins 2)) x) then true
        else if beyond false x (e.val (at_ ins 2)) (e.val (at_ ins 3)) then false else flg st 0 1
      { wr := puts outs [b01 qh, b01 ql], inst := some (flagByte [qh, ql] ++ List.replicate 7 0), cyc := 8 })
    ∧ Computes sigAlmdly .almdly (fun e ins outs st =>
      let i := e.val (at_ ins 0) != 0
      let start := if i = flg st 8 1 then fld st 0 8 else e.tEv
      let q := if decide ((if i then e.val (at_ ins 1) else e.val (at_ ins 2)) ≤ e.since start) then i else flg st 8 0
      { wr := puts outs [b01 q], inst := some (leBytes 8 start ++ flagByte [q, i] ++ List.replicate 7 0), cyc := 10 })
    ∧ Computes sigAlminh .alminh (fun e ins outs _ =>
      { wr := puts outs [b01 (e.val (at_ ins 0) != 0 && e.val (at_ ins 1) == 0), b01 (e.val (at_ ins 0) != 0 && e.val (at_ ins 1) != 0)]
        cyc := 4 })
    ∧ Computes sigAlmshv .almshv (fun e ins outs st =>
      let req := e.val (at_ ins 1) != 0
      let rise := req && !flg st 8 1
      let start := if rise then e.tEv else fld st 0 8
      let sh := (rise || flg st 8 0) && decide (e.since start < e.val (at_ ins 2))
      { wr := puts outs [b01 (e.val (at_ ins 0) != 0 && !sh), b01 sh]
        inst := some (leBytes 8 start ++ flagByte [sh, req] ++ List.replicate 7 0), cyc := 10 })
    ∧ Computes sigAlmfo .almfo bodyAlmfo
    ∧ Computes sigV1oo2 .v1oo2 (fun e ins outs st =>
      let a := !e.healthy (at_ ins 0) || e.val (at_ ins 0) != 0
      let b := !e.healthy (at_ ins 1) || e.val (at_ ins 1) != 0
      let d := e.disc st (b01 (a != b)) (e.val (at_ ins 2))
      { wr := puts outs [b01 (a || b), b01 d.1], inst := some d.2, cyc := 10 })
    ∧ Computes sigV2oo3 .v2oo3 (fun e ins outs st =>
      let v := fun k => !e.healthy (at_ ins k) || e.val (at_ ins k) != 0
      let idx := if v 0 = v 1 ∧ v 1 = v 2 then 0 else if v 1 = v 2 then 1 else if v 0 = v 2 then 2 else 3
      let d := e.disc st idx (e.val (at_ ins 3))
      { wr := puts outs [b01 (decide (2 ≤ ([v 0, v 1, v 2].filter id).length)), b01 d.1, idx], inst := some d.2, cyc := 12 })
    ∧ (∀ (n cyc : Nat) (mk : Blk → Instr) (sg : Sig), (n, cyc, mk, sg) ∈ [(2, 16, Instr.v1oo2a, sigV1oo2a), (3, 24, Instr.v2oo3a, sigV2oo3a)] →
      Computes sg mk (fun e ins outs st =>
        let t := (at_ outs 0).ty
        let good := (ins.take n).filter e.healthy
        let sel := selectA t e.blk.optA (good.map e.val)
        let dev := (ins.take n).map (fun r => deviates t (e.val r) (sel.getD (e.val (at_ outs 0))) (e.val (at_ ins n)))
        let starts := (List.range n).map (fun i => if dev.getD i false && !flg st 24 i then e.tEv else fld st (8 * i) 8)
        let long := (List.range n).any (fun i => dev.getD i false && decide (e.val (at_ ins (n + 1)) ≤ e.since (starts.getD i 0)))
        { wr := (sel.map (fun v => (at_ outs 0).put v)).toList
            ++ puts (outs.drop 1) [b01 (decide (good.length ≤ 1) || long), ((dev.findIdx? id).map (· + 1)).getD 0]
          inst := some (padTo 24 (starts.flatMap (leBytes 8)) ++ flagByte dev ++ List.replicate 7 0), cyc := cyc }))
    ∧ Computes sigSdl .sdl (fun e ins outs st =>
      let dem := e.val (at_ ins 0) != 0
      let rst := e.val (at_ ins 1) != 0
      let perm := e.val (at_ ins 2) != 0
      let prev := if flg st 0 2 then flg st 0 1 else rst
      let latched := dem || (flg st 0 0 && !(rst && !prev && perm))
      { wr := puts outs [b01 (!latched), b01 latched], inst := some (flagByte [latched, rst, true] ++ List.replicate 7 0), cyc := 8 })

/-- R199 to R202, R247, R248, R282, R287, R290, R376, R456, R465: what the unit blocks output, and what they leave with their job. -/
def Obligations.UnitBlocks : Prop :=
  Computes sigSgsub .sgsub (fun e ins outs st =>
      let n := e.val (at_ ins 0)
      let tag := if e.val (at_ ins 1) != 0 then e.job.tn % 2 ^ 32 else fld st 0 4
      let word := if e.val (at_ ins 1) != 0 then 1 else (slot e.c n).cur.word
      { wr := puts outs [tag, word], inst := some (leBytes 4 tag ++ leBytes 2 word ++ List.replicate 10 0), cyc := 40
        job := fun j => if e.val (at_ ins 1) != 0 then
          { j with sage := j.sage.filter (fun r => r.slot != n) ++ [{ slot := n, tag := tag, refs := ins.drop 2 }] } else j })
    ∧ Computes sigSgcol .sgcol bodySgcol
    ∧ Computes sigSgstat .sgstat (fun e ins outs _ => { wr := puts outs [(slot e.c (e.val (at_ ins 0))).cur.word], cyc := 8 })
    ∧ Computes sigCantx .cantx bodyCantx
    ∧ Computes sigCanrx .canrx bodyCanrx
    ∧ Computes sigHcmd .hcmd bodyHcmd
    ∧ Computes sigHvar .hvar bodyHvar
    ∧ Computes sigTmark .tmark (fun e ins _ _ =>
      let words := ((ins.drop 2).map e.val).flatMap (fun v => [v % 2 ^ 32, v / 2 ^ 32 % 2 ^ 32]) ++ List.replicate (8 - 2 * (ins.length - 2)) 0
      { cyc := 20
        job := fun j => if e.val (at_ ins 1) != 0 then
          { j with marks := j.marks ++ [{ code := e.val (at_ ins 0), tEv := e.tEv, words := words }] } else j })
    ∧ Computes sigCntrd .cntrd (fun e ins outs _ =>
      let w := match e.recOf (.cntr (Fin.ofNat 512 (e.val (at_ ins 0)))) with | some o => Mem.rdLe e.job.image o 8 | none => 0
      { wr := puts outs [w % 2 ^ 48, b01 (bit w 63)], cyc := 12 })
    ∧ Computes sigPtext .ptext (fun e ins _ _ =>
      let l := leNat (e.bytes .con (at_ ins 2).addr 1)
      { cyc := 20 + cdiv l 4
        job := fun j => j.panel { panel := e.val (at_ ins 0), field := e.val (at_ ins 1), text := some (e.bytes .con ((at_ ins 2).addr + 1) l) } })
    ∧ Computes sigPfield .pfield (fun e ins _ _ =>
      { cyc := 24
        job := fun j => j.panel { panel := (ins.map e.val).getD 0 0, field := (ins.map e.val).getD 1 0,
                                  value := (ins.map e.val).getD 2 0, ty := (at_ ins 2).ty, fmt := (ins.map e.val).getD 3 0 } })

/-- R200: SGSUB with req TRUE outputs bits 31..0 of the job's TN and PENDING, which its instance keeps; with req FALSE the tag its instance
holds and the slot's current status word. -/
def Obligations.SubmissionTagAndStatus : Prop :=
  ∀ (b : Blk) (s : State) (j : Job), Runs sigSgsub b s j →
    let e := b.env j s.chip
    let ins := sigSgsub.ins b
    ∃ r : BRes, Goes (.sgsub b) s (chipAfter sigSgsub b j r s.chip)
      ∧ (e.val (at_ ins 1) ≠ 0 → r.wr = puts (sigSgsub.outs b) [j.tn % 2 ^ 32, 1] ∧ (r.inst.map (fun st => fld st 0 4)) = some (j.tn % 2 ^ 32))
      ∧ (e.val (at_ ins 1) = 0 →
          r.wr = puts (sigSgsub.outs b) [fld (e.inst sigSgsub) 0 4, (slot s.chip (e.val (at_ ins 0))).cur.word])

/-- R98, R95, R105: a block row whose task has no running job changes nothing; one whose enable input reads FALSE takes the cycles of the test
and passes on; a block of a form that no image can hold stops, and no other command ever does. -/
def Obligations.BlockRowsThatDoNotRun : Prop :=
  (∀ (i : Instr) (sg : Sig) (b : Blk) (s : State), i.block = some (sg, b) → sg.good b = true →
      (∀ j, (task s.chip b.task.val).job = some j → (task s.chip b.task.val).st ≠ .running ∨ j.done = true) → exec i s = .next s)
    ∧ (∀ (i : Instr) (sg : Sig) (b : Blk) (s : State) (j : Job), i.block = some (sg, b) → sg.good b = true →
      (task s.chip b.task.val).job = some j → (task s.chip b.task.val).st = .running → j.done = false → b.skips j s.chip = true →
      Goes i s (updTask b.task.val (fun k => { k with job := some { j with
        cyc := j.cyc + 2 + 60 * (b.enable.filter (fun r => r.sp == .glb || r.sp == .ret)).length, idx := j.idx + 1 } }) s.chip))
    ∧ (∀ (i : Instr) (s : State), (∃ sg b, i.block = some (sg, b) ∧ sg.good b = false) → exec i s = .fault .illFormedBlock)
    ∧ ∀ (i : Instr) (s : State), (∀ sg b, i.block = some (sg, b) → sg.good b = true) → ∃ t, exec i s = .next t

/-- R92, R93, R97: a block row of a task not of class S leaves memory, clock, timetable, field channels, display, module state and every other
task's job and values as they were: what its job writes stays with the job. -/
def Obligations.BlockRowsKeepWhatIsNotTheirJobs : Prop :=
  ∀ (i : Instr) (sg : Sig) (b : Blk) (s t : State), i.block = some (sg, b) → taskCls s.chip b.task.val ≠ .s → exec i s = .next t →
    t.pending = s.pending ∧ t.snap = s.snap ∧ t.chip.mem = s.chip.mem ∧ t.chip.time = s.chip.time ∧ t.chip.tt = s.chip.tt
      ∧ t.chip.disp = s.chip.disp ∧ t.chip.hlth = s.chip.hlth ∧ t.chip.sup.mstate = s.chip.sup.mstate ∧ t.chip.sup.role = s.chip.sup.role
      ∧ t.chip.io.ai = s.chip.io.ai ∧ t.chip.io.ao = s.chip.io.ao ∧ t.chip.io.di = s.chip.io.di
      ∧ t.chip.sets.main = s.chip.sets.main ∧ t.chip.sets.side = s.chip.sets.side ∧ t.chip.sets.forces = s.chip.sets.forces
      ∧ ∀ u, u ≠ b.task.val → (task t.chip u).job = (task s.chip u).job ∧ (task t.chip u).staged = (task s.chip u).staged
          ∧ (task t.chip u).loc = (task s.chip u).loc ∧ (task t.chip u).insts = (task s.chip u).insts
          ∧ (task t.chip u).committed = (task s.chip u).committed

/-- R104: apart from the Sage blocks, which read a slot, and RET, whose deadline is a matter of the clock, a block leaves the same job in any
two states that agree on the main set, on global and retained memory, and on the job itself. -/
def Obligations.EqualJobsWriteEqually : Prop :=
  ∀ (i : Instr) (sg : Sig) (b : Blk) (s s' : State) (c c' : Chip) (j k k' : Job), i.block = some (sg, b) → sg.op / 256 ≠ 0x10 → sg.op ≠ 0x1606 →
    s.chip.sets.main = s'.chip.sets.main → s.chip.mem.glb = s'.chip.mem.glb → s.chip.mem.ret = s'.chip.mem.ret →
    (task s.chip b.task.val).job = some j → (task s'.chip b.task.val).job = some j →
    (task s.chip b.task.val).st = (task s'.chip b.task.val).st → Goes i s c → Goes i s' c' →
    (task c b.task.val).job = some k → (task c' b.task.val).job = some k' → k = k'

/-- R92, R93, R97: after a write of a job, its own view of the space holds the bytes written and every other byte as before, and the views of
the other spaces are unchanged. -/
def Obligations.JobMemoryReadsItsWrites : Prop :=
  ∀ (e : Env) (sp : Space) (a : Nat) (bs : List Byte), sp.writable = true → Mem.wf e.job.staging = true → Mem.wf e.job.loc = true →
    let e' : Env := { e with job := e.job.write sp a bs }
    e'.bytes sp a bs.length = bs
      ∧ (∀ x n, x + n ≤ a ∨ a + bs.length ≤ x → e'.bytes sp x n = e.bytes sp x n)
      ∧ ∀ sp' x n, sp' ≠ sp → sp' ≠ .imm → e'.bytes sp' x n = e.bytes sp' x n

/-- R39, R31, R34, R466, R437: BOUNDARY closes the tick, numbers the boundary, commits, captures and applies, in this order, and keeps the
block after the capture for reads; the number rises by one and the clock is at B(TN) or later. -/
def Obligations.BoundaryTakesItsSteps : Prop :=
  (∀ (dt : Nat) (busy : List (Nat × Nat)) (s : State), s.chip.sup.mstate ≠ .fault → hasBoundaries (stampsArrive (pass dt s.chip)) = true →
      let c := stampsArrive (pass dt s.chip)
      let b := nextBoundary (if c.tt.ticking then closeTick busy c else c)
      let captured := stepCapture (stepPair (stepCommit b))
      exec (.boundary dt busy) s = .next { s with chip := sendHeartbeat (stepApply captured), snap := captured })
    ∧ (∀ (dt : Nat) (busy : List (Nat × Nat)) (s : State), s.chip.sup.mstate = .fault → s.chip.tt.ticking = true →
      let c := bump 0x000 (latchCounters (nextBoundary (stampsArrive (pass dt s.chip))))
      c.tt.ticking = true → exec (.boundary dt busy) s = .next { s with chip := c, snap := c })
    ∧ (∀ (dt : Nat) (busy : List (Nat × Nat)) (s : State), (s.chip.sup.mstate = .off ∨ s.chip.sup.mstate = .boot ∨ s.chip.sup.mstate = .selftest) →
      exec (.boundary dt busy) s = .next { s with chip := stampsArrive (pass dt s.chip) })
    ∧ ∀ c : Chip, c.tt.ticking = true → c.tt.rederive = false →
      (nextBoundary c).tt.tn = c.tt.tn + 1 ∧ (nextBoundary c).tt.ticking = true
        ∧ (nextBoundary c).time.clock = Nat.max c.time.clock ((c.tt.tn + 1) * tTick c * 1000)
        ∧ (nextBoundary c).tasks = c.tasks ∧ (nextBoundary c).mem = c.mem ∧ (nextBoundary c).io = c.io

/-- R41, R58, R60, R61, R92: a due release gives the task a job for its boundary: its instants, the staging filled with the values last
committed, the task's locals and instances, an empty journal, block 0 of the ENTRY list; nothing else's job or memory changes. -/
def Obligations.ReleaseStartsAJob : Prop :=
  ∀ (dt tn : Nat) (t : Fin 256) (s : State),
    let c := pass dt s.chip
    let k := task c t
    let w := 0x2100 + t.val
    let relNs := bNs c tn + relOffset c t tn * 1000
    releases c = true → relBoundary c t = some tn → taskCls c t ≠ .e → cfg c w 2 31 0 ≠ 0 → tn % cfg c w 2 31 0 = 0 → k.relTn ≠ some tn →
    k.job = none → k.st ≠ .suspended → k.st ≠ .halted → k.st ≠ .empty → k.skip = false → (taskCls c t = .b → shedding c = false) →
    c.pair.adoptRel = false →
    Does (.taskRelease dt t) s (fun c' => ∃ j, (task c' t).job = some j ∧ j.tn = tn ∧ j.relNs = relNs ∧ j.rel = relNs / 1000
      ∧ j.dl = relNs / 1000 + cfg c w 4 31 0 ∧ j.staging = k.committed ∧ j.loc = k.loc ∧ j.insts = k.insts ∧ j.journal = []
      ∧ j.list = cfg c w 6 15 0 ∧ j.idx = 0 ∧ j.stack = [] ∧ j.cyc = 0 ∧ j.done = false
      ∧ Mem.rdLe j.sys 0 8 = tn % 2 ^ 64 ∧ Mem.rdLe j.sys 8 8 = j.rel % 2 ^ 64 ∧ Mem.rdLe j.sys 16 8 = j.dl % 2 ^ 64
      ∧ ((task c' t).st = .ready ∨ (task c' t).st = .running) ∧ (task c' t).relTn = some tn
      ∧ c'.mem = c.mem ∧ c'.tt = c.tt ∧ c'.io.ao = c.io.ao ∧ ∀ u, u ≠ t.val → (task c' u).job = (task c u).job)

/-- R93, R92, R514, R62, R77: a completed job's journal goes to memory, oldest entry first, its shadow banks become the task's, and its
staging waits for the commit boundary. -/
def Obligations.JobEndFlushesAndStages : Prop :=
  ∀ (dt : Nat) (t : Fin 256) (s : State) (j : Job),
    let c := pass dt s.chip
    let due := j.relNs + cfg c (0x2100 + t.val) 5 31 0 * 1000
    (task c t).job = some j → j.done = true → cfgb c (0x2100 + t.val) 1 20 = false →
    Does (.jobEnd dt t) s (fun c' =>
      c'.mem.glb = j.journal.foldr (fun e m => if e.1 then m else Mem.wrN m e.2.1 e.2.2) c.mem.glb
        ∧ c'.mem.ret = j.journal.foldr (fun e m => if e.1 then Mem.wrN m e.2.1 e.2.2 else m) c.mem.ret
        ∧ (task c' t).job = none ∧ (task c' t).loc = j.loc ∧ (task c' t).insts = j.insts ∧ (task c' t).ovrConsec = 0
        ∧ (task c' t).lastResp = (c.time.clock - j.relNs) / 1000
        ∧ (task c' t).maxResp = Nat.max (task c t).maxResp ((c.time.clock - j.relNs) / 1000)
        ∧ (task c' t).committed = (task c t).committed ∧ (task c' t).st = .staged
        ∧ (task c' t).staged = (task c t).staged ++ [{ tn := if due < c.time.clock then c.tt.tn + 1
                                                             else Nat.max (c.tt.tn + 1) (cdiv due (tTick c * 1000)),
                                                       bytes := j.staging, can := j.can, hart := j.hart, panels := j.panels,
                                                       timers := j.evalInst }]
        ∧ c'.tt = c.tt ∧ c'.io.ao = c.io.ao ∧ c'.io.di = c.io.di ∧ ∀ u, u ≠ t.val → (task c' u).job = (task c u).job)

/-- R69 to R72, R74, R64: a missed deadline trips the module for class S; otherwise the job is discarded with nothing committed, the overrun
is counted, the next release is skipped, and the limit acts by class. -/
def Obligations.DeadlineOverruns : Prop :=
  ∀ (dt : Nat) (t : Fin 256) (s : State) (j : Job),
    let c := pass dt s.chip
    let limit := cfg c (0x2100 + t.val) 1 31 24 ≤ (task c t).ovrConsec + 1
    (task c t).job = some j →
    (j.done = true → Goes (.jobDeadline dt t) s c)
    ∧ (j.done = false → taskCls c t = .s → Does (.jobDeadline dt t) s (fun c' => c'.sup.mstate = .trip
        ∧ c'.mem.glb = c.mem.glb ∧ c'.mem.ret = c.mem.ret
        ∧ ∀ u ∈ usedTasks c, (task c' u).st = .halted ∧ (task c' u).job = none ∧ (task c' u).staged = []))
    ∧ (j.done = false → taskCls c t ≠ .s → Does (.jobDeadline dt t) s (fun c' => c'.sup.mstate = c.sup.mstate ∧ c'.mem = c.mem
        ∧ (task c' t).job = none ∧ (task c' t).committed = (task c t).committed ∧ (task c' t).staged = (task c t).staged
        ∧ (task c' t).loc = (task c t).loc ∧ (task c' t).insts = (task c t).insts
        ∧ (task c' t).skip = (taskCls c t != .e) ∧ (task c' t).ovrTotal = ((task c t).ovrTotal + 1) % 2 ^ 32
        ∧ (limit → taskCls c t = .e → (task c' t).st = .suspended ∧ (task c' t).ovrConsec = (task c t).ovrConsec + 1)
        ∧ (limit → taskCls c t ≠ .e → (task c' t).st = .idle ∧ (task c' t).ovrConsec = 0 ∧ (task c' t).limitAct = true)
        ∧ (¬limit → (task c' t).st = .idle ∧ (task c' t).ovrConsec = (task c t).ovrConsec + 1 ∧ (task c' t).limitAct = (task c t).limitAct)
        ∧ ∀ u, u ≠ t.val → (task c' u).job = (task c u).job))

/-- R120, R68, R71: an armed event that is due is used once: counted as lost by a suspended task, held pending beside an active job, and
otherwise the cause of a release; one not armed or not yet due changes nothing. -/
def Obligations.HardwareTimerEvents : Prop :=
  ∀ (dt : Nat) (e : Fin 4096) (s : State),
    let c := pass dt s.chip
    let x := Map.getD c.tt.hwTimers e.val {}
    let k := task c x.task
    (x.armed = false ∨ c.tt.tn < x.tnEv → Goes (.hwTimerEvent dt e) s c)
    ∧ (releases c = true → x.armed = true → x.tnEv ≤ c.tt.tn → Does (.hwTimerEvent dt e) s (fun c' =>
        (Map.getD c'.tt.hwTimers e.val {}).armed = false ∧ c'.mem = c.mem ∧ c'.tt.tn = c.tt.tn
          ∧ (k.st = .suspended → (task c' x.task).evtLost = (k.evtLost + 1) % 2 ^ 32 ∧ (task c' x.task).job = k.job)
          ∧ (k.st ≠ .suspended → k.job ≠ none → (task c' x.task).evtPend = k.evtPend ||| 64 ∧ (task c' x.task).job = k.job)
          ∧ (∀ tn, (k.st = .idle ∨ k.st = .staged) → k.job = none → k.evtTn = none → k.skip = false → taskCls c x.task = .e →
              relBoundary c x.task = some tn → x.tnEv ≤ tn → k.relTn ≠ some tn →
              ∃ j, (task c' x.task).job = some j ∧ j.tn = tn ∧ bit (Mem.rdLe j.sys 24 4) 6 = true ∧ (task c' x.task).evtPend = 0)))

/-- R233, R241, R242, R160, R262, R272: what a commit does at a current output and at a digital output, and that it touches no other. -/
def Obligations.OutputsReachTheirChannels : Prop :=
  (∀ (ch v : Nat) (c : Chip),
      (ao (pushAo ch v c) ch).committed = Nat.min v 44000
      ∧ ((ao c ch).trans = false → aoOn c ch = true → (ao c ch).subst = false → c.io.fa ≠ 3 → Map.getD c.io.aoWd (ch / 4) false = false →
          (ao (pushAo ch v c) ch).cmd = Nat.min v 44000)
      ∧ ((ao c ch).trans = false → aoOn c ch = false → (ao (pushAo ch v c) ch).cmd = 0)
      ∧ ((ao c ch).trans = false → aoOn c ch = true → (ao c ch).subst = true →
          (ao (pushAo ch v c) ch).cmd = (ao c ch).cmd ∧ (ao (pushAo ch v c) ch).heldCmd = some (Nat.min v 44000))
      ∧ ((ao c ch).trans = true ∨ (aoOn c ch = true ∧ (ao c ch).subst = false ∧ (c.io.fa = 3 ∨ Map.getD c.io.aoWd (ch / 4) false = true)) →
          (ao (pushAo ch v c) ch).cmd = (ao c ch).cmd)
      ∧ ∀ u, u ≠ ch → ao (pushAo ch v c) u = ao c u)
    ∧ ∀ (ch : Nat) (on : Bool) (c : Chip),
      (dov (pushDo ch on c) ch).committed = on
      ∧ (doEn c ch = false → (dov (pushDo ch on c) ch).cmd = false ∧ (dov (pushDo ch on c) ch).closed = false)
      ∧ (doEn c ch = true → fdState c (ch / 8) = 3 ∨ Map.getD c.io.reinit (ch / 8) false = true ∨ Map.getD c.io.hold (ch / 8) false = true →
          (dov (pushDo ch on c) ch).cmd = (dov c ch).cmd ∧ (dov (pushDo ch on c) ch).closed = (dov c ch).closed)
      ∧ (doEn c ch = true → fdState c (ch / 8) ≠ 3 → Map.getD c.io.reinit (ch / 8) false = false → Map.getD c.io.hold (ch / 8) false = false →
          (dov (pushDo ch on c) ch).cmd = on ∧ (on = false → (dov (pushDo ch on c) ch).closed = false)
          ∧ (on = true → (dov c ch).pulse = false → (dov c ch).ovl = false → (dov (pushDo ch on c) ch).closed = true))
      ∧ (pushDo ch on c).io.ao = c.io.ao ∧ ∀ u, u ≠ ch → (dov (pushDo ch on c) u).cmd = (dov c u).cmd ∧ (dov (pushDo ch on c) u).closed = (dov c u).closed

/-- R148 to R152, R160 to R163: the preparation, the catch-up, the partner's DONE, the catch-up limit, and a staged item that settles or
fails to. -/
def Obligations.ThrowEventsTakeTheirSteps : Prop :=
  (∀ dt, Takes (.preparationDone dt) dt (fun c => c.sets.siding = .preparing)
      (fun c => { prepareRetained c with sets := { (prepareRetained c).sets with siding := .named, chgOld := 0 } }))
    ∧ (∀ dt, Takes (.catchupDone dt) dt
      (fun c => c.sets.attempt = true ∧ c.sets.caughtUp = false ∧ c.time.clock ≤ throwLimit c ∧ isPair c = false)
      (fun c => throwNow { c with sets := { c.sets with caughtUp := true } }))
    ∧ (∀ dt, Takes (.catchupDone dt) dt
      (fun c => c.sets.attempt = true ∧ c.sets.caughtUp = false ∧ c.time.clock ≤ throwLimit c ∧ isPair c = true)
      (fun c =>
        let c' := emit (.done c.sets.throwTn) { c with sets := { c.sets with caughtUp := true } }
        if c.sets.doneTn = some c.sets.throwTn then throwNow c' else c'))
    ∧ (∀ dt tn l, Takes (.throwDoneReceived dt tn l) dt (fun c => isPair c = true ∧ c.sets.named = true)
      (fun c =>
        let c' := { c with sets := { c.sets with doneTn := some tn } }
        if c.sets.attempt = true ∧ c.sets.caughtUp = true ∧ c.time.clock ≤ throwLimit c ∧ tn = c.sets.throwTn then throwNow c' else c'))
    ∧ (∀ dt, Takes (.throwCatchupLimit dt) dt (fun c => c.sets.attempt = true)
      (fun c => postpone (if c.sets.caughtUp then 6 else 5) (pass (throwLimit c - c.time.clock) c)))
    ∧ (∀ dt item obj, Takes (.stagedSettled dt item obj) dt
      (fun c => (∃ e ∈ c.sets.trans, (e.1, e.2.1) = (item.val + 1, obj)) ∧ itemSettled c (item.val + 1, obj) = true ∧ c.sets.revertTo = none)
      (fun c => endItem (item.val + 1, obj) c))
    ∧ ∀ dt (item : Fin 8) obj at', Takes (.stagedSettleFail dt item obj) dt
      (fun c => c.sets.trans = [(item.val + 1, obj, at')] ∧ at' + settleNs c (item.val + 1) ≤ c.time.clock ∧ c.sets.revertTo = none
        ∧ c.sets.rollback = false ∧ isPair c = false)
      (fun c => nameThrow (Nat.max (c.tt.tn + 2) (cdiv (c.time.clock + 2 * tTick c * 1000) (tTick c * 1000))) false true none
        (record 0x0352 0x0300 [item.val + 1, obj] c))

/-- R141, R144, R148, R157, R152: the switch of the sets by a throw, and what a postponement leaves, the hundredth among them. -/
def Obligations.ThrowMakesTheSidingSetMain : Prop :=
  (∀ (c : Chip) (side : ConfigSet), c.sets.side = some side → c.sets.rollback = false →
      (throwNow c).sets.main = side ∧ (throwNow c).sets.side = some c.sets.main ∧ (throwNow c).sets.siding = .held
        ∧ (throwNow c).sets.named = false ∧ (throwNow c).sets.attempt = false ∧ (throwNow c).sets.mainTn = c.tt.tn
        ∧ (throwNow c).sets.forces = c.sets.forces.filterMap (forceAfter c.sets.main side)
        ∧ (throwNow c).mem.selMain = c.mem.selSide ∧ (throwNow c).mem.selSide = c.mem.selMain)
    ∧ (∀ (c : Chip) (k : Nat), c.sets.postponed + 1 ≠ 100 →
      (postpone k c).sets.main = c.sets.main ∧ (postpone k c).sets.side = c.sets.side ∧ (postpone k c).sets.forces = c.sets.forces
        ∧ (postpone k c).sets.postponed = c.sets.postponed + 1 ∧ (postpone k c).sets.throwTn = c.tt.tn + 1
        ∧ (postpone k c).sets.named = c.sets.named ∧ (postpone k c).sets.attempt = false)
    ∧ ∀ (c : Chip) (k : Nat), c.sets.postponed + 1 = 100 → c.sets.rollback = false →
      (postpone k c).sets.main = c.sets.main ∧ (postpone k c).sets.side = c.sets.side ∧ (postpone k c).sets.named = false
        ∧ (postpone k c).sets.siding = if c.sets.toHeld then .held else .loaded

/-- R162, R415, R426: proposals of the partner, the partner's answer to the own ones, the time-out of a throw; R156: forces that expire. -/
def Obligations.PairProposalsAndForces : Prop :=
  (∀ dt p, Takes (.throwProposalReceived dt p) dt (fun c => isPair c = true) (fun c =>
      if agrees p c then
        match p with
        | .throw tn f _ => nameThrow tn f (!c.sets.trans.isEmpty) none (emit (.confirm true) c)
        | .load pkg => (loadDone (storeSiding pkg.set .loading (emit (.confirm true) c))).2
        | .cmd tn e => order (tn + 2) e.ofPartner (emit (.confirm true) c)
      else emit (.confirm false) c))
    ∧ (∀ dt tn f w s tag rest, s ≠ 0xFF → Takes (.pairCommandEffect dt true) dt (fun c => c.sup.pairCmds = (tn, .named tn f w, s, tag) :: rest)
      (fun c => nameThrow tn f c.sets.rollback (some (s, tag)) { c with sup := { c.sup with pairCmds := rest } }))
    ∧ (∀ dt tn e s tag rest, e ≠ .loaded → (∀ n f w, e ≠ .named n f w) →
      Takes (.pairCommandEffect dt true) dt (fun c => c.sup.pairCmds = (tn, e, s, tag) :: rest ∧ c.tt.tn < tn + 2)
        (fun c => { c with sup := { c.sup with pairCmds := rest, confirmed := c.sup.confirmed ++ [(tn, e, s, tag)] } })
      ∧ (s ≠ 0xFF → Takes (.pairCommandEffect dt false) dt (fun c => c.sup.pairCmds = (tn, e, s, tag) :: rest)
        (fun c => completeRefused e.cmd s tag 4 { c with sup := { c.sup with pairCmds := rest } })))
    ∧ (∀ dt tn f w s tag rest, s ≠ 0xFF → Takes (.throwProposalTimeout dt) dt
      (fun c => c.sup.pairCmds = (tn, .named tn f w, s, tag) :: rest ∧ bNs c tn + 100000000 ≤ c.time.clock)
      (fun c => completeRefused 0x0304 s tag 4 (record 0x0325 0x0300 []
        { c with sup := { c.sup with pairCmds := rest }, sets := { c.sets with rollback := false } })))
    ∧ ∀ dt s, Does (.forceExpired dt) s (fun c' =>
        (∀ f, f ∈ c'.sets.forces ↔ f ∈ s.chip.sets.forces ∧ ∀ t, f.expiry = some t → bNs s.chip s.chip.tt.tn < t * 1000)
          ∧ c'.sets.main = s.chip.sets.main ∧ c'.tasks = s.chip.tasks ∧ c'.mem = s.chip.mem)

/-- R190 to R192, R206 to R208, R217 to R222: the input check, the start and the end of a job, its deadline, and the agreement of a pair. -/
def Obligations.SageEvents : Prop :=
  (∀ dt (n : Fin 64) d b k v, Takes (.sageInputCheckDone dt n) dt
      (fun c => descOf c.sets.main n = some d ∧ (slot c n).st = .checking
        ∧ checkFail d { (match (slot c n).ops with | some o => copyOps d o (slot c n) | none => slot c n) with ops := none } = some (b, k, v))
      (fun c => sageEnd d n 0x201 0 [n, b, k, unsigned 32 v] [] (updSlot n (fun x =>
        { (match x.ops with | some o => copyOps d o x | none => x) with ops := none, failBlk := b, failElem := k, failVal := v }) c)))
    ∧ (∀ dt (n : Fin 64) d, Takes (.sageInputCheckDone dt n) dt
      (fun c => descOf c.sets.main n = some d ∧ (slot c n).st = .checking ∧ c.time.clock < (slot c n).dl * 1000
        ∧ (∀ o, (slot c n).ops = some o → (copyOps d o (slot c n)).dl = (slot c n).dl)
        ∧ checkFail d { (match (slot c n).ops with | some o => copyOps d o (slot c n) | none => slot c n) with ops := none } = none)
      (fun c => updSlot n (fun x =>
        { (match x.ops with | some o => copyOps d o x | none => x) with ops := none, st := .queued }) c))
    ∧ (∀ dt (e : Fin 8) n, Takes (.sageJobStart dt e) dt
      (fun c => seActive c e = true ∧ (∀ p ∈ c.slots, ¬(p.2.st = .running ∧ p.2.runSe = e.val)) ∧ nextSlot c e = some n
        ∧ ((slot c n).alt ≠ e.val ∨ (slot c n).home = e.val ∨ (slot c n).runSe = e.val))
      (fun c => bump (0x098 + e.val) (updSlot n (fun x =>
        { x with st := .running, runSe := e.val, startNs := c.time.clock, phase := 0 }) c)))
    ∧ (∀ dt (e : Fin 8) n x d, Takes (.sageJobEnd dt e) dt
      (fun c => c.slots.find? (fun p => p.2.st == .running && p.2.runSe == e.val) = some (n, x) ∧ x.orphan = false
        ∧ descOf c.sets.main n = some d ∧ c.time.clock ≤ x.dl * 1000)
      (fun c =>
        let r := solveJob d x
        let c1 := if !reuses d x && !(r.code == 0x202 && r.role == 0x20) then bump (0x0A0 + e.val) c else c
        sageEnd d n r.code r.iter (if r.code = 0x202 then [n, r.role, r.step] else []) (if isErr r.code then [] else r.res)
          (updSlot n (applySolve d r) (if 4 ≤ d.cls then bumpBy (0x0A8 + e.val) r.iter c1 else c1))))
    ∧ (∀ dt (n : Fin 64) d, Takes (.sageDeadline dt n) dt
      (fun c => descOf c.sets.main n = some d ∧ ((slot c n).st = .checking ∨ (slot c n).st = .queued))
      (fun c => sageEnd d n 0x206 0 ([n.val, 0, 0] ++ w64 (slot c n).dl) [] (pass ((slot c n).dl * 1000 - c.time.clock) c)))
    ∧ (∀ dt (n : Fin 64) tag dg o, Takes (.sageOutcomeReceived dt n tag dg o) dt
      (fun c => isPair c = true ∧ (slot c n).partner = none ∧ (slot c n).own = none)
      (fun c => updSlot n (fun x => { x with partner := some (tag, dg, o) }) c))
    ∧ ∀ dt (n : Fin 64) d code it dg tag pdg o, Takes (.sageAgreement dt n) dt
      (fun c => isPair c = true ∧ descOf c.sets.main n = some d ∧ (slot c n).own = some (code, it, dg) ∧ (slot c n).partner = some (tag, pdg, o)
        ∧ tag = (slot c n).tag ∧ o.code ≠ 0x206)
      (fun c =>
        let c1 := updSlot n (fun x => { x with own := none, partner := none }) (pass ((slot c n).dl * 1000 + 50000 - c.time.clock) c)
        if code = 0x206 ∧ isErr o.code = false then
          (if o.res.isEmpty then sageEvent d (record 0x0919 (0x0D00 + n) [] c1)
           else updSlot n (fun x => { x with own := none, partner := none })
             (adoptSage d n o (pass ((slot c n).dl * 1000 + 50000 - c.time.clock) c)))
        else if isErr code then sageEvent d (if code = o.code then c1 else record 0x0919 (0x0D00 + n) [] c1)
        else if isErr o.code = false ∧ dg = pdg then c1 else record 0x0919 (0x0D00 + n) [] c1)

/-- R16 to R20, R489: errors in memory words, weak units and their spares, parity errors, and a NAND block that fails. -/
def Obligations.MemoryAndRegisterErrors : Prop :=
  (∀ dt a k, k < 5 → Takes (.eccUncorrectable dt a none) dt (fun c => memKind a = k ∧ retBlock c a = none)
      (fun c => record 0x0E21 0 (w64 (a % 2 ^ 40) ++ [0xFFFFFFFF, 0, 0]) (bump (0x0C5 + k) c)))
    ∧ (∀ dt a s e, retBlock (pass dt s.chip) a = some e → Does (.eccUncorrectable dt a none) s (fun c' =>
        (curDir c').entries = (curDir (pass dt s.chip)).entries.map (fun x => if x.blockId = e.blockId then { x with valid := false } else x)
          ∧ c'.mem.glb = s.chip.mem.glb ∧ c'.mem.ret = s.chip.mem.ret ∧ c'.tasks = s.chip.tasks))
    ∧ (∀ dt a (t : Fin 256) s j, (task s.chip t).job = some j → taskCls (pass dt s.chip) t ≠ .s →
        Does (.eccUncorrectable dt a (some t)) s (fun c' => (task c' t).job = none ∧ (task c' t).committed = (task s.chip t).committed
          ∧ (task c' t).ovrTotal = ((task s.chip t).ovrTotal + 1) % 2 ^ 32 ∧ c'.mem.glb = s.chip.mem.glb ∧ c'.mem.ret = s.chip.mem.ret))
    ∧ (∀ dt (k : Fin 3) (h : Hit), h.kind = k.val → Takes (.scrubPass dt k [h]) dt (fun c => c.hlth.corrected = [])
        (fun c => bump (0x0CC + k) (bump (0x0C0 + k)
          { c with hlth := { c.hlth with corrected := [(h.pool * 2 ^ 32 + h.unit, [(c.time.clock, h.addr)])] } })))
    ∧ (∀ dt (k : Fin 3) key t₁ t₂ t₃ a₁ a₂ a₃ used, key / 2 ^ 32 / 131072 / 32 = k.val →
        Takes (.scrubPass dt k []) dt (fun c => c.hlth.corrected = [(key, [(t₁, a₁), (t₂, a₂), (t₃, a₃)])]
            ∧ (∀ t ∈ [t₁, t₂, t₃], c.time.clock < t + 86400000000000)
            ∧ Map.getD c.hlth.spareUsed (key / 2 ^ 32) 0 = used ∧ used < poolSize (key / 2 ^ 32))
          (fun c => bump (0x0CC + k) (bump 0x0CB (record 0x0E22 0 (eccWords c a₃ none) { c with hlth := { c.hlth with
            corrected := [], spareUsed := Map.put c.hlth.spareUsed (key / 2 ^ 32) (used + 1)
            mramSpare := if k.val = 2 then c.hlth.mramSpare - 1 else c.hlth.mramSpare } }))))
    ∧ (∀ dt a, Takes (.parityError dt a none) dt (fun _ => True)
        (fun c => { bump 0x0CA c with hlth := { c.hlth with parity := c.hlth.parity ++ [a] } }))
    ∧ (∀ dt a n s, n < 24 → (ceEng s.chip n).st = .reserve → Does (.parityError dt a (some n)) s (fun c' =>
        (ceEng c' n).st = .failed ∧ c'.hlth.se = s.chip.hlth.se ∧ c'.mem = s.chip.mem ∧ ∀ m, m ≠ n → ceEng c' m = ceEng s.chip m))
    ∧ ∀ dt b, Takes (.nandBlockFailure dt b) dt (fun c => b ∉ c.hlth.retired)
        (fun c => advise (record 0x0E61 0x0300 [] { c with hlth := { c.hlth with
          retired := b :: c.hlth.retired, nandRetired := c.hlth.nandRetired + 1, nandSpare := c.hlth.nandSpare - 1 } }))

/-- R21, R23 to R26, R167: what the failure of an engine does, with a reserve and without one. -/
def Obligations.EngineFailures : Prop :=
  (∀ dt (n : Fin 24), Takes (.ceFailed dt n) dt (fun c => (ceEng c n).st = .reserve)
      (fun c => { c with hlth := { c.hlth with ce := Map.upd c.hlth.ce n {} (fun e => { e with st := .failed }) } }))
    ∧ (∀ dt (e : Fin 8), Takes (.seFailed dt e) dt (fun c => (seEng c e).st = .reserve)
      (fun c => { c with hlth := { c.hlth with se := Map.upd c.hlth.se e {} (fun x => { x with st := .failed }) } }))
    ∧ (∀ dt (n : Fin 24) s r, let c := pass dt s.chip
      (ceEng c n).st = .active → reserveCe c n = some r → Map.getD c.hlth.dom (2 + n / 12) .off ≠ .fenced →
      Does (.ceFailed dt n) s (fun c' => (ceEng c' n).st = .failed ∧ (ceEng c' n).subBy = some r ∧ (ceEng c' r).st = .active
        ∧ (∀ m, (ceEng c m).subBy = some n.val → (ceEng c' m).subBy = some r)
        ∧ (∀ m, m ≠ n.val → m ≠ r → (ceEng c' m).st = (ceEng c m).st)
        ∧ c'.mem.glb = c.mem.glb ∧ c'.mem.ret = c.mem.ret ∧ c'.hlth.se = c.hlth.se
        ∧ ((∀ t ∈ jobsOn c n, ∀ j, (task c t).job = some j → j.done = false ∧ c.time.clock + 8200 + wcNs c t ≤ j.dl * 1000) →
            ∀ t ∈ jobsOn c n, ∀ j, (task c t).job = some j → ∃ j', (task c' t).job = some j' ∧ j'.tn = j.tn ∧ j'.relNs = j.relNs
              ∧ j'.dl = j.dl ∧ j'.idx = 0 ∧ j'.journal = [] ∧ j'.staging = (task c t).committed ∧ j'.loc = (task c t).loc)))
    ∧ (∀ dt (n : Fin 24) s, let c := pass dt s.chip
      (ceEng c n).st = .active → reserveCe c n = none → Map.getD c.hlth.dom (2 + n / 12) .off ≠ .fenced →
      Does (.ceFailed dt n) s (fun c' => Map.getD c'.hlth.dom (2 + n / 12) .off = .fenced
        ∧ (∀ i, i < 12 → (ceEng c' (12 * (n / 12) + i)).st = .fenced)
        ∧ (c.sup.mstate ≠ .fault → hasFencePlan c (n / 12) = false → c'.sup.mstate = .fault)
        ∧ (hasFencePlan c (n / 12) = true → n.val / 12 ∈ c'.hlth.fenceDue)))
    ∧ (∀ dt (e : Fin 8) s r, let c := pass dt s.chip
      (seEng c e).st = .active → reserveSe c = some r →
      Does (.seFailed dt e) s (fun c' => (seEng c' e).st = .failed ∧ (seEng c' e).subBy = some r ∧ (seEng c' r).st = .active
        ∧ c'.mem = c.mem ∧ c'.hlth.ce = c.hlth.ce
        ∧ ∀ n, seJob c e = some n → (slot c' n).st = .running ∧ (slot c' n).runSe = r ∧ (slot c' n).factor = false
            ∧ (slot c' n).startNs = c.time.clock ∧ (slot c' n).dl = (slot c n).dl))
    ∧ ∀ dt (e : Fin 8) s, let c := pass dt s.chip
      (seEng c e).st = .active → reserveSe c = none →
      Does (.seFailed dt e) s (fun c' => Map.getD c'.hlth.dom (4 + e / 4) .off = .fenced
        ∧ (∀ i, i < 4 → (seEng c' (4 * (e / 4) + i)).st = .fenced)
        ∧ c'.mem = c.mem ∧ c'.hlth.ce = c.hlth.ce
        ∧ ∀ n, seJob c e = some n → (slot c' n).st = .queued ∧ (slot c' n).factor = false)

/-- R478: the loss of one logic input clears its OK bit and is recorded, its return is recorded, and nothing else changes. -/
def Obligations.LogicInputLossAndReturn : Prop :=
  (∀ dt mv, Takes (.logicInputLost dt .a mv) dt
      (fun c => c.hlth.laOk = true ∧ c.hlth.lbOk = true ∧ mv < 18000 ∧ c.sup.powerFail = none)
      (fun c => bump 0x1DE (record 0x0E41 0 [] { c with hlth := { c.hlth with laOk := false, vlA := Nat.min mv 65535 } })))
    ∧ (∀ dt mv, Takes (.logicInputLost dt .b mv) dt
      (fun c => c.hlth.laOk = true ∧ c.hlth.lbOk = true ∧ mv < 18000 ∧ c.sup.powerFail = none)
      (fun c => bump 0x1DE (record 0x0E41 0 [] { c with hlth := { c.hlth with lbOk := false, vlB := Nat.min mv 65535 } })))
    ∧ (∀ dt mv, Takes (.logicInputRestored dt .a mv) dt (fun c => c.hlth.laOk = false ∧ 18000 ≤ mv ∧ c.sup.mstate ≠ .off)
      (fun c => bump 0x1DE (record 0x0E42 0 [] { c with hlth := { c.hlth with laOk := true, vlA := Nat.min mv 65535 } })))
    ∧ ∀ dt mv, Takes (.logicInputRestored dt .b mv) dt (fun c => c.hlth.lbOk = false ∧ 18000 ≤ mv ∧ c.sup.mstate ≠ .off)
      (fun c => bump 0x1DE (record 0x0E42 0 [] { c with hlth := { c.hlth with lbOk := true, vlB := Nat.min mv 65535 } }))

/-- R27, R28, R476, R511, R392: lockstep mismatch, the oscillators, the loss of a domain and the return of PD11. -/
def Obligations.LockstepOscillatorsAndDomains : Prop :=
  (∀ dt s, s.chip.sup.mstate ≠ .off → s.chip.sup.mstate ≠ .fault → Does (.lockstepMismatch dt) s (fun c' =>
      c'.sup.mstate = .fault ∧ c'.mem.glb = s.chip.mem.glb ∧ c'.mem.ret = s.chip.mem.ret
        ∧ ∀ t ∈ usedTasks s.chip, (task c' t).st = .halted ∧ (task c' t).job = none))
    ∧ (∀ dt (n : Fin 3) a, Takes (.tcxoStopped dt n) dt
        (fun c => c.time.tcxo = n.val ∧ c.time.tcxo2 = some a ∧ c.time.cold = none)
        (fun c => record 0x0E31 0 [] { c with time := { c.time with tcxo := a, tcxo2 := none } }))
    ∧ (∀ dt (n : Fin 3) a b, Takes (.tcxoDrift dt n) dt
        (fun c => c.time.tcxo = n.val ∧ c.time.tcxo2 = some a ∧ c.time.cold = some b)
        (fun c => emit (.maintenance 0x0E14 0) (spareExhausted 0 6
          (record 0x0E31 0 [] { c with time := { c.time with tcxo := a, tcxo2 := some b, cold := none } }))))
    ∧ (∀ dt (n : Fin 3) s a, s.chip.time.tcxo2 = some a → s.chip.time.cold = none → s.chip.time.tcxo = n.val ∨ a = n.val →
        s.chip.sup.mstate ≠ .off → s.chip.sup.mstate ≠ .fault → Does (.tcxoDrift dt n) s (fun c' => c'.sup.mstate = .fault))
    ∧ (∀ dt (n : Fin 12) s, s.chip.sup.mstate ≠ .off → Map.getD s.chip.hlth.dom n .off = .on →
        let c := record 0x0E44 (0x0F00 + n) [n]
          { pass dt s.chip with hlth := { (pass dt s.chip).hlth with dom := Map.put (pass dt s.chip).hlth.dom n .fault } }
        (n.val = 0 → Goes (.domainFault dt n) s (powerDown c))
        ∧ (n.val = 8 → (∀ ch, ch < 4 → canMode c ch = 0) → Goes (.domainFault dt n) s c)
        ∧ (n.val = 4 ∨ n.val = 5 → Goes (.domainFault dt n) s (fenceSe (n - 4) c))
        ∧ (n.val = 9 → Goes (.domainFault dt n) s (aoStrap 1 (aoStrap 0 c)))
        ∧ (n.val = 10 → Does (.domainFault dt n) s (fun c' => (∀ g, g < 4 → Map.getD c'.io.diDown g 0 = 101) ∧ c'.io.ao = c.io.ao
            ∧ ∀ ch, ch < 24 → doEn c ch = true → (dov c' ch).wd = true))
        ∧ (n.val = 11 → Goes (.domainFault dt n) s (displayLost c))
        ∧ (n.val = 1 ∨ n.val = 6 → Goes (.domainFault dt n) s (enterFault c))
        ∧ (n.val = 2 ∨ n.val = 3 → Does (.domainFault dt n) s (fun c' => Map.getD c'.hlth.dom n .off = .fenced
            ∧ ∀ i, i < 12 → (ceEng c' (12 * (n - 2) + i)).st = .fenced))
        ∧ (n.val = 7 → Goes (.domainFault dt n) s { enterFault c with tt := { (enterFault c).tt with ticking := false } }))
    ∧ ∀ dt, Takes (.domainRestored dt) dt (fun c => Map.getD c.hlth.dom 11 .off = .fault)
        (fun c => displayReturn { c with hlth := { c.hlth with dom := Map.put c.hlth.dom 11 .on } })

/-- R482: which stage a temperature leads to from which, the 100 ms of stage 4, and what entering and leaving the stages does. -/
def Obligations.ThermalStages : Prop :=
  ∀ (dt : Nat) (die board mem : Int) (s : State), s.chip.sup.mstate ≠ .off → s.chip.hlth.stage ≤ 4 →
    let c := pass dt s.chip
    let entry : Nat → Int := fun k => if k = 1 then 105 else if k = 2 then 110 else if k = 3 then 115 else 125
    let hot := 125 ≤ die ∧ c.hlth.critAt.getD c.time.clock + 100000000 ≤ c.time.clock
    Does (.thermalSample dt die board mem) s (fun c' =>
      c'.hlth.tDie = die ∧ c'.hlth.tBoard = board ∧ c'.hlth.tMem = mem
        ∧ c'.hlth.critAt = (if 125 ≤ die then some (c.hlth.critAt.getD c.time.clock) else none)
        ∧ c'.hlth.stage ≤ 4
        ∧ (∀ k, k ≤ 3 → 1 ≤ k → entry k ≤ die → k ≤ c'.hlth.stage)
        ∧ (hot → c'.hlth.stage = 4)
        ∧ (¬hot → c.hlth.stage < c'.hlth.stage → c'.hlth.stage ≤ 3 ∧ entry c'.hlth.stage ≤ die)
        ∧ (c'.hlth.stage < c.hlth.stage → ∀ k, c'.hlth.stage < k → k ≤ c.hlth.stage → die ≤ entry k - 5)
        ∧ (c'.hlth.stage = c.hlth.stage → 1 ≤ c.hlth.stage → c.hlth.stage ≤ 4 → entry c.hlth.stage - 5 < die)
        ∧ (isPair c = false → c.hlth.stage < 2 → 2 ≤ c'.hlth.stage → c'.hlth.shed = true)
        ∧ (isPair c = false → 2 ≤ c.hlth.stage → c'.hlth.stage < 2 → c'.hlth.shed = false)
        ∧ (c'.hlth.stage = c.hlth.stage → c'.hlth.shed = c.hlth.shed ∧ c'.sup = c.sup ∧ c'.tasks = c.tasks ∧ c'.thy = c.thy)
        ∧ (c.hlth.stage ≠ 4 → c'.hlth.stage = 4 → c.sup.mstate = .run → c'.sup.mstate = .trip)
        ∧ c'.mem.glb = c.mem.glb ∧ c'.mem.ret = c.mem.ret ∧ c'.time.clock = c.time.clock)

/-- R479, R480: what the warning stops and what it leaves, and what the end of the sequence leaves. -/
def Obligations.PowerFailSequence : Prop :=
  (∀ dt s, s.chip.sup.mstate ≠ .off → s.chip.sup.powerFail = none → Does (.powerFailWarning dt) s (fun c' =>
      c'.sup.powerFail = some (pass dt s.chip).time.clock ∧ c'.sup.mstate = s.chip.sup.mstate
        ∧ (∀ t ∈ usedTasks s.chip, ∀ j, (task c' t).job = some j → j.done = true ∧ (task s.chip t).job = some j)
        ∧ (∀ t, (task c' t).staged = (task s.chip t).staged) ∧ c'.sets.named = false ∧ c'.sets.attempt = (s.chip.sets.attempt && !s.chip.sets.named)
        ∧ c'.sets.main = s.chip.sets.main ∧ c'.mem.glb = s.chip.mem.glb ∧ c'.mem.ret = s.chip.mem.ret))
    ∧ (∀ dt s, s.chip.sup.powerFail = none → Goes (.powerFailSafeCommit dt) s (pass dt s.chip))
    ∧ ∀ dt s t, s.chip.sup.powerFail = some t → Does (.powerFailSafeCommit dt) s (fun c' =>
        let at' := Nat.max (pass dt s.chip).time.clock (t + 10000000) + 2500000
        c'.sup.mstate = .off ∧ c'.mbx.sess = [] ∧ c'.tasks = [] ∧ c'.mem.glb = [] ∧ c'.mem.ret = s.chip.mem.ret
          ∧ c'.mem.savedClock = at' ∧ c'.mem.savedFreq = s.chip.time.learned ∧ c'.mem.savedTcxo = some s.chip.time.tcxo
          ∧ c'.mem.save = s.chip.mem.save ∧ c'.mem.selMain = s.chip.mem.selMain ∧ c'.mem.selSide = s.chip.mem.selSide
          ∧ c'.mem.selDir = s.chip.mem.selDir ∧ c'.time.clock = at' ∧ c'.sets.live = s.chip.sets.live)

/-- R486, R487: the hourly update of the ledgers with its advisories, the equivalent hours, and the daily copy. -/
def Obligations.WearLedgers : Prop :=
  (∀ (dt : Nat) (capC boostC : Int) (pe wr : Nat) (age : Int) (drift : List Int), Takes (.wearLedgerUpdate dt capC boostC pe wr age drift) dt (fun _ => True)
      (fun c => advise { c with hlth := { c.hlth with
        opHours := (c.hlth.opHours + 1) % 2 ^ 32
        capEq := c.hlth.capEq + (c.hlth.eqFrac.1 + eqHour capC) / 10 ^ 12
        boostEq := c.hlth.boostEq + (c.hlth.eqFrac.2 + eqHour boostC) / 10 ^ 12
        eqFrac := ((c.hlth.eqFrac.1 + eqHour capC) % 10 ^ 12, (c.hlth.eqFrac.2 + eqHour boostC) % 10 ^ 12)
        nandPe := pe, mramWr := wr, tcxoAge := age
        drift := ((List.range 32).zip drift).foldl (fun m p => Map.put m p.1 p.2) c.hlth.drift } }))
    ∧ (eqHour 125 = 10 * 10 ^ 12 ∧ ∀ t : Int, t ≤ 125 → eqHour (t - 10) = eqHour t / 2)
    ∧ (∀ (c : Chip) a v, (a, v, true) ∈ advisoryList c → a ∉ c.hlth.advisories →
        a ∈ (advise c).hlth.advisories ∧ c.hlth.advisories ⊆ (advise c).hlth.advisories)
    ∧ (∀ c : Chip, (∀ e ∈ advisoryList c, e.2.2 = true → e.1 ∈ c.hlth.advisories) → advise c = c)
    ∧ ∀ dt s, Does (.wearLedgerNandCopy dt) s (fun c' => ∃ l, c' = { pass dt s.chip with mem := { (pass dt s.chip).mem with
        wearCopies := l :: (pass dt s.chip).mem.wearCopies } } ∧ l.length = 42)

/-- R230, R231, R239, R240: what a conversion leaves, the precedence of the status codes, and the substitution of a front end. -/
def Obligations.AnalogueInputRows : Prop :=
  (∀ dt (ch : Fin 24) n lim mis, Takes (.aiConversion dt ch n lim mis) dt
      (fun c => aiIsOn c ch = false ∨ (ai c ch).subst = true ∨ c.io.fa = 3) id)
    ∧ (∀ dt (ch : Fin 24) n lim mis s, let c := pass dt s.chip; let a := ai c ch
      aiIsOn c ch = true → a.subst = false → c.io.fa ≠ 3 → cfg c (0x3000 + ch) 1 15 13 = 0 →
      Does (.aiConversion dt ch n lim mis) s (fun c' => let b := ai c' ch
        let open_ := cfg c (0x3000 + ch) 1 2 0 = 1 ∨ cfg c (0x3000 + ch) 1 4 3 = 2
        b.meas = Nat.min n 48000
          ∧ b.range = (if 7600 ≤ b.meas ∧ b.meas ≤ 41000 then 0 else if 7200 ≤ b.meas ∧ b.meas < 7600 then 1
              else if 41000 < b.meas ∧ b.meas ≤ 42000 then 2 else 3)
          ∧ (a.isOpen = false → 1000 ≤ n ∨ ¬open_ → b.isOpen = false ∧ b.openCnt = 0)
          ∧ (a.isOpen = false → n < 1000 → open_ → a.openCnt = 3 → b.isOpen = true)
          ∧ (a.isOpen = false → n < 1000 → open_ → a.openCnt < 3 → b.isOpen = false ∧ b.openCnt = a.openCnt + 1)
          ∧ (a.isOpen = true → n < 2000 → b.isOpen = true ∧ b.openCnt = 0)
          ∧ (a.isOpen = true → 2000 ≤ n → a.openCnt = 3 → b.isOpen = false)
          ∧ b.status = aiStatus c ch b ∧ b.value = aiValue c ch b b.status
          ∧ c'.io.ao = c.io.ao ∧ c'.io.di = c.io.di ∧ c'.mem = c.mem ∧ ∀ u, u ≠ ch.val → ai c' u = ai c u))
    ∧ (∀ (c : Chip) ch a, let st := aiStatus c ch a
      (a.trans = true → st = 0x08) ∧ (a.trans = false → a.subst = true → st = 0x07)
      ∧ (a.trans = false → a.subst = false → (aiIsOn c ch = false → st = 0x0A) ∧ (aiIsOn c ch = true →
        (a.miswire = true → st = 0x05) ∧ (a.miswire = false → a.short = true → st = 0x04)
        ∧ (a.miswire = false → a.short = false → (a.afe = true → st = 0x06) ∧ (a.afe = false → a.isOpen = true → st = 0x03)
          ∧ (a.afe = false → a.isOpen = false → aiMulti c ch = true → st = 0x09)
          ∧ (a.afe = false → a.isOpen = false → aiMulti c ch = false →
              st = if a.ne43 = 2 then 0x02 else if a.ne43 = 1 then 0x01 else 0)))))
    ∧ (∀ dt (ch : Fin 24) ua s, let c := pass dt s.chip
      aiIsOn c ch = true → spareSt c (ch / 8) = .reserve → (ai c ch).subst = false → (ai c ch).onSpare = false → c.io.fa < 2 → 240 < ua →
      Does (.spareComparison dt ch ua) s (fun c' => (ai c' ch).subst = true ∧ spareSt c' (ch / 8) = .inUse
        ∧ ((ai c ch).trans = false → (ai c' ch).status = 0x07)
        ∧ c'.io.ao = c.io.ao ∧ c'.mem = c.mem ∧ ∀ u, u ≠ ch.val → ai c' u = ai c u))
    ∧ (∀ dt (ch : Fin 24) ua, ua ≤ 24 → Takes (.spareComparison dt ch ua) dt
      (fun c => aiIsOn c ch = true ∧ spareSt c (ch / 8) = .reserve ∧ (ai c ch).subst = false ∧ c.io.fa ≠ 3)
      (updAi ch (fun a => { a with driftN := 0 })))
    ∧ (∀ dt (ch : Fin 24) s, let c := pass dt s.chip
      aiIsOn c ch = true → spareSt c (ch / 8) = .reserve → (ai c ch).subst = false → (ai c ch).onSpare = false → c.io.fa < 2 →
      Does (.afeMonitorFault dt ch) s (fun c' => (ai c' ch).subst = true ∧ spareSt c' (ch / 8) = .inUse ∧ c'.mem = c.mem))
    ∧ ∀ dt (ch : Fin 24) n s, let c := pass dt s.chip
      aiIsOn c ch = true → (ai c ch).subst = true → c.io.fa ≠ 3 → spareSt c (ch / 8) = .inUse →
      Does (.aiSubstitutionDone dt ch n) s (fun c' => (ai c' ch).subst = false ∧ (ai c' ch).afe = false ∧ (ai c' ch).onSpare = true
        ∧ c'.mem = c.mem ∧ c'.io.ao = c.io.ao)

/-- R234, R237, R241: the verification of an output against its readback, the spare driver, and the watchdog of a group. -/
def Obligations.AnalogueOutputRows : Prop :=
  (∀ dt (ch : Fin 8) rb (h : Int) s, let c := pass dt s.chip; let a := ao c ch
      Does (.aoReadbackSample dt ch rb h) s (fun c' => let b := ao c' ch
        b.rb = rb % 65536 ∧ b.head = Nat.min h.toNat 65535 ∧ b.cmd = a.cmd ∧ b.committed = a.committed
          ∧ (aoOn c ch = true → a.subst = false → a.trans = false → c.io.fa ≠ 3 → ∀ n₁ n₂ n₃ b₁ b₂ b₃, a.cnts = [n₁, n₂, n₃] →
              a.conds = [b₁, b₂, b₃] →
              b.conds = [(verify n₁ b₁ (decide (2000 ≤ a.cmd ∧ rb < 1000 ∧ h < 300))).2,
                         (verify n₂ b₂ (decide (h < 1500 ∧ rb + 400 < a.cmd))).2, (verify n₃ b₃ (decide (a.cmd + 400 < rb))).2]
              ∧ b.cnts = [(verify n₁ b₁ (decide (2000 ≤ a.cmd ∧ rb < 1000 ∧ h < 300))).1,
                         (verify n₂ b₂ (decide (h < 1500 ∧ rb + 400 < a.cmd))).1, (verify n₃ b₃ (decide (a.cmd + 400 < rb))).1])
          ∧ (aoOn c ch = false ∨ a.subst = true → b.conds = a.conds ∧ b.cnts = a.cnts)
          ∧ c'.io.ai = c.io.ai ∧ c'.mem = c.mem ∧ ∀ u, u ≠ ch.val → ao c' u = ao c u))
    ∧ (∀ n, verify n false true = if 39 ≤ n.1 then ((0, 0), true) else ((n.1 + 1, 0), false))
    ∧ (∀ n, verify n true false = if 39 ≤ n.2 then ((0, 0), false) else ((0, n.2 + 1), true))
    ∧ (∀ n, (verify n false false).2 = false ∧ (verify n false false).1.1 = 0 ∧ (verify n true true).2 = true ∧ (verify n true true).1.2 = 0)
    ∧ (∀ dt (ch : Fin 8) s, let c := pass dt s.chip; let g := 3 + ch / 4
      aoOn c ch = true → (ao c ch).subst = false → (ao c ch).onSpare = false → c.io.fa < 2 → spareSt c g = .reserve →
      Does (.aoDrvFault dt ch) s (fun c' => (ao c' ch).subst = true ∧ (ao c' ch).drv = true ∧ (ao c' ch).cmd = (ao c ch).cmd
        ∧ spareSt c' g = .inUse ∧ c'.io.ai = c.io.ai ∧ c'.mem = c.mem ∧ ∀ u, u ≠ ch.val → ao c' u = ao c u))
    ∧ (∀ dt (ch : Fin 8) s v, let c := pass dt s.chip
      aoOn c ch = true → (ao c ch).subst = true → (ao c ch).trans = false → (ao c ch).heldCmd = some v → c.io.fa ≠ 3 →
      Map.getD c.io.aoWd (ch / 4) false = false → spareSt c (3 + ch / 4) = .inUse →
      Does (.aoSubstitutionDone dt ch) s (fun c' => (ao c' ch).subst = false ∧ (ao c' ch).drv = false ∧ (ao c' ch).onSpare = true
        ∧ (ao c' ch).heldCmd = none ∧ (ao c' ch).cmd = Nat.min v 44000 ∧ ∀ u, u ≠ ch.val → ao c' u = ao c u))
    ∧ ∀ dt (g : Fin 2) s, let c := pass dt s.chip; let due := Map.getD c.io.refresh g 0 + cfg c 0x3030 (g + 1) 31 0 * 1000
      (c.time.clock < due → Goes (.aoWatchdogExpired dt g) s c)
      ∧ (due ≤ c.time.clock → c.io.fa ≠ 3 → Map.getD c.io.aoWd g false = false → Does (.aoWatchdogExpired dt g) s (fun c' =>
        Map.getD c'.io.aoWd g false = true ∧ c'.io.ai = c.io.ai ∧ c'.io.dout = c.io.dout ∧ c'.mem = c.mem
          ∧ (∀ ch, ch < 8 → ch / 4 = g.val → aoOn c ch = true → (ao c' ch).cmd = if Map.getD c.io.fdsHigh g false then 43000 else 7000)
          ∧ (∀ ch, ch / 4 = g.val → aoOn c ch = false → (ao c' ch).cmd = (ao c ch).cmd)
          ∧ ∀ ch, ch / 4 ≠ g.val → ao c' ch = ao c ch))

/-- R242, R272, R273: what each change of FA+ and of the FD+ of a group does. -/
def Obligations.FieldSupplyRows : Prop :=
  let fa (st mv : Nat) (c : Chip) : Chip := { c with io := { c.io with fa := st, faMv := mv } }
  let fd (g st mv : Nat) (c : Chip) : Chip :=
    refreshGroup g { c with io := { c.io with fd := Map.put c.io.fd g st, fdMv := Map.put c.io.fdMv g (Nat.min mv 65535) } }
  (∀ dt mv, mv < 20400 → Takes (.faLow dt mv) dt (fun c => c.io.fa = 0) (fun c => record 0x0620 0 [] (bump 0x1DA (bump 0x113 (fa 1 mv c)))))
    ∧ (∀ dt mv, 21000 ≤ mv → Takes (.faLowCleared dt mv) dt (fun c => c.io.fa ≠ 3) (fa 0 mv))
    ∧ (∀ dt mv, mv < 16000 → Takes (.faSag dt mv) dt (fun c => c.io.fa < 2) (fun c =>
        let c1 := record 0x0621 0 [] (bump 0x113 (fa 2 mv c))
        if cfgb c1 0x3184 4 8 then raiseEvt 5 (cfg c1 0x3184 4 7 0) c1 else c1))
    ∧ (∀ dt mv s, mv < 12000 → s.chip.io.fa ≠ 3 → Does (.faReset dt mv) s (fun c' => c'.io.fa = 3 ∧ c'.io.faMv = mv ∧ c'.mem = s.chip.mem
        ∧ (∀ ch, ch < 8 → (ao c' ch).cmd = 0 ∧ (ao c' ch).committed = (ao s.chip ch).committed) ∧ ∀ ch, ch < 24 → (ai c' ch).afe = true))
    ∧ (∀ dt mv s, 18000 < mv → s.chip.io.fa = 3 → Does (.faRecovered dt mv) s (fun c' => c'.io.fa = (if mv < 20400 then 1 else 0)
        ∧ c'.mem = s.chip.mem ∧ (∀ ch, ch < 24 → (ai c' ch).afe = false)
        ∧ ∀ ch, ch < 8 → aoOn s.chip ch = true → (ao s.chip ch).trans = false → (ao s.chip ch).subst = false →
            Map.getD s.chip.io.aoWd (ch / 4) false = false → (ao c' ch).cmd = Nat.min (ao s.chip ch).committed 44000))
    ∧ (∀ dt (g : Fin 3) mv, mv < 19200 → Takes (.fdLow dt g mv) dt (fun c => fdState c g = 0)
        (fun c => record 0x0660 (0x0A20 + 8 * g) [] (bump 0x1DA (fd g 1 mv c))))
    ∧ (∀ dt (g : Fin 3) mv, 20000 ≤ mv → Takes (.fdLowCleared dt g mv) dt (fun c => fdState c g ≠ 3) (fd g 0 mv))
    ∧ (∀ dt (g : Fin 3) mv, mv < 16000 → Takes (.fdSag dt g mv) dt (fun c => fdState c g < 2) (fun c =>
        let c1 := record 0x0661 (0x0A20 + 8 * g) [] (fd g 2 mv c)
        if cfgb c1 0x3184 (g + 1) 8 then raiseEvt 5 (cfg c1 0x3184 (g + 1) 7 0) c1 else c1))
    ∧ (∀ dt (g : Fin 3) mv, 17000 ≤ mv → Takes (.fdSagCleared dt g mv) dt (fun c => fdState c g = 2)
        (fd g (if mv < 20000 then 1 else 0) mv))
    ∧ (∀ dt (g : Fin 3) mv s, mv < 12000 → fdState s.chip g ≠ 3 → Does (.fdReset dt g mv) s (fun c' => fdState c' g = 3
        ∧ (∀ ch, ch / 8 = g.val → (dov c' ch).closed = false ∧ (dov c' ch).cmd = false ∧ (dov c' ch).ovl = false
            ∧ (dov c' ch).committed = (dov s.chip ch).committed)
        ∧ (∀ ch, ch / 8 ≠ g.val → (dov c' ch).closed = (dov s.chip ch).closed ∧ (dov c' ch).cmd = (dov s.chip ch).cmd)
        ∧ c'.io.ao = s.chip.io.ao ∧ c'.mem = s.chip.mem))
    ∧ ∀ dt (g : Fin 3) mv s, 18000 < mv → fdState s.chip g = 3 → Does (.fdRecovered dt g mv) s (fun c' =>
        fdState c' g = (if mv < 19200 then 1 else 0) ∧ Map.getD c'.io.reinit g false = true
          ∧ (cfgb s.chip 0x3182 (g + 1) 16 = true → Map.getD c'.io.hold g false = true)
          ∧ (cfgb s.chip 0x3182 (g + 1) 16 = false → Map.getD c'.io.hold g false = Map.getD s.chip.io.hold g false)
          ∧ (∀ ch, (dov c' ch).closed = (dov s.chip ch).closed ∧ (dov c' ch).cmd = (dov s.chip ch).cmd) ∧ c'.mem = s.chip.mem)

/-- R254, R256, R257, R260: one sample of one input, and the supply of a DI group. -/
def Obligations.DigitalInputRows : Prop :=
  (∀ dt (raw bad : BitVec 32) s ch, ch < 32 → let c := pass dt s.chip
      let a := div c ch; let w := 0x3100 + ch; let n := cfg c w 1 15 6; let s1 := raw.getLsbD ch
      diEn c ch = true → diDown c (ch / 8) ≠ 101 → 1 ≤ n → a.c ≤ n →
      Does (.diSample dt raw [] bad) s (fun c' => let b := div c' ch; let edge := a.y != b.y
        b.c = (if s1 then Nat.min (a.c + 1) n else a.c - 1)
          ∧ b.tUp = (if s1 = true ∧ a.c = 0 then a.lastUp else a.tUp) ∧ b.tDn = (if s1 = false ∧ a.c = n then a.lastDn else a.tDn)
          ∧ (b.y = true ↔ b.c = n ∨ (a.y = true ∧ b.c ≠ 0))
          ∧ b.tsRise = (if a.y = false ∧ b.y = true then b.tUp else a.tsRise)
          ∧ b.tsFall = (if a.y = true ∧ b.y = false then b.tDn else a.tsFall)
          ∧ b.count = (if edge = true ∧ ((b.y = true ∧ cfg c w 1 2 2 = 1) ∨ (b.y = false ∧ cfg c w 1 3 3 = 1)) then (a.count + 1) % 2 ^ 32
              else a.count)
          ∧ (edge = true → cfgb c w 1 1 = true → b.caught = some (a.caught.getD b.y)) ∧ (edge = false → b.caught = a.caught)
          ∧ (cfgb c w 1 1 = false → b.caught = a.caught)
          ∧ (bad.getLsbD ch = true → b.fault = true)
          ∧ (bad.getLsbD ch = false → b.fault = (a.fault && decide (a.passes < 9)))
          ∧ c'.io.ai = c.io.ai ∧ c'.io.ao = c.io.ao ∧ c'.mem = c.mem ∧ c'.tasks = c.tasks ∧ c'.tt = c.tt))
    ∧ (∀ dt (raw bad : BitVec 32) s ch, diEn s.chip ch = false ∨ diDown s.chip (ch / 8) = 101 →
        Does (.diSample dt raw [] bad) s (fun c' => div c' ch = div s.chip ch))
    ∧ (∀ dt (e : Edge) s, Does (.diSample dt 0 [e] 0) s (fun c' =>
        (e.high = true → diEn s.chip e.c = false → (div c' e.c).lastUp = e.t) ∧ (e.high = false → diEn s.chip e.c = false → (div c' e.c).lastDn = e.t)))
    ∧ (∀ dt (g : Fin 4), Takes (.diGroupSupplyLost dt g) dt (fun c => diDown c g ≠ 101)
        (fun c => record 0x0640 (0x0A00 + 8 * g) [] { c with io := { c.io with diDown := Map.put c.io.diDown g 101 } }))
    ∧ ∀ dt (g : Fin 4) s, diDown s.chip g = 101 → Does (.diGroupSupplyRestored dt g) s (fun c' => diDown c' g = 100
        ∧ (∀ ch, ch / 8 = g.val → (div c' ch).c = 0 ∧ (div c' ch).y = false ∧ (div c' ch).tsRise = 0 ∧ (div c' ch).tsFall = 0
            ∧ (div c' ch).count = 0)
        ∧ (∀ ch, ch / 8 ≠ g.val → div c' ch = div s.chip ch) ∧ c'.mem = s.chip.mem ∧ c'.io.ao = s.chip.io.ao)

/-- R260, R262, R265, R266, R268, R269: samples of an output, overload and retry, the off-pulse, the load windows, the watchdog. -/
def Obligations.DigitalOutputRows : Prop :=
  (∀ dt (rb lim : BitVec 24) ma s ch, ch < 24 → let c := pass dt s.chip; let d := dov c ch; let g := fdState c (ch / 8)
      Does (.doReadbackSample dt rb lim ma) s (fun c' => let e := dov c' ch
        let seen := doEn c ch = true ∧ d.blankTo ≤ c.time.clock ∧ d.pulse = false ∧ g ≠ 3
        e.rb = rb.getLsbD ch ∧ e.ma = Nat.min (ma.getD ch 0) 1500 ∧ e.cmd = d.cmd ∧ e.closed = d.closed ∧ e.committed = d.committed
          ∧ (seen → d.cmd = true → d.closed = true → rb.getLsbD ch = false → lim.getLsbD ch = false → g = 0 → 9 ≤ d.cnt → e.swFault = true)
          ∧ (seen → d.cmd = true → d.swFault = false → d.cnt < 9 ∨ rb.getLsbD ch = true → e.swFault = false)
          ∧ (seen → d.cmd = true → rb.getLsbD ch = true → g < 2 → 9 ≤ d.clr → e.swFault = false)
          ∧ (seen → d.cmd = false → cfgb c (0x3140 + ch) 1 13 = false → rb.getLsbD ch = true → 9 ≤ d.cnt → e.extHigh = true)
          ∧ (cfgb c (0x3140 + ch) 1 13 = true → d.extHigh = false → e.extHigh = false)
          ∧ (doEn c ch = true → d.ovl = true → d.closed = true → lim.getLsbD ch = false → (∃ t, d.onSince = some t ∧ t + 100000000 ≤ c.time.clock) →
              e.ovl = false)
          ∧ (d.ovl = false → e.ovl = false) ∧ (lim.getLsbD ch = true → e.ovl = d.ovl)
          ∧ c'.io.ao = c.io.ao ∧ c'.io.di = c.io.di ∧ c'.mem = c.mem))
    ∧ (∀ dt (ch : Fin 24) s, let c := pass dt s.chip
      doEn c ch = true → (dov c ch).closed = true → Does (.doOverload dt ch) s (fun c' => (dov c' ch).closed = false ∧ (dov c' ch).ovl = true
        ∧ (dov c' ch).latched = cfgb c (0x3140 + ch) 1 12 ∧ (dov c' ch).cmd = (dov c ch).cmd ∧ c'.mem = c.mem
        ∧ ∀ u, u ≠ ch.val → (dov c' u).closed = (dov c u).closed))
    ∧ (∀ dt (ch : Fin 24), Takes (.doOverloadRetry dt ch) dt
      (fun c => doEn c ch = true ∧ (dov c ch).ovl = true ∧ (dov c ch).cmd = true ∧ (dov c ch).closed = false
        ∧ cfgb c (0x3140 + ch) 1 12 = false ∧ fdState c (ch / 8) ≠ 3)
      (fun c => updDo ch (fun d => { d with closed := true, onSince := some c.time.clock, onAt := c.time.clock }) c))
    ∧ (∀ dt (ch : Fin 24), Takes (.offPulseStart dt ch) dt
      (fun c => let p := cfg c 0x3182 (ch / 8 + 1) 15 10 * 1000000 / tTick c
        cfgb c (0x3140 + ch) 1 15 = true ∧ doEn c ch = true ∧ (dov c ch).cmd = true ∧ (dov c ch).closed = true ∧ fdState c (ch / 8) < 2
          ∧ p ≠ 0 ∧ c.tt.tn % p = ch.val)
      (fun c => updDo ch (fun d => { d with pulse := true, closed := false }) (pass (bNs c c.tt.tn + tTick c * 250 - c.time.clock) c)))
    ∧ (∀ dt (ch : Fin 24) rb s, let c := pass dt s.chip
      (dov c ch).pulse = true → Does (.offPulseEnd dt ch rb) s (fun c' => (dov c' ch).pulse = false ∧ (dov c' ch).closed = true
        ∧ (fdState c (ch / 8) < 2 → (dov c' ch).stuck = rb) ∧ (2 ≤ fdState c (ch / 8) → (dov c' ch).stuck = (dov c ch).stuck)
        ∧ c'.mem = c.mem ∧ ∀ u, u ≠ ch.val → (dov c' u).closed = (dov c u).closed ∧ (dov c' u).stuck = (dov c u).stuck))
    ∧ (∀ dt (ch : Fin 24) ma s, let c := pass dt s.chip; let d := dov c ch
      doEn c ch = true → cfgb c (0x3140 + ch) 1 14 = true → d.closed = true → d.onAt + 60000000 ≤ c.time.clock → d.learn = none → d.hi ≠ 0 →
      Does (.doLoadWindow dt ch ma) s (fun c' => let e := dov c' ch; let out := ma < d.lo ∨ d.hi < ma
        ((out ↔ d.loadDev = true) → e.loadDev = d.loadDev ∧ e.devCnt = 0)
          ∧ (¬(out ↔ d.loadDev = true) → 2 ≤ d.devCnt → e.loadDev = !d.loadDev ∧ e.devCnt = 0)
          ∧ (¬(out ↔ d.loadDev = true) → d.devCnt < 2 → e.loadDev = d.loadDev ∧ e.devCnt = d.devCnt + 1)
          ∧ e.closed = true ∧ e.cmd = d.cmd ∧ e.lo = d.lo ∧ e.hi = d.hi))
    ∧ ∀ dt (g : Fin 3) s, let c := pass dt s.chip; let due := Map.getD c.io.refresh (2 + g) 0 + cfg c 0x3181 (g + 1) 31 0 * 1000
      (c.time.clock < due → Goes (.doWatchdogExpired dt g) s c)
      ∧ (due ≤ c.time.clock → fdState c g ≠ 3 → Does (.doWatchdogExpired dt g) s (fun c' =>
        (∀ ch, ch < 24 → ch / 8 = g.val → doEn c ch = true → (dov c ch).wd = false → (dov c' ch).wd = true
            ∧ (cfg c (0x3140 + ch) 1 3 2 = 0 → (dov c' ch).closed = false ∧ (dov c' ch).cmd = false)
            ∧ (cfg c (0x3140 + ch) 1 3 2 = 1 → (dov c' ch).cmd = true)
            ∧ (cfg c (0x3140 + ch) 1 3 2 = 2 → (dov c' ch).closed = (dov c ch).closed ∧ (dov c' ch).cmd = (dov c ch).cmd))
          ∧ (∀ ch, ch / 8 ≠ g.val → (dov c' ch).closed = (dov c ch).closed ∧ (dov c' ch).cmd = (dov c ch).cmd)
          ∧ c'.io.ao = c.io.ao ∧ c'.mem = c.mem))

/-- R270: a group current above 4.0 A for 100 ms is recorded, and nothing else is done. -/
def Obligations.GroupCurrentIsRecorded : Prop :=
  ∀ (dt : Nat) (g : Fin 3),
    Takes (.doGroupCurrent dt g) dt (fun _ => True) (record 0x0656 (0x0A20 + 8 * g) [])
    ∧ ∀ s, Does (.doGroupCurrent dt g) s (fun c' => c'.io.ai = s.chip.io.ai ∧ c'.io.ao = s.chip.io.ao ∧ c'.io.di = s.chip.io.di
        ∧ c'.tasks = s.chip.tasks ∧ c'.mem = s.chip.mem ∧ c'.tt = s.chip.tt ∧ c'.sup.mstate = s.chip.sup.mstate
        ∧ ∀ ch, (dov c' ch).cmd = (dov s.chip ch).cmd ∧ (dov c' ch).closed = (dov s.chip ch).closed ∧ (dov c' ch).status = (dov s.chip ch).status)

/-- R244, R246, R248: what a response, a missing response and a burst frame do. -/
def Obligations.HartRows : Prop :=
  (∀ dt (h : Fin 32) dev comm data e cmd, Takes (.hartResponse dt h dev comm data) dt (fun c => hartOn c h = false) id
      ∧ Takes (.hartNoResponse dt h) dt (fun c => hartOn c h = false) id
      ∧ Takes (.hartBurstFrame dt h e cmd dev comm data) dt (fun c => hartOn c h = false) id)
    ∧ (∀ dt (h : Fin 32) dev comm data s q rest, let c := pass dt s.chip
      hartOn c h = true → (hch c h).reqNow = true → (hch c h).queue = q :: rest →
      Does (.hartResponse dt h dev comm data) s (fun c' =>
        (hch c' h).ring = ({ tag := q.tag, cmd := q.cmd, rc := comm, st := 2, data := data.take 64, ts := mTime c } :: (hch c h).ring).take 4
          ∧ (hch c' h).queue.length = rest.length ∧ (hch c' h).polls = 0 ∧ (hch c' h).tries = 0 ∧ (hch c' h).recs = (hch c h).recs
          ∧ c'.io.ai = c.io.ai ∧ c'.io.ao = c.io.ao ∧ c'.mem = c.mem))
    ∧ (∀ dt (h : Fin 32) dev comm data s, let c := pass dt s.chip; let e := (hch c h).poll
      hartOn c h = true → (hch c h).reqNow = false → polled c h e = true → (hrec c h e).idDue = false →
      cfg c (0x3400 + h) (e + 1) 30 29 = 0 → 5 ≤ data.length →
      Does (.hartResponse dt h dev comm data) s (fun c' => let r := hrec c' h e
        r.vals.head? = some (beNat ((data.drop 1).take 4)) ∧ r.units % 256 = (data.getD 0 0).toNat ∧ r.ts = mTime c ∧ r.dev = dev ∧ r.comm = comm
          ∧ r.good = true ∧ r.failed = false ∧ (hch c' h).tries = 0 ∧ (hch c' h).ring = (hch c h).ring ∧ c'.mem = c.mem
          ∧ ∀ u, u ≠ e → hrec c' h u = hrec c h u))
    ∧ (∀ dt (h : Fin 32) s, let c := pass dt s.chip; let e := (hch c h).poll
      hartOn c h = true → (hch c h).reqNow = false → polled c h e = true →
      ((hch c h).tries + 1 ≤ cfg c (0x3400 + h) (e + 1) 28 27 → Does (.hartNoResponse dt h) s (fun c' =>
          (hch c' h).tries = (hch c h).tries + 1 ∧ (hch c' h).recs = (hch c h).recs ∧ c'.thy = c.thy))
      ∧ (cfg c (0x3400 + h) (e + 1) 28 27 ≤ (hch c h).tries → Does (.hartNoResponse dt h) s (fun c' =>
          (hrec c' h e).failed = true ∧ (hrec c' h e).vals = (hrec c h e).vals ∧ (hrec c' h e).ts = (hrec c h e).ts ∧ (hch c' h).tries = 0)))
    ∧ ∀ dt (h : Fin 32) (e : Fin 16) cmd dev comm data, Takes (.hartBurstFrame dt h e cmd dev comm data) dt
      (fun c => hartOn c h = true ∧ cfgb c (0x3400 + h) (e + 1) 31 = true ∧ cfgb c (0x3400 + h) (e + 1) 23 = true)
      (fun c => updHrec h e (hartFill cmd dev comm (mTime c) data) c)

/-- R280, R283 to R289, R292 to R294: reception into an object, the choice of a buffer, the ends of a transmission, errors and bus-off. -/
def Obligations.CanRows : Prop :=
  (∀ dt (ch : Fin 4) age f s o, let c := pass dt s.chip; let h := canCh c ch
      h.st.live = true → h.recCnt < 128 → f.rtr = false →
      (List.range 128).find? (fun o => canMatch (setWord c.sets.main (objIx ch o) 1) (setWord c.sets.main (objIx ch o) 2) false f) = some o →
      cfg c (objIx ch o) 3 15 0 = 0 →
      Does (.canFrameReceived dt ch age f) s (fun c' =>
        let x := Map.getD (canCh c' ch).objs o {}
        let y := Map.getD h.objs o {}
        x.seq = (y.seq + 1) % 65536 ∧ x.isNew = true ∧ canCopy x = some { frame := f, seq := x.seq, ts := c.time.clock - age }
          ∧ (x.seq % 2 = 0 → x.slot1 = y.slot1) ∧ (x.seq % 2 = 1 → x.slot0 = y.slot0) ∧ x.cap = y.cap
          ∧ (canCh c' ch).recCnt = h.recCnt - 1 ∧ (canCh c' ch).tec = h.tec
          ∧ (∀ u, u ≠ o → Map.getD (canCh c' ch).objs u {} = Map.getD h.objs u {})
          ∧ (∀ k, k ≠ ch.val → (canCh c' k).objs = (canCh c k).objs ∧ (canCh c' k).tec = (canCh c k).tec)
          ∧ c'.mem = c.mem ∧ c'.io.ao = c.io.ao ∧ c'.tt = c.tt))
    ∧ (∀ (c : Chip) ch bf, cfgb c (0x4000 + ch) 1 6 = false → canChoose c ch = some bf →
      ∃ b f, (bf, b) ∈ (canCh c ch).tx ∧ b.st = 2 ∧ b.frame = some f
        ∧ ∀ k d g, (k, d) ∈ (canCh c ch).tx → d.st = 2 → d.frame = some g → arbKey f ≤ arbKey g)
    ∧ (∀ dt (ch : Fin 4) bf f, Takes (.canArbitration dt ch) dt
      (fun c => canMaySend c ch = true ∧ canChoose c ch = some bf ∧ (txBuf c ch bf).frame = some f ∧ (txBuf c ch bf).retry = false)
      (fun c => emit (.can ch bf { f with
          fdf := cfgb c (0x4000 + ch) 1 2, brs := cfgb c (0x4000 + ch) 1 2 && cfgb c (0x4000 + ch) 1 3, esi := (canCh c ch).st == .errorPassive })
        (updTx ch bf (fun b => { b with busy := true, retry := false }) c)))
    ∧ (∀ dt (ch : Fin 4) s bf, let c := pass dt s.chip
      canBusy c ch = some bf → (txBuf c ch bf).held = none → (canCh c ch).setDue = false →
      Does (.canFrameSent dt ch none) s (fun c' =>
        (txBuf c' ch bf).st = (if (txBuf c ch bf).abort then 0x83 else 3) ∧ (txBuf c' ch bf).busy = false ∧ (txBuf c' ch bf).frame = none
          ∧ (txBuf c' ch bf).tag = (txBuf c ch bf).tag ∧ (canCh c' ch).tec = (canCh c ch).tec - 1
          ∧ (∀ u, u ≠ bf → (txBuf c' ch u).st = (txBuf c ch u).st ∧ (txBuf c' ch u).frame = (txBuf c ch u).frame) ∧ c'.mem = c.mem))
    ∧ (∀ dt (ch : Fin 4) s bf, let c := pass dt s.chip
      canBusy c ch = some bf → (canCh c ch).setDue = false →
      Does (.canArbitrationLost dt ch) s (fun c' => (txBuf c' ch bf).busy = false
        ∧ ((txBuf c ch bf).abort = true → (txBuf c' ch bf).st = 4 ∧ (txBuf c' ch bf).frame = none)
        ∧ ((txBuf c ch bf).abort = false → (txBuf c' ch bf).st = (txBuf c ch bf).st ∧ (txBuf c' ch bf).frame = (txBuf c ch bf).frame
            ∧ (txBuf c' ch bf).retry = true)
        ∧ (canCh c' ch).tec = (canCh c ch).tec ∧ c'.mem = c.mem))
    ∧ (∀ dt (ch : Fin 4) (k : Fin 6) id a b s, let c := pass dt s.chip; let h := canCh c ch
      h.st.live = true → h.setDue = false → canBusy c ch = none →
      Does (.canBusError dt ch k id a b) s (fun c' =>
        (canCh c' ch).tec = Nat.min 255 (h.tec + a) ∧ (canCh c' ch).recCnt = Nat.min 255 (h.recCnt + b)
          ∧ Map.getD (canCh c' ch).viol (k + 1) 0 = (Map.getD h.viol (k + 1) 0 + 1) % 2 ^ 32
          ∧ (256 ≤ h.tec + a → (canCh c' ch).st = (if cfgb c (0x4000 + ch) 1 7 then .busOff else .recovering)
              ∧ (canCh c' ch).busoffs = (h.busoffs + 1) % 2 ^ 32
              ∧ ∀ bf, (txBuf c ch bf).st = 1 ∨ (txBuf c ch bf).st = 2 → (txBuf c' ch bf).st = 5)
          ∧ (h.tec + a < 256 → (canCh c' ch).st.live = true ∧ (canCh c' ch).busoffs = h.busoffs
              ∧ ∀ bf, (txBuf c' ch bf).st = (txBuf c ch bf).st)
          ∧ c'.mem = c.mem ∧ c'.io.ao = c.io.ao))
    ∧ (∀ dt (ch : Fin 4), Takes (.canRecoveryDone dt ch) dt (fun c => (canCh c ch).st = .recovering)
      (fun c => record 0x0702 (0x0B00 + ch) [] (updCan ch (fun h => { h with st := .errorActive, tec := 0, recCnt := 0 }) c)))
    ∧ ∀ dt (ch : Fin 4) s, (canCh s.chip ch).st = .integrating → Does (.canIntegrated dt ch) s (fun c' => (canCh c' ch).st.live = true
        ∧ (canCh c' ch).tx = (canCh s.chip ch).tx ∧ c'.mem = s.chip.mem ∧ c'.thy = s.chip.thy)

/-- R300, R306, R308, R312 to R315, R341: the frames of a tick, which replies count, and the judgement of the exchanges. -/
def Obligations.StationExchangeRows : Prop :=
  (∀ dt, Takes (.zslOutTransmit dt) dt (fun c => sendsOut c = false) id)
    ∧ (∀ dt s, let c := pass dt s.chip
      sendsOut c = true → Does (.zslOutTransmit dt) s (fun c' =>
        c'.out = ((enabledStations c.sets.main).map (fun st =>
            Out.zsl st c.tt.tn (b01 (c.sup.mstate == .trip) + 2 * zslRole c) (cfg c (0x5100 + st) 5 31 0) (outBlock c st (!inRun c))
              (crc32c (outBlock c st (!inRun c))))).reverse ++ c.out
          ∧ c'.net.outTn = some c.tt.tn ∧ c'.time.clock = Nat.max c.time.clock (bNs c c.tt.tn + cfg c 0x2000 2 31 0 * 1000)
          ∧ c'.mem = c.mem ∧ c'.tasks = c.tasks ∧ c'.io = c.io ∧ c'.tt = c.tt
          ∧ ∀ st, (station c' st).st = (station c st).st ∧ (station c' st).last = (station c st).last))
    ∧ (∀ dt p src seq z s, let c := bump (0x190 + p.idx) (pass dt s.chip)
      (∀ hi win t, Map.find c.net.sources src = some (hi, win, t) → (hi + 65536 - seq) % 65536 < 64 → seq ∈ win →
        Does (.zslInFrame dt p src seq z) s (fun c' => c'.net.stations = c.net.stations ∧ c'.net.dups = (c.net.dups + 1) % 2 ^ 32
          ∧ c'.mem = c.mem ∧ c'.io = c.io))
      ∧ (Map.find c.net.sources src = none → c.net.sources.length < 256 → src = stationMac c.sets.main z.station → inHeader c z = true →
        z.tn = c.tt.tn → z.configId = cfg c (0x5100 + z.station) 5 31 0 → isPair c = false →
        (z.digest = crc32c z.block → c.time.clock ≤ bNs c c.tt.tn + cfg c 0x2000 3 31 0 * 1000 → (station c z.station).now = none →
          Does (.zslInFrame dt p src seq z) s (fun c' => (station c' z.station).now = some z ∧ (station c' z.station).echoDig = z.echoDig
            ∧ (station c' z.station).st = (station c z.station).st ∧ Map.find c'.net.sources src = some (seq, [seq], c.time.clock)
            ∧ (∀ u, u ≠ z.station → station c' u = station c u) ∧ c'.mem = c.mem ∧ c'.io.ao = c.io.ao))
        ∧ (z.digest ≠ crc32c z.block ∨ bNs c c.tt.tn + cfg c 0x2000 3 31 0 * 1000 < c.time.clock →
          Does (.zslInFrame dt p src seq z) s (fun c' => ∀ u, (station c' u).now = (station c u).now ∧ (station c' u).st = (station c u).st))))
    ∧ (∀ dt s, let c := pass dt s.chip
      (hasBoundaries c = false ∨ c.tt.ticking = false ∨ c.net.cutTn = some c.tt.tn → Goes (.zslCutoff dt) s c)
      ∧ (hasBoundaries c = true → c.tt.ticking = true → c.net.cutTn ≠ some c.tt.tn → Does (.zslCutoff dt) s (fun c' =>
        c'.net.cutTn = some c.tt.tn ∧ c'.mem = c.mem ∧ c'.io.ao = c.io.ao
          ∧ (∀ st z, st ∈ enabledStations c.sets.main → (station c st).now = some z → (station c st).st = .ok ∨ (station c st).st = .missed →
              (station c' st).st = .ok ∧ (station c' st).miss = 0 ∧ (station c' st).last = some z.block ∧ (station c' st).useSub = false)
          ∧ (∀ st, st ∈ enabledStations c.sets.main → (station c st).now = none → (station c st).st = .ok ∨ (station c st).st = .missed →
              (station c' st).good = 0 ∧ (station c' st).missTotal = ((station c st).missTotal + 1) % 2 ^ 32
              ∧ (station c' st).last = (station c st).last
              ∧ ((station c st).miss + 1 < cfg c (0x5100 + st) 1 15 8 → (station c' st).st = .missed
                  ∧ (station c' st).useSub = (station c st).useSub)
              ∧ (cfg c (0x5100 + st) 1 15 8 ≤ (station c st).miss + 1 → (station c' st).st = .substitute ∧ (station c' st).useSub = true
                  ∧ (station c' st).dropouts = ((station c st).dropouts + 1) % 2 ^ 32))
          ∧ ∀ st, st ∉ enabledStations c.sets.main → station c' st = station c st)))
    ∧ ∀ dt l z, Takes (.zslInForward dt l z true) dt
      (fun c => isPair c = true ∧ c.pair.st ≠ .degraded ∧ inHeader c z = true ∧ z.digest = crc32c z.block ∧ z.tn = c.tt.tn
        ∧ z.configId = cfg c (0x5100 + z.station) 5 31 0 ∧ c.time.clock ≤ bNs c c.tt.tn + cfg c 0x2000 3 31 0 * 1000)
      (takeIn z)

/-- R298, R300 to R302, R316, R317: links, the ring, the ageing of sources, and what a port answers or drops. -/
def Obligations.PortAndRingRows : Prop :=
  let drop (p : Port) (c : Chip) : Chip := bump (0x196 + p.idx) { c with net := { c.net with dropped := (c.net.dropped + 1) % 2 ^ 32 } }
  (∀ dt p up s, (linkOf s.chip p = up → Goes (.netLinkChange dt p up) s (pass dt s.chip))
      ∧ (linkOf s.chip p ≠ up → Does (.netLinkChange dt p up) s (fun c' => linkOf c' p = up ∧ linkOf c' p.other = linkOf s.chip p.other
          ∧ c'.net.stations = s.chip.net.stations ∧ c'.mem = s.chip.mem ∧ c'.tt = s.chip.tt)))
    ∧ (∀ dt p src seq me bad ptp, Takes (.hsrForward dt p src seq me bad ptp) dt
      (fun c => c.net.mode ≠ 1 ∨ src = c.sup.mac ∨ me = true ∨ (p.idx, src, seq) ∈ c.net.forwarded) (bump (0x190 + p.idx)))
    ∧ (∀ dt p src seq s, let c := pass dt s.chip
      c.net.mode = 1 → src ≠ c.sup.mac → (p.idx, src, seq) ∉ c.net.forwarded →
      Does (.hsrForward dt p src seq false false none) s (fun c' => c'.out = .hsrFwd p.other.idx src seq none :: c.out
        ∧ (p.idx, src, seq) ∈ c'.net.forwarded ∧ c'.net.stations = c.net.stations ∧ c'.mem = c.mem ∧ c'.thy = c.thy))
    ∧ (∀ dt open_, Takes (.hsrRingOpen dt open_) dt (fun c => c.net.mode = 1 ∧ c.net.ringOpen ≠ open_)
      (fun c => record (if open_ then 0x0804 else 0x0805) 0x0402 [] { c with net := { c.net with ringOpen := open_ } }))
    ∧ (∀ dt src hi win t, Takes (.sourceAged dt src) dt
      (fun c => Map.find c.net.sources src = some (hi, win, t) ∧ t + 400000000 ≤ c.time.clock)
      (fun c => { c with net := { c.net with
        sources := Map.del c.net.sources src, srcFull := false, forwarded := c.net.forwarded.filter (fun f => f.2.1 != src) } }))
    ∧ (∀ dt p ip src s, let c := pass dt s.chip
      (ip ≠ cfg c 0x5008 1 31 0 → Goes (.arpRequest dt p ip) s (drop p (bump (0x190 + p.idx) c))
        ∧ Goes (.icmpEcho dt p ip src) s (drop p (bump (0x190 + p.idx) c)))
      ∧ (ip = cfg c 0x5008 1 31 0 → ip ≠ 0 → c.net.ingSec ≠ c.time.clock / 1000000000 → 0 < cfg c 0x5000 4 31 0 →
        Does (.arpRequest dt p ip) s (fun c' => c'.out = .arp p.idx ip :: c.out ∧ c'.net.dropped = c.net.dropped ∧ c'.mem = c.mem)
        ∧ Does (.icmpEcho dt p ip src) s (fun c' => c'.out = .icmp p.idx ip src :: c.out ∧ c'.net.dropped = c.net.dropped ∧ c'.mem = c.mem)))
    ∧ (∀ dt id, Takes (.ipReassemblyTimeout dt id) dt (fun _ => True)
      (fun c => { c with net := { c.net with dropped := (c.net.dropped + 1) % 2 ^ 32 } }))
    ∧ ∀ dt p, Takes (.unsupportedFrameReceived dt p) dt (fun _ => True) (fun c => drop p (bump (0x190 + p.idx) c))

/-- R318, R319, R325, R326, R329 to R331, R334, R517: offsets and delays, the servo's transitions, the messages of a port. -/
def Obligations.TimeEngineRows : Prop :=
  let still (c : Chip) : Prop := c.sup.mstate ≠ .off ∧ c.time.portA.stampDue = none ∧ c.time.portB.stampDue = none
  (∀ dt p a b q r d e o g, ∀ i ∈ [Instr.ptpSync dt p a b q r o, .ptpDelayExchange dt p a b d e, .ptpDelayReqSend dt p,
      .ptpPdelayReqReceived dt p q r b, .ptpAnnounceReceived dt p g, .ptpAnnounceTimeout dt, .ptpSyncTimeout dt, .ptpSyncSend dt p,
      .ptpPortChanged dt, .ptpDelayReqReceived dt p q r b], Takes i dt (fun c => c.sup.mstate = .off) id)
    ∧ (∀ dt p (t1 t2 : Nat) q r o s, let c := pass dt s.chip
      let off : Int := t2 - t1 - ((ptpPort c p).delay.getD 0 : Nat) - signed 32 (cfg c 0x5203 (1 + p.idx) 31 0)
      let far := cfg c 0x5202 2 31 0 * 1000 < off.natAbs
      still c → (ptpPort c p).st = .slave → (ptpPort c p).delay ≠ none →
      Does (.ptpSync dt p t1 t2 q r o) s (fun c' => c'.time.offset = max (-2147483648) (min 2147483647 off)
        ∧ c'.mem = c.mem ∧ c'.tasks = c.tasks ∧ c'.time.portA = c.time.portA ∧ c'.time.portB = c.time.portB
        ∧ (c.time.servo = .unlocked → heldState c = false → c.time.firstOff = true →
            c'.time.servo = .locking ∧ c'.time.clock = ((c.time.clock : Int) - off).toNat ∧ c'.time.steps = (c.time.steps + 1) % 2 ^ 32)
        ∧ (c.time.servo ≠ .unlocked → c'.time.clock = c.time.clock ∧ c'.time.steps = c.time.steps)
        ∧ (c.time.servo = .locked → heldState c = false → far → c'.time.servo = .unlocked)
        ∧ (c.time.servo = .locked → heldState c = false → ¬far → c'.time.servo = .locked)
        ∧ (c.time.servo = .locked → heldState c = true → cfg c 0x5202 4 31 0 * 1000 < off.natAbs →
            c'.time.servo = .holdover ∧ c'.time.diverged = true)
        ∧ (c.time.servo = .locked → heldState c = true → off.natAbs ≤ cfg c 0x5202 4 31 0 * 1000 → c'.time.servo = .locked)))
    ∧ (∀ dt p (t1 t2 t3 t4 : Nat), Takes (.ptpDelayExchange dt p t1 t2 t3 t4) dt still
      (updPtp p (fun x => { x with delay := some ((((t2 : Int) - t1) + ((t4 : Int) - t3)) / 2).toNat })))
    ∧ (∀ dt p, Takes (.ptpDelayReqSend dt p) dt (fun c => still c ∧ p2p c = false ∧ (ptpPort c p).st = .slave) (sendEvent p 1)
      ∧ Takes (.ptpDelayReqSend dt p) dt (fun c => still c ∧ p2p c = true ∧ linkOf c p = true ∧ (ptpPort c p).st ≠ .disabled) (sendEvent p 2)
      ∧ Takes (.ptpSyncSend dt p) dt (fun c => still c ∧ (ptpPort c p).st = .master)
          (fun c => sendEvent p 0 (emit (.ptp p.idx 11 (ptpPort c p).seq c.sup.serial) c))
      ∧ Takes (.ptpSyncSend dt p) dt (fun c => still c ∧ (ptpPort c p).st ≠ .master) id)
    ∧ (∀ dt p q r t, Takes (.ptpPdelayReqReceived dt p q r t) dt (fun c => still c ∧ p2p c = true ∧ (ptpPort c p).st = .slave)
          (fun c => sendEvent p 3 (stamp p true t 2 q r true c))
      ∧ Takes (.ptpDelayReqReceived dt p q r t) dt (fun c => still c ∧ p2p c = false ∧ (ptpPort c p).st = .master)
          (fun c => emit (.ptp p.idx 9 q t) (stamp p true t 1 q r true c)))
    ∧ (∀ dt p g, Takes (.ptpAnnounceReceived dt p g) dt (fun c => still c ∧ mayMaster c = true ∧ gmBetter g (ownGm c) = false) id
      ∧ Takes (.ptpAnnounceReceived dt p g) dt (fun c => still c ∧ mayMaster c = false ∧ (ptpPort c p).gm = none)
          (fun c => electPorts (updPtp p (fun x => { x with gm := some g }) c)))
    ∧ (∀ dt s, let c := pass dt s.chip
      still c → (c.time.servo = .locked → Does (.ptpAnnounceTimeout dt) s (fun c' => c'.time.servo = .holdover ∧ c'.time.freq = c.time.learned
          ∧ c'.time.clock = c.time.clock ∧ c'.time.portA.gm = none ∧ c'.time.portB.gm = none ∧ c'.mem = c.mem)
        ∧ Does (.ptpSyncTimeout dt) s (fun c' => c'.time.servo = .holdover ∧ c'.time.freq = c.time.learned ∧ c'.time.clock = c.time.clock
          ∧ c'.mem = c.mem))
      ∧ (c.time.servo = .holdover → mayMaster c = true → Does (.ptpAnnounceTimeout dt) s (fun c' => c'.time.servo = .grandmaster
          ∧ c'.time.clock = c.time.clock ∧ c'.time.gmId = c.sup.serial))
      ∧ (c.time.servo ≠ .locked → Goes (.ptpSyncTimeout dt) s c))
    ∧ (∀ dt s, let c := pass dt s.chip
      still c → c.time.portA.st = .slave → c.time.portB.st = .passive → Does (.ptpPortChanged dt) s (fun c' =>
        c'.time.portB.st = .slave ∧ c'.time.portA.st = (if c.net.linkA then .listening else .faulty) ∧ c'.time.clock = c.time.clock
          ∧ c'.time.servo = c.time.servo ∧ c'.mem = c.mem))
    ∧ (∀ dt, Takes (.holdoverLong dt) dt
        (fun c => c.time.servo = .holdover ∧ c.time.longDone = false ∧ c.time.holdAt + cfg c 0x5202 5 31 0 * 1000000000 ≤ c.time.clock)
        (fun c => record 0x0826 0 [] { c with time := { c.time with longDone := true } })
      ∧ Takes (.holdoverLong dt) dt (fun c => c.time.longDone = true) id)
    ∧ (∀ dt p, Takes (.ptpTsMissing dt p) dt (fun c => (ptpPort c p).stampDue ≠ none)
        (fun c => bump 0x1A4 (record 0x082B 0 [] (updPtp p (fun x => { x with stampDue := none }) c)))
      ∧ Takes (.ptpTsMissing dt p) dt (fun c => (ptpPort c p).stampDue = none) id)
    ∧ ∀ dt, Takes (.freqCorrectionSave dt) dt (fun c => c.time.servo = .locked)
        (fun c => { c with mem := { c.mem with savedFreq := c.time.learned, savedTcxo := some c.time.tcxo } })
      ∧ Takes (.freqCorrectionSave dt) dt (fun c => c.time.servo ≠ .locked) id

/-- R340, R343, R345 to R347, R349 to R352, R354, R357: what the redundancy engine's events do. -/
def Obligations.PairRows : Prop :=
  (∀ dt, Takes (.mergedImageBuild dt) dt (fun c => merges c = false ∨ c.pair.merged = true) id)
    ∧ (∀ dt s, let c := pass dt s.chip
      merges c = true → hasBoundaries c = true → c.tt.ticking = true → c.pair.merged = false → Does (.mergedImageBuild dt) s (fun c' =>
        c'.pair.merged = true ∧ c'.time.clock = Nat.max c.time.clock (bNs c c.tt.tn + cfg c 0x2000 4 31 0 * 1000) ∧ c'.mem = c.mem
          ∧ c'.tasks = c.tasks ∧ c'.io = c.io ∧ c'.sup = c.sup))
    ∧ (∀ (d : InDecl) (src oth a b : List Byte × Nat),
      mergeBoth d 0 src oth a b = src
      ∧ mergeBoth d 4 src oth a b = (if src.2 ≠ 0 ∧ oth.2 = 0 then oth else src)
      ∧ (∀ r ∈ [1, 2, 3], (src.2 = 0 → oth.2 = 0 →
            mergeBoth d r src oth a b = (elemWise d (if r = 1 then d.ty.min else if r = 2 then d.ty.max else mergeMean d.ty) a.1 b.1, 0))
          ∧ (src.2 ≠ 0 → oth.2 = 0 → mergeBoth d r src oth a b = oth) ∧ (oth.2 ≠ 0 → mergeBoth d r src oth a b = src)))
    ∧ (∀ (c : Chip) e d v, mergeDecl c e.varId = some d →
      (e.rule ≠ 0 ∨ srcIsOwn c d e = true → mergeEntry c e none (some v) = some (srcCap c d))
      ∧ (e.rule = 0 → srcIsOwn c d e = false → mergeEntry c e none (some v) = some (v.1, 0x40)))
    ∧ (∀ dt l h, Takes (.heartbeatReceived dt l h) dt (fun c => exchanges c = false ∨ h.crcOk = false ∨ c.tt.ticking = false ∨ hasBoundaries c = false) id)
    ∧ (∀ dt l h s, let c := pass dt s.chip
      exchanges c = true → h.crcOk = true → c.tt.ticking = true → hasBoundaries c = true → h.tn = c.tt.tn → c.pair.hb = none →
      (bNs c c.tt.tn + cfg c 0x2000 4 31 0 * 1000 < c.time.clock → Goes (.heartbeatReceived dt l h) s (record 0x0D21 0x0600 [] c))
      ∧ (c.time.clock ≤ bNs c c.tt.tn + cfg c 0x2000 4 31 0 * 1000 → Does (.heartbeatReceived dt l h) s (fun c' =>
        c'.pair.hb = some h ∧ c'.mem.glb = c.mem.glb ∧ c'.mem.ret = c.mem.ret
          ∧ (c.pair.st = .paired → h.mstate = 4 → c.sup.mstate = .run → h.digest ≠ c.pair.digest → h.setId = c.pair.hbSet → h.pstate = 1 →
              c'.pair.disagree = true ∧ c'.pair.mismatches = (c.pair.mismatches + 1) % 2 ^ 32 ∧ c'.pair.st = .paired)
          ∧ (c.pair.st = .paired → h.mstate = 4 → h.digest = c.pair.digest → h.setId = c.pair.hbSet → h.pstate = 1 →
              c'.pair.disagree = c.pair.disagree ∧ c'.pair.mismatches = c.pair.mismatches ∧ c'.pair.st = .paired))))
    ∧ (∀ dt, Takes (.disagreeCleared dt) dt (fun c => c.pair.disagree = true ∧ 16 ≤ c.pair.equal)
        (fun c => record 0x0D12 0x0600 [] { c with pair := { c.pair with disagree := false, disTicks := 0, equal := 0, diffTasks := [] } })
      ∧ Takes (.disagreeCleared dt) dt (fun c => c.pair.equal < 16) id
      ∧ Takes (.disagreeLimitReached dt) dt
        (fun c => isPair c = true ∧ c.sup.mstate = .run ∧ c.pair.st = .paired ∧ c.pair.disagree = true ∧ cfg c 0x5300 8 31 0 ≤ c.pair.disTicks)
        (fun c => if c.sup.role = .pairB then beginTarget c else beginSource c))
    ∧ (∀ dt pf s, isPair s.chip = true → s.chip.pair.disagree = true → s.chip.sup.mstate = .run →
      Does (.tiebreakSelftestDone dt false pf) s (fun c' => c'.sup.mstate = .fault ∧ c'.mem.glb = s.chip.mem.glb ∧ c'.mem.ret = s.chip.mem.ret)
      ∧ (echoBad s.chip = false → Does (.tiebreakSelftestDone dt true false) s (fun c' => c'.sup.mstate = .run ∧ c'.pair.disagree = true
          ∧ c'.pair.stFail = false ∧ c'.mem = s.chip.mem ∧ c'.tasks = s.chip.tasks)))
    ∧ (∀ dt l ds s, isPair s.chip = true → s.chip.pair.disagree = true → Does (.taskDigestsReceived dt l ds) s (fun c' =>
        (∀ t, t ∈ c'.pair.diffTasks → s.chip.pair.taskDig.find? (fun e => e.1 == t) ≠ ds.find? (fun e => e.1 == t))
          ∧ c'.mem = s.chip.mem ∧ c'.sup = s.chip.sup ∧ c'.tasks = s.chip.tasks))
    ∧ (∀ dt, Takes (.pathFault dt .up) dt (fun c => exchanges c = true ∧ c.pair.upOk = true ∧ (nHb c ≤ c.pair.missUp ∨ c.pair.upLink = false))
        (fun c => record 0x0D02 0x0600 [] { c with pair := { c.pair with upOk := false } })
      ∧ Takes (.pathFault dt .down) dt (fun c => exchanges c = true ∧ c.pair.downOk = true ∧ (nHb c ≤ c.pair.missDown ∨ c.pair.downLink = false))
        (fun c => record 0x0D02 0x0600 [] { c with pair := { c.pair with downOk := false } })
      ∧ Takes (.pathRestored dt .up) dt (fun c => exchanges c = true ∧ c.pair.upOk = false ∧ c.pair.upLink = true ∧ 16 ≤ c.pair.goodUp)
        (fun c => record 0x0D03 0x0600 [] { c with pair := { c.pair with upOk := true } })
      ∧ Takes (.pathRestored dt .down) dt (fun c => exchanges c = true ∧ c.pair.downOk = false ∧ c.pair.downLink = true ∧ 16 ≤ c.pair.goodDown)
        (fun c => record 0x0D03 0x0600 [] { c with pair := { c.pair with downOk := true } }))
    ∧ (∀ dt up ok s, Does (.lineLinkChange dt .up up ok) s (fun c' => c'.pair.upLink = (up && ok) ∧ c'.pair.sfpBad = (up && !ok)
          ∧ c'.pair.downLink = s.chip.pair.downLink ∧ c'.mem = s.chip.mem)
      ∧ Does (.lineLinkChange dt .down up ok) s (fun c' => c'.pair.downLink = up ∧ c'.pair.upLink = s.chip.pair.upLink ∧ c'.mem = s.chip.mem))
    ∧ (∀ dt s, let c := pass dt s.chip
      isPair c = true → c.sup.mstate = .run → c.pair.st = .paired → c.pair.hbTn + nHb c ≤ c.tt.tn → c.pair.queryTn = none →
      (∀ e ∈ c.sup.due, e.2 ≠ .enterAlone) → Does (.partnerPresumedFailed dt) s (fun c' =>
        c'.mem = c.mem ∧ c'.tasks = c.tasks
          ∧ (hasReserve c = true → c'.pair.queryTn = some c.tt.tn ∧ c'.pair.st = .paired)
          ∧ (hasReserve c = false → ownConfirms c = true → (c.tt.tn + 1, .enterAlone) ∈ c'.sup.due ∧ c'.pair.st = .paired)
          ∧ (hasReserve c = false → ownConfirms c = false → c'.pair.st = .degraded)))
    ∧ (∀ dt b q s, let c := pass dt s.chip
      c.pair.queryTn = some q →
      (c.tt.tn ≤ q + 2 → c.pair.st = .paired → ownConfirms c = true → (if c.sup.role = .pairA then b.lastB else b.lastA) + nHb c ≤ c.tt.tn →
        (∀ e ∈ c.sup.due, e.2 ≠ .enterAlone) →
        Does (.witnessAnswer dt b) s (fun c' => (c.tt.tn + 1, .enterAlone) ∈ c'.sup.due ∧ c'.pair.queryTn = none ∧ c'.mem = c.mem))
      ∧ (q + 2 < c.tt.tn → Goes (.witnessAnswer dt b) s c)
      ∧ (q + 2 ≤ c.tt.tn → c.pair.st = .paired → isPair c = true → Does (.witnessTimeout dt) s (fun c' => c'.pair.st = .degraded
          ∧ c'.pair.queryTn = none ∧ c'.mem = c.mem))
      ∧ (c.tt.tn < q + 2 → Goes (.witnessTimeout dt) s c))
    ∧ (∀ dt b, Takes (.witnessQuery dt b) dt (fun c => isReserve c = true)
        (fun c => sendBeacon 0x12 { beaconNow c with lastA := c.pair.lastA, lastB := c.pair.lastB } c)
      ∧ Takes (.witnessQuery dt b) dt (fun c => isReserve c = false) id
      ∧ Takes (.witnessRepeat dt) dt
        (fun c => isPair c = true ∧ c.pair.st = .degraded ∧ hasReserve c = true ∧ c.pair.repeatTn + 100 ≤ c.tt.tn) sendQuery
      ∧ Takes (.beaconSend dt) dt (fun c => isPair c = true ∧ hasBoundaries c = true ∧ c.tt.ticking = true)
        (fun c => sendBeacon 0x10 (beaconNow c) c))
    ∧ (∀ dt b s, (isReserve s.chip = true → b.role = 1 → Does (.beaconReceived dt b) s (fun c' => c'.pair.lastA = b.tn
          ∧ c'.pair.lastB = s.chip.pair.lastB ∧ c'.mem = s.chip.mem))
      ∧ (isPair s.chip = true → b.role = (if s.chip.sup.role = .pairA then 2 else 1) → Does (.beaconReceived dt b) s (fun c' =>
          c'.pair.beaconTn = some s.chip.tt.tn ∧ c'.pair.beacon = some b ∧ c'.pair.st = s.chip.pair.st ∧ c'.mem = s.chip.mem)))
    ∧ (∀ dt l trip s, let c := pass dt s.chip
      isPair c = true → c.sup.mstate = .run → c.pair.st = .paired ∨ c.pair.st = .degraded → (∀ e ∈ c.sup.due, e.2 ≠ .enterAlone) →
      Does (.partnerAnnouncement dt l trip) s (fun c' => (c.tt.tn + 1, .enterAlone) ∈ c'.sup.due ∧ c'.pair.partnerTrip = trip
        ∧ c'.pair.st = c.pair.st ∧ c'.mem = c.mem ∧ c'.tasks = c.tasks))
    ∧ ∀ dt l s, isPair s.chip = true → hasBoundaries s.chip = true → nHb s.chip ≤ s.chip.pair.skew →
      Does (.pairTnSkew dt l) s (fun c' => c'.pair.skew = 0 ∧ c'.mem.glb = s.chip.mem.glb ∧ c'.mem.ret = s.chip.mem.ret
        ∧ (∀ h, s.chip.pair.lastHb = some h → s.chip.time.diverged = true → bit h.flags 2 = false →
            c'.sup.mstate = .stop ∧ c'.pair.withdrawn = true)
        ∧ (∀ h, s.chip.pair.lastHb = some h → s.chip.time.diverged = false → bit h.flags 2 = true → c'.sup.mstate = s.chip.sup.mstate
            ∧ c'.pair.withdrawn = s.chip.pair.withdrawn ∧ c'.tasks = s.chip.tasks))

/-- R358 to R362, R364: adoption of a job's results, the stream of a re-synchronisation, checkpoints, and the reserve. -/
def Obligations.AdoptionResyncAndReserveRows : Prop :=
  (∀ dt l (t : Fin 256), Takes (.adoptionRequest dt l t) dt (fun c => isPair c = true ∧ c.sup.mstate = .run ∧ (task c t).job ≠ none)
        (fun c => { c with pair := { c.pair with asked := t.val :: c.pair.asked.filter (· != t.val) } })
      ∧ Takes (.adoptionRequest dt l t) dt (fun c => isPair c = true ∧ c.sup.mstate = .run ∧ (task c t).job = none)
        (fun c => answerAdoption t ((task c t).relTn.getD c.tt.tn) c))
    ∧ (∀ dt l (t : Fin 256) tn p s, let c := pass dt s.chip
      ((∀ e ∈ c.pair.adopting, ¬(e.1 = t.val ∧ e.2.2.1 = tn)) → Goes (.adoptionAnswer dt l t tn p) s c)
      ∧ (∀ b n bytes, c.pair.adopting = [(t.val, b, tn, n)] → c.tt.tn < b → p.outs = [(t.val, bytes)] → p.locs = [] → p.insts = [] →
        Does (.adoptionAnswer dt l t tn p) s (fun c' => (task c' t).staged = (task c t).staged ++ [{ tn := b, bytes := bytes }]
          ∧ (task c' t).st = .staged ∧ (task c' t).ovrConsec = 0 ∧ (task c' t).loc = (task c t).loc ∧ c'.pair.adopting = []
          ∧ c'.mem = c.mem ∧ c'.io.ao = c.io.ao ∧ ∀ u, u ≠ t.val → task c' u = task c u)))
    ∧ (∀ dt seg, Takes (.resyncDataReceived dt seg) dt (fun c => c.pair.st ≠ .resyncTarget ∧ c.pair.st ≠ .joining) id)
    ∧ (∀ dt p last, Takes (.resyncDataReceived dt (.base p last)) dt (fun c => c.pair.st = .resyncTarget)
      (fun c => bumpBy 0x1AF (partBytes p false)
        { applyPart p c with pair := { (applyPart p c).pair with baseDone := (applyPart p c).pair.baseDone || last, jrnLast := none } }))
    ∧ (∀ dt tn nw sd p t a b q, tn ≠ t + 1 → Takes (.resyncDataReceived dt (.journal tn nw sd p)) dt
        (fun c => c.pair.st = .resyncTarget ∧ c.pair.jrnLast = some (t, a, b, q)) id)
    ∧ (∀ dt tn nw sd p t a b q s, let c := pass dt s.chip
      c.pair.st = .resyncTarget → c.pair.jrnLast = some (t, a, b, q) → tn = t + 1 → tn + 1 ≠ c.tt.tn →
      Does (.resyncDataReceived dt (.journal tn nw sd p)) s (fun c' => c'.pair.jrnLast = some (tn, nw, sd, p) ∧ c'.pair.jrnTn = t
        ∧ c'.pair.st = .resyncTarget ∧ c'.mem.glb = (applyPart q c).mem.glb ∧ c'.mem.ret = (applyPart q c).mem.ret))
    ∧ (∀ dt s, let c := pass dt s.chip
      (c.tt.tn < c.pair.resyncTn + cfg c 0x5300 9 31 0 → Goes (.resyncTimeout dt) s c)
      ∧ (c.pair.resyncTn + cfg c 0x5300 9 31 0 ≤ c.tt.tn → c.pair.st = .resyncTarget → c.pair.resyncTwo = false → Does (.resyncTimeout dt) s (fun c' =>
        c'.pair.resyncTwo = true ∧ c'.pair.resyncTn = c.tt.tn ∧ c'.pair.baseDone = false ∧ c'.pair.jrnLast = none ∧ c'.pair.st = .resyncTarget
          ∧ c'.mem = c.mem ∧ c'.tasks = c.tasks))
      ∧ (c.pair.resyncTn + cfg c 0x5300 9 31 0 ≤ c.tt.tn → c.pair.st = .resyncTarget → c.pair.resyncTwo = true → Does (.resyncTimeout dt) s (fun c' =>
        c'.sup.mstate = .stop ∧ c'.mem.glb = c.mem.glb ∧ c'.mem.ret = c.mem.ret))
      ∧ (c.pair.resyncTn + cfg c 0x5300 9 31 0 ≤ c.tt.tn → c.pair.st = .joining → Does (.resyncTimeout dt) s (fun c' =>
        c'.pair.st = .standby ∧ c'.pair.ckptValid = false ∧ c'.pair.lostRole = none ∧ c'.mem = c.mem)))
    ∧ (∀ dt tn base p s, let c := pass dt s.chip
      c.sup.role = .reserve → c.pair.st = .standby → c.pair.lostRole = none →
      (base = false → c.pair.ckptValid = false → Goes (.checkpointReceived dt tn base p none) s (emit (.ckptAck 0) c))
      ∧ (base = true ∨ c.pair.ckptValid = true → Goes (.checkpointReceived dt tn base p none) s
          (emit (.ckptAck tn) { c with pair := { c.pair with image := mergePart c.pair.image p, ckptValid := true, ckptTn := tn } })))
    ∧ (∀ dt tn t ps s, let c := pass dt s.chip
      isPair c = true → c.pair.ckptOut = some (t, ps) →
      (tn = t → Does (.checkpointAck dt tn) s (fun c' => c'.pair.ckptOut = none ∧ c'.pair.ckptTn = tn ∧ c'.pair.dirty = c.pair.dirty ∧ c'.mem = c.mem))
      ∧ (tn ≠ t → Does (.checkpointAck dt tn) s (fun c' => c'.pair.ckptOut = none ∧ c'.mem = c.mem
          ∧ (∀ x, x ∈ c'.pair.dirty ↔ x ∈ c.pair.dirty ∨ (x ∈ ps ∧ x ≠ basePage)) ∧ (tn = 0 → c'.pair.baseOwed = true))))
    ∧ (∀ dt role, role = .pairA ∨ role = .pairB → Takes (.reserveCallReceived dt role) dt
        (fun c => c.sup.role = .reserve ∧ c.pair.lostRole = none)
        (fun c => record 0x0D42 0x0600 [] { c with pair := { c.pair with lostRole := some role, callAt := some c.time.clock } }))
    ∧ (∀ dt s r, s.chip.sup.role = .reserve → s.chip.pair.st = .standby → s.chip.pair.lostRole = some r → Does (.reserveImageLoaded dt) s (fun c' =>
        c'.pair.st = .joining ∧ c'.pair.lostRole = some r ∧ c'.pair.baseDone = false ∧ c'.pair.resyncTn = s.chip.tt.tn
          ∧ (s.chip.pair.ckptValid = false → c'.mem = s.chip.mem ∧ c'.tasks = s.chip.tasks)
          ∧ (s.chip.pair.ckptValid = true → c'.mem.glb = (applyPart s.chip.pair.image s.chip).mem.glb
              ∧ c'.mem.ret = (applyPart s.chip.pair.image s.chip).mem.ret)))
    ∧ (∀ dt t, Takes (.reserveLinkTimeout dt) dt (fun c => c.pair.callAt = some t ∧ c.pair.upLink = false ∧ t + 5000000000 ≤ c.time.clock)
        (fun c => { c with pair := { c.pair with useDown := true } })
      ∧ Takes (.reserveLinkTimeout dt) dt (fun c => c.pair.callAt = some t ∧ c.pair.upLink = true) id)
    ∧ (∀ dt, Takes (.proofRunStart dt) dt (fun c => c.sup.role = .reserve ∧ c.pair.st = .standby ∧ c.pair.ckptValid = true
          ∧ c.pair.lostRole = none ∧ c.sup.mstate = .stop ∧ cfg c 0x5300 0x0A 31 0 ≠ 0) startProof
      ∧ Takes (.proofRunStart dt) dt (fun c => c.pair.ckptValid = false) id)
    ∧ ∀ dt ok t s, let c := pass dt s.chip
      c.pair.proofRun = some t → c.sup.role = .reserveProof → t + cfg c 0x5300 0x0B 31 0 * 1000000000 ≤ c.time.clock →
      Does (.proofRunEnd dt ok) s (fun c' => c'.sup.mstate = .stop ∧ c'.sup.role = .reserve ∧ c'.pair.st = .standby ∧ c'.pair.ckptValid = false
        ∧ c'.pair.proofRun = none ∧ (ok = true → c.pair.proofBad = false → c'.pair.proofAt = some (c.time.clock / 1000000000))
        ∧ (ok = false → c'.pair.proofAt = c.pair.proofAt) ∧ c'.mem.glb = c.mem.glb ∧ c'.mem.ret = c.mem.ret)

/-- R373, R379 to R383, R386, R388, R390, R392: what the display's events do. -/
def Obligations.DisplayRows : Prop :=
  (∀ dt, Takes (.displayFrame dt) dt (fun c => pd11 c ≠ .on ∨ (c.disp.stopping = false ∧ c.disp.railDown = true)) id)
    ∧ (∀ dt s p y, p < 2 → let c := pass dt s.chip; let x := panel c p; let l := x.line y
      pd11 c = .on → c.disp.stopping = false → c.disp.railDown = false → x.comp = none → (x.lines.map (·.1)).Nodup → l.len ≠ 0 → l.refresh = false →
      Does (.displayFrame dt) s (fun c' => let x' := panel c' p
        (l.phase + 1 < l.len → (x'.line y).phase = l.phase + 1 ∧ (x'.line y).len = l.len ∧ ∀ i, i < panelW c p → pix x'.shown i y = pix x.shown i y)
          ∧ (l.len ≤ l.phase + 1 → (x'.line y).len = 0 ∧ (x'.line y).unknown = false ∧ ∀ i, i < panelW c p → pix x'.shown i y = pix x.active i y)
          ∧ c'.mem.glb = c.mem.glb ∧ c'.mem.ret = c.mem.ret ∧ c'.tasks = c.tasks ∧ c'.io.ao = c.io.ao))
    ∧ (∀ dt (p : Fin 2) t s, Does (.panelTempRead dt p t) s (fun c' => (panel c' p).temp = t
        ∧ (∀ w, Map.find s.chip.sets.main.waves p = some w → ((panel c' p).tempHold = true ↔ t < w.tMin ∨ w.tMax < t))
        ∧ (panel c' p).lines = (panel s.chip p).lines ∧ (panel c' p).shown = (panel s.chip p).shown ∧ c'.mem = s.chip.mem))
    ∧ (∀ dt (p : Fin 2) s, let c := pass dt s.chip; let x := panel c p
      ((∀ e ∈ x.ledger, e.2.natAbs < cfg c (0x7400 + p) 3 31 16) ∨ updating c p x = true ∨ 3 ≤ c.hlth.stage ∨ x.comp ≠ none →
        Goes (.ledgerCompensation dt p) s c)
      ∧ (∀ e ∈ x.ledger, cfg c (0x7400 + p) 3 31 16 ≤ e.2.natAbs → x.comp = none → x.recovery = false → updating c p x = false →
        (∀ r ∈ c.disp.queue, r.panel ≠ p.val) → x.quietAt + 10000000000 ≤ c.time.clock → mayStart c p = true → c.hlth.stage < 3 → slotsUsed c < 16 →
        Does (.ledgerCompensation dt p) s (fun c' => (∃ k, (panel c' p).comp = some k ∧ e.1 / 256 ∈ k.rows ∧ k.drive = false ∧ k.frame = 0)
          ∧ c'.disp.rails = true ∧ c'.mem = c.mem)))
    ∧ (∀ dt, Takes (.railIdleOff dt) dt
        (fun c => c.disp.rails = true ∧ anyDriven c = false ∧ (∀ p, p < 2 → (panel c p).comp = none) ∧ c.disp.waveAt + 2000000000 ≤ c.time.clock)
        (fun c => { c with disp := { c.disp with rails := false } })
      ∧ Takes (.railIdleOff dt) dt (fun c => anyDriven c = true ∨ c.time.clock < c.disp.waveAt + 2000000000) id)
    ∧ (∀ dt s, let c := pass dt s.chip
      c.disp.rails = true → pd11 c = .on → Does (.railFault dt) s (fun c' => c'.disp.rails = false ∧ c'.disp.railDown = true
        ∧ c'.disp.downAt = c.time.clock ∧ ((∀ r ∈ c.disp.started, r.panel < 2) → c'.disp.started = []) ∧ c'.mem.glb = c.mem.glb ∧ c'.mem.ret = c.mem.ret
        ∧ ∀ p, p < 2 → (panel c' p).shown = (panel c p).shown
            ∧ ∀ y, (((panel c p).line y).len ≠ 0 → ((panel c' p).line y).len = 0 ∧ ((panel c' p).line y).unknown = true)
              ∧ (((panel c p).line y).len = 0 → (panel c' p).line y = (panel c p).line y)))
    ∧ (∀ dt ok, Takes (.railRetry dt ok) dt
        (fun c => c.disp.railDown = false ∨ c.time.clock < c.disp.downAt + 10000000000) id)
    ∧ (∀ dt s, let c := pass dt s.chip
      c.disp.railDown = true → c.disp.stopping = false → c.disp.downAt + 10000000000 ≤ c.time.clock →
      Does (.railRetry dt true) s (fun c' => c'.disp.rails = true ∧ c'.disp.railDown = false ∧ c'.disp.railAt = c.time.clock ∧ c'.mem = c.mem)
      ∧ Goes (.railRetry dt false) s (record 0x0C20 0x0500 [] { c with disp := { c.disp with railFault := true, downAt := c.time.clock } }))
    ∧ (∀ dt, Takes (.boostPhaseSwitched dt) dt (fun c => c.disp.sparePhase = false)
        (fun c => record 0x0C21 0x0500 [] (bump 0x1DF { c with disp := { c.disp with sparePhase := true } }))
      ∧ Takes (.boostPhaseSwitched dt) dt (fun c => c.disp.sparePhase = true) id)
    ∧ (∀ dt i s, let c := pass dt s.chip
      pd11 c = .on → Does (.panelInserted dt i) s (fun c' => (panel c' 1).present = true
        ∧ (i.magicOk = true → i.crcOk = true → i.width = panelW c 1 → i.height = panelH c 1 →
            (panel c' 1).identified = true ∧ (panel c' 1).idFault = false ∧ (panel c' 1).serial = i.serial
            ∧ (i.serial ≠ (panel c 1).serial → (panel c' 1).ledger = []) ∧ (i.serial = (panel c 1).serial → (panel c' 1).ledger = (panel c 1).ledger))
        ∧ (i.magicOk = false ∨ i.crcOk = false → (panel c' 1).identified = false ∧ (panel c' 1).idFault = true)
        ∧ panel c' 0 = panel (refreshPanels c) 0 ∧ c'.mem.glb = c.mem.glb ∧ c'.mem.ret = c.mem.ret))
    ∧ (∀ dt s, Does (.panelRemoved dt) s (fun c' => (panel c' 1).present = false ∧ (panel c' 1).identified = false
        ∧ (∀ y, y < panelH s.chip 1 → ((panel c' 1).line y).len = 0 ∧ ((panel c' 1).line y).unknown = true)
        ∧ (panel c' 0).lines = (panel s.chip 0).lines ∧ (panel c' 0).shown = (panel s.chip 0).shown ∧ c'.disp.rails = s.chip.disp.rails
        ∧ c'.mem.glb = s.chip.mem.glb ∧ c'.mem.ret = s.chip.mem.ret))
    ∧ ∀ dt (p : Fin 2) s, let c := pass dt s.chip
      ((panel c p).recovery = false → Goes (.dispRecovered dt p) s c)
      ∧ ((panel c p).recovery = true → (∀ e ∈ (panel c p).lines, e.2.journal = true → e.2.len = 0 ∧ e.2.start = false ∧ e.2.unknown = false) →
        Does (.dispRecovered dt p) s (fun c' => (panel c' p).recovery = false ∧ (∀ y, ((panel c' p).line y).journal = false)
          ∧ c'.mem.glb = c.mem.glb ∧ c'.mem.ret = c.mem.ret
          ∧ ((∀ q, q < 2 → q ≠ p.val → (panel c q).recovery = false) → c'.mem.dispJournalValid = false)))

/-- R401, R404 to R412, R417, R419: the arrival of messages, the opening of sessions and the mailbox's events of time. The SEQUENCE of an
answer that no session owns is a free value (log entry 36). -/
def Obligations.MailboxEventRows : Prop :=
  (∀ dt p bytes, Takes (.messageArrival dt p bytes) dt
      (fun c => serves c p = false ∨ ∃ t, Map.find c.mbx.blocked p.key = some t ∧ c.time.clock < t) id)
    ∧ (∀ (b : List Byte) isSealed, headerBad b isSealed = none ↔
        16 ≤ b.length ∧ b.length = 16 + fld b 8 2 + (if isSealed then 16 else 0) ∧ fld b 3 1 = (if isSealed then 4 else 0)
          ∧ fld b 10 2 = 0 ∧ fld b 8 2 ≤ 4096)
    ∧ (∀ heard : Peer → Chip → Prop, (∀ p c, heard p c ↔ serves c p = true ∧ ∀ t, Map.find c.mbx.blocked p.key = some t → t ≤ c.time.clock) →
      -- an open session that is not sealed
      (∀ (dt : Nat) (p : Peer) (b : List Byte) (own : Chip → Prop),
        (∀ c, own c ↔ heard p c ∧ 3 ≤ b.length ∧ fld b 2 1 < 48 ∧ (sess c (fld b 2 1)).st ≠ .closed ∧ (sess c (fld b 2 1)).peer = some p
          ∧ (sess c (fld b 2 1)).sealed = false) →
        let s := fld b 2 1
        let cmd := fld b 0 2
        let tag := fld b 4 4
        let seq := fld b 12 4
        let next := fun c => headerBad b false = none ∧ (sess c s).hostSeq < 0xFFFFFFFF ∧ seq = (sess c s).hostSeq + 1
        let takenIn := fun c => updSess s (fun x => { x with hostSeq := seq, lastCmd := c.time.clock }) c
        Takes (.messageArrival dt p b) dt
            (fun c => own c ∧ next c ∧ (sess c s).ring.length < 8 ∧ ∃ e ∈ cmdTable, e.1 = cmd)
            (fun c => updSess s (fun x => { x with ring := x.ring ++ [(cmd, tag, seq, b.drop 16)] }) (takenIn c))
          ∧ Takes (.messageArrival dt p b) dt (fun c => own c ∧ next c ∧ 8 ≤ (sess c s).ring.length)
            (fun c => answerTo s cmd tag (some seq) 0x0302 [] (takenIn c))
          ∧ (∀ e, Takes (.messageArrival dt p b) dt
            (fun c => own c ∧ headerBad b false = none ∧ 1 ≤ seq ∧ seq ≤ (sess c s).hostSeq ∧ (sess c s).hostSeq < seq + 8
              ∧ (sess c s).cache.find? (fun x => x.1 == seq) = some e)
            (postMsg p e.2))
          ∧ Takes (.messageArrival dt p b) dt
            (fun c => own c ∧ headerBad b false = none ∧ (sess c s).hostSeq < 0xFFFFFFFF ∧ (seq = 0 ∨ (sess c s).hostSeq + 1 < seq ∨ seq + 8 ≤ (sess c s).hostSeq))
            (malformedSess s cmd tag 5 12 false)
          ∧ ∀ r o, headerBad b false = some (r, o) → Takes (.messageArrival dt p b) dt own (malformedSess s cmd tag r o false))
      -- the command of no session
      ∧ ∀ (dt : Nat) (p : Peer) (b : List Byte),
        Takes (.messageArrival dt p b) dt
          (fun c => heard p c ∧ headerBad b false = none ∧ fld b 2 1 = 0xFF ∧ fld b 0 2 = 0x0101 ∧ fld b 12 4 = 1)
          (fun c => { c with mbx := { c.mbx with opens := c.mbx.opens ++ [(p, fld b 4 4, b.drop 16)] } })
        ∧ Takes (.messageArrival dt p b) dt (fun c => heard p c ∧ headerBad b false = none ∧ fld b 2 1 = 0xFF ∧ fld b 0 2 ≠ 0x0101)
          (malformedBare p (fld b 0 2) (fld b 4 4) 4 2))
    -- SESSION_OPEN without SEAL, and SESSION_CONFIRM
    ∧ (∀ (q : Req) (may : Chip → Prop),
      (∀ c, may c ↔ serves c q.src = true ∧ q.payload.length = 64 ∧ fld q.payload 1 1 = 0 ∧ fld q.payload 0 1 ≤ 3 ∧ 0 < fld q.payload 2 2
        ∧ fld q.payload 2 2 ≤ 60 ∧ (∀ x ∈ q.payload.drop 32, x = 0) ∧ (q.src.isUsb = true ∨ live c 0x1100 1 2 2 ≠ 1)) →
      let come := fun c => countTaken q.src (updMbx (fun m => { m with opens := m.opens.erase (q.src, q.tag, q.payload) }) c)
      (∀ s, Takes (.sessionOpen q) q.dt (fun c => may c ∧ freeNumber (come c) q.src = some s) (fun c =>
        let ceil := ceilOf (come c) q.src
        let role := Nat.min (Nat.min (fld q.payload 0 1) ceil) (if (come c).mbx.lock then 1 else 3)
        let d := bump 0x1C7 (record 0x0100 (0x0800 + s) [s, q.src.transport, q.src.addr, role] (updSess s (fun _ =>
          { st := .open, peer := some q.src, ceil := ceil, role := role, roleReq := fld q.payload 0 1, keepalive := fld q.payload 2 2,
            lastCmd := c.time.clock, openedAt := c.time.clock, hostSeq := 1 }) (come c)))
        answerTo s 0x0101 q.tag (some 1) 0 (leBytes 1 role ++ leBytes 1 ceil ++ leBytes 1 (2 * b01 d.mbx.lock) ++ [0]
          ++ leBytes 1 d.sup.mstate.code ++ leBytes 1 d.sup.role.code ++ [0, 0] ++ leBytes 8 d.sup.serial ++ List.replicate 32 0) d))
      ∧ Takes (.sessionOpen q) q.dt (fun c => may c ∧ freeNumber (come c) q.src = none) (fun c =>
        answerBare q.src 0x0101 q.tag 0x0401 [] (record 0x0106 0x0300 [] (come c))))
    ∧ (∀ (q : Req) (s : State) (p : Peer), (sess s.chip q.sess).st = .opening → (sess s.chip q.sess).peer = some p → q.payload = [] →
        Goes (.sessionConfirm q) s (respond 0x0102 q.sess q.tag 0 [] (updSess q.sess (fun x => { x with st := .open }) (taken q p s))))
    -- time-outs
    ∧ (∀ dt (s : Fin 48),
      let late := fun c => (sess c s).st ≠ .closed ∧ (sess c s).lastCmd + 3 * (sess c s).keepalive * 1000000000 ≤ c.time.clock
      Takes (.sessionKeepaliveTimeout dt s) dt late (closeSession s 1) ∧ Takes (.sessionKeepaliveTimeout dt s) dt (fun c => ¬late c) id)
    ∧ (∀ dt (s : Fin 48),
      let late := fun c => (sess c s).st = .opening ∧ (sess c s).openedAt + 5000000000 ≤ c.time.clock
      Takes (.sessionConfirmTimeout dt s) dt late (closeSession s 2) ∧ Takes (.sessionConfirmTimeout dt s) dt (fun c => ¬late c) id)
    ∧ (∀ dt (s : Fin 48),
      let past := fun c => ∃ t, (sess c s).unlock = some t ∧ t ≤ c.time.clock
      Takes (.unlockExpired dt s) dt past (unlockEnds s 1) ∧ Takes (.unlockExpired dt s) dt (fun c => ¬past c) id)
    ∧ (∀ dt (path : Fin 2),
      let past := fun c => ∃ t, Map.find c.mbx.lockout path = some t ∧ t ≤ c.time.clock
      Takes (.unlockLockoutEnd dt path) dt past (fun c => { c with mbx := { c.mbx with lockout := Map.del c.mbx.lockout path } })
        ∧ Takes (.unlockLockoutEnd dt path) dt (fun c => ¬past c) id)
    ∧ (∀ dt addr,
      let past := fun c => ∃ t, Map.find c.mbx.blocked addr = some t ∧ t ≤ c.time.clock
      Takes (.sourceBlockEnd dt addr) dt past (fun c => { c with mbx := { c.mbx with blocked := Map.del c.mbx.blocked addr } })
        ∧ Takes (.sourceBlockEnd dt addr) dt (fun c => ¬past c) id)
    ∧ (∀ dt s, Does (.usbDetach dt) s (fun c' => (sess c' 46).st = .closed ∧ (sess c' 47).st = .closed ∧ c'.mem = s.chip.mem
        ∧ c'.tasks = s.chip.tasks ∧ c'.sets.main = s.chip.sets.main ∧ c'.sup.mstate = s.chip.sup.mstate))
    ∧ (∀ dt (s : Fin 48) n,
      let freed := fun c => updSess s (fun x => { x with evBytes := x.evBytes - n }) c
      let due := fun c => (sess (freed c) s).st ≠ .closed ∧ ((sess (freed c) s).evLost ≠ 0 ∨ (sess (freed c) s).entLost ≠ [])
        ∧ (sess (freed c) s).evBytes + eventCost (sess (freed c) s) 56 ≤ 262144
      Takes (.eventSpaceFreed dt s n) dt due
          (fun c => event s 0x81F1 0 0 (lostPayload (sess (freed c) s)) (updSess s (fun x => { x with evLost := 0, entLost := [] }) (freed c)))
        ∧ Takes (.eventSpaceFreed dt s n) dt (fun c => ¬due c) freed)
    ∧ ∀ dt (s : Fin 48) ring,
      let lost := fun c => 120 ≤ ring ∧ ring ≤ 123
        ∧ Map.getD (sess c s).entLost ring 0 < Map.getD (sess (flushRing s ring c) s).entLost ring 0
      Takes (.eventBatchTimeout dt s ring) dt lost (fun c => record 0x0829 0 [] (flushRing s ring c))
        ∧ Takes (.eventBatchTimeout dt s ring) dt (fun c => ¬lost c) (flushRing s ring)

/-- R408, R409, R411 to R413, R425: the order of the checks and the answers of commands that are not executed. -/
def Obligations.CommandRefusals : Prop :=
  (∀ (i : Instr) (cmd : Nat) (q : Req) (s : State), i.request = some (cmd, q) →
      ((sess s.chip q.sess).st = .closed ∨ (sess s.chip q.sess).peer = none → Goes i s (pass q.dt s.chip))
      ∧ ∀ p, (sess s.chip q.sess).st = .opening → (sess s.chip q.sess).peer = some p → cmd ≠ 0x0102 →
        let c := taken q p s
        Goes i s (respond cmd q.sess q.tag 0x0301 (refusedPayload cmd 5 c) (bump 0x1C4 (record 0x0210 (0x0800 + q.sess) [] c))))
    ∧ ∀ (cmd need : Nat) (mk : Req → Instr) (q : Req) (s : State) (p : Peer),
      (cmd, need, mk) ∈ [(0x0201, 0, Instr.stateGet), (0x0203, 1, Instr.stop), (0x0204, 3, Instr.serviceEnter), (0x0205, 3, Instr.serviceExit),
        (0x0206, 3, Instr.reset), (0x0305, 2, Instr.throwCancel), (0x0306, 2, Instr.sidingClear)] →
      (sess s.chip q.sess).st = .open → (sess s.chip q.sess).peer = some p →
      let c := taken q p s
      let ss := sess s.chip q.sess
      let head := fun v => [BitVec.ofNat 8 ss.role, BitVec.ofNat 8 need, BitVec.ofNat 8 v, 0]
      (q.payload ≠ [] → Goes (mk q) s (malformedSess q.sess cmd q.tag 1 8 true c))
      ∧ (q.payload = [] → ss.ceil < need →
          Goes (mk q) s (respond cmd q.sess q.tag 0x0201 (head 0) (bump 0x1C3 (record 0x0104 (0x0800 + q.sess) [] c))))
      ∧ (q.payload = [] → need ≤ ss.ceil → ss.role < need →
          Goes (mk q) s (respond cmd q.sess q.tag 0x0202 (head (pathsOpen c (some p))) (bump 0x1C3 (record 0x0104 (0x0800 + q.sess) [] c))))
      ∧ (q.payload = [] → need ≤ ss.ceil → need ≤ ss.role → bit (cmdStates cmd) s.chip.sup.mstate.code = false →
          Goes (mk q) s (respond cmd q.sess q.tag 0x0301
            (leBytes 1 c.sup.mstate.code ++ leBytes 1 c.sup.role.code ++ leBytes 1 c.pair.st.code ++ [0] ++ leBytes 2 (cmdStates cmd) ++ [31]
              ++ leBytes 1 c.sets.siding.code ++ leBytes 1 c.time.servo.code ++ [0, 0, 0])
            (bump 0x1C4 (record 0x0210 (0x0800 + q.sess) [] c))))

/-- R411, R425: a command stops at the first check that fails, and has no side effect on the control then. -/
def Obligations.CommandsWithoutRightChangeNothing : Prop :=
  ∀ (i : Instr) (cmd : Nat) (q : Req) (s : State), i.request = some (cmd, q) →
    (sess s.chip q.sess).role < cmdRole cmd
      ∨ (bit (cmdStates cmd) s.chip.sup.mstate.code = false ∧ cmd ∉ [0x0102, 0x0103, 0x0104, 0x0301, 0x0302, 0x0303]) →
    Does i s (fun c' => c'.mem = s.chip.mem ∧ c'.tasks = s.chip.tasks ∧ c'.sets = { s.chip.sets with origin := c'.sets.origin }
      ∧ c'.tt = s.chip.tt ∧ c'.hlth = s.chip.hlth ∧ c'.disp = s.chip.disp ∧ c'.sup.mstate = s.chip.sup.mstate
      ∧ c'.sup.role = s.chip.sup.role ∧ c'.pair = { s.chip.pair with proofBad := c'.pair.proofBad }
      ∧ c'.time = { s.chip.time with clock := s.chip.time.clock + q.dt })

/-- R405, R416 to R419, R427: every row of groups 0x01 and 0x02 answers as its rule says, for every session that may have it executed. The
salt, the nonce and the identity of a password are free values (log entry 11). -/
def Obligations.SessionAndStateCommands : Prop :=
  Answers 0x0103 0 .sessionClose (fun q _ _ => q.payload = []) (fun q _ c => { chip := c, after := closeSession q.sess 0 })
    ∧ Answers 0x0104 0 .keepalive (fun q _ _ => q.payload = []) (fun _ _ c => { chip := c })
    -- UNLOCK_PASSWORD and UNLOCK_RESPONSE: the unlock that is granted, and the one that fails
    ∧ (∀ granted failed : Nat → Nat → Nat → Nat → Chip → Ans,
      (granted = fun s path asked dur c =>
        let ss := sess c s
        let r := Nat.min asked ss.ceil
        let g := Nat.min dur (liveWord c 0x1100 2)
        let c1 := updSess s (fun x => { x with role := r, unlock := some (c.time.clock + g * 1000000000) }) c
        let c2 := record 0x0110 (0x0800 + s) [s, r, path, (match ss.peer with | some p => p.addr | none => 0), g, keyId c1.mbx.vkey] c1
        { payload := leBytes 4 r ++ leBytes 4 g, chip := if r < 3 then serviceEnds s c2 else c2 }) →
      (failed = fun s path _ _ c =>
        let l := (Map.getD c.mbx.fails path []).filter (fun t => decide (c.time.clock < t + 900000000000)) ++ [c.time.clock]
        let c1 := bump 0x1C3 (record 0x0111 (0x0800 + s) [] (updMbx (fun m => { m with fails := Map.put m.fails path l }) c))
        let c2 := if l.length < 5 then c1
          else record 0x0113 0x0300 [path] (updMbx (fun m => { m with
            fails := Map.del m.fails path, lockout := Map.put m.lockout path (c1.time.clock + 900000000000) }) c1)
        { status := 0x0201, payload := leBytes 1 (sess c2 s).role ++ [0] ++ leBytes 1 (pathsOpen c2 (sess c2 s).peer) ++ [0], chip := c2 }) →
      (∀ (salt h : List Byte),
        let pre := fun (q : Req) (ss : Session) (c : Chip) => Shaped q.payload (8 + fld q.payload 6 1) [1, 7] ∧ 12 ≤ fld q.payload 6 1
          ∧ fld q.payload 6 1 ≤ 64 ∧ OverUsb ss ∧ pathShut c 0 = false ∧ fld q.payload 0 1 ≤ 3 ∧ c.mbx.pw = some (salt, h)
        Answers 0x0110 0 .unlockPassword (fun q ss c => pre q ss c ∧ pbkdf2 (q.payload.drop 8) salt 20000 = h)
          (fun q _ c => granted q.sess 0 (fld q.payload 0 1) (fld q.payload 2 4) c)
        ∧ Answers 0x0110 0 .unlockPassword (fun q ss c => pre q ss c ∧ pbkdf2 (q.payload.drop 8) salt 20000 ≠ h)
          (fun q _ c => failed q.sess 0 0 0 c))
      ∧ (∀ (nonce k : List Byte) (r dur till : Nat),
        let pre := fun (q : Req) (ss : Session) (c : Chip) => Shaped q.payload 40 [4, 5, 6, 7] ∧ pathShut c 1 = false
          ∧ ss.nonce = some (nonce, r, dur, till) ∧ c.mbx.vkey = some k
        let right := fun (q : Req) (c : Chip) => fld q.payload 0 4 = keyId (some k) ∧ c.time.clock < till
          ∧ hmac k (unlockMessage nonce c.sup.serial q.sess r dur) = q.payload.drop 8
        let used := fun (q : Req) (c : Chip) => updSess q.sess (fun x => { x with nonce := none }) c
        Answers 0x0112 0 .unlockResponse (fun q ss c => pre q ss c ∧ right q c) (fun q _ c => granted q.sess 1 r dur (used q c))
        ∧ Answers 0x0112 0 .unlockResponse (fun q ss c => pre q ss c ∧ ¬right q c) (fun q _ c => failed q.sess 1 0 0 (used q c))))
    ∧ Answers 0x0111 0 .unlockChallenge
        (fun q _ c => Shaped q.payload 8 [1, 2, 3] ∧ pathShut c 1 = false ∧ fld q.payload 0 1 ≤ 3 ∧ c.mbx.vkey.isSome = true)
        (fun q _ c =>
          let nonce := padTo 32 (Config.freeBytes c.sup.freeCtr 32)
          { payload := nonce ++ leBytes 8 c.sup.serial ++ leBytes 2 60 ++ leBytes 1 (fld q.payload 0 1) ++ List.replicate 5 0
            chip := updSess q.sess (fun x => { x with nonce := some (nonce, fld q.payload 0 1, fld q.payload 4 4, c.time.clock + 60000000000) })
                      (drawn c) })
    ∧ Answers 0x0113 0 .relock (fun q _ _ => q.payload = [])
        (fun q ss c => { chip := if ss.unlock.isSome then unlockEnds q.sess 2 c else c })
    -- the field lock and the secrets
    ∧ Answers 0x0120 3 .fieldLockEngage (fun q _ c => q.payload = [] ∧ (c.mbx.vkey.isSome = true ∨ c.mbx.pw.isSome = true))
        (fun _ _ c => { chip := forAll (c.mbx.sess.map (·.1)) dropRole (record 0x0114 0x0300 [] (updMbx (fun m => { m with lock := true }) c)) })
    ∧ Answers 0x0121 3 .fieldLockRelease (fun q ss _ => q.payload = [] ∧ OverUsb ss)
        (fun _ _ c => { chip := record 0x0115 0x0300 [] (updMbx (fun m => { m with lock := false }) c) })
    ∧ (∀ changed : Nat → Nat → Chip → Chip,
      (changed = fun kind ident c => record 0x0116 0x0300 [kind, ident]
        (updMbx (fun m => { m with sess := Map.mapV m.sess (fun _ x => { x with nonce := none }) }) c)) →
      Answers 0x0122 3 .setPassword (fun q ss _ => Shaped q.payload (4 + fld q.payload 0 1) [1, 2, 3] ∧ 12 ≤ fld q.payload 0 1
          ∧ fld q.payload 0 1 ≤ 64 ∧ OverUsb ss)
        (fun q _ c =>
          let salt := padTo 16 (Config.freeBytes c.sup.freeCtr 16)
          { chip := changed 0 (Config.freeNat c.sup.freeCtr [0x0122] % 2 ^ 32)
              (updMbx (fun m => { m with pw := some (salt, pbkdf2 (q.payload.drop 4) salt 20000) }) (drawn c)) })
      ∧ Answers 0x0123 3 .setVesselKey (fun q ss _ => q.payload.length = 32 ∧ (ss.sealed = true ∨ OverUsb ss))
        (fun q _ c => { payload := leBytes 4 (keyId (some q.payload))
                        chip := changed 1 (keyId (some q.payload)) (updMbx (fun m => { m with vkey := some q.payload }) c) })
      ∧ Answers 0x0124 3 .setLinkKey (fun q ss _ => q.payload.length = 32 ∧ OverUsb ss)
        (fun q _ c => { payload := leBytes 4 (keyId (some q.payload))
                        chip := changed 2 (keyId (some q.payload)) (updMbx (fun m => { m with lkey := some q.payload }) c) }))
    -- the module state
    ∧ Answers 0x0201 0 .stateGet (fun q _ _ => q.payload = [])
        (fun _ _ c => { payload := leBytes 1 c.sup.mstate.code ++ leBytes 1 c.sup.role.code ++ leBytes 1 c.pair.st.code
                          ++ leBytes 1 c.sets.siding.code ++ leBytes 1 c.time.servo.code ++ [0, 0, 0] ++ leBytes 8 c.tt.tn
                        chip := c })
    ∧ (∀ may : Chip → Prop, (∀ c, may c ↔ (c.time.servo ≠ .unlocked ∧ c.time.servo ≠ .locking) ∧ c.hlth.stage < 3 ∧ isReserve c = false
          ∧ c.sup.conflict = false ∧ ¬(isPair c = true ∧ c.pair.st = .degraded ∧ c.pair.withdrawn = true)) →
      Answers 0x0202 2 .restart (fun q _ c => Shaped q.payload 4 [1, 2, 3] ∧ fld q.payload 0 1 = 1 ∧ may c)
        (fun q _ c => acceptedFor (.enterRun false 1) (await 0x0202 q.sess q.tag c))
      ∧ Answers 0x0202 1 .restart (fun q _ c => Shaped q.payload 4 [1, 2, 3] ∧ fld q.payload 0 1 = 2 ∧ may c ∧ dirIntact c = true
            ∧ (live c 0x2010 1 2 2 ≠ 1 ∨ allKept c = true) ∧ migOutside c = false)
        (fun q _ c => acceptedFor (.enterRun true 1) (await 0x0202 q.sess q.tag { c with sup := { c.sup with mismatch := false } }))
      ∧ Answers 0x0202 1 .restart (fun q _ c => Shaped q.payload 4 [1, 2, 3] ∧ fld q.payload 0 1 = 2 ∧ may c ∧ dirIntact c = true
            ∧ live c 0x2010 1 2 2 = 1 ∧ allKept c = false)
        (fun q _ c => { status := 1, chip := record 0x0235 0x0300 [] { c with sup := { c.sup with mismatch := true } }
                        after := complete 0x0202 q.sess q.tag 0x0403 [] }))
    ∧ Answers 0x0203 1 .stop (fun q _ _ => q.payload = []) (fun q _ c => acceptedFor .enterStop (await 0x0203 q.sess q.tag c))
    ∧ Answers 0x0204 3 .serviceEnter (fun q _ c => q.payload = [] ∧ c.time.servo ≠ .unlocked ∧ c.time.servo ≠ .locking ∧ c.hlth.stage < 3)
        (fun q _ c => doneFor .enterService { c with sup := { c.sup with svcSess := some q.sess } })
    ∧ Answers 0x0205 3 .serviceExit (fun q _ _ => q.payload = []) (fun _ _ c => doneFor .enterStop c)
    ∧ Answers 0x0206 3 .reset (fun q _ _ => q.payload = [])
        (fun _ _ c => { chip := c, after := fun c => { powerDown (saveAtFail c) with
                          sup := { (powerDown (saveAtFail c)).sup with mstate := .boot, fromReset := true } } })

/-- R428 to R431: every row of groups 0x03, 0x04 and 0x05 answers as its rule says, for every session that may have it executed. -/
def Obligations.SetTaskAndValueCommands : Prop :=
  -- siding loads
  (∀ begun : Req → Chip → Chip,
    (begun = fun q c => { c with sets := { c.sets with side := none, siding := .loading, load := some (fld q.payload 0 4, fld q.payload 4 4, 0) } }) →
    Answers 0x0301 2 .setLoadBegin (fun q _ c => q.payload.length = 8 ∧ fld q.payload 0 4 ≤ 2 ^ 28 ∧ sidingFree c = true)
      (fun q _ c => { chip := begun q c })
    ∧ Answers 0x0301 2 .setLoadBegin (fun q _ _ => q.payload.length = 8 ∧ 2 ^ 28 < fld q.payload 0 4)
      (fun _ _ c => { status := 0x0103, chip := if c.sets.load.isSome then clearSiding c else c }))
    ∧ (∀ total id n, Answers 0x0302 2 .setLoadData
        (fun q _ c => Shaped q.payload q.payload.length [4, 5, 6, 7] ∧ 9 ≤ q.payload.length ∧ q.payload.length ≤ 4096
          ∧ c.sets.load = some (total, id, n) ∧ fld q.payload 0 4 = n ∧ n + (q.payload.length - 8) ≤ total ∧ sidingFree c = true)
        (fun q _ c => { chip := { c with sets := { c.sets with load := some (total, id, n + (q.payload.length - 8)) } } })
      ∧ Answers 0x0302 2 .setLoadData
        (fun q _ c => Shaped q.payload q.payload.length [4, 5, 6, 7] ∧ 9 ≤ q.payload.length ∧ q.payload.length ≤ 4096
          ∧ c.sets.load = some (total, id, n) ∧ (fld q.payload 0 4 ≠ n ∨ total < n + (q.payload.length - 8)))
        (fun _ _ c => { status := 0x0103, chip := clearSiding c })
      ∧ ∀ pkg : Package, Answers 0x0303 2 (fun q => .setLoadEnd q pkg)
          (fun q _ c => q.payload = [] ∧ c.sets.load = some (total, id, n) ∧ n < total) (fun _ _ c => { status := 0x0103, chip := clearSiding c }))
    ∧ (∀ (pkg : Package) (pre : Req → Session → Chip → Prop),
      (∀ q ss c, pre q ss c ↔ q.payload = [] ∧ (∃ total id, c.sets.load = some (total, id, total)) ∧ sidingFree c = true) →
      (∀ b, Answers 0x0303 2 (fun q => .setLoadEnd q pkg) (fun q ss c => pre q ss c ∧ packageBad c.sets.main pkg = some b)
        (fun q _ c => { status := 1, chip := (loadRefused b c).2, after := complete 0x0303 q.sess q.tag b.status (loadRefused b c).1 }))
      ∧ Answers 0x0303 2 (fun q => .setLoadEnd q pkg) (fun q ss c => pre q ss c ∧ packageBad c.sets.main pkg = none ∧ isPair c = false)
        (fun q _ c => let r := loadDone (storeSiding pkg.set .loading c)
                      { status := 1, chip := r.2, after := complete 0x0303 q.sess q.tag 0 r.1 })
      ∧ Answers 0x0303 2 (fun q => .setLoadEnd q pkg) (fun q ss c => pre q ss c ∧ packageBad c.sets.main pkg = none ∧ isPair c = true)
        (fun q _ c => let d := storeSiding pkg.set .loading c
                      { status := 1
                        chip := emit (.proposal (.load pkg)) { d with sup := { d.sup with
                                  pairCmds := d.sup.pairCmds ++ [(d.tt.tn, .loaded, q.sess, q.tag)] } } }))
    -- throws: an option not given takes its live parameter
    ∧ (∀ (force staged : Req → Chip → Bool) (pre : Req → Session → Chip → Prop),
      (∀ q c, force q c = if bit (fld q.payload 8 1) 0 then bit (fld q.payload 8 1) 1 else live c 0x2020 2 1 1 == 1) →
      (∀ q c, staged q c = if bit (fld q.payload 8 1) 2 then bit (fld q.payload 8 1) 3 else live c 0x2020 2 0 0 == 1) →
      (∀ q ss c, pre q ss c ↔ Shaped q.payload 16 [9, 10, 11, 12, 13, 14, 15] ∧ fld q.payload 8 1 < 16 ∧ c.tt.tn + 16 ≤ fld q.payload 0 8
        ∧ sidingFree c = true ∧ throwBad c (force q c) (staged q c) = none) →
      Answers 0x0304 2 .throw (fun q ss c => pre q ss c ∧ isPair c = false)
        (fun q _ c => { status := 1, chip := nameThrow (fld q.payload 0 8) (force q c) false (some (q.sess, q.tag)) c })
      ∧ Answers 0x0304 2 .throw (fun q ss c => pre q ss c ∧ isPair c = true ∧ c.pair.st ≠ .degraded)
        (fun q _ c => { status := 1
                        chip := emit (.proposal (.throw (fld q.payload 0 8) (force q c) (staged q c))) { c with sup := { c.sup with
                          pairCmds := c.sup.pairCmds
                            ++ [(c.tt.tn, .named (fld q.payload 0 8) (force q c) (staged q c), q.sess, q.tag)] } } }))
    ∧ Answers 0x0305 2 .throwCancel (fun q _ c => q.payload = [] ∧ c.sets.named = true ∧ c.sets.rollback = false)
        (fun q _ c => if isPair c then decided .throwCancel q [] c else { chip := cancelThrow 0x0323 c })
    ∧ Answers 0x0306 2 .sidingClear (fun q _ c => q.payload = [] ∧ sidingFree c = true)
        (fun _ _ c => { chip := { c with sets := { c.sets with side := none, siding := .empty, load := none } } })
    ∧ Answers 0x0307 0 .reportRead (fun q _ _ => q.payload.length = 4)
        (fun q _ c => { payload := (c.sets.report.drop (fld q.payload 0 4)).take 4096, chip := c })
    -- tasks, images
    ∧ Answers 0x0401 2 .taskResume (fun q _ c => Shaped q.payload 4 [1, 2, 3] ∧ (task c (fld q.payload 0 1)).st = .suspended)
        (fun q _ c => decided (.taskResume (fld q.payload 0 1)) q [] c)
    ∧ (∀ (q : Req) (s : State) (ss : Session) (p : Peer), Granted 0x0402 0 q s.chip ss p → Shaped q.payload 4 [1, 2, 3] →
        let t := fld q.payload 0 1
        Goes (.taskRead q) s (respond 0x0402 q.sess q.tag 0
          (((List.range 10).map (fun i => (0x2100 + t, i + 1)) ++ (List.range 6).map (fun i => (0x2200 + t, i + 1))).flatMap
            (fun (w : Nat × Nat) => leBytes 4 ((paramWord (latched s) w.1 w.2).getD 0))) (taken q p s)))
    ∧ (∀ i : Image, Answers 0x0403 0 .imageInfo
        (fun q _ c => Shaped q.payload 4 [2, 3] ∧ c.sets.main.images.find? (fun x => x.no == fld q.payload 0 2) = some i)
        (fun _ _ c => { payload := imageHeader i, chip := c }))
    -- variables
    ∧ (∀ (q : Req) (s : State) (ss : Session) (p : Peer) (bs : List (List Byte)), Granted 0x0501 0 q s.chip ss p →
        let n := fld q.payload 0 1
        Shaped q.payload (4 + 16 * n) ([1, 2, 3] ++ (List.range n).flatMap (fun i => (List.range 4).map (fun k => 16 + 16 * i + k))) →
        (List.range n).map (fun i => varAnswer (latched s) (varReq q.payload i)) = bs.map some → bs.flatten.length ≤ 4096 →
        Goes (.varRead q) s (respond 0x0501 q.sess q.tag 0 bs.flatten (taken q p s)))
    ∧ (∀ v : VarEntry, Answers 0x0502 1 .varWrite
        (fun q _ c => 17 ≤ q.payload.length ∧ q.payload.length ≤ 4096 ∧ Shaped q.payload (16 + fld q.payload 10 2 * v.loc.ty.size) [13, 14, 15]
          ∧ hostWritten c.sets.main (fld q.payload 0 8) = some v ∧ fld q.payload 12 1 = v.loc.ty.code ∧ fld q.payload 10 2 ≠ 0
          ∧ fld q.payload 8 2 + fld q.payload 10 2 ≤ v.elems)
        (fun q _ c => decided (.varWrite (fld q.payload 0 8) (fld q.payload 8 2) ((List.range (fld q.payload 10 2)).map (fun i =>
          fld q.payload (16 + i * v.loc.ty.size) v.loc.ty.size))) q [] c))
    -- forces
    ∧ (∀ need, Answers 0x0503 need .forceSet
        (fun q ss c =>
          let f := forceAsked c q.sess ss q.payload
          need = (if classSVar c.sets.main (fld q.payload 0 8) then 3 else 2) ∧ Shaped q.payload 32 [12, 13, 14, 15] ∧ fld q.payload 11 1 < 4
          ∧ (∃ ty elems, varInfo c.sets.main (fld q.payload 0 8) = some (ty, elems) ∧ fld q.payload 8 2 < elems) ∧ fld q.payload 10 1 < 2
          ∧ (bit f.flags 0 = false ∨ meetsS f = true) ∧ ¬(isPair c = true ∧ c.pair.st = .degraded) ∧ forceShut c [f] = false
          ∧ (c.sets.forces.length < 512 ∨ ∃ g ∈ c.sets.forces, g.varId = f.varId ∧ g.elem = f.elem))
        (fun q ss c => decided (.forceSet (forceAsked c q.sess ss q.payload)) q [] c)
      ∧ Answers 0x0504 need .forceClear
        (fun q _ c => need = (if classSVar c.sets.main (fld q.payload 0 8) then 3 else 2) ∧ Shaped q.payload 16 [11, 12, 13, 14, 15]
          ∧ fld q.payload 10 1 < 2 ∧ ¬(isPair c = true ∧ c.pair.st = .degraded)
          ∧ forceShut c (c.sets.forces.filter (forceNamed (fld q.payload 0 8) (fld q.payload 8 2) (fld q.payload 10 1))) = false)
        (fun q _ c => decided (.forceClear (fld q.payload 0 8) (fld q.payload 8 2) (fld q.payload 10 1) q.sess) q [] c))
    ∧ Answers 0x0505 0 .forceList (fun q _ _ => Shaped q.payload 4 [2, 3])
        (fun q _ c =>
          let fs := (c.sets.forces.drop (fld q.payload 0 2)).take 127
          { payload := leBytes 4 fs.length ++ fs.flatMap forceBytes, chip := c })

/-- R432, R433: every row of groups 0x06 to 0x09 answers as its rule says, for every session that may have it executed. -/
def Obligations.FieldCanTimeAndSageCommands : Prop :=
  -- digital and analogue channels
  Answers 0x0601 2 .diCountReset (fun q _ _ => q.payload.length = 4) (fun q _ c => decided (.diReset (fld q.payload 0 4)) q [] c)
    ∧ Answers 0x0602 2 .doLearn
        (fun q _ c => let ch := fld q.payload 0 1
          Shaped q.payload 4 [1, 2, 3] ∧ ch < 24 ∧ doEn c ch = true ∧ cfgb c (0x3140 + ch) 1 14 = true ∧ (dov c ch).learn = none)
        (fun q _ c => { status := 1, chip := updDo (fld q.payload 0 1) (fun d => { d with
                          learn := some (16, none, 0, q.sess, q.tag), learnOn := false, learnCur := none }) c })
    ∧ Answers 0x0603 1 .holdAck
        (fun q _ c => Shaped q.payload 4 [1, 2, 3] ∧ fld q.payload 0 1 < 3 ∧ Map.getD c.io.hold (fld q.payload 0 1) false = true)
        (fun q _ c => decided (.holdAck (fld q.payload 0 1)) q [] c)
    ∧ (∀ need, Answers 0x0604 need .hartSend
        (fun q _ c => let p := q.payload
          need = (if hartRefused (fld p 2 1) then 3 else 2) ∧ p.length = 4 + fld p 3 1 ∧ fld p 3 1 ≤ 64 ∧ fld p 0 1 < 32 ∧ fld p 1 1 < 64
          ∧ (hartRefused (fld p 2 1) = false ∨ hartClassS c (fld p 0 1) = false ∨ c.sup.mstate = .stop) ∧ (hch c (fld p 0 1)).queue.length < 4)
        (fun q _ c => let p := q.payload
          { status := 1, chip := c
            after := hartPush { h := fld p 0 1, addr := fld p 1 1, cmd := fld p 2 1, data := p.drop 4, tag := q.tag % 2 ^ 32,
                                sess := some q.sess } }))
    ∧ Answers 0x0605 3 .loopCheck
        (fun q _ _ => let p := q.payload
          Shaped p 8 [2, 3] ∧ ((fld p 0 1 = 0 ∧ fld p 1 1 < 24 ∧ fld p 4 4 < 2) ∨ (fld p 0 1 = 1 ∧ fld p 1 1 < 8 ∧ fld p 4 4 ≤ 44000)))
        (fun q _ c => doneFor (.loopCheck (fld q.payload 0 1) (fld q.payload 1 1) (fld q.payload 4 4)) c)
    -- CAN
    ∧ Answers 0x0701 1 .canTx
        (fun q _ c => let p := q.payload
          Shaped p 76 [9, 10, 11] ∧ fld p 0 1 < 4 ∧ 32 ≤ fld p 1 1 ∧ fld p 1 1 < 48 ∧ fld p 2 2 ≤ 10000 ∧ fld p 8 1 < 16
          ∧ (fld p 8 1 ≤ 8 ∨ cfgb c (0x4000 + fld p 0 1) 1 2 = true))
        (fun q _ c => let p := q.payload
          let f : CanFrame := { ext := flg p 7 7, id := fld p 4 4 % 2 ^ 29, dlc := fld p 8 1, data := (p.drop 12).take (dlcLen (fld p 8 1)) }
          acceptedFor (.canTx { ch := fld p 0 1, buf := fld p 1 1, frame := f, arm := fld p 2 2, tag := q.tag % 2 ^ 32 } q.sess q.tag) c)
    ∧ Answers 0x0702 1 .canAbort
        (fun q _ _ => Shaped q.payload 4 [2, 3] ∧ fld q.payload 0 1 < 4 ∧ 32 ≤ fld q.payload 1 1 ∧ fld q.payload 1 1 < 48)
        (fun q _ c => { chip := canAbortBuf (fld q.payload 0 1) (fld q.payload 1 1) c })
    ∧ (∀ need, Answers 0x0703 need .canObjRead
        (fun q _ _ => let p := q.payload
          Shaped p 4 [3] ∧ fld p 0 1 < 4 ∧ fld p 1 1 < 128 ∧ fld p 2 1 < 2 ∧ need = fld p 2 1)
        (fun q _ c =>
          let x := Map.getD (canCh c (fld q.payload 0 1)).objs (fld q.payload 1 1) {}
          { payload := match canCopy x with | some r => rxBytes r x.isNew false | none => List.replicate 80 0
            chip := if fld q.payload 2 1 = 1 then updCan (fld q.payload 0 1) (fun h => { h with
                      objs := Map.upd h.objs (fld q.payload 1 1) {} (fun x => { x with isNew := false }) }) c
                    else c }))
    ∧ Answers 0x0704 1 .canRecover
        (fun q _ c => Shaped q.payload 4 [1, 2, 3] ∧ fld q.payload 0 1 < 4 ∧ (canCh c (fld q.payload 0 1)).st = .busOff
          ∧ cfgb c (0x4000 + fld q.payload 0 1) 1 7 = true)
        (fun q _ c => { chip := updCan (fld q.payload 0 1) (fun h => { h with st := .recovering }) c })
    ∧ Answers 0x0705 0 .canSubscribe (fun q _ _ => Shaped q.payload 4 [1, 2, 3])
        (fun q _ c => { chip := subscribe q.sess 0 8 (fld q.payload 0 1) c
                        after := forAll ((List.range 8).filter (fun r => bit (fld q.payload 0 1) r)) drainCan })
    -- time
    ∧ Answers 0x0801 0 .tsSubscribe (fun q _ _ => Shaped q.payload 4 [1, 2, 3] ∧ fld q.payload 0 1 < 16)
        (fun q _ c => { chip := subscribe q.sess 8 4 (fld q.payload 0 1) c })
    ∧ Answers 0x0802 0 .timeGet (fun q _ _ => q.payload = [])
        (fun _ _ c => { payload := leBytes 8 c.time.clock ++ (List.range 8).flatMap (fun i => leBytes 4 ((paramWord c 0x5201 (i + 1)).getD 0))
                        chip := c })
    ∧ Answers 0x0803 2 .timeSet (fun q _ c => q.payload.length = 8 ∧ c.time.servo = .grandmaster)
        (fun q _ c => { chip := stepClock (fld q.payload 0 8) (record 0x082A 0 [] c) })
    -- Sage
    ∧ (∀ (d : Desc) (b : SBlk) (n : Nat), Answers 0x0901 2 .slotWrite
        (fun q _ c => let p := q.payload
          Shaped p (8 + 4 * n) [2, 3] ∧ 1 ≤ n ∧ n ≤ 1020 ∧ descOf c.sets.main (fld p 0 1) = some d ∧ d.owner = 0xFFFF
          ∧ d.blks[fld p 1 1]? = some b ∧ b.kind = 0 ∧ fld p 4 4 + n ≤ b.count ∧ slotBusy c (fld p 0 1) = false)
        (fun q _ c => let p := q.payload
          { chip := updSlot (fld p 0 1)
              (writeSlot d b (fld p 1 1) (fld p 4 4) ((List.range n).map (fun i => signed 32 (fld p (8 + 4 * i) 4)))) c }))
    ∧ Answers 0x0902 2 .slotSubmit
        (fun q _ c => let p := q.payload
          Shaped p 8 [1, 2, 3] ∧ (∃ d, descOf c.sets.main (fld p 0 1) = some d ∧ d.owner = 0xFFFF) ∧ 1000 ≤ fld p 4 4 ∧ fld p 4 4 ≤ 10000000
          ∧ c.hlth.stage < 3 ∧ slotBusy c (fld p 0 1) = false)
        (fun q _ c => acceptedFor (.slotSubmit (fld q.payload 0 1) (fld q.payload 4 4) q.sess q.tag) c)
    ∧ (∀ (d : Desc) (b : SBlk), Answers 0x0903 0 .slotRead
        (fun q _ c => let p := q.payload
          Shaped p 12 [2, 3] ∧ descOf c.sets.main (fld p 0 1) = some d ∧ d.blks[fld p 1 1]? = some b ∧ fld p 8 4 ≤ 1020
          ∧ fld p 4 4 + fld p 8 4 ≤ b.count)
        (fun q _ c => let p := q.payload
          { payload := leBytes 4 (slot c (fld p 0 1)).cur.word
              ++ ((slotRead (slot c (fld p 0 1)) (fld p 1 1) (fld p 4 4 + fld p 8 4)
                    (b.kind == 1 && (slot c (fld p 0 1)).pubBank)).drop (fld p 4 4)).flatMap
                  (fun v => leBytes (if b.role = 0x21 then 2 else 4) (unsigned 32 v))
            chip := c }))
    ∧ ∀ d : Desc, Answers 0x0904 3 .deadlineTest
        (fun q _ c => let p := q.payload
          Shaped p 8 [1, 2, 3] ∧ descOf c.sets.main (fld p 0 1) = some d ∧ d.owner ≠ 0xFFFF ∧ fld p 4 4 ≠ 0
          ∧ fld p 4 4 + d.marginUs < cfg c (0x2100 + d.owner) 2 31 0 * tTick c)
        (fun q _ c => let p := q.payload
          if isPair c then decided (.deadlineTest (fld p 0 1) (fld p 4 4)) q [] c
          else { chip := order (c.tt.tn + 2) (.deadlineTest (fld p 0 1) (fld p 4 4)) c })

/-- R434, R436 to R439: every row of groups 0x0A to 0x0F answers as its rule says, for every session that may have it executed. FIRST_SEQ of
an answer without records and bytes whose layout the spec does not state are free values. -/
def Obligations.RecordCounterAndParameterCommands : Prop :=
  -- Thyme
  Answers 0x0A01 0 .thymeRead (fun q _ _ => Shaped q.payload 16 [9, 10, 11, 12, 13, 14, 15] ∧ fld q.payload 8 1 ≤ 31)
    (fun q _ c =>
      let l := (heldFrom c (fld q.payload 0 8)).take (fld q.payload 8 1)
      { payload := leBytes 8 (match l.head? with | some r => r.seq | none => Config.freeNat c.sup.freeCtr [0x0A01] % 2 ^ 64)
          ++ (leBytes 1 l.length ++ leBytes 1 (b01 (hasGap (fld q.payload 0 8) l)) ++ List.replicate 6 0 ++ l.flatMap recBytes)
        chip := if l = [] then drawn c else c })
    ∧ Answers 0x0A02 0 .thymeSubscribe (fun q _ _ => Shaped q.payload 16 [1, 2, 3, 4, 5, 6, 7] ∧ fld q.payload 0 1 < 2)
        (fun q _ c => { chip := subscribe q.sess 12 1 (fld q.payload 0 1) c
                        after := fun c => if fld q.payload 0 1 = 1
                          then forAll (heldFrom c (fld q.payload 8 8)) (fun r => feed q.sess 124 (recBytes r)) c else c })
    ∧ Answers 0x0A03 2 .thymeClear (fun q ss _ => q.payload = [] ∧ ss.unlock.isSome = true)
        (fun q ss c =>
          let d := record 0x0A01 (0x0800 + q.sess) [q.sess, (match ss.peer with | some p => p.addr | none => 0), keyId c.mbx.vkey] c
          let keep := fun (l : List Rec) => l.filter (fun r => decide (c.thy.seq ≤ r.seq))
          let gone := ((d.thy.vol ++ d.thy.per).filter (fun r => decide (r.seq < c.thy.seq)) |>.map (·.seq) |>.eraseDups)
          { status := 1
            chip := record 0x0A02 0x0300 (w64 c.thy.seq ++ [gone.length])
              { d with thy := { d.thy with vol := keep d.thy.vol, per := keep d.thy.per } }
            after := complete 0x0A03 q.sess q.tag 0 (leBytes 8 c.thy.seq) })
    -- counters
    ∧ Answers 0x0B01 1 .cntSnapshot (fun q _ _ => q.payload = [])
        (fun q _ c => { status := 1, chip := { c with cnt := { c.cnt with waiting := c.cnt.waiting ++ [(q.sess, q.tag)] } } })
    ∧ (∀ need, Answers 0x0B02 need .cntRead
        (fun q _ c => let p := q.payload
          p.length = 4 ∧ fld p 2 2 ≤ 511 ∧ fld p 0 2 + fld p 2 2 ≤ 512 ∧ ∀ n, fld p 0 2 ≤ n → n < fld p 0 2 + fld p 2 2 → cntRole c n ≤ need)
        (fun q _ c => let p := q.payload
          { payload := leBytes 8 c.cnt.snapTn ++ ((List.range (fld p 2 2)).map (fld p 0 2 + ·)).flatMap (fun i =>
              leBytes 8 (Map.getD c.cnt.snap i 0 + if c.cnt.snapStk.contains i then 2 ^ 63 else 0))
            chip := c }))
    ∧ Answers 0x0B03 2 .cntClear (fun q _ _ => q.payload.length = 4 ∧ fld q.payload 0 2 + fld q.payload 2 2 ≤ 512)
        (fun q _ c => doneFor (.cntClear (fld q.payload 0 2) (fld q.payload 2 2)) c)
    ∧ Answers 0x0B04 2 .cntThreshold (fun q _ _ => Shaped q.payload 8 [1] ∧ fld q.payload 0 1 < 32 ∧ sourceOk (fld q.payload 2 2) = true)
        (fun q _ c => doneFor (.cntThreshold (fld q.payload 0 1) (fld q.payload 2 2) (fld q.payload 4 4)) c)
    -- display
    ∧ Answers 0x0C01 0 .dispJournalRead (fun q _ _ => Shaped q.payload 4 [2, 3])
        (fun q _ c => { payload := journalHead c.mem ++ ((c.mem.dispEntries.drop (fld q.payload 0 2)).take 250).flatMap journalEntry, chip := c })
    ∧ (∀ (pn tiles cols : Nat), (pn, tiles, cols) ∈ [(0, 592, 37), (1, 49152, 256)] → Answers 0x0C02 0 .ledgerRead
        (fun q _ _ => Shaped q.payload 4 [1] ∧ fld q.payload 0 1 = pn ∧ fld q.payload 2 2 < tiles)
        (fun q _ c =>
          let n := Nat.min 2040 (tiles - fld q.payload 2 2)
          { payload := leBytes 4 n ++ (List.range n).flatMap (fun i => leBytes 2 (unsigned 16
              (Map.getD (panel c pn).ledger ((fld q.payload 2 2 + i) / cols * 256 + (fld q.payload 2 2 + i) % cols) 0)))
            chip := c }))
    -- redundancy
    ∧ Answers 0x0D01 2 .reserveCall (fun q _ c => q.payload = [] ∧ isPair c = true ∧ c.pair.st = .alone ∧ hasReserve c = true)
        (fun q _ c => { status := 1, chip := callReserve (await 0x0D01 q.sess q.tag c) })
    ∧ Answers 0x0D02 2 .proofStart (fun q _ c => q.payload = [] ∧ c.sup.role = .reserve ∧ c.pair.ckptValid = true)
        (fun q _ c => { status := 1, chip := startProof (await 0x0D02 q.sess q.tag c) })
    ∧ Answers 0x0D03 2 .pairResync (fun q _ c => q.payload = [] ∧ isPair c = true ∧ c.pair.disagree = true)
        (fun q _ c => { status := 1, chip := splitRoles (await 0x0D03 q.sess q.tag c) })
    -- spares
    ∧ (∀ unit, Answers 0x0E01 2 .substitute
        (fun q _ c => let k := fld q.payload 0 1
          Shaped q.payload 4 [2, 3] ∧ unitOf k (fld q.payload 1 1) = some unit ∧ unitAdvised c k (fld q.payload 1 1) = true)
        (fun q _ c => let u := fld q.payload 1 1
          let d := await (substKey unit) q.sess q.tag c
          if fld q.payload 0 1 = 1 then { status := 1, chip := updCe u (fun e => { e with swap := some 2 }) d }
          else if fld q.payload 0 1 = 2 then { status := 1, chip := updSe u (fun e => { e with swap := some 2 }) d }
          else { status := 1, chip := d, after := substAi u 2 })
      ∧ Answers 0x0E02 3 (fun q => .spareRestore q true)
        (fun q _ c => Shaped q.payload 4 [2, 3] ∧ unitOf (fld q.payload 0 1) (fld q.payload 1 1) = some unit
          ∧ unitOut c (fld q.payload 0 1) (fld q.payload 1 1) = true)
        (fun q _ c => { chip := record 0x0E16 unit [unit, 4] (restoreUnit (fld q.payload 0 1) (fld q.payload 1 1) c) }))
    ∧ Answers 0x0E03 3 .diagRead
        (fun q _ _ => q.payload.length = 12 ∧ fld q.payload 8 4 ≤ 4080
          ∧ ∃ w ∈ windows, w.1 ≤ fld q.payload 0 8 ∧ fld q.payload 0 8 + fld q.payload 8 4 ≤ w.1 + w.2)
        (fun q _ c => { payload := leBytes 8 c.time.clock ++ (List.range (fld q.payload 8 4)).map (fun i => diagByte c (fld q.payload 0 8 + i))
                        chip := drawn c })
    -- parameters
    ∧ (∀ (q : Req) (s : State) (ss : Session) (p : Peer) (need : Nat), Granted 0x0F01 need q s.chip ss p →
        let n := fld q.payload 0 1
        let es := (List.range n).map (readEntry q.payload)
        Shaped q.payload (4 + 4 * n) [1, 2, 3] → n ≤ 127 → 4 + (es.map (fun e => 8 + 4 * e.2.2)).sum ≤ 4096 →
        (∀ e ∈ es, entryRole s.chip e ≤ need) →
        ((s.chip.sup.mstate = .boot ∨ s.chip.sup.mstate = .selftest) → ∀ e ∈ es, 0x1000 ≤ e.1 ∧ e.1 < 0x2000) →
        let hi := if es.any readsTn then (latched s).tt.tn / 2 ^ 32 % 2 ^ 32 else s.chip.tt.tnHi
        Goes (.paramRead q) s (respond 0x0F01 q.sess q.tag 0
          (leBytes 4 n ++ es.flatMap (entryAnswer { latched s with tt := { (latched s).tt with tnHi := hi } }))
          { taken q p s with tt := { s.chip.tt with tnHi := hi } }))
    ∧ (∀ need, Answers 0x0F02 need .paramWrite
        (fun q _ c =>
          let n := fld q.payload 0 1
          let es := (List.range n).map (writeEntry q.payload)
          Shaped q.payload (4 + 8 * n) [1, 2, 3] ∧ n ≤ 127 ∧ writeBad q.payload n = none ∧ (∀ e ∈ es, writeRole e.1 e.2.1 ≤ need)
          ∧ ((∀ e ∈ es, accessIx e.1 = true) ∨ ∀ e ∈ es, accessIx e.1 = false) ∧ (∀ e ∈ es, writeOk c e.1 e.2.1 e.2.2 = true)
          ∧ ¬(c.sets.named = true ∧ ∃ e ∈ es, e.1 = 0x2020 ∧ e.2.1 = 1))
        (fun q _ c =>
          let n := fld q.payload 0 1
          let es := (List.range n).map (writeEntry q.payload)
          let eff := Effect.params (es.map (fun e => (e.1 * 256 + e.2.1, e.2.2)))
          if n ≠ 0 ∧ ∀ e ∈ es, accessIx e.1 = true then { payload := [255, 0, 0, 0], chip := order (c.tt.tn + 1) eff c }
          else decided eff q [255, 0, 0, 0] c))
    ∧ ∀ b : List Byte, Answers 0x0F03 0 .paramDescribe
        (fun q _ c => Shaped q.payload 4 [3] ∧ descriptor c (fld q.payload 0 2) (fld q.payload 2 1) = some b) (fun _ _ c => { payload := b, chip := c })

/-- R438, R459, R467 to R474: the rows of start-up, and those of a counter's wrap and of a register write. -/
def Obligations.StartUpRows : Prop :=
  -- POWER_UP from OFF and the heaters
  (∀ dt r, Takes (.powerUp dt r) dt (fun c => r.cause ≠ 1 ∧ (c.sup.mstate ≠ .off ∧ c.sup.mstate ≠ .boot ∨ c.sup.bootFail = true
        ∨ c.sup.heating.isSome = true)) id)
    ∧ (∀ dt r, r.heater = true → Takes (.powerUp dt r) dt
        (fun c => r.cause ≠ 1 ∧ c.sup.mstate = .off ∧ c.sup.bootFail = false ∧ c.sup.heating = none ∧ c.sup.orderCx = true)
        (fun c => { c with sup := { c.sup with heating := some r } }))
    ∧ (∀ (i : Instr) (s : State) (r : StartUp),
      (∃ dt, i = .powerUp dt r ∧ r.cause ≠ 1 ∧ s.chip.sup.mstate = .off ∧ s.chip.sup.bootFail = false ∧ s.chip.sup.heating = none
          ∧ (r.heater = false ∨ s.chip.sup.orderCx = false))
        ∨ (∃ dt secs, i = .heaterRunEnd dt secs ∧ s.chip.sup.heating = some r) →
      (r.boot1Ok = false → r.boot2Ok = false → Does i s (fun c' => c'.sup.mstate = .boot ∧ c'.sup.bootFail = true ∧ c'.sup.serving = false
          ∧ c'.mem = s.chip.mem ∧ c'.sets = s.chip.sets ∧ c'.out = s.chip.out))
      ∧ (r.boot1Ok = true ∨ r.boot2Ok = true →
        (r.fatal = true → Does i s (fun c' => c'.sup.mstate = .fault))
        ∧ (r.fatal = false → r.tcxoFail = none → r.ceFail = [] → r.seFail = [] →
          (∀ n, (ceEng s.chip n).st ≠ .failed ∧ (ceEng s.chip n).subBy = none) → (∀ e, (seEng s.chip e).st ≠ .failed ∧ (seEng s.chip e).subBy = none) →
          Does i s (fun c' =>
            let stored := if s.chip.mem.selMain = 0 then s.chip.mem.nand0 else s.chip.mem.nand1
            c'.sup.mstate = .selftest ∧ c'.sup.roleWait = true ∧ c'.sup.serving = true ∧ c'.time.clock = s.chip.mem.savedClock
              ∧ c'.time.servo = .unlocked
              ∧ (∀ cs, stored = some cs → r.setOk = true → setBad cs = none → c'.sets.main = cs
                  ∧ (live s.chip 0x2010 1 1 0 = 1 → c'.sup.restart = 1))
              ∧ (stored = none ∨ r.setOk = false ∨ (∃ cs, stored = some cs ∧ setBad cs ≠ none) → c'.sets.main = {} ∧ c'.sup.restart = 0)
              ∧ (∀ t, t < 256 → ((task c' t).st = .halted ∨ (task c' t).st = .empty) ∧ (task c' t).job = none)
              ∧ (s.chip.mem.restartCopy = none → c'.mem.ret = s.chip.mem.ret) ∧ c'.mem.glb = s.chip.mem.glb))))
    -- roles
    ∧ (∀ dt h s, s.chip.sup.mstate = .selftest → s.chip.sup.roleWait = true → Does (.roleNegotiation dt h) s (fun c' =>
        let pairRole := cfgRole s.chip.sets.main = 1 ∨ cfgRole s.chip.sets.main = 2
        c'.sup.mstate = .stop ∧ c'.sup.roleWait = false
          ∧ c'.sup.role = (match cfgRole s.chip.sets.main with | 1 => .pairA | 2 => .pairB | 3 => .reserve | _ => .solo)
          ∧ (c'.sup.conflict = true ↔ pairRole ∧ h.sameRole = true)
          ∧ (cfgRole s.chip.sets.main = 3 → c'.pair.st = .standby)
          ∧ (¬pairRole → cfgRole s.chip.sets.main ≠ 3 → c'.pair.st = .none)
          ∧ (pairRole → h.sameRole = false →
              (h.hbState.isSome = true → c'.pair.st = .none ∧ c'.pair.withdrawn = false)
              ∧ (h.hbState = none → ∀ b, h.beaconState = some b →
                  c'.pair.st = .degraded ∧ (c'.pair.withdrawn = true ↔ cfgRole s.chip.sets.main = 2 ∨ b = 4))
              ∧ (h.hbState = none → h.beaconState = none → c'.pair.st = if h.witnessOk then .alone else .degraded)
              ∧ (h.hbState = some 4 → c'.sup.restart = 0))
          ∧ (c'.sup.autoWait.isSome = true ↔ live s.chip 0x7800 1 0 0 = 1 ∧ cfgRole s.chip.sets.main ≠ 3 ∧ c'.sup.conflict = false)
          ∧ (∀ ch, ch < 8 → (ao c' ch).committed = Nat.min (aoSafe s.chip ch) 44000) ∧ (∀ ch, ch < 24 → (dov c' ch).committed = doSafe s.chip ch)
          ∧ c'.mem.glb = s.chip.mem.glb ∧ c'.mem.ret = s.chip.mem.ret ∧ c'.tasks = s.chip.tasks))
    ∧ (∀ dt h, Takes (.roleNegotiation dt h) dt (fun c => ¬(c.sup.mstate = .selftest ∧ c.sup.roleWait = true)
        ∧ ¬(c.sup.mstate = .stop ∧ (c.sets.roleDue = true ∨ c.sup.conflict = true))) id)
    ∧ (∀ dt, Takes (.roleConflict dt) dt (fun c => c.sup.conflict = true) (record 0x0E07 0x0600 [])
        ∧ Takes (.roleConflict dt) dt (fun c => c.sup.conflict = false) id)
    -- auto-run
    ∧ (∀ dt,
      let may := fun (c : Chip) => c.sup.mstate = .stop ∧ c.sup.autoWait.isSome = true ∧ live c 0x7800 1 0 0 ≠ 0 ∧ c.sup.role ≠ .reserve
        ∧ c.sup.conflict = false ∧ timeOk c = true
      Takes (.autoRun dt) dt (fun c => may c ∧ (c.sup.restart ≠ 0 ∨ (isPair c = true ∧ partnerRuns c = true)))
          (fun c => order (c.tt.tn + 1) (.enterRun (c.sup.restart == 2) 0) { c with sup := { c.sup with autoWait := none } })
        ∧ Takes (.autoRun dt) dt (fun c => may c ∧ c.sup.restart = 0 ∧ (isPair c = false ∨ partnerRuns c = false))
          (fun c => { c with sup := { c.sup with autoWait := none } })
        ∧ Takes (.autoRun dt) dt (fun c => ¬may c) id)
    ∧ (∀ dt,
      let late := fun (c : Chip) => c.sup.mstate = .stop ∧ timeOk c = false
        ∧ ∃ t, c.sup.autoWait = some t ∧ t + liveWord c 0x7800 2 * 1000000000 ≤ c.time.clock
      Takes (.autorunTimeout dt) dt late (fun c => record 0x0E09 0x0300 [] { c with sup := { c.sup with autoWait := none } })
        ∧ Takes (.autorunTimeout dt) dt (fun c => ¬late c) id)
    -- counters that wrap, register writes
    ∧ (∀ dt (n : Fin 512), Takes (.cntWrap dt n) dt (fun c => n.val ∈ c.cnt.wrapDue)
          (fun c => record 0x0B01 0x0300 [n.val] { c with cnt := { c.cnt with wrapDue := c.cnt.wrapDue.erase n.val } })
        ∧ Takes (.cntWrap dt n) dt (fun c => n.val ∉ c.cnt.wrapDue) id)
    ∧ (∀ (k n : Nat) (c : Chip),
        Map.getD (bumpBy n k c).cnt.val n 0 = (Map.getD c.cnt.val n 0 + k) % 2 ^ 48
          ∧ (∀ m, m ≠ n → Map.getD (bumpBy n k c).cnt.val m 0 = Map.getD c.cnt.val m 0)
          ∧ (n ∈ (bumpBy n k c).cnt.wrapDue ↔ n ∈ c.cnt.wrapDue ∨ 2 ^ 48 ≤ Map.getD c.cnt.val n 0 + k)
          ∧ (n ∈ (bumpBy n k c).cnt.sticky ↔ n ∈ c.cnt.sticky ∨ 2 ^ 48 ≤ Map.getD c.cnt.val n 0 + k))
    ∧ ∀ dt ix sub (v : Word),
      let allowed := fun (c : Chip) => (∃ w, paramAt ix sub = some w ∧ w.reservedSet v.toNat = false) ∧ writeOk c ix sub v.toNat = true
        ∧ ¬(c.sets.named = true ∧ ix = 0x2020 ∧ sub = 1)
      Takes (.paramRegisterWrite dt ix sub v) dt allowed (fun c => order (c.tt.tn + 1) (.params [(ix * 256 + sub, v.toNat)]) c)
        ∧ Takes (.paramRegisterWrite dt ix sub v) dt (fun c => ¬allowed c) id

/-- A step takes the command at the front of the queue and is `exec` of it on the state with the queue's rest; the empty queue idles (the
model's own choice, log entry 1); no command touches the queue, and no command is refused. -/
def Obligations.StepRunsTheFrontCommand : Prop :=
  (∀ (i : Instr) (r : List Instr) (s : State), step { s with pending := i :: r } = exec i { s with pending := r })
    ∧ (∀ s : State, s.pending = [] → step s = .next s)
    ∧ (∀ (i : Instr) (s t : State), exec i s = .next t → t.pending = s.pending ∧ ((∀ dt ds, i ≠ .boundary dt ds) → t.snap = s.snap))
    ∧ ∀ (i : Instr) (s : State) (r : Refusal), exec i s ≠ .refused r

/-- From every state that meets the invariant a step answers a next state, never a fault and never a refusal, with the queue's rest, and that
state meets it too. -/
def Obligations.EveryStepGoesOnAndKeepsTheInvariant : Prop :=
  ∀ s : State, Inv s → ∃ t : State, step s = .next t ∧ t.pending = s.pending.tail ∧ Inv t

/-- The state after reset meets the invariant, in BOOT with everything empty. -/
def Obligations.ResetMeetsTheInvariant : Prop :=
  Inv State.reset ∧ State.reset.pending = [] ∧ State.reset.chip.sup.mstate = .boot ∧ State.reset.chip.mbx.sess = []
    ∧ (∀ t, (task State.reset.chip t).st = .empty) ∧ State.reset.chip.sets.main = {} ∧ State.reset.chip.sets.side = none
    ∧ (∀ n, Map.getD State.reset.chip.cnt.val n 0 = 0) ∧ (∀ a, Mem.rd State.reset.chip.mem.glb a = 0 ∧ Mem.rd State.reset.chip.mem.ret a = 0)
end

