-- ==== Sys2Proof/Laws/Memory.lean ====
section
/-! SUPPORT. Laws of the containers: what `Map.put` and `Map.upd` leave to `Map.find`, and the read, write and canonical-form laws of `Mem`. -/
namespace Sys2Proof.Machine

/-! ### Map -/

@[simp] theorem Map.find_nil {α : Type} (k : Nat) : Map.find ([] : Map α) k = none := rfl

@[simp] theorem Map.getD_nil {α : Type} (k : Nat) (d : α) : Map.getD ([] : Map α) k d = d := rfl

@[simp] theorem Map.find_put_self {α : Type} (m : Map α) (k : Nat) (a : α) : Map.find (Map.put m k a) k = some a := by
  induction m with
  | nil => simp [Map.put, Map.find]
  | cons x r ih =>
    obtain ⟨j, b⟩ := x
    simp only [Map.put]
    split
    · simp [Map.find]
    · split
      · simp [Map.find]
      · rename_i h; simp [Map.find, h, ih]

theorem Map.find_put_ne {α : Type} (m : Map α) (k i : Nat) (a : α) (h : i ≠ k) : Map.find (Map.put m k a) i = Map.find m i := by
  induction m with
  | nil => simp [Map.put, Map.find, Ne.symm h]
  | cons x r ih =>
    obtain ⟨j, b⟩ := x
    simp only [Map.put]
    split
    · simp [Map.find, Ne.symm h]
    · split
      · rename_i hj; subst hj; simp [Map.find, Ne.symm h]
      · simp only [Map.find, ih]

@[simp] theorem Map.getD_put_self {α : Type} (m : Map α) (k : Nat) (a d : α) : Map.getD (Map.put m k a) k d = a := by
  simp [Map.getD]

theorem Map.getD_put_ne {α : Type} (m : Map α) (k i : Nat) (a d : α) (h : i ≠ k) :
    Map.getD (Map.put m k a) i d = Map.getD m i d := by simp [Map.getD, Map.find_put_ne m k i a h]

@[simp] theorem Map.getD_upd_self {α : Type} (m : Map α) (k : Nat) (d : α) (f : α → α) :
    Map.getD (Map.upd m k d f) k d = f (Map.getD m k d) := by simp [Map.upd]

theorem Map.getD_upd_ne {α : Type} (m : Map α) (k i : Nat) (d e : α) (f : α → α) (h : i ≠ k) :
    Map.getD (Map.upd m k d f) i e = Map.getD m i e := by simp [Map.upd, Map.getD_put_ne _ _ _ _ _ h]

/-! ### Mem: canonical form -/

theorem Mem.wfFrom_mono (m : Mem) (a b : Nat) (hab : a ≤ b) (h : Mem.wfFrom b m = true) : Mem.wfFrom a m = true := by
  cases m with
  | nil => rfl
  | cons x r =>
    obtain ⟨j, v⟩ := x
    simp only [Mem.wfFrom, Bool.and_eq_true, decide_eq_true_eq] at h ⊢
    exact ⟨⟨by omega, h.1.2⟩, h.2⟩

theorem Mem.wfFrom_wr (m : Mem) (lo a : Nat) (v : Byte) (ha : lo ≤ a) (h : Mem.wfFrom lo m = true) :
    Mem.wfFrom lo (Mem.wr m a v) = true := by
  induction m generalizing lo with
  | nil =>
    simp only [Mem.wr]
    split
    · rfl
    · rename_i hv; simp [Mem.wfFrom, hv, ha]
  | cons x r ih =>
    obtain ⟨j, b⟩ := x
    simp only [Mem.wfFrom, Bool.and_eq_true, decide_eq_true_eq] at h
    obtain ⟨⟨hj, hb⟩, hr⟩ := h
    simp only [Mem.wr]
    split
    · rename_i hlt
      split
      · simp [Mem.wfFrom, hj, hb, hr]
      · rename_i hv
        simp only [Mem.wfFrom, Bool.and_eq_true, decide_eq_true_eq]
        exact ⟨⟨ha, hv⟩, ⟨by omega, hb⟩, hr⟩
    · rename_i hge
      split
      · rename_i he
        split
        · exact Mem.wfFrom_mono r lo (j + 1) (by omega) hr
        · rename_i hv
          simp only [Mem.wfFrom, Bool.and_eq_true, decide_eq_true_eq]
          exact ⟨⟨ha, hv⟩, by rw [← he]; exact hr⟩
      · rename_i hne
        simp only [Mem.wfFrom, Bool.and_eq_true, decide_eq_true_eq]
        exact ⟨⟨hj, hb⟩, ih (j + 1) (by omega) hr⟩

/-- A write keeps the canonical form. -/
@[simp] theorem Mem.wf_wr (m : Mem) (a : Nat) (v : Byte) (h : Mem.wf m = true) : Mem.wf (Mem.wr m a v) = true :=
  Mem.wfFrom_wr m 0 a v (Nat.zero_le a) h

/-- A write of several bytes keeps the canonical form. -/
@[simp] theorem Mem.wf_wrN (bs : List Byte) (m : Mem) (a : Nat) (h : Mem.wf m = true) : Mem.wf (Mem.wrN m a bs) = true := by
  induction bs generalizing m a with
  | nil => simpa [Mem.wrN] using h
  | cons b r ih => simp only [Mem.wrN]; exact ih _ _ (Mem.wf_wr m a b h)

/-- A write of a number keeps the canonical form. -/
@[simp] theorem Mem.wf_wrLe (m : Mem) (a n v : Nat) (h : Mem.wf m = true) : Mem.wf (Mem.wrLe m a n v) = true := Mem.wf_wrN _ m a h

/-- A memory made of bytes is in canonical form. -/
@[simp] theorem Mem.wf_ofBytes (bs : List Byte) : Mem.wf (Mem.ofBytes bs) = true := Mem.wf_wrN bs [] 0 rfl

/-! ### Mem: reading what was written -/

theorem Mem.rd_below (m : Mem) (lo a : Nat) (h : Mem.wfFrom lo m = true) (ha : a < lo) : Mem.rd m a = Mem.blank := by
  induction m generalizing lo with
  | nil => rfl
  | cons x r ih =>
    obtain ⟨j, b⟩ := x
    simp only [Mem.wfFrom, Bool.and_eq_true, decide_eq_true_eq] at h
    have hne : ¬j = a := by omega
    simp only [Mem.rd, hne, if_false]
    exact ih (j + 1) h.2 (by omega)

theorem Mem.rd_wr_from (m : Mem) (lo a b : Nat) (v : Byte) (h : Mem.wfFrom lo m = true) :
    Mem.rd (Mem.wr m a v) b = if b = a then v else Mem.rd m b := by
  induction m generalizing lo with
  | nil =>
    simp only [Mem.wr]
    split
    · rename_i hv; subst hv; simp [Mem.rd]
    · by_cases hb : b = a
      · simp [Mem.rd, hb]
      · simp [Mem.rd, hb, Ne.symm hb]
  | cons x r ih =>
    obtain ⟨j, c⟩ := x
    simp only [Mem.wfFrom, Bool.and_eq_true, decide_eq_true_eq] at h
    simp only [Mem.wr]
    split
    · rename_i hlt
      split
      · rename_i hv
        by_cases hb : b = a
        · subst hb; subst hv
          have : Mem.rd ((j, c) :: r) b = Mem.blank :=
            Mem.rd_below _ (b + 1) b (by simp [Mem.wfFrom, h.1.2, h.2]; omega) (by omega)
          simp [this]
        · simp [hb]
      · by_cases hb : b = a
        · simp [Mem.rd, hb]
        · simp [Mem.rd, hb, Ne.symm hb]
    · split
      · rename_i he
        subst he
        split
        · rename_i hv
          by_cases hb : b = j
          · subst hb; subst hv
            simp [Mem.rd_below r (b + 1) b h.2 (by omega)]
          · simp [Mem.rd, hb, Ne.symm hb]
        · by_cases hb : b = j
          · simp [Mem.rd, hb]
          · simp [Mem.rd, hb, Ne.symm hb]
      · rename_i hne
        simp only [Mem.rd]
        by_cases hb : j = b
        · subst hb; simp [hne]
        · simp only [hb, if_false]; exact ih (j + 1) h.2

/-- A read after a write of one byte. -/
theorem Mem.rd_wr (m : Mem) (a b : Nat) (v : Byte) (h : Mem.wf m = true) :
    Mem.rd (Mem.wr m a v) b = if b = a then v else Mem.rd m b := Mem.rd_wr_from m 0 a b v h

/-- A read outside the bytes written finds what was there. -/
theorem Mem.rd_wrN_out (bs : List Byte) (m : Mem) (a b : Nat) (h : Mem.wf m = true) (hb : b < a ∨ a + bs.length ≤ b) :
    Mem.rd (Mem.wrN m a bs) b = Mem.rd m b := by
  induction bs generalizing m a with
  | nil => rfl
  | cons x r ih =>
    simp only [List.length_cons] at hb
    simp only [Mem.wrN]
    rw [ih _ _ (Mem.wf_wr m a x h) (by omega), Mem.rd_wr m a b x h]
    have : b ≠ a := by omega
    simp [this]

/-- A read of a byte written finds it. -/
theorem Mem.rd_wrN_in (bs : List Byte) (m : Mem) (a i : Nat) (h : Mem.wf m = true) (hi : i < bs.length) :
    Mem.rd (Mem.wrN m a bs) (a + i) = bs[i] := by
  induction bs generalizing m a i with
  | nil => simp at hi
  | cons x r ih =>
    simp only [Mem.wrN]
    cases i with
    | zero =>
      rw [Mem.rd_wrN_out r _ _ _ (Mem.wf_wr m a x h) (by omega)]
      simp [Mem.rd_wr m a a x h]
    | succ n =>
      have := ih (Mem.wr m a x) (a + 1) n (Mem.wf_wr m a x h) (by simpa using hi)
      rw [show a + (n + 1) = a + 1 + n by omega, this]
      simp

/-! ### Bytes and numbers -/

@[simp] theorem leBytes_length (k n : Nat) : (leBytes k n).length = k := by
  induction k generalizing n with
  | zero => rfl
  | succ k ih => simp [leBytes, ih]

/-- The bytes of a number read back give it, cut to their length. -/
@[simp] theorem leNat_leBytes (k n : Nat) : leNat (leBytes k n) = n % 256 ^ k := by
  induction k generalizing n with
  | zero => simp [leBytes, leNat, Nat.mod_one]
  | succ k ih =>
    have h := @Nat.mod_mul 256 (256 ^ k) n
    rw [show 256 ^ (k + 1) = 256 * 256 ^ k by rw [Nat.pow_succ, Nat.mul_comm], h]
    simp [leBytes, leNat, ih]

theorem leNat_lt (bs : List Byte) : leNat bs < 256 ^ bs.length := by
  induction bs with
  | nil => simp [leNat]
  | cons b r ih =>
    simp only [leNat, List.length_cons, Nat.pow_succ]
    have := b.isLt
    omega

/-- A number written to memory reads back, cut to its bytes. -/
theorem Mem.rdLe_wrLe (m : Mem) (a n v : Nat) (h : Mem.wf m = true) : Mem.rdLe (Mem.wrLe m a n v) a n = v % 256 ^ n := by
  have hb : Mem.rdN (Mem.wrN m a (leBytes n v)) a n = leBytes n v := by
    apply List.ext_getElem
    · simp [Mem.rdN]
    · intro i h1 h2
      simp only [leBytes_length] at h2
      simp only [Mem.rdN, List.getElem_map, List.getElem_range]
      exact Mem.rd_wrN_in _ m a i h (by simpa using h2)
  simp [Mem.rdLe, Mem.wrLe, hb]

end Sys2Proof.Machine
end

