-- ==== Sys2Proof/Laws/State.lean ====
section
/-! SUPPORT. What each plain update of the block does, and what it leaves: one lemma per field, true by unfolding the update once. -/
namespace Sys2Proof.Machine

open Sys2Proof

@[simp] theorem lift_eq (f : Chip → Chip) (s : State) : lift f s = .next { s with chip := f s.chip } := rfl

@[simp] theorem emit_sup (o : Out) (c : Chip) : (emit o c).sup = c.sup := rfl

@[simp] theorem emit_tt (o : Out) (c : Chip) : (emit o c).tt = c.tt := rfl

@[simp] theorem emit_time (o : Out) (c : Chip) : (emit o c).time = c.time := rfl

@[simp] theorem emit_tasks (o : Out) (c : Chip) : (emit o c).tasks = c.tasks := rfl

@[simp] theorem emit_mem (o : Out) (c : Chip) : (emit o c).mem = c.mem := rfl

@[simp] theorem emit_sets (o : Out) (c : Chip) : (emit o c).sets = c.sets := rfl

@[simp] theorem emit_hlth (o : Out) (c : Chip) : (emit o c).hlth = c.hlth := rfl

@[simp] theorem emit_slots (o : Out) (c : Chip) : (emit o c).slots = c.slots := rfl

@[simp] theorem emit_io (o : Out) (c : Chip) : (emit o c).io = c.io := rfl

@[simp] theorem emit_can (o : Out) (c : Chip) : (emit o c).can = c.can := rfl

@[simp] theorem emit_net (o : Out) (c : Chip) : (emit o c).net = c.net := rfl

@[simp] theorem emit_pair (o : Out) (c : Chip) : (emit o c).pair = c.pair := rfl

@[simp] theorem emit_disp (o : Out) (c : Chip) : (emit o c).disp = c.disp := rfl

@[simp] theorem emit_mbx (o : Out) (c : Chip) : (emit o c).mbx = c.mbx := rfl

@[simp] theorem emit_thy (o : Out) (c : Chip) : (emit o c).thy = c.thy := rfl

@[simp] theorem emit_cnt (o : Out) (c : Chip) : (emit o c).cnt = c.cnt := rfl

@[simp] theorem drawn_tt  (c : Chip) : (drawn  c).tt = c.tt := rfl

@[simp] theorem drawn_time  (c : Chip) : (drawn  c).time = c.time := rfl

@[simp] theorem drawn_tasks  (c : Chip) : (drawn  c).tasks = c.tasks := rfl

@[simp] theorem drawn_mem  (c : Chip) : (drawn  c).mem = c.mem := rfl

@[simp] theorem drawn_sets  (c : Chip) : (drawn  c).sets = c.sets := rfl

@[simp] theorem drawn_hlth  (c : Chip) : (drawn  c).hlth = c.hlth := rfl

@[simp] theorem drawn_slots  (c : Chip) : (drawn  c).slots = c.slots := rfl

@[simp] theorem drawn_io  (c : Chip) : (drawn  c).io = c.io := rfl

@[simp] theorem drawn_can  (c : Chip) : (drawn  c).can = c.can := rfl

@[simp] theorem drawn_net  (c : Chip) : (drawn  c).net = c.net := rfl

@[simp] theorem drawn_pair  (c : Chip) : (drawn  c).pair = c.pair := rfl

@[simp] theorem drawn_disp  (c : Chip) : (drawn  c).disp = c.disp := rfl

@[simp] theorem drawn_mbx  (c : Chip) : (drawn  c).mbx = c.mbx := rfl

@[simp] theorem drawn_thy  (c : Chip) : (drawn  c).thy = c.thy := rfl

@[simp] theorem drawn_cnt  (c : Chip) : (drawn  c).cnt = c.cnt := rfl

@[simp] theorem drawn_out  (c : Chip) : (drawn  c).out = c.out := rfl

@[simp] theorem bumpBy_sup (n k : Nat) (c : Chip) : (bumpBy n k c).sup = c.sup := by unfold bumpBy; dsimp only; split <;> rfl

@[simp] theorem bumpBy_tt (n k : Nat) (c : Chip) : (bumpBy n k c).tt = c.tt := by unfold bumpBy; dsimp only; split <;> rfl

@[simp] theorem bumpBy_time (n k : Nat) (c : Chip) : (bumpBy n k c).time = c.time := by unfold bumpBy; dsimp only; split <;> rfl

@[simp] theorem bumpBy_tasks (n k : Nat) (c : Chip) : (bumpBy n k c).tasks = c.tasks := by unfold bumpBy; dsimp only; split <;> rfl

@[simp] theorem bumpBy_mem (n k : Nat) (c : Chip) : (bumpBy n k c).mem = c.mem := by unfold bumpBy; dsimp only; split <;> rfl

@[simp] theorem bumpBy_sets (n k : Nat) (c : Chip) : (bumpBy n k c).sets = c.sets := by unfold bumpBy; dsimp only; split <;> rfl

@[simp] theorem bumpBy_hlth (n k : Nat) (c : Chip) : (bumpBy n k c).hlth = c.hlth := by unfold bumpBy; dsimp only; split <;> rfl

@[simp] theorem bumpBy_slots (n k : Nat) (c : Chip) : (bumpBy n k c).slots = c.slots := by unfold bumpBy; dsimp only; split <;> rfl

@[simp] theorem bumpBy_io (n k : Nat) (c : Chip) : (bumpBy n k c).io = c.io := by unfold bumpBy; dsimp only; split <;> rfl

@[simp] theorem bumpBy_can (n k : Nat) (c : Chip) : (bumpBy n k c).can = c.can := by unfold bumpBy; dsimp only; split <;> rfl

@[simp] theorem bumpBy_net (n k : Nat) (c : Chip) : (bumpBy n k c).net = c.net := by unfold bumpBy; dsimp only; split <;> rfl

@[simp] theorem bumpBy_pair (n k : Nat) (c : Chip) : (bumpBy n k c).pair = c.pair := by unfold bumpBy; dsimp only; split <;> rfl

@[simp] theorem bumpBy_disp (n k : Nat) (c : Chip) : (bumpBy n k c).disp = c.disp := by unfold bumpBy; dsimp only; split <;> rfl

@[simp] theorem bumpBy_mbx (n k : Nat) (c : Chip) : (bumpBy n k c).mbx = c.mbx := by unfold bumpBy; dsimp only; split <;> rfl

@[simp] theorem bumpBy_thy (n k : Nat) (c : Chip) : (bumpBy n k c).thy = c.thy := by unfold bumpBy; dsimp only; split <;> rfl

@[simp] theorem bumpBy_out (n k : Nat) (c : Chip) : (bumpBy n k c).out = c.out := by unfold bumpBy; dsimp only; split <;> rfl

@[simp] theorem bump_sup (n : Nat) (c : Chip) : (bump n c).sup = c.sup := by simp [bump]

@[simp] theorem bump_tt (n : Nat) (c : Chip) : (bump n c).tt = c.tt := by simp [bump]

@[simp] theorem bump_time (n : Nat) (c : Chip) : (bump n c).time = c.time := by simp [bump]

@[simp] theorem bump_tasks (n : Nat) (c : Chip) : (bump n c).tasks = c.tasks := by simp [bump]

@[simp] theorem bump_mem (n : Nat) (c : Chip) : (bump n c).mem = c.mem := by simp [bump]

@[simp] theorem bump_sets (n : Nat) (c : Chip) : (bump n c).sets = c.sets := by simp [bump]

@[simp] theorem bump_hlth (n : Nat) (c : Chip) : (bump n c).hlth = c.hlth := by simp [bump]

@[simp] theorem bump_slots (n : Nat) (c : Chip) : (bump n c).slots = c.slots := by simp [bump]

@[simp] theorem bump_io (n : Nat) (c : Chip) : (bump n c).io = c.io := by simp [bump]

@[simp] theorem bump_can (n : Nat) (c : Chip) : (bump n c).can = c.can := by simp [bump]

@[simp] theorem bump_net (n : Nat) (c : Chip) : (bump n c).net = c.net := by simp [bump]

@[simp] theorem bump_pair (n : Nat) (c : Chip) : (bump n c).pair = c.pair := by simp [bump]

@[simp] theorem bump_disp (n : Nat) (c : Chip) : (bump n c).disp = c.disp := by simp [bump]

@[simp] theorem bump_mbx (n : Nat) (c : Chip) : (bump n c).mbx = c.mbx := by simp [bump]

@[simp] theorem bump_thy (n : Nat) (c : Chip) : (bump n c).thy = c.thy := by simp [bump]

@[simp] theorem bump_out (n : Nat) (c : Chip) : (bump n c).out = c.out := by simp [bump]

@[simp] theorem updSess_sup (s : Nat) (f : Session → Session) (c : Chip) : (updSess s f c).sup = c.sup := rfl

@[simp] theorem updSess_tt (s : Nat) (f : Session → Session) (c : Chip) : (updSess s f c).tt = c.tt := rfl

@[simp] theorem updSess_time (s : Nat) (f : Session → Session) (c : Chip) : (updSess s f c).time = c.time := rfl

@[simp] theorem updSess_tasks (s : Nat) (f : Session → Session) (c : Chip) : (updSess s f c).tasks = c.tasks := rfl

@[simp] theorem updSess_mem (s : Nat) (f : Session → Session) (c : Chip) : (updSess s f c).mem = c.mem := rfl

@[simp] theorem updSess_sets (s : Nat) (f : Session → Session) (c : Chip) : (updSess s f c).sets = c.sets := rfl

@[simp] theorem updSess_hlth (s : Nat) (f : Session → Session) (c : Chip) : (updSess s f c).hlth = c.hlth := rfl

@[simp] theorem updSess_slots (s : Nat) (f : Session → Session) (c : Chip) : (updSess s f c).slots = c.slots := rfl

@[simp] theorem updSess_io (s : Nat) (f : Session → Session) (c : Chip) : (updSess s f c).io = c.io := rfl

@[simp] theorem updSess_can (s : Nat) (f : Session → Session) (c : Chip) : (updSess s f c).can = c.can := rfl

@[simp] theorem updSess_net (s : Nat) (f : Session → Session) (c : Chip) : (updSess s f c).net = c.net := rfl

@[simp] theorem updSess_pair (s : Nat) (f : Session → Session) (c : Chip) : (updSess s f c).pair = c.pair := rfl

@[simp] theorem updSess_disp (s : Nat) (f : Session → Session) (c : Chip) : (updSess s f c).disp = c.disp := rfl

@[simp] theorem updSess_thy (s : Nat) (f : Session → Session) (c : Chip) : (updSess s f c).thy = c.thy := rfl

@[simp] theorem updSess_cnt (s : Nat) (f : Session → Session) (c : Chip) : (updSess s f c).cnt = c.cnt := rfl

@[simp] theorem updSess_out (s : Nat) (f : Session → Session) (c : Chip) : (updSess s f c).out = c.out := rfl

@[simp] theorem updTask_sup (t : Nat) (f : Task → Task) (c : Chip) : (updTask t f c).sup = c.sup := rfl

@[simp] theorem updTask_tt (t : Nat) (f : Task → Task) (c : Chip) : (updTask t f c).tt = c.tt := rfl

@[simp] theorem updTask_time (t : Nat) (f : Task → Task) (c : Chip) : (updTask t f c).time = c.time := rfl

@[simp] theorem updTask_mem (t : Nat) (f : Task → Task) (c : Chip) : (updTask t f c).mem = c.mem := rfl

@[simp] theorem updTask_sets (t : Nat) (f : Task → Task) (c : Chip) : (updTask t f c).sets = c.sets := rfl

@[simp] theorem updTask_hlth (t : Nat) (f : Task → Task) (c : Chip) : (updTask t f c).hlth = c.hlth := rfl

@[simp] theorem updTask_slots (t : Nat) (f : Task → Task) (c : Chip) : (updTask t f c).slots = c.slots := rfl

@[simp] theorem updTask_io (t : Nat) (f : Task → Task) (c : Chip) : (updTask t f c).io = c.io := rfl

@[simp] theorem updTask_can (t : Nat) (f : Task → Task) (c : Chip) : (updTask t f c).can = c.can := rfl

@[simp] theorem updTask_net (t : Nat) (f : Task → Task) (c : Chip) : (updTask t f c).net = c.net := rfl

@[simp] theorem updTask_pair (t : Nat) (f : Task → Task) (c : Chip) : (updTask t f c).pair = c.pair := rfl

@[simp] theorem updTask_disp (t : Nat) (f : Task → Task) (c : Chip) : (updTask t f c).disp = c.disp := rfl

@[simp] theorem updTask_mbx (t : Nat) (f : Task → Task) (c : Chip) : (updTask t f c).mbx = c.mbx := rfl

@[simp] theorem updTask_thy (t : Nat) (f : Task → Task) (c : Chip) : (updTask t f c).thy = c.thy := rfl

@[simp] theorem updTask_cnt (t : Nat) (f : Task → Task) (c : Chip) : (updTask t f c).cnt = c.cnt := rfl

@[simp] theorem updTask_out (t : Nat) (f : Task → Task) (c : Chip) : (updTask t f c).out = c.out := rfl

@[simp] theorem netSend_sup (k : Nat) (c : Chip) : (netSend k c).sup = c.sup := by unfold netSend when; dsimp only; split <;> split <;> simp

@[simp] theorem netSend_tt (k : Nat) (c : Chip) : (netSend k c).tt = c.tt := by unfold netSend when; dsimp only; split <;> split <;> simp

@[simp] theorem netSend_time (k : Nat) (c : Chip) : (netSend k c).time = c.time := by unfold netSend when; dsimp only; split <;> split <;> simp

@[simp] theorem netSend_tasks (k : Nat) (c : Chip) : (netSend k c).tasks = c.tasks := by unfold netSend when; dsimp only; split <;> split <;> simp

@[simp] theorem netSend_mem (k : Nat) (c : Chip) : (netSend k c).mem = c.mem := by unfold netSend when; dsimp only; split <;> split <;> simp

@[simp] theorem netSend_sets (k : Nat) (c : Chip) : (netSend k c).sets = c.sets := by unfold netSend when; dsimp only; split <;> split <;> simp

@[simp] theorem netSend_hlth (k : Nat) (c : Chip) : (netSend k c).hlth = c.hlth := by unfold netSend when; dsimp only; split <;> split <;> simp

@[simp] theorem netSend_slots (k : Nat) (c : Chip) : (netSend k c).slots = c.slots := by unfold netSend when; dsimp only; split <;> split <;> simp

@[simp] theorem netSend_io (k : Nat) (c : Chip) : (netSend k c).io = c.io := by unfold netSend when; dsimp only; split <;> split <;> simp

@[simp] theorem netSend_can (k : Nat) (c : Chip) : (netSend k c).can = c.can := by unfold netSend when; dsimp only; split <;> split <;> simp

@[simp] theorem netSend_pair (k : Nat) (c : Chip) : (netSend k c).pair = c.pair := by unfold netSend when; dsimp only; split <;> split <;> simp

@[simp] theorem netSend_disp (k : Nat) (c : Chip) : (netSend k c).disp = c.disp := by unfold netSend when; dsimp only; split <;> split <;> simp

@[simp] theorem netSend_mbx (k : Nat) (c : Chip) : (netSend k c).mbx = c.mbx := by unfold netSend when; dsimp only; split <;> split <;> simp

@[simp] theorem netSend_thy (k : Nat) (c : Chip) : (netSend k c).thy = c.thy := by unfold netSend when; dsimp only; split <;> split <;> simp

@[simp] theorem netSend_out (k : Nat) (c : Chip) : (netSend k c).out = c.out := by unfold netSend when; dsimp only; split <;> split <;> simp

@[simp] theorem postMsg_sup (p : Peer) (m : List Byte) (c : Chip) : (postMsg p m c).sup = c.sup := by cases p <;> simp [postMsg]

@[simp] theorem postMsg_tt (p : Peer) (m : List Byte) (c : Chip) : (postMsg p m c).tt = c.tt := by cases p <;> simp [postMsg]

@[simp] theorem postMsg_time (p : Peer) (m : List Byte) (c : Chip) : (postMsg p m c).time = c.time := by cases p <;> simp [postMsg]

@[simp] theorem postMsg_tasks (p : Peer) (m : List Byte) (c : Chip) : (postMsg p m c).tasks = c.tasks := by cases p <;> simp [postMsg]

@[simp] theorem postMsg_mem (p : Peer) (m : List Byte) (c : Chip) : (postMsg p m c).mem = c.mem := by cases p <;> simp [postMsg]

@[simp] theorem postMsg_sets (p : Peer) (m : List Byte) (c : Chip) : (postMsg p m c).sets = c.sets := by cases p <;> simp [postMsg]

@[simp] theorem postMsg_hlth (p : Peer) (m : List Byte) (c : Chip) : (postMsg p m c).hlth = c.hlth := by cases p <;> simp [postMsg]

@[simp] theorem postMsg_slots (p : Peer) (m : List Byte) (c : Chip) : (postMsg p m c).slots = c.slots := by cases p <;> simp [postMsg]

@[simp] theorem postMsg_io (p : Peer) (m : List Byte) (c : Chip) : (postMsg p m c).io = c.io := by cases p <;> simp [postMsg]

@[simp] theorem postMsg_can (p : Peer) (m : List Byte) (c : Chip) : (postMsg p m c).can = c.can := by cases p <;> simp [postMsg]

@[simp] theorem postMsg_pair (p : Peer) (m : List Byte) (c : Chip) : (postMsg p m c).pair = c.pair := by cases p <;> simp [postMsg]

@[simp] theorem postMsg_disp (p : Peer) (m : List Byte) (c : Chip) : (postMsg p m c).disp = c.disp := by cases p <;> simp [postMsg]

@[simp] theorem postMsg_mbx (p : Peer) (m : List Byte) (c : Chip) : (postMsg p m c).mbx = c.mbx := by cases p <;> simp [postMsg]

@[simp] theorem postMsg_thy (p : Peer) (m : List Byte) (c : Chip) : (postMsg p m c).thy = c.thy := by cases p <;> simp [postMsg]

@[simp] theorem await_tt (k s t : Nat) (c : Chip) : (await k s t c).tt = c.tt := rfl

@[simp] theorem await_time (k s t : Nat) (c : Chip) : (await k s t c).time = c.time := rfl

@[simp] theorem await_tasks (k s t : Nat) (c : Chip) : (await k s t c).tasks = c.tasks := rfl

@[simp] theorem await_mem (k s t : Nat) (c : Chip) : (await k s t c).mem = c.mem := rfl

@[simp] theorem await_sets (k s t : Nat) (c : Chip) : (await k s t c).sets = c.sets := rfl

@[simp] theorem await_hlth (k s t : Nat) (c : Chip) : (await k s t c).hlth = c.hlth := rfl

@[simp] theorem await_slots (k s t : Nat) (c : Chip) : (await k s t c).slots = c.slots := rfl

@[simp] theorem await_io (k s t : Nat) (c : Chip) : (await k s t c).io = c.io := rfl

@[simp] theorem await_can (k s t : Nat) (c : Chip) : (await k s t c).can = c.can := rfl

@[simp] theorem await_net (k s t : Nat) (c : Chip) : (await k s t c).net = c.net := rfl

@[simp] theorem await_pair (k s t : Nat) (c : Chip) : (await k s t c).pair = c.pair := rfl

@[simp] theorem await_disp (k s t : Nat) (c : Chip) : (await k s t c).disp = c.disp := rfl

@[simp] theorem await_mbx (k s t : Nat) (c : Chip) : (await k s t c).mbx = c.mbx := rfl

@[simp] theorem await_thy (k s t : Nat) (c : Chip) : (await k s t c).thy = c.thy := rfl

@[simp] theorem await_cnt (k s t : Nat) (c : Chip) : (await k s t c).cnt = c.cnt := rfl

@[simp] theorem await_out (k s t : Nat) (c : Chip) : (await k s t c).out = c.out := rfl

@[simp] theorem markEvt_sup (b t : Nat) (c : Chip) : (markEvt b t c).sup = c.sup := rfl

@[simp] theorem markEvt_tt (b t : Nat) (c : Chip) : (markEvt b t c).tt = c.tt := rfl

@[simp] theorem markEvt_time (b t : Nat) (c : Chip) : (markEvt b t c).time = c.time := rfl

@[simp] theorem markEvt_mem (b t : Nat) (c : Chip) : (markEvt b t c).mem = c.mem := rfl

@[simp] theorem markEvt_sets (b t : Nat) (c : Chip) : (markEvt b t c).sets = c.sets := rfl

@[simp] theorem markEvt_hlth (b t : Nat) (c : Chip) : (markEvt b t c).hlth = c.hlth := rfl

@[simp] theorem markEvt_slots (b t : Nat) (c : Chip) : (markEvt b t c).slots = c.slots := rfl

@[simp] theorem markEvt_io (b t : Nat) (c : Chip) : (markEvt b t c).io = c.io := rfl

@[simp] theorem markEvt_can (b t : Nat) (c : Chip) : (markEvt b t c).can = c.can := rfl

@[simp] theorem markEvt_net (b t : Nat) (c : Chip) : (markEvt b t c).net = c.net := rfl

@[simp] theorem markEvt_pair (b t : Nat) (c : Chip) : (markEvt b t c).pair = c.pair := rfl

@[simp] theorem markEvt_disp (b t : Nat) (c : Chip) : (markEvt b t c).disp = c.disp := rfl

@[simp] theorem markEvt_mbx (b t : Nat) (c : Chip) : (markEvt b t c).mbx = c.mbx := rfl

@[simp] theorem markEvt_thy (b t : Nat) (c : Chip) : (markEvt b t c).thy = c.thy := rfl

@[simp] theorem markEvt_cnt (b t : Nat) (c : Chip) : (markEvt b t c).cnt = c.cnt := rfl

@[simp] theorem markEvt_out (b t : Nat) (c : Chip) : (markEvt b t c).out = c.out := rfl

@[simp] theorem raiseEvt_sup (b t : Nat) (c : Chip) : (raiseEvt b t c).sup = c.sup := by unfold raiseEvt; dsimp only; split <;> rfl

@[simp] theorem raiseEvt_tt (b t : Nat) (c : Chip) : (raiseEvt b t c).tt = c.tt := by unfold raiseEvt; dsimp only; split <;> rfl

@[simp] theorem raiseEvt_time (b t : Nat) (c : Chip) : (raiseEvt b t c).time = c.time := by unfold raiseEvt; dsimp only; split <;> rfl

@[simp] theorem raiseEvt_mem (b t : Nat) (c : Chip) : (raiseEvt b t c).mem = c.mem := by unfold raiseEvt; dsimp only; split <;> rfl

@[simp] theorem raiseEvt_sets (b t : Nat) (c : Chip) : (raiseEvt b t c).sets = c.sets := by unfold raiseEvt; dsimp only; split <;> rfl

@[simp] theorem raiseEvt_hlth (b t : Nat) (c : Chip) : (raiseEvt b t c).hlth = c.hlth := by unfold raiseEvt; dsimp only; split <;> rfl

@[simp] theorem raiseEvt_slots (b t : Nat) (c : Chip) : (raiseEvt b t c).slots = c.slots := by unfold raiseEvt; dsimp only; split <;> rfl

@[simp] theorem raiseEvt_io (b t : Nat) (c : Chip) : (raiseEvt b t c).io = c.io := by unfold raiseEvt; dsimp only; split <;> rfl

@[simp] theorem raiseEvt_can (b t : Nat) (c : Chip) : (raiseEvt b t c).can = c.can := by unfold raiseEvt; dsimp only; split <;> rfl

@[simp] theorem raiseEvt_net (b t : Nat) (c : Chip) : (raiseEvt b t c).net = c.net := by unfold raiseEvt; dsimp only; split <;> rfl

@[simp] theorem raiseEvt_disp (b t : Nat) (c : Chip) : (raiseEvt b t c).disp = c.disp := by unfold raiseEvt; dsimp only; split <;> rfl

@[simp] theorem raiseEvt_mbx (b t : Nat) (c : Chip) : (raiseEvt b t c).mbx = c.mbx := by unfold raiseEvt; dsimp only; split <;> rfl

@[simp] theorem raiseEvt_thy (b t : Nat) (c : Chip) : (raiseEvt b t c).thy = c.thy := by unfold raiseEvt; dsimp only; split <;> rfl

@[simp] theorem raiseEvt_cnt (b t : Nat) (c : Chip) : (raiseEvt b t c).cnt = c.cnt := by unfold raiseEvt; dsimp only; split <;> rfl

@[simp] theorem raiseEvt_out (b t : Nat) (c : Chip) : (raiseEvt b t c).out = c.out := by unfold raiseEvt; dsimp only; split <;> rfl
@[simp] theorem emit_out (o : Out) (c : Chip) : (emit o c).out = o :: c.out := rfl

@[simp] theorem updTask_self (t : Nat) (f : Task → Task) (c : Chip) : task (updTask t f c) t = f (task c t) := by
  simp [task, updTask]

theorem updTask_ne (t u : Nat) (f : Task → Task) (c : Chip) (h : u ≠ t) : task (updTask t f c) u = task c u := by
  simp [task, updTask, Map.getD_upd_ne _ _ _ _ _ _ h]

@[simp] theorem updSess_self (s : Nat) (f : Session → Session) (c : Chip) : sess (updSess s f c) s = f (sess c s) := by
  simp [sess, updSess]

theorem updSess_ne (s u : Nat) (f : Session → Session) (c : Chip) (h : u ≠ s) : sess (updSess s f c) u = sess c u := by
  simp [sess, updSess, Map.getD_upd_ne _ _ _ _ _ _ h]

@[simp] theorem when_true (f : Chip → Chip) (c : Chip) : when true f c = f c := rfl

@[simp] theorem when_false (f : Chip → Chip) (c : Chip) : when false f c = c := rfl

@[simp] theorem forAll_nil {α : Type} (f : α → Chip → Chip) (c : Chip) : forAll [] f c = c := rfl

@[simp] theorem forAll_cons {α : Type} (a : α) (l : List α) (f : α → Chip → Chip) (c : Chip) :
    forAll (a :: l) f c = forAll l f (f a c) := rfl

/-- What every step of a loop keeps, the loop keeps. -/
theorem forAll_keeps {α β : Type} (g : Chip → β) (l : List α) (f : α → Chip → Chip) (h : ∀ a c, g (f a c) = g c) (c : Chip) :
    g (forAll l f c) = g c := by
  induction l generalizing c with
  | nil => rfl
  | cons a r ih => rw [forAll_cons, ih, h]

/-- What a guarded change keeps. -/
theorem when_keeps {β : Type} (g : Chip → β) (p : Bool) (f : Chip → Chip) (c : Chip) (h : g (f c) = g c) : g (when p f c) = g c := by
  cases p <;> simp [h]

@[simp] theorem countOver_sup (dt : Nat) (c : Chip) : (countOver dt c).sup = c.sup := by
  unfold countOver
  exact forAll_keeps (fun c => c.sup) _ _ (fun k c => when_keeps (fun c => c.sup) _ _ c (by simp)) c

@[simp] theorem countOver_tt (dt : Nat) (c : Chip) : (countOver dt c).tt = c.tt := by
  unfold countOver
  exact forAll_keeps (fun c => c.tt) _ _ (fun k c => when_keeps (fun c => c.tt) _ _ c (by simp)) c

@[simp] theorem countOver_time (dt : Nat) (c : Chip) : (countOver dt c).time = c.time := by
  unfold countOver
  exact forAll_keeps (fun c => c.time) _ _ (fun k c => when_keeps (fun c => c.time) _ _ c (by simp)) c

@[simp] theorem countOver_tasks (dt : Nat) (c : Chip) : (countOver dt c).tasks = c.tasks := by
  unfold countOver
  exact forAll_keeps (fun c => c.tasks) _ _ (fun k c => when_keeps (fun c => c.tasks) _ _ c (by simp)) c

@[simp] theorem countOver_mem (dt : Nat) (c : Chip) : (countOver dt c).mem = c.mem := by
  unfold countOver
  exact forAll_keeps (fun c => c.mem) _ _ (fun k c => when_keeps (fun c => c.mem) _ _ c (by simp)) c

@[simp] theorem countOver_sets (dt : Nat) (c : Chip) : (countOver dt c).sets = c.sets := by
  unfold countOver
  exact forAll_keeps (fun c => c.sets) _ _ (fun k c => when_keeps (fun c => c.sets) _ _ c (by simp)) c

@[simp] theorem countOver_hlth (dt : Nat) (c : Chip) : (countOver dt c).hlth = c.hlth := by
  unfold countOver
  exact forAll_keeps (fun c => c.hlth) _ _ (fun k c => when_keeps (fun c => c.hlth) _ _ c (by simp)) c

@[simp] theorem countOver_slots (dt : Nat) (c : Chip) : (countOver dt c).slots = c.slots := by
  unfold countOver
  exact forAll_keeps (fun c => c.slots) _ _ (fun k c => when_keeps (fun c => c.slots) _ _ c (by simp)) c

@[simp] theorem countOver_io (dt : Nat) (c : Chip) : (countOver dt c).io = c.io := by
  unfold countOver
  exact forAll_keeps (fun c => c.io) _ _ (fun k c => when_keeps (fun c => c.io) _ _ c (by simp)) c

@[simp] theorem countOver_can (dt : Nat) (c : Chip) : (countOver dt c).can = c.can := by
  unfold countOver
  exact forAll_keeps (fun c => c.can) _ _ (fun k c => when_keeps (fun c => c.can) _ _ c (by simp)) c

@[simp] theorem countOver_net (dt : Nat) (c : Chip) : (countOver dt c).net = c.net := by
  unfold countOver
  exact forAll_keeps (fun c => c.net) _ _ (fun k c => when_keeps (fun c => c.net) _ _ c (by simp)) c

@[simp] theorem countOver_pair (dt : Nat) (c : Chip) : (countOver dt c).pair = c.pair := by
  unfold countOver
  exact forAll_keeps (fun c => c.pair) _ _ (fun k c => when_keeps (fun c => c.pair) _ _ c (by simp)) c

@[simp] theorem countOver_disp (dt : Nat) (c : Chip) : (countOver dt c).disp = c.disp := by
  unfold countOver
  exact forAll_keeps (fun c => c.disp) _ _ (fun k c => when_keeps (fun c => c.disp) _ _ c (by simp)) c

@[simp] theorem countOver_mbx (dt : Nat) (c : Chip) : (countOver dt c).mbx = c.mbx := by
  unfold countOver
  exact forAll_keeps (fun c => c.mbx) _ _ (fun k c => when_keeps (fun c => c.mbx) _ _ c (by simp)) c

@[simp] theorem countOver_thy (dt : Nat) (c : Chip) : (countOver dt c).thy = c.thy := by
  unfold countOver
  exact forAll_keeps (fun c => c.thy) _ _ (fun k c => when_keeps (fun c => c.thy) _ _ c (by simp)) c

@[simp] theorem countOver_out (dt : Nat) (c : Chip) : (countOver dt c).out = c.out := by
  unfold countOver
  exact forAll_keeps (fun c => c.out) _ _ (fun k c => when_keeps (fun c => c.out) _ _ c (by simp)) c

@[simp] theorem pass_sup (dt : Nat) (c : Chip) : (pass dt c).sup = c.sup := by unfold pass; dsimp only; split <;> simp

@[simp] theorem pass_tt (dt : Nat) (c : Chip) : (pass dt c).tt = c.tt := by unfold pass; dsimp only; split <;> simp

@[simp] theorem pass_tasks (dt : Nat) (c : Chip) : (pass dt c).tasks = c.tasks := by unfold pass; dsimp only; split <;> simp

@[simp] theorem pass_mem (dt : Nat) (c : Chip) : (pass dt c).mem = c.mem := by unfold pass; dsimp only; split <;> simp

@[simp] theorem pass_sets (dt : Nat) (c : Chip) : (pass dt c).sets = c.sets := by unfold pass; dsimp only; split <;> simp

@[simp] theorem pass_hlth (dt : Nat) (c : Chip) : (pass dt c).hlth = c.hlth := by unfold pass; dsimp only; split <;> simp

@[simp] theorem pass_slots (dt : Nat) (c : Chip) : (pass dt c).slots = c.slots := by unfold pass; dsimp only; split <;> simp

@[simp] theorem pass_io (dt : Nat) (c : Chip) : (pass dt c).io = c.io := by unfold pass; dsimp only; split <;> simp

@[simp] theorem pass_can (dt : Nat) (c : Chip) : (pass dt c).can = c.can := by unfold pass; dsimp only; split <;> simp

@[simp] theorem pass_net (dt : Nat) (c : Chip) : (pass dt c).net = c.net := by unfold pass; dsimp only; split <;> simp

@[simp] theorem pass_pair (dt : Nat) (c : Chip) : (pass dt c).pair = c.pair := by unfold pass; dsimp only; split <;> simp

@[simp] theorem pass_disp (dt : Nat) (c : Chip) : (pass dt c).disp = c.disp := by unfold pass; dsimp only; split <;> simp

@[simp] theorem pass_mbx (dt : Nat) (c : Chip) : (pass dt c).mbx = c.mbx := by unfold pass; dsimp only; split <;> simp

@[simp] theorem pass_thy (dt : Nat) (c : Chip) : (pass dt c).thy = c.thy := by unfold pass; dsimp only; split <;> simp

@[simp] theorem pass_out (dt : Nat) (c : Chip) : (pass dt c).out = c.out := by unfold pass; dsimp only; split <;> simp

@[simp] theorem pass_clock (dt : Nat) (c : Chip) : (pass dt c).time.clock = c.time.clock + dt := by
  unfold pass; dsimp only; split <;> simp

@[simp] theorem pass_servo (dt : Nat) (c : Chip) : (pass dt c).time.servo = c.time.servo := by
  unfold pass; dsimp only; split <;> simp

/-- Time that passes changes nothing but the clock and the comparators' counters. -/
theorem pass_time (dt : Nat) (c : Chip) : (pass dt c).time = { c.time with clock := c.time.clock + dt } := by
  unfold pass; dsimp only; split <;> simp

/-- When no time passes nothing changes. -/
@[simp] theorem pass_zero (c : Chip) : pass 0 c = c := by simp [pass]

end Sys2Proof.Machine
end

