-- ==== Sys2Proof/Laws/Blocks.lean ====
section
/-! SUPPORT. What a block row does, said once: a row that runs `runBlock` with a body comes to what the body says, is skipped where its
enable input reads FALSE, does nothing where no job of its task runs, and stops on a block no image could hold. -/
namespace Sys2Proof.Machine

open Sys2Proof Sys2Proof.Safety

theorem evalBlock_runs (sg : Sig) (body : Env → List Ref → List Ref → List Byte → BRes) (b : Blk) (s : State) (j : Job)
    (h : Runs sg b s j) :
    evalBlock sg body b s.chip
      = chipAfter sg b j (body (b.env j s.chip) (sg.ins b) (sg.outs b) ((b.env j s.chip).inst sg)) s.chip := by
  obtain ⟨_, hjob, hst, hd, hen⟩ := h
  simp [evalBlock, hjob, hst, hd, hen]

theorem evalBlock_skips (sg : Sig) (body : Env → List Ref → List Ref → List Byte → BRes) (b : Blk) (c : Chip) (j : Job)
    (hjob : (task c b.task.val).job = some j) (hst : (task c b.task.val).st = .running) (hd : j.done = false) (hs : b.skips j c = true) :
    evalBlock sg body b c = updTask b.task.val (fun k => { k with job := some (b.passedBy j) }) c := by
  simp [evalBlock, hjob, hst, hd, hs]

theorem evalBlock_idle (sg : Sig) (body : Env → List Ref → List Ref → List Byte → BRes) (b : Blk) (c : Chip)
    (h : ∀ j, (task c b.task.val).job = some j → (task c b.task.val).st ≠ .running ∨ j.done = true) :
    evalBlock sg body b c = c := by
  unfold evalBlock
  dsimp only
  split
  · rfl
  · rename_i j hj
    rcases h j hj with h | h <;> simp [h]

theorem runBlock_good (sg : Sig) (body : Env → List Ref → List Ref → List Byte → BRes) (b : Blk) (s : State) (h : sg.good b = true) :
    runBlock sg body b s = .next { s with chip := evalBlock sg body b s.chip } := by simp [runBlock, h]

theorem runBlock_bad (sg : Sig) (body : Env → List Ref → List Ref → List Byte → BRes) (b : Blk) (s : State) (h : sg.good b = false) :
    runBlock sg body b s = .fault .illFormedBlock := by simp [runBlock, h]

/-- A row that runs a body computes it. -/
theorem computes_of (sg : Sig) (mk : Blk → Instr) (body : Env → List Ref → List Ref → List Byte → BRes)
    (h : ∀ b s, exec (mk b) s = runBlock sg body b s) : Computes sg mk body := by
  intro b s j hr
  unfold Goes
  rw [h, runBlock_good sg body b s hr.1, evalBlock_runs sg body b s j hr]

end Sys2Proof.Machine
end

