-- ==== Sys2Proof/Laws/Commands.lean ====
section
/-! SUPPORT. What a mailbox command does, said once: a command that its session may have executed is counted, run and answered; its checks
pass where its request is well shaped, its role suffices and its state is one of the command's; a command of no session only lets time
pass. -/
namespace Sys2Proof.Machine

open Sys2Proof Sys2Proof.Safety

@[simp] theorem countTaken_sup (p : Peer) (c : Chip) : (countTaken p c).sup = c.sup := by simp [countTaken]
@[simp] theorem countTaken_tt (p : Peer) (c : Chip) : (countTaken p c).tt = c.tt := by simp [countTaken]
@[simp] theorem countTaken_mbx (p : Peer) (c : Chip) : (countTaken p c).mbx = c.mbx := by simp [countTaken]
@[simp] theorem countTaken_sets (p : Peer) (c : Chip) : (countTaken p c).sets = c.sets := by simp [countTaken]
@[simp] theorem countTaken_mem (p : Peer) (c : Chip) : (countTaken p c).mem = c.mem := by simp [countTaken]
@[simp] theorem countTaken_tasks (p : Peer) (c : Chip) : (countTaken p c).tasks = c.tasks := by simp [countTaken]

theorem taken_sup (q : Req) (p : Peer) (s : State) : (taken q p s).sup = s.chip.sup := by simp [taken]
theorem taken_tt (q : Req) (p : Peer) (s : State) : (taken q p s).tt = s.chip.tt := by simp [taken]
theorem taken_mbx (q : Req) (p : Peer) (s : State) : (taken q p s).mbx = s.chip.mbx := by simp [taken]
theorem taken_sets (q : Req) (p : Peer) (s : State) : (taken q p s).sets = s.chip.sets := by simp [taken]
theorem taken_mem (q : Req) (p : Peer) (s : State) : (taken q p s).mem = s.chip.mem := by simp [taken]

/-- The session as the command finds it. -/
theorem sess_taken (q : Req) (p : Peer) (s : State) : sess (taken q p s) q.sess = sess s.chip q.sess := by unfold sess; rw [taken_mbx]

/-- A command that its session may have executed, and that comes to an answer, goes through. -/
theorem serve_granted {cmd need : Nat} {run : Session → List Byte → Chip → Done} {q : Req} {s : State} {ss : Session} {p : Peer} {a : Ans}
    (h : Granted cmd need q s.chip ss p) (hr : run ss q.payload (taken q p s) = .ok a) :
    lift (serve cmd run q) s = .next { s with chip := a.after (respond cmd q.sess q.tag a.status a.payload a.chip) } := by
  obtain ⟨hs, ho, hp, -⟩ := h
  have e : sess (pass q.dt s.chip) q.sess = ss := by unfold sess; rw [pass_mbx]; exact hs
  unfold lift serve
  dsimp only
  rw [e]
  simp only [ho, hp]
  unfold taken at hr
  rw [hr]
  rfl

/-- A command of a session that is closed or has no peer only lets time pass. -/
theorem serve_closed {cmd : Nat} {run : Session → List Byte → Chip → Done} {q : Req} {s : State}
    (h : (sess s.chip q.sess).st = .closed ∨ (sess s.chip q.sess).peer = none) :
    lift (serve cmd run q) s = .next { s with chip := pass q.dt s.chip } := by
  have e : sess (pass q.dt s.chip) q.sess = sess s.chip q.sess := by unfold sess; rw [pass_mbx]
  unfold lift serve
  dsimp only
  rw [e]
  rcases h with h | h
  · simp [h]
  · cases hst : (sess s.chip q.sess).st <;> simp [h]

theorem form_shaped {p : List Byte} {len : Nat} {zeros : List Nat} (h : Shaped p len zeros) : form p len zeros = .ok () := by
  have hz : zeros.find? (fun i => p.getD i 0 != 0) = none := List.find?_eq_none.2 (fun i hi => by rw [h.2 i hi]; decide)
  unfold form
  rw [if_neg (by simp [h.1]), hz]

theorem form_nil {p : List Byte} (h : p = []) : form p 0 [] = .ok () := form_shaped ⟨by simp [h], by simp⟩

theorem form_length {p : List Byte} {len : Nat} (h : p.length = len) : form p len [] = .ok () := form_shaped ⟨h, by simp⟩

theorem role_granted {cmd need : Nat} {q : Req} {c : Chip} {ss : Session} {p : Peer} (h : Granted cmd need q c ss p) {k : Nat} (hk : k ≤ need) :
    role k ss = .ok () := by
  obtain ⟨-, -, -, h1, h2, -⟩ := h
  have h1 : ¬ss.ceil < k := by omega
  have h2 : ¬ss.role < k := by omega
  simp [role, h1, h2]

theorem gate_granted {cmd need : Nat} {q : Req} {s : State} {ss : Session} {p : Peer} (h : Granted cmd need q s.chip ss p) :
    gate cmd (taken q p s) = .ok () := by
  obtain ⟨-, -, -, -, -, hb⟩ := h
  simp [gate, check, taken_sup, hb]

theorem check_true {ok : Bool} {n : No} (h : ok = true) : check ok n = .ok () := by simp [check, h]

theorem overUsb_usb {need : Nat} {ss : Session} (h : OverUsb ss) : overUsb need ss = .ok () := by
  obtain ⟨u, hu⟩ := h
  simp [overUsb, check, hu, Peer.isUsb]

/-- A command that a pair decides together, said as its answer. -/
theorem propose_decided (e : Effect) (q : Req) (payload : List Byte) (c : Chip) :
    propose e q.sess q.tag payload c = .ok (decided e q payload c) := by
  unfold propose decided
  split <;> rfl

/-- A mailbox row is the service of its command: what every statement over all mailbox rows begins with. -/
theorem request_exec (i : Instr) (cmd : Nat) (q : Req) (s : State) (h : i.request = some (cmd, q)) :
    ∃ run, exec i s = lift (serve cmd run q) s := by
  cases i <;> cases h <;> exact ⟨_, rfl⟩

end Sys2Proof.Machine
end

