-- ==== Sys2Proof/Laws/Ops.lean ====
section
/-! SUPPORT. What the recorder and the sessions can do to the block, said once: `core` is the block without what they may touch, and
every shared operation of records, events, completions and closings keeps it. -/
namespace Sys2Proof.Machine

open Sys2Proof

/-- The block without what a record, an event or the closing of a session may touch: the recorder, the counters, the sessions and their
messages, what waits for a session, and the sessions that requests name. -/
def Chip.core (c : Chip) : Chip :=
  { c with
    sup := { c.sup with waiting := [], due := [], pairCmds := [], confirmed := [], svcSess := none }
    sets := { c.sets with origin := none }
    slots := Map.mapV c.slots (fun _ x => { x with host := none })
    can := Map.mapV c.can (fun _ h => { h with tx := Map.mapV h.tx (fun _ b => { b with host := [] }) })
    io := { c.io with
      dout := Map.mapV c.io.dout (fun _ d => { d with learn := none })
      hart := Map.mapV c.io.hart (fun _ h => { h with queue := h.queue.map (fun q => { q with sess := none }) }) }
    net := { c.net with seq := 0 }
    pair := { c.pair with proofBad := false }
    mbx := {}
    thy := {}
    cnt := {}
    out := [] }

/-- A change that keeps `core`. -/
def Keeps (f : Chip → Chip) : Prop := ∀ c, (f c).core = c.core

theorem Map.mapV_mapV {α β γ : Type} (m : Map α) (f : Nat → α → β) (g : Nat → β → γ) :
    Map.mapV (Map.mapV m f) g = Map.mapV m (fun k a => g k (f k a)) := by
  simp [Map.mapV, List.map_map, Function.comp_def]

theorem keeps_id : Keeps id := fun _ => rfl

theorem Keeps.comp {f g : Chip → Chip} (hf : Keeps f) (hg : Keeps g) : Keeps (fun c => g (f c)) := fun c => by rw [hg, hf]

theorem Keeps.when {f : Chip → Chip} (p : Bool) (hf : Keeps f) : Keeps (when p f) := fun c => when_keeps Chip.core p f c (hf c)

theorem Keeps.forAll {α : Type} (l : List α) {f : α → Chip → Chip} (hf : ∀ a, Keeps (f a)) : Keeps (forAll l f) :=
  fun c => forAll_keeps Chip.core l f (fun a c => hf a c) c

theorem keeps_emit (o : Out) : Keeps (emit o) := fun _ => rfl

theorem keeps_bumpBy (n k : Nat) : Keeps (bumpBy n k) := fun c => by simp [Chip.core]

theorem keeps_bump (n : Nat) : Keeps (bump n) := keeps_bumpBy n 1

theorem keeps_updSess (s : Nat) (f : Session → Session) : Keeps (updSess s f) := fun _ => rfl

theorem keeps_netSend (k : Nat) : Keeps (netSend k) := fun c => by
  unfold netSend
  exact (Keeps.when _ (keeps_bumpBy 0x193 k) _).trans (Keeps.when _ (keeps_bumpBy 0x192 k) c)

theorem keeps_postMsg (p : Peer) (m : List Byte) : Keeps (postMsg p m) := fun c => by
  cases p
  · exact keeps_netSend _ c
  · rfl

theorem keeps_sendWith (close : Nat → Chip → Chip) (hc : ∀ s, Keeps (close s)) (s cmd flags tag st : Nat) (p : List Byte) :
    Keeps (sendWith close s cmd flags tag st p) := fun c => by
  unfold sendWith
  dsimp only
  split
  · rfl
  · rfl
  · split
    · exact hc s c
    · rw [keeps_postMsg]; rfl

theorem keeps_eventWith (close : Nat → Chip → Chip) (hc : ∀ s, Keeps (close s)) (s code tag st : Nat) (p : List Byte)
    (ring : Option (Nat × Nat)) : Keeps (eventWith close s code tag st p ring) := fun c => by
  unfold eventWith
  dsimp only
  split
  · rfl
  · split
    · rw [keeps_sendWith close hc]; rfl
    · split
      · rw [keeps_bump]; rfl
      · split
        · rw [keeps_bumpBy]; rfl
        · split
          · rw [keeps_bumpBy]; rfl
          · rfl

theorem keeps_flushWith (close : Nat → Chip → Chip) (hc : ∀ s, Keeps (close s)) (s r : Nat) : Keeps (flushWith close s r) := fun c => by
  unfold flushWith
  dsimp only
  split
  · rfl
  · rw [keeps_eventWith close hc]; rfl

theorem keeps_exportWith (close : Nat → Chip → Chip) (hc : ∀ s, Keeps (close s)) (r : Nat) (e : List Byte) :
    Keeps (exportWith close r e) := fun c => by
  unfold exportWith
  refine Keeps.forAll _ (fun a c => ?_) c
  dsimp only
  split
  · rfl
  · rw [keeps_flushWith close hc]; rfl

theorem keeps_forget (s : Nat) : Keeps (forget s) := fun c => by
  simp [forget, Chip.core, Map.mapV_mapV, Function.comp_def]

theorem keeps_serviceEnds (s : Nat) : Keeps (serviceEnds s) := fun c => by
  unfold serviceEnds
  split <;> rfl

theorem keeps_store (code src : Nat) (ws : List Nat) (time fl supp : Nat) (forced : Bool) (c : Chip) :
    (store code src ws time fl supp forced c).1.core = c.core := by
  unfold store
  dsimp only
  rw [Keeps.when _ (keeps_bump 0x1D5), keeps_bump]
  rfl

theorem keeps_closeWith (rec : Nat → Nat → List Nat → Chip → Chip) (hr : ∀ a b ws, Keeps (rec a b ws)) (s reason : Nat) :
    Keeps (closeWith rec s reason) := fun c => by
  unfold closeWith
  rw [hr, keeps_serviceEnds, keeps_forget]
  rfl

theorem keeps_judgeRec (code src : Nat) (ws : List Nat) (time fl : Nat) (forced : Bool) (c : Chip) :
    (judgeRec code src ws time fl forced c).1.core = c.core := by
  unfold judgeRec
  dsimp only
  split
  · rw [keeps_store]; cases (c.sup.role == RRole.reserveProof && proofCodes.contains code) <;> rfl
  · rw [keeps_bump]; cases (c.sup.role == RRole.reserveProof && proofCodes.contains code) <;> rfl

theorem keeps_recordF (fuel code src : Nat) (ws : List Nat) (time fl : Nat) (forced : Bool) :
    Keeps (recordF fuel code src ws time fl forced) := by
  induction fuel generalizing code src ws time fl forced with
  | zero =>
    intro c
    unfold recordF
    dsimp only
    split
    · exact keeps_judgeRec ..
    · exact keeps_judgeRec ..
    · contradiction
  | succ n ih =>
    intro c
    unfold recordF
    dsimp only
    split
    · exact keeps_judgeRec ..
    · exact keeps_judgeRec ..
    · rename_i h
      cases h
      rw [keeps_exportWith _ (fun s => keeps_closeWith _ (fun a b ws c => ih a b ws c.time.clock 0 false c) s 6)]
      exact keeps_judgeRec ..

/-- A record keeps everything that is not the recorder's or the sessions'. -/
theorem keeps_record (code src : Nat) (ws : List Nat) : Keeps (record code src ws) := fun c => by
  unfold record
  exact keeps_recordF 48 code src ws c.time.clock 0 false c

theorem keeps_closeSession (s reason : Nat) : Keeps (closeSession s reason) := fun c => by
  unfold closeSession
  exact keeps_closeWith record keeps_record s reason c

theorem keeps_event (s code tag st : Nat) (p : List Byte) : Keeps (event s code tag st p) := fun c => by
  unfold event
  exact keeps_eventWith _ (fun s => keeps_closeSession s 6) s code tag st p none c

theorem keeps_eventAll (code : Nat) (p : List Byte) : Keeps (eventAll code p) := fun c => by
  have h := Keeps.forAll (f := fun (e : Nat × Session) => event e.1 code 0 0 p) (c.mbx.sess.filter (fun e => e.2.st == .open))
    (fun e => keeps_event e.1 code 0 0 p) c
  rw [← h, eventAll]

theorem keeps_exportRing (r : Nat) (e : List Byte) : Keeps (exportRing r e) := fun c => by
  unfold exportRing
  exact keeps_exportWith _ (fun s => keeps_closeSession s 6) r e c

theorem keeps_flushRing (s r : Nat) : Keeps (flushRing s r) := fun c => by
  unfold flushRing
  exact keeps_flushWith _ (fun s => keeps_closeSession s 6) s r c

theorem keeps_complete (cmd s tag st : Nat) (p : List Byte) : Keeps (complete cmd s tag st p) := fun c => by
  unfold complete
  exact keeps_event s _ tag st p c

theorem keeps_completeAll (cmd st : Nat) (p : List Byte) : Keeps (completeAll cmd st p) := fun c => by
  unfold completeAll
  dsimp only
  exact (Keeps.forAll _ (fun (w : Nat × Nat × Nat) => keeps_complete cmd w.2.1 w.2.2 st p) _).trans rfl

theorem Chip.core_tt (c : Chip) : c.core.tt = c.tt := rfl

theorem Chip.core_time (c : Chip) : c.core.time = c.time := rfl

theorem Chip.core_tasks (c : Chip) : c.core.tasks = c.tasks := rfl

theorem Chip.core_mem (c : Chip) : c.core.mem = c.mem := rfl

theorem Chip.core_hlth (c : Chip) : c.core.hlth = c.hlth := rfl

theorem Chip.core_disp (c : Chip) : c.core.disp = c.disp := rfl

theorem Chip.core_sup_mstate (c : Chip) : c.core.sup.mstate = c.sup.mstate := rfl

theorem Chip.core_sup_role (c : Chip) : c.core.sup.role = c.sup.role := rfl

theorem Chip.core_sup_restart (c : Chip) : c.core.sup.restart = c.sup.restart := rfl

theorem Chip.core_sup_freeCtr (c : Chip) : c.core.sup.freeCtr = c.sup.freeCtr := rfl

theorem Chip.core_sets_main (c : Chip) : c.core.sets.main = c.sets.main := rfl

theorem Chip.core_sets_side (c : Chip) : c.core.sets.side = c.sets.side := rfl

theorem Chip.core_sets_siding (c : Chip) : c.core.sets.siding = c.sets.siding := rfl

theorem Chip.core_sets_forces (c : Chip) : c.core.sets.forces = c.sets.forces := rfl

theorem Chip.core_sets_live (c : Chip) : c.core.sets.live = c.sets.live := rfl

theorem Chip.core_sets_throwTn (c : Chip) : c.core.sets.throwTn = c.sets.throwTn := rfl

theorem Chip.core_io_ai (c : Chip) : c.core.io.ai = c.io.ai := rfl

theorem Chip.core_io_ao (c : Chip) : c.core.io.ao = c.io.ao := rfl

theorem Chip.core_io_di (c : Chip) : c.core.io.di = c.io.di := rfl

theorem Chip.core_pair_st (c : Chip) : c.core.pair.st = c.pair.st := rfl

theorem Chip.core_net_linkA (c : Chip) : c.core.net.linkA = c.net.linkA := rfl

theorem Chip.core_net_linkB (c : Chip) : c.core.net.linkB = c.net.linkB := rfl

@[simp] theorem record_tt (code src : Nat) (ws : List Nat) (c : Chip) : (record code src ws c).tt = c.tt := by
  rw [← Chip.core_tt, keeps_record, Chip.core_tt]

@[simp] theorem record_time (code src : Nat) (ws : List Nat) (c : Chip) : (record code src ws c).time = c.time := by
  rw [← Chip.core_time, keeps_record, Chip.core_time]

@[simp] theorem record_tasks (code src : Nat) (ws : List Nat) (c : Chip) : (record code src ws c).tasks = c.tasks := by
  rw [← Chip.core_tasks, keeps_record, Chip.core_tasks]

@[simp] theorem record_mem (code src : Nat) (ws : List Nat) (c : Chip) : (record code src ws c).mem = c.mem := by
  rw [← Chip.core_mem, keeps_record, Chip.core_mem]

@[simp] theorem record_hlth (code src : Nat) (ws : List Nat) (c : Chip) : (record code src ws c).hlth = c.hlth := by
  rw [← Chip.core_hlth, keeps_record, Chip.core_hlth]

@[simp] theorem record_disp (code src : Nat) (ws : List Nat) (c : Chip) : (record code src ws c).disp = c.disp := by
  rw [← Chip.core_disp, keeps_record, Chip.core_disp]

@[simp] theorem record_sup_mstate (code src : Nat) (ws : List Nat) (c : Chip) : (record code src ws c).sup.mstate = c.sup.mstate := by
  rw [← Chip.core_sup_mstate, keeps_record, Chip.core_sup_mstate]

@[simp] theorem record_sup_role (code src : Nat) (ws : List Nat) (c : Chip) : (record code src ws c).sup.role = c.sup.role := by
  rw [← Chip.core_sup_role, keeps_record, Chip.core_sup_role]

@[simp] theorem record_sup_restart (code src : Nat) (ws : List Nat) (c : Chip) : (record code src ws c).sup.restart = c.sup.restart := by
  rw [← Chip.core_sup_restart, keeps_record, Chip.core_sup_restart]

@[simp] theorem record_sup_freeCtr (code src : Nat) (ws : List Nat) (c : Chip) : (record code src ws c).sup.freeCtr = c.sup.freeCtr := by
  rw [← Chip.core_sup_freeCtr, keeps_record, Chip.core_sup_freeCtr]

@[simp] theorem record_sets_main (code src : Nat) (ws : List Nat) (c : Chip) : (record code src ws c).sets.main = c.sets.main := by
  rw [← Chip.core_sets_main, keeps_record, Chip.core_sets_main]

@[simp] theorem record_sets_side (code src : Nat) (ws : List Nat) (c : Chip) : (record code src ws c).sets.side = c.sets.side := by
  rw [← Chip.core_sets_side, keeps_record, Chip.core_sets_side]

@[simp] theorem record_sets_siding (code src : Nat) (ws : List Nat) (c : Chip) : (record code src ws c).sets.siding = c.sets.siding := by
  rw [← Chip.core_sets_siding, keeps_record, Chip.core_sets_siding]

@[simp] theorem record_sets_forces (code src : Nat) (ws : List Nat) (c : Chip) : (record code src ws c).sets.forces = c.sets.forces := by
  rw [← Chip.core_sets_forces, keeps_record, Chip.core_sets_forces]

@[simp] theorem record_sets_live (code src : Nat) (ws : List Nat) (c : Chip) : (record code src ws c).sets.live = c.sets.live := by
  rw [← Chip.core_sets_live, keeps_record, Chip.core_sets_live]

@[simp] theorem record_sets_throwTn (code src : Nat) (ws : List Nat) (c : Chip) : (record code src ws c).sets.throwTn = c.sets.throwTn := by
  rw [← Chip.core_sets_throwTn, keeps_record, Chip.core_sets_throwTn]

@[simp] theorem record_io_ai (code src : Nat) (ws : List Nat) (c : Chip) : (record code src ws c).io.ai = c.io.ai := by
  rw [← Chip.core_io_ai, keeps_record, Chip.core_io_ai]

@[simp] theorem record_io_ao (code src : Nat) (ws : List Nat) (c : Chip) : (record code src ws c).io.ao = c.io.ao := by
  rw [← Chip.core_io_ao, keeps_record, Chip.core_io_ao]

@[simp] theorem record_io_di (code src : Nat) (ws : List Nat) (c : Chip) : (record code src ws c).io.di = c.io.di := by
  rw [← Chip.core_io_di, keeps_record, Chip.core_io_di]

@[simp] theorem record_pair_st (code src : Nat) (ws : List Nat) (c : Chip) : (record code src ws c).pair.st = c.pair.st := by
  rw [← Chip.core_pair_st, keeps_record, Chip.core_pair_st]

@[simp] theorem record_net_linkA (code src : Nat) (ws : List Nat) (c : Chip) : (record code src ws c).net.linkA = c.net.linkA := by
  rw [← Chip.core_net_linkA, keeps_record, Chip.core_net_linkA]

@[simp] theorem record_net_linkB (code src : Nat) (ws : List Nat) (c : Chip) : (record code src ws c).net.linkB = c.net.linkB := by
  rw [← Chip.core_net_linkB, keeps_record, Chip.core_net_linkB]

@[simp] theorem recordF_tt (n code src : Nat) (ws : List Nat) (tm fl : Nat) (fo : Bool) (c : Chip) : (recordF n code src ws tm fl fo c).tt = c.tt := by
  rw [← Chip.core_tt, keeps_recordF, Chip.core_tt]

@[simp] theorem recordF_time (n code src : Nat) (ws : List Nat) (tm fl : Nat) (fo : Bool) (c : Chip) : (recordF n code src ws tm fl fo c).time = c.time := by
  rw [← Chip.core_time, keeps_recordF, Chip.core_time]

@[simp] theorem recordF_tasks (n code src : Nat) (ws : List Nat) (tm fl : Nat) (fo : Bool) (c : Chip) : (recordF n code src ws tm fl fo c).tasks = c.tasks := by
  rw [← Chip.core_tasks, keeps_recordF, Chip.core_tasks]

@[simp] theorem recordF_mem (n code src : Nat) (ws : List Nat) (tm fl : Nat) (fo : Bool) (c : Chip) : (recordF n code src ws tm fl fo c).mem = c.mem := by
  rw [← Chip.core_mem, keeps_recordF, Chip.core_mem]

@[simp] theorem recordF_hlth (n code src : Nat) (ws : List Nat) (tm fl : Nat) (fo : Bool) (c : Chip) : (recordF n code src ws tm fl fo c).hlth = c.hlth := by
  rw [← Chip.core_hlth, keeps_recordF, Chip.core_hlth]

@[simp] theorem recordF_disp (n code src : Nat) (ws : List Nat) (tm fl : Nat) (fo : Bool) (c : Chip) : (recordF n code src ws tm fl fo c).disp = c.disp := by
  rw [← Chip.core_disp, keeps_recordF, Chip.core_disp]

@[simp] theorem recordF_sup_mstate (n code src : Nat) (ws : List Nat) (tm fl : Nat) (fo : Bool) (c : Chip) : (recordF n code src ws tm fl fo c).sup.mstate = c.sup.mstate := by
  rw [← Chip.core_sup_mstate, keeps_recordF, Chip.core_sup_mstate]

@[simp] theorem recordF_sup_role (n code src : Nat) (ws : List Nat) (tm fl : Nat) (fo : Bool) (c : Chip) : (recordF n code src ws tm fl fo c).sup.role = c.sup.role := by
  rw [← Chip.core_sup_role, keeps_recordF, Chip.core_sup_role]

@[simp] theorem recordF_sup_restart (n code src : Nat) (ws : List Nat) (tm fl : Nat) (fo : Bool) (c : Chip) : (recordF n code src ws tm fl fo c).sup.restart = c.sup.restart := by
  rw [← Chip.core_sup_restart, keeps_recordF, Chip.core_sup_restart]

@[simp] theorem recordF_sup_freeCtr (n code src : Nat) (ws : List Nat) (tm fl : Nat) (fo : Bool) (c : Chip) : (recordF n code src ws tm fl fo c).sup.freeCtr = c.sup.freeCtr := by
  rw [← Chip.core_sup_freeCtr, keeps_recordF, Chip.core_sup_freeCtr]

@[simp] theorem recordF_sets_main (n code src : Nat) (ws : List Nat) (tm fl : Nat) (fo : Bool) (c : Chip) : (recordF n code src ws tm fl fo c).sets.main = c.sets.main := by
  rw [← Chip.core_sets_main, keeps_recordF, Chip.core_sets_main]

@[simp] theorem recordF_sets_side (n code src : Nat) (ws : List Nat) (tm fl : Nat) (fo : Bool) (c : Chip) : (recordF n code src ws tm fl fo c).sets.side = c.sets.side := by
  rw [← Chip.core_sets_side, keeps_recordF, Chip.core_sets_side]

@[simp] theorem recordF_sets_siding (n code src : Nat) (ws : List Nat) (tm fl : Nat) (fo : Bool) (c : Chip) : (recordF n code src ws tm fl fo c).sets.siding = c.sets.siding := by
  rw [← Chip.core_sets_siding, keeps_recordF, Chip.core_sets_siding]

@[simp] theorem recordF_sets_forces (n code src : Nat) (ws : List Nat) (tm fl : Nat) (fo : Bool) (c : Chip) : (recordF n code src ws tm fl fo c).sets.forces = c.sets.forces := by
  rw [← Chip.core_sets_forces, keeps_recordF, Chip.core_sets_forces]

@[simp] theorem recordF_sets_live (n code src : Nat) (ws : List Nat) (tm fl : Nat) (fo : Bool) (c : Chip) : (recordF n code src ws tm fl fo c).sets.live = c.sets.live := by
  rw [← Chip.core_sets_live, keeps_recordF, Chip.core_sets_live]

@[simp] theorem recordF_sets_throwTn (n code src : Nat) (ws : List Nat) (tm fl : Nat) (fo : Bool) (c : Chip) : (recordF n code src ws tm fl fo c).sets.throwTn = c.sets.throwTn := by
  rw [← Chip.core_sets_throwTn, keeps_recordF, Chip.core_sets_throwTn]

@[simp] theorem recordF_io_ai (n code src : Nat) (ws : List Nat) (tm fl : Nat) (fo : Bool) (c : Chip) : (recordF n code src ws tm fl fo c).io.ai = c.io.ai := by
  rw [← Chip.core_io_ai, keeps_recordF, Chip.core_io_ai]

@[simp] theorem recordF_io_ao (n code src : Nat) (ws : List Nat) (tm fl : Nat) (fo : Bool) (c : Chip) : (recordF n code src ws tm fl fo c).io.ao = c.io.ao := by
  rw [← Chip.core_io_ao, keeps_recordF, Chip.core_io_ao]

@[simp] theorem recordF_io_di (n code src : Nat) (ws : List Nat) (tm fl : Nat) (fo : Bool) (c : Chip) : (recordF n code src ws tm fl fo c).io.di = c.io.di := by
  rw [← Chip.core_io_di, keeps_recordF, Chip.core_io_di]

@[simp] theorem recordF_pair_st (n code src : Nat) (ws : List Nat) (tm fl : Nat) (fo : Bool) (c : Chip) : (recordF n code src ws tm fl fo c).pair.st = c.pair.st := by
  rw [← Chip.core_pair_st, keeps_recordF, Chip.core_pair_st]

@[simp] theorem recordF_net_linkA (n code src : Nat) (ws : List Nat) (tm fl : Nat) (fo : Bool) (c : Chip) : (recordF n code src ws tm fl fo c).net.linkA = c.net.linkA := by
  rw [← Chip.core_net_linkA, keeps_recordF, Chip.core_net_linkA]

@[simp] theorem recordF_net_linkB (n code src : Nat) (ws : List Nat) (tm fl : Nat) (fo : Bool) (c : Chip) : (recordF n code src ws tm fl fo c).net.linkB = c.net.linkB := by
  rw [← Chip.core_net_linkB, keeps_recordF, Chip.core_net_linkB]

@[simp] theorem closeSession_tt (s r : Nat) (c : Chip) : (closeSession s r c).tt = c.tt := by
  rw [← Chip.core_tt, keeps_closeSession, Chip.core_tt]

@[simp] theorem closeSession_time (s r : Nat) (c : Chip) : (closeSession s r c).time = c.time := by
  rw [← Chip.core_time, keeps_closeSession, Chip.core_time]

@[simp] theorem closeSession_tasks (s r : Nat) (c : Chip) : (closeSession s r c).tasks = c.tasks := by
  rw [← Chip.core_tasks, keeps_closeSession, Chip.core_tasks]

@[simp] theorem closeSession_mem (s r : Nat) (c : Chip) : (closeSession s r c).mem = c.mem := by
  rw [← Chip.core_mem, keeps_closeSession, Chip.core_mem]

@[simp] theorem closeSession_hlth (s r : Nat) (c : Chip) : (closeSession s r c).hlth = c.hlth := by
  rw [← Chip.core_hlth, keeps_closeSession, Chip.core_hlth]

@[simp] theorem closeSession_disp (s r : Nat) (c : Chip) : (closeSession s r c).disp = c.disp := by
  rw [← Chip.core_disp, keeps_closeSession, Chip.core_disp]

@[simp] theorem closeSession_sup_mstate (s r : Nat) (c : Chip) : (closeSession s r c).sup.mstate = c.sup.mstate := by
  rw [← Chip.core_sup_mstate, keeps_closeSession, Chip.core_sup_mstate]

@[simp] theorem closeSession_sup_role (s r : Nat) (c : Chip) : (closeSession s r c).sup.role = c.sup.role := by
  rw [← Chip.core_sup_role, keeps_closeSession, Chip.core_sup_role]

@[simp] theorem closeSession_sup_restart (s r : Nat) (c : Chip) : (closeSession s r c).sup.restart = c.sup.restart := by
  rw [← Chip.core_sup_restart, keeps_closeSession, Chip.core_sup_restart]

@[simp] theorem closeSession_sup_freeCtr (s r : Nat) (c : Chip) : (closeSession s r c).sup.freeCtr = c.sup.freeCtr := by
  rw [← Chip.core_sup_freeCtr, keeps_closeSession, Chip.core_sup_freeCtr]

@[simp] theorem closeSession_sets_main (s r : Nat) (c : Chip) : (closeSession s r c).sets.main = c.sets.main := by
  rw [← Chip.core_sets_main, keeps_closeSession, Chip.core_sets_main]

@[simp] theorem closeSession_sets_side (s r : Nat) (c : Chip) : (closeSession s r c).sets.side = c.sets.side := by
  rw [← Chip.core_sets_side, keeps_closeSession, Chip.core_sets_side]

@[simp] theorem closeSession_sets_siding (s r : Nat) (c : Chip) : (closeSession s r c).sets.siding = c.sets.siding := by
  rw [← Chip.core_sets_siding, keeps_closeSession, Chip.core_sets_siding]

@[simp] theorem closeSession_sets_forces (s r : Nat) (c : Chip) : (closeSession s r c).sets.forces = c.sets.forces := by
  rw [← Chip.core_sets_forces, keeps_closeSession, Chip.core_sets_forces]

@[simp] theorem closeSession_sets_live (s r : Nat) (c : Chip) : (closeSession s r c).sets.live = c.sets.live := by
  rw [← Chip.core_sets_live, keeps_closeSession, Chip.core_sets_live]

@[simp] theorem closeSession_sets_throwTn (s r : Nat) (c : Chip) : (closeSession s r c).sets.throwTn = c.sets.throwTn := by
  rw [← Chip.core_sets_throwTn, keeps_closeSession, Chip.core_sets_throwTn]

@[simp] theorem closeSession_io_ai (s r : Nat) (c : Chip) : (closeSession s r c).io.ai = c.io.ai := by
  rw [← Chip.core_io_ai, keeps_closeSession, Chip.core_io_ai]

@[simp] theorem closeSession_io_ao (s r : Nat) (c : Chip) : (closeSession s r c).io.ao = c.io.ao := by
  rw [← Chip.core_io_ao, keeps_closeSession, Chip.core_io_ao]

@[simp] theorem closeSession_io_di (s r : Nat) (c : Chip) : (closeSession s r c).io.di = c.io.di := by
  rw [← Chip.core_io_di, keeps_closeSession, Chip.core_io_di]

@[simp] theorem closeSession_pair_st (s r : Nat) (c : Chip) : (closeSession s r c).pair.st = c.pair.st := by
  rw [← Chip.core_pair_st, keeps_closeSession, Chip.core_pair_st]

@[simp] theorem closeSession_net_linkA (s r : Nat) (c : Chip) : (closeSession s r c).net.linkA = c.net.linkA := by
  rw [← Chip.core_net_linkA, keeps_closeSession, Chip.core_net_linkA]

@[simp] theorem closeSession_net_linkB (s r : Nat) (c : Chip) : (closeSession s r c).net.linkB = c.net.linkB := by
  rw [← Chip.core_net_linkB, keeps_closeSession, Chip.core_net_linkB]

@[simp] theorem event_tt (s k g st : Nat) (p : List Byte) (c : Chip) : (event s k g st p c).tt = c.tt := by
  rw [← Chip.core_tt, keeps_event, Chip.core_tt]

@[simp] theorem event_time (s k g st : Nat) (p : List Byte) (c : Chip) : (event s k g st p c).time = c.time := by
  rw [← Chip.core_time, keeps_event, Chip.core_time]

@[simp] theorem event_tasks (s k g st : Nat) (p : List Byte) (c : Chip) : (event s k g st p c).tasks = c.tasks := by
  rw [← Chip.core_tasks, keeps_event, Chip.core_tasks]

@[simp] theorem event_mem (s k g st : Nat) (p : List Byte) (c : Chip) : (event s k g st p c).mem = c.mem := by
  rw [← Chip.core_mem, keeps_event, Chip.core_mem]

@[simp] theorem event_hlth (s k g st : Nat) (p : List Byte) (c : Chip) : (event s k g st p c).hlth = c.hlth := by
  rw [← Chip.core_hlth, keeps_event, Chip.core_hlth]

@[simp] theorem event_disp (s k g st : Nat) (p : List Byte) (c : Chip) : (event s k g st p c).disp = c.disp := by
  rw [← Chip.core_disp, keeps_event, Chip.core_disp]

@[simp] theorem event_sup_mstate (s k g st : Nat) (p : List Byte) (c : Chip) : (event s k g st p c).sup.mstate = c.sup.mstate := by
  rw [← Chip.core_sup_mstate, keeps_event, Chip.core_sup_mstate]

@[simp] theorem event_sup_role (s k g st : Nat) (p : List Byte) (c : Chip) : (event s k g st p c).sup.role = c.sup.role := by
  rw [← Chip.core_sup_role, keeps_event, Chip.core_sup_role]

@[simp] theorem event_sup_restart (s k g st : Nat) (p : List Byte) (c : Chip) : (event s k g st p c).sup.restart = c.sup.restart := by
  rw [← Chip.core_sup_restart, keeps_event, Chip.core_sup_restart]

@[simp] theorem event_sup_freeCtr (s k g st : Nat) (p : List Byte) (c : Chip) : (event s k g st p c).sup.freeCtr = c.sup.freeCtr := by
  rw [← Chip.core_sup_freeCtr, keeps_event, Chip.core_sup_freeCtr]

@[simp] theorem event_sets_main (s k g st : Nat) (p : List Byte) (c : Chip) : (event s k g st p c).sets.main = c.sets.main := by
  rw [← Chip.core_sets_main, keeps_event, Chip.core_sets_main]

@[simp] theorem event_sets_side (s k g st : Nat) (p : List Byte) (c : Chip) : (event s k g st p c).sets.side = c.sets.side := by
  rw [← Chip.core_sets_side, keeps_event, Chip.core_sets_side]

@[simp] theorem event_sets_siding (s k g st : Nat) (p : List Byte) (c : Chip) : (event s k g st p c).sets.siding = c.sets.siding := by
  rw [← Chip.core_sets_siding, keeps_event, Chip.core_sets_siding]

@[simp] theorem event_sets_forces (s k g st : Nat) (p : List Byte) (c : Chip) : (event s k g st p c).sets.forces = c.sets.forces := by
  rw [← Chip.core_sets_forces, keeps_event, Chip.core_sets_forces]

@[simp] theorem event_sets_live (s k g st : Nat) (p : List Byte) (c : Chip) : (event s k g st p c).sets.live = c.sets.live := by
  rw [← Chip.core_sets_live, keeps_event, Chip.core_sets_live]

@[simp] theorem event_sets_throwTn (s k g st : Nat) (p : List Byte) (c : Chip) : (event s k g st p c).sets.throwTn = c.sets.throwTn := by
  rw [← Chip.core_sets_throwTn, keeps_event, Chip.core_sets_throwTn]

@[simp] theorem event_io_ai (s k g st : Nat) (p : List Byte) (c : Chip) : (event s k g st p c).io.ai = c.io.ai := by
  rw [← Chip.core_io_ai, keeps_event, Chip.core_io_ai]

@[simp] theorem event_io_ao (s k g st : Nat) (p : List Byte) (c : Chip) : (event s k g st p c).io.ao = c.io.ao := by
  rw [← Chip.core_io_ao, keeps_event, Chip.core_io_ao]

@[simp] theorem event_io_di (s k g st : Nat) (p : List Byte) (c : Chip) : (event s k g st p c).io.di = c.io.di := by
  rw [← Chip.core_io_di, keeps_event, Chip.core_io_di]

@[simp] theorem event_pair_st (s k g st : Nat) (p : List Byte) (c : Chip) : (event s k g st p c).pair.st = c.pair.st := by
  rw [← Chip.core_pair_st, keeps_event, Chip.core_pair_st]

@[simp] theorem event_net_linkA (s k g st : Nat) (p : List Byte) (c : Chip) : (event s k g st p c).net.linkA = c.net.linkA := by
  rw [← Chip.core_net_linkA, keeps_event, Chip.core_net_linkA]

@[simp] theorem event_net_linkB (s k g st : Nat) (p : List Byte) (c : Chip) : (event s k g st p c).net.linkB = c.net.linkB := by
  rw [← Chip.core_net_linkB, keeps_event, Chip.core_net_linkB]

@[simp] theorem eventAll_tt (k : Nat) (p : List Byte) (c : Chip) : (eventAll k p c).tt = c.tt := by
  rw [← Chip.core_tt, keeps_eventAll, Chip.core_tt]

@[simp] theorem eventAll_time (k : Nat) (p : List Byte) (c : Chip) : (eventAll k p c).time = c.time := by
  rw [← Chip.core_time, keeps_eventAll, Chip.core_time]

@[simp] theorem eventAll_tasks (k : Nat) (p : List Byte) (c : Chip) : (eventAll k p c).tasks = c.tasks := by
  rw [← Chip.core_tasks, keeps_eventAll, Chip.core_tasks]

@[simp] theorem eventAll_mem (k : Nat) (p : List Byte) (c : Chip) : (eventAll k p c).mem = c.mem := by
  rw [← Chip.core_mem, keeps_eventAll, Chip.core_mem]

@[simp] theorem eventAll_hlth (k : Nat) (p : List Byte) (c : Chip) : (eventAll k p c).hlth = c.hlth := by
  rw [← Chip.core_hlth, keeps_eventAll, Chip.core_hlth]

@[simp] theorem eventAll_disp (k : Nat) (p : List Byte) (c : Chip) : (eventAll k p c).disp = c.disp := by
  rw [← Chip.core_disp, keeps_eventAll, Chip.core_disp]

@[simp] theorem eventAll_sup_mstate (k : Nat) (p : List Byte) (c : Chip) : (eventAll k p c).sup.mstate = c.sup.mstate := by
  rw [← Chip.core_sup_mstate, keeps_eventAll, Chip.core_sup_mstate]

@[simp] theorem eventAll_sup_role (k : Nat) (p : List Byte) (c : Chip) : (eventAll k p c).sup.role = c.sup.role := by
  rw [← Chip.core_sup_role, keeps_eventAll, Chip.core_sup_role]

@[simp] theorem eventAll_sup_restart (k : Nat) (p : List Byte) (c : Chip) : (eventAll k p c).sup.restart = c.sup.restart := by
  rw [← Chip.core_sup_restart, keeps_eventAll, Chip.core_sup_restart]

@[simp] theorem eventAll_sup_freeCtr (k : Nat) (p : List Byte) (c : Chip) : (eventAll k p c).sup.freeCtr = c.sup.freeCtr := by
  rw [← Chip.core_sup_freeCtr, keeps_eventAll, Chip.core_sup_freeCtr]

@[simp] theorem eventAll_sets_main (k : Nat) (p : List Byte) (c : Chip) : (eventAll k p c).sets.main = c.sets.main := by
  rw [← Chip.core_sets_main, keeps_eventAll, Chip.core_sets_main]

@[simp] theorem eventAll_sets_side (k : Nat) (p : List Byte) (c : Chip) : (eventAll k p c).sets.side = c.sets.side := by
  rw [← Chip.core_sets_side, keeps_eventAll, Chip.core_sets_side]

@[simp] theorem eventAll_sets_siding (k : Nat) (p : List Byte) (c : Chip) : (eventAll k p c).sets.siding = c.sets.siding := by
  rw [← Chip.core_sets_siding, keeps_eventAll, Chip.core_sets_siding]

@[simp] theorem eventAll_sets_forces (k : Nat) (p : List Byte) (c : Chip) : (eventAll k p c).sets.forces = c.sets.forces := by
  rw [← Chip.core_sets_forces, keeps_eventAll, Chip.core_sets_forces]

@[simp] theorem eventAll_sets_live (k : Nat) (p : List Byte) (c : Chip) : (eventAll k p c).sets.live = c.sets.live := by
  rw [← Chip.core_sets_live, keeps_eventAll, Chip.core_sets_live]

@[simp] theorem eventAll_sets_throwTn (k : Nat) (p : List Byte) (c : Chip) : (eventAll k p c).sets.throwTn = c.sets.throwTn := by
  rw [← Chip.core_sets_throwTn, keeps_eventAll, Chip.core_sets_throwTn]

@[simp] theorem eventAll_io_ai (k : Nat) (p : List Byte) (c : Chip) : (eventAll k p c).io.ai = c.io.ai := by
  rw [← Chip.core_io_ai, keeps_eventAll, Chip.core_io_ai]

@[simp] theorem eventAll_io_ao (k : Nat) (p : List Byte) (c : Chip) : (eventAll k p c).io.ao = c.io.ao := by
  rw [← Chip.core_io_ao, keeps_eventAll, Chip.core_io_ao]

@[simp] theorem eventAll_io_di (k : Nat) (p : List Byte) (c : Chip) : (eventAll k p c).io.di = c.io.di := by
  rw [← Chip.core_io_di, keeps_eventAll, Chip.core_io_di]

@[simp] theorem eventAll_pair_st (k : Nat) (p : List Byte) (c : Chip) : (eventAll k p c).pair.st = c.pair.st := by
  rw [← Chip.core_pair_st, keeps_eventAll, Chip.core_pair_st]

@[simp] theorem eventAll_net_linkA (k : Nat) (p : List Byte) (c : Chip) : (eventAll k p c).net.linkA = c.net.linkA := by
  rw [← Chip.core_net_linkA, keeps_eventAll, Chip.core_net_linkA]

@[simp] theorem eventAll_net_linkB (k : Nat) (p : List Byte) (c : Chip) : (eventAll k p c).net.linkB = c.net.linkB := by
  rw [← Chip.core_net_linkB, keeps_eventAll, Chip.core_net_linkB]

@[simp] theorem exportRing_tt (r : Nat) (e : List Byte) (c : Chip) : (exportRing r e c).tt = c.tt := by
  rw [← Chip.core_tt, keeps_exportRing, Chip.core_tt]

@[simp] theorem exportRing_time (r : Nat) (e : List Byte) (c : Chip) : (exportRing r e c).time = c.time := by
  rw [← Chip.core_time, keeps_exportRing, Chip.core_time]

@[simp] theorem exportRing_tasks (r : Nat) (e : List Byte) (c : Chip) : (exportRing r e c).tasks = c.tasks := by
  rw [← Chip.core_tasks, keeps_exportRing, Chip.core_tasks]

@[simp] theorem exportRing_mem (r : Nat) (e : List Byte) (c : Chip) : (exportRing r e c).mem = c.mem := by
  rw [← Chip.core_mem, keeps_exportRing, Chip.core_mem]

@[simp] theorem exportRing_hlth (r : Nat) (e : List Byte) (c : Chip) : (exportRing r e c).hlth = c.hlth := by
  rw [← Chip.core_hlth, keeps_exportRing, Chip.core_hlth]

@[simp] theorem exportRing_disp (r : Nat) (e : List Byte) (c : Chip) : (exportRing r e c).disp = c.disp := by
  rw [← Chip.core_disp, keeps_exportRing, Chip.core_disp]

@[simp] theorem exportRing_sup_mstate (r : Nat) (e : List Byte) (c : Chip) : (exportRing r e c).sup.mstate = c.sup.mstate := by
  rw [← Chip.core_sup_mstate, keeps_exportRing, Chip.core_sup_mstate]

@[simp] theorem exportRing_sup_role (r : Nat) (e : List Byte) (c : Chip) : (exportRing r e c).sup.role = c.sup.role := by
  rw [← Chip.core_sup_role, keeps_exportRing, Chip.core_sup_role]

@[simp] theorem exportRing_sup_restart (r : Nat) (e : List Byte) (c : Chip) : (exportRing r e c).sup.restart = c.sup.restart := by
  rw [← Chip.core_sup_restart, keeps_exportRing, Chip.core_sup_restart]

@[simp] theorem exportRing_sup_freeCtr (r : Nat) (e : List Byte) (c : Chip) : (exportRing r e c).sup.freeCtr = c.sup.freeCtr := by
  rw [← Chip.core_sup_freeCtr, keeps_exportRing, Chip.core_sup_freeCtr]

@[simp] theorem exportRing_sets_main (r : Nat) (e : List Byte) (c : Chip) : (exportRing r e c).sets.main = c.sets.main := by
  rw [← Chip.core_sets_main, keeps_exportRing, Chip.core_sets_main]

@[simp] theorem exportRing_sets_side (r : Nat) (e : List Byte) (c : Chip) : (exportRing r e c).sets.side = c.sets.side := by
  rw [← Chip.core_sets_side, keeps_exportRing, Chip.core_sets_side]

@[simp] theorem exportRing_sets_siding (r : Nat) (e : List Byte) (c : Chip) : (exportRing r e c).sets.siding = c.sets.siding := by
  rw [← Chip.core_sets_siding, keeps_exportRing, Chip.core_sets_siding]

@[simp] theorem exportRing_sets_forces (r : Nat) (e : List Byte) (c : Chip) : (exportRing r e c).sets.forces = c.sets.forces := by
  rw [← Chip.core_sets_forces, keeps_exportRing, Chip.core_sets_forces]

@[simp] theorem exportRing_sets_live (r : Nat) (e : List Byte) (c : Chip) : (exportRing r e c).sets.live = c.sets.live := by
  rw [← Chip.core_sets_live, keeps_exportRing, Chip.core_sets_live]

@[simp] theorem exportRing_sets_throwTn (r : Nat) (e : List Byte) (c : Chip) : (exportRing r e c).sets.throwTn = c.sets.throwTn := by
  rw [← Chip.core_sets_throwTn, keeps_exportRing, Chip.core_sets_throwTn]

@[simp] theorem exportRing_io_ai (r : Nat) (e : List Byte) (c : Chip) : (exportRing r e c).io.ai = c.io.ai := by
  rw [← Chip.core_io_ai, keeps_exportRing, Chip.core_io_ai]

@[simp] theorem exportRing_io_ao (r : Nat) (e : List Byte) (c : Chip) : (exportRing r e c).io.ao = c.io.ao := by
  rw [← Chip.core_io_ao, keeps_exportRing, Chip.core_io_ao]

@[simp] theorem exportRing_io_di (r : Nat) (e : List Byte) (c : Chip) : (exportRing r e c).io.di = c.io.di := by
  rw [← Chip.core_io_di, keeps_exportRing, Chip.core_io_di]

@[simp] theorem exportRing_pair_st (r : Nat) (e : List Byte) (c : Chip) : (exportRing r e c).pair.st = c.pair.st := by
  rw [← Chip.core_pair_st, keeps_exportRing, Chip.core_pair_st]

@[simp] theorem exportRing_net_linkA (r : Nat) (e : List Byte) (c : Chip) : (exportRing r e c).net.linkA = c.net.linkA := by
  rw [← Chip.core_net_linkA, keeps_exportRing, Chip.core_net_linkA]

@[simp] theorem exportRing_net_linkB (r : Nat) (e : List Byte) (c : Chip) : (exportRing r e c).net.linkB = c.net.linkB := by
  rw [← Chip.core_net_linkB, keeps_exportRing, Chip.core_net_linkB]

@[simp] theorem flushRing_tt (s r : Nat) (c : Chip) : (flushRing s r c).tt = c.tt := by
  rw [← Chip.core_tt, keeps_flushRing, Chip.core_tt]

@[simp] theorem flushRing_time (s r : Nat) (c : Chip) : (flushRing s r c).time = c.time := by
  rw [← Chip.core_time, keeps_flushRing, Chip.core_time]

@[simp] theorem flushRing_tasks (s r : Nat) (c : Chip) : (flushRing s r c).tasks = c.tasks := by
  rw [← Chip.core_tasks, keeps_flushRing, Chip.core_tasks]

@[simp] theorem flushRing_mem (s r : Nat) (c : Chip) : (flushRing s r c).mem = c.mem := by
  rw [← Chip.core_mem, keeps_flushRing, Chip.core_mem]

@[simp] theorem flushRing_hlth (s r : Nat) (c : Chip) : (flushRing s r c).hlth = c.hlth := by
  rw [← Chip.core_hlth, keeps_flushRing, Chip.core_hlth]

@[simp] theorem flushRing_disp (s r : Nat) (c : Chip) : (flushRing s r c).disp = c.disp := by
  rw [← Chip.core_disp, keeps_flushRing, Chip.core_disp]

@[simp] theorem flushRing_sup_mstate (s r : Nat) (c : Chip) : (flushRing s r c).sup.mstate = c.sup.mstate := by
  rw [← Chip.core_sup_mstate, keeps_flushRing, Chip.core_sup_mstate]

@[simp] theorem flushRing_sup_role (s r : Nat) (c : Chip) : (flushRing s r c).sup.role = c.sup.role := by
  rw [← Chip.core_sup_role, keeps_flushRing, Chip.core_sup_role]

@[simp] theorem flushRing_sup_restart (s r : Nat) (c : Chip) : (flushRing s r c).sup.restart = c.sup.restart := by
  rw [← Chip.core_sup_restart, keeps_flushRing, Chip.core_sup_restart]

@[simp] theorem flushRing_sup_freeCtr (s r : Nat) (c : Chip) : (flushRing s r c).sup.freeCtr = c.sup.freeCtr := by
  rw [← Chip.core_sup_freeCtr, keeps_flushRing, Chip.core_sup_freeCtr]

@[simp] theorem flushRing_sets_main (s r : Nat) (c : Chip) : (flushRing s r c).sets.main = c.sets.main := by
  rw [← Chip.core_sets_main, keeps_flushRing, Chip.core_sets_main]

@[simp] theorem flushRing_sets_side (s r : Nat) (c : Chip) : (flushRing s r c).sets.side = c.sets.side := by
  rw [← Chip.core_sets_side, keeps_flushRing, Chip.core_sets_side]

@[simp] theorem flushRing_sets_siding (s r : Nat) (c : Chip) : (flushRing s r c).sets.siding = c.sets.siding := by
  rw [← Chip.core_sets_siding, keeps_flushRing, Chip.core_sets_siding]

@[simp] theorem flushRing_sets_forces (s r : Nat) (c : Chip) : (flushRing s r c).sets.forces = c.sets.forces := by
  rw [← Chip.core_sets_forces, keeps_flushRing, Chip.core_sets_forces]

@[simp] theorem flushRing_sets_live (s r : Nat) (c : Chip) : (flushRing s r c).sets.live = c.sets.live := by
  rw [← Chip.core_sets_live, keeps_flushRing, Chip.core_sets_live]

@[simp] theorem flushRing_sets_throwTn (s r : Nat) (c : Chip) : (flushRing s r c).sets.throwTn = c.sets.throwTn := by
  rw [← Chip.core_sets_throwTn, keeps_flushRing, Chip.core_sets_throwTn]

@[simp] theorem flushRing_io_ai (s r : Nat) (c : Chip) : (flushRing s r c).io.ai = c.io.ai := by
  rw [← Chip.core_io_ai, keeps_flushRing, Chip.core_io_ai]

@[simp] theorem flushRing_io_ao (s r : Nat) (c : Chip) : (flushRing s r c).io.ao = c.io.ao := by
  rw [← Chip.core_io_ao, keeps_flushRing, Chip.core_io_ao]

@[simp] theorem flushRing_io_di (s r : Nat) (c : Chip) : (flushRing s r c).io.di = c.io.di := by
  rw [← Chip.core_io_di, keeps_flushRing, Chip.core_io_di]

@[simp] theorem flushRing_pair_st (s r : Nat) (c : Chip) : (flushRing s r c).pair.st = c.pair.st := by
  rw [← Chip.core_pair_st, keeps_flushRing, Chip.core_pair_st]

@[simp] theorem flushRing_net_linkA (s r : Nat) (c : Chip) : (flushRing s r c).net.linkA = c.net.linkA := by
  rw [← Chip.core_net_linkA, keeps_flushRing, Chip.core_net_linkA]

@[simp] theorem flushRing_net_linkB (s r : Nat) (c : Chip) : (flushRing s r c).net.linkB = c.net.linkB := by
  rw [← Chip.core_net_linkB, keeps_flushRing, Chip.core_net_linkB]

@[simp] theorem complete_tt (k s g st : Nat) (p : List Byte) (c : Chip) : (complete k s g st p c).tt = c.tt := by
  rw [← Chip.core_tt, keeps_complete, Chip.core_tt]

@[simp] theorem complete_time (k s g st : Nat) (p : List Byte) (c : Chip) : (complete k s g st p c).time = c.time := by
  rw [← Chip.core_time, keeps_complete, Chip.core_time]

@[simp] theorem complete_tasks (k s g st : Nat) (p : List Byte) (c : Chip) : (complete k s g st p c).tasks = c.tasks := by
  rw [← Chip.core_tasks, keeps_complete, Chip.core_tasks]

@[simp] theorem complete_mem (k s g st : Nat) (p : List Byte) (c : Chip) : (complete k s g st p c).mem = c.mem := by
  rw [← Chip.core_mem, keeps_complete, Chip.core_mem]

@[simp] theorem complete_hlth (k s g st : Nat) (p : List Byte) (c : Chip) : (complete k s g st p c).hlth = c.hlth := by
  rw [← Chip.core_hlth, keeps_complete, Chip.core_hlth]

@[simp] theorem complete_disp (k s g st : Nat) (p : List Byte) (c : Chip) : (complete k s g st p c).disp = c.disp := by
  rw [← Chip.core_disp, keeps_complete, Chip.core_disp]

@[simp] theorem complete_sup_mstate (k s g st : Nat) (p : List Byte) (c : Chip) : (complete k s g st p c).sup.mstate = c.sup.mstate := by
  rw [← Chip.core_sup_mstate, keeps_complete, Chip.core_sup_mstate]

@[simp] theorem complete_sup_role (k s g st : Nat) (p : List Byte) (c : Chip) : (complete k s g st p c).sup.role = c.sup.role := by
  rw [← Chip.core_sup_role, keeps_complete, Chip.core_sup_role]

@[simp] theorem complete_sup_restart (k s g st : Nat) (p : List Byte) (c : Chip) : (complete k s g st p c).sup.restart = c.sup.restart := by
  rw [← Chip.core_sup_restart, keeps_complete, Chip.core_sup_restart]

@[simp] theorem complete_sup_freeCtr (k s g st : Nat) (p : List Byte) (c : Chip) : (complete k s g st p c).sup.freeCtr = c.sup.freeCtr := by
  rw [← Chip.core_sup_freeCtr, keeps_complete, Chip.core_sup_freeCtr]

@[simp] theorem complete_sets_main (k s g st : Nat) (p : List Byte) (c : Chip) : (complete k s g st p c).sets.main = c.sets.main := by
  rw [← Chip.core_sets_main, keeps_complete, Chip.core_sets_main]

@[simp] theorem complete_sets_side (k s g st : Nat) (p : List Byte) (c : Chip) : (complete k s g st p c).sets.side = c.sets.side := by
  rw [← Chip.core_sets_side, keeps_complete, Chip.core_sets_side]

@[simp] theorem complete_sets_siding (k s g st : Nat) (p : List Byte) (c : Chip) : (complete k s g st p c).sets.siding = c.sets.siding := by
  rw [← Chip.core_sets_siding, keeps_complete, Chip.core_sets_siding]

@[simp] theorem complete_sets_forces (k s g st : Nat) (p : List Byte) (c : Chip) : (complete k s g st p c).sets.forces = c.sets.forces := by
  rw [← Chip.core_sets_forces, keeps_complete, Chip.core_sets_forces]

@[simp] theorem complete_sets_live (k s g st : Nat) (p : List Byte) (c : Chip) : (complete k s g st p c).sets.live = c.sets.live := by
  rw [← Chip.core_sets_live, keeps_complete, Chip.core_sets_live]

@[simp] theorem complete_sets_throwTn (k s g st : Nat) (p : List Byte) (c : Chip) : (complete k s g st p c).sets.throwTn = c.sets.throwTn := by
  rw [← Chip.core_sets_throwTn, keeps_complete, Chip.core_sets_throwTn]

@[simp] theorem complete_io_ai (k s g st : Nat) (p : List Byte) (c : Chip) : (complete k s g st p c).io.ai = c.io.ai := by
  rw [← Chip.core_io_ai, keeps_complete, Chip.core_io_ai]

@[simp] theorem complete_io_ao (k s g st : Nat) (p : List Byte) (c : Chip) : (complete k s g st p c).io.ao = c.io.ao := by
  rw [← Chip.core_io_ao, keeps_complete, Chip.core_io_ao]

@[simp] theorem complete_io_di (k s g st : Nat) (p : List Byte) (c : Chip) : (complete k s g st p c).io.di = c.io.di := by
  rw [← Chip.core_io_di, keeps_complete, Chip.core_io_di]

@[simp] theorem complete_pair_st (k s g st : Nat) (p : List Byte) (c : Chip) : (complete k s g st p c).pair.st = c.pair.st := by
  rw [← Chip.core_pair_st, keeps_complete, Chip.core_pair_st]

@[simp] theorem complete_net_linkA (k s g st : Nat) (p : List Byte) (c : Chip) : (complete k s g st p c).net.linkA = c.net.linkA := by
  rw [← Chip.core_net_linkA, keeps_complete, Chip.core_net_linkA]

@[simp] theorem complete_net_linkB (k s g st : Nat) (p : List Byte) (c : Chip) : (complete k s g st p c).net.linkB = c.net.linkB := by
  rw [← Chip.core_net_linkB, keeps_complete, Chip.core_net_linkB]

@[simp] theorem completeAll_tt (k st : Nat) (p : List Byte) (c : Chip) : (completeAll k st p c).tt = c.tt := by
  rw [← Chip.core_tt, keeps_completeAll, Chip.core_tt]

@[simp] theorem completeAll_time (k st : Nat) (p : List Byte) (c : Chip) : (completeAll k st p c).time = c.time := by
  rw [← Chip.core_time, keeps_completeAll, Chip.core_time]

@[simp] theorem completeAll_tasks (k st : Nat) (p : List Byte) (c : Chip) : (completeAll k st p c).tasks = c.tasks := by
  rw [← Chip.core_tasks, keeps_completeAll, Chip.core_tasks]

@[simp] theorem completeAll_mem (k st : Nat) (p : List Byte) (c : Chip) : (completeAll k st p c).mem = c.mem := by
  rw [← Chip.core_mem, keeps_completeAll, Chip.core_mem]

@[simp] theorem completeAll_hlth (k st : Nat) (p : List Byte) (c : Chip) : (completeAll k st p c).hlth = c.hlth := by
  rw [← Chip.core_hlth, keeps_completeAll, Chip.core_hlth]

@[simp] theorem completeAll_disp (k st : Nat) (p : List Byte) (c : Chip) : (completeAll k st p c).disp = c.disp := by
  rw [← Chip.core_disp, keeps_completeAll, Chip.core_disp]

@[simp] theorem completeAll_sup_mstate (k st : Nat) (p : List Byte) (c : Chip) : (completeAll k st p c).sup.mstate = c.sup.mstate := by
  rw [← Chip.core_sup_mstate, keeps_completeAll, Chip.core_sup_mstate]

@[simp] theorem completeAll_sup_role (k st : Nat) (p : List Byte) (c : Chip) : (completeAll k st p c).sup.role = c.sup.role := by
  rw [← Chip.core_sup_role, keeps_completeAll, Chip.core_sup_role]

@[simp] theorem completeAll_sup_restart (k st : Nat) (p : List Byte) (c : Chip) : (completeAll k st p c).sup.restart = c.sup.restart := by
  rw [← Chip.core_sup_restart, keeps_completeAll, Chip.core_sup_restart]

@[simp] theorem completeAll_sup_freeCtr (k st : Nat) (p : List Byte) (c : Chip) : (completeAll k st p c).sup.freeCtr = c.sup.freeCtr := by
  rw [← Chip.core_sup_freeCtr, keeps_completeAll, Chip.core_sup_freeCtr]

@[simp] theorem completeAll_sets_main (k st : Nat) (p : List Byte) (c : Chip) : (completeAll k st p c).sets.main = c.sets.main := by
  rw [← Chip.core_sets_main, keeps_completeAll, Chip.core_sets_main]

@[simp] theorem completeAll_sets_side (k st : Nat) (p : List Byte) (c : Chip) : (completeAll k st p c).sets.side = c.sets.side := by
  rw [← Chip.core_sets_side, keeps_completeAll, Chip.core_sets_side]

@[simp] theorem completeAll_sets_siding (k st : Nat) (p : List Byte) (c : Chip) : (completeAll k st p c).sets.siding = c.sets.siding := by
  rw [← Chip.core_sets_siding, keeps_completeAll, Chip.core_sets_siding]

@[simp] theorem completeAll_sets_forces (k st : Nat) (p : List Byte) (c : Chip) : (completeAll k st p c).sets.forces = c.sets.forces := by
  rw [← Chip.core_sets_forces, keeps_completeAll, Chip.core_sets_forces]

@[simp] theorem completeAll_sets_live (k st : Nat) (p : List Byte) (c : Chip) : (completeAll k st p c).sets.live = c.sets.live := by
  rw [← Chip.core_sets_live, keeps_completeAll, Chip.core_sets_live]

@[simp] theorem completeAll_sets_throwTn (k st : Nat) (p : List Byte) (c : Chip) : (completeAll k st p c).sets.throwTn = c.sets.throwTn := by
  rw [← Chip.core_sets_throwTn, keeps_completeAll, Chip.core_sets_throwTn]

@[simp] theorem completeAll_io_ai (k st : Nat) (p : List Byte) (c : Chip) : (completeAll k st p c).io.ai = c.io.ai := by
  rw [← Chip.core_io_ai, keeps_completeAll, Chip.core_io_ai]

@[simp] theorem completeAll_io_ao (k st : Nat) (p : List Byte) (c : Chip) : (completeAll k st p c).io.ao = c.io.ao := by
  rw [← Chip.core_io_ao, keeps_completeAll, Chip.core_io_ao]

@[simp] theorem completeAll_io_di (k st : Nat) (p : List Byte) (c : Chip) : (completeAll k st p c).io.di = c.io.di := by
  rw [← Chip.core_io_di, keeps_completeAll, Chip.core_io_di]

@[simp] theorem completeAll_pair_st (k st : Nat) (p : List Byte) (c : Chip) : (completeAll k st p c).pair.st = c.pair.st := by
  rw [← Chip.core_pair_st, keeps_completeAll, Chip.core_pair_st]

@[simp] theorem completeAll_net_linkA (k st : Nat) (p : List Byte) (c : Chip) : (completeAll k st p c).net.linkA = c.net.linkA := by
  rw [← Chip.core_net_linkA, keeps_completeAll, Chip.core_net_linkA]

@[simp] theorem completeAll_net_linkB (k st : Nat) (p : List Byte) (c : Chip) : (completeAll k st p c).net.linkB = c.net.linkB := by
  rw [← Chip.core_net_linkB, keeps_completeAll, Chip.core_net_linkB]

end Sys2Proof.Machine
end

