-- ==== Sys2Proof/Tests/Slice0.lean ====
section
/-! SUPPORT. The model's own tests: small machines with one step each, whose expected values come from the rules of spec/; a term that each
check of WellFormed refuses; and for every statement with hypotheses a machine and operands that meet them. -/
namespace Sys2Proof.Tests

set_option Elab.async false

open Sys2Proof Sys2Proof.Machine Sys2Proof.Safety

/-! ### Small machines -/

/-- The block after a command. -/
def after (i : Instr) (s : State) : Chip := match exec i s with | .next t => t.chip | _ => s.chip

/-- An operand in the task's locals at a byte address, which an operand word counts in elements. -/
def loc (t : Ty) (a : Nat) : Ref := { sp := .loc, ty := t, off := BitVec.ofNat 23 (a / t.size) }

/-- An immediate operand. -/
def imm (t : Ty) (v : BitVec 23) : Ref := { sp := .imm, ty := t, off := v }

/-- A machine whose task 1 runs a job. -/
def running (j : Job) : State := { chip := { tasks := [(1, { st := .running, job := some j })] } }

/-- The job of task 1. -/
def jobOf (c : Chip) : Job := (task c 1).job.getD {}

/-- What a block of task 1 leaves in the job's locals. -/
def leaves (i : Instr) (bytes : List Byte) (o n : Nat) : Nat := Mem.rdLe (jobOf (after i (running { loc := Mem.ofBytes bytes }))).loc o n

/-- A block of task 1 with operands. -/
def blk (ops : List Ref) : Blk := { task := 1, ops := ops }

/-! ### Blocks: the results that R99 to R103 and R107 state -/

theorem test_logic_blocks :
    leaves (.and (blk [loc .u16 0, loc .u16 2, loc .u16 4])) [0xFF, 0x00, 0x0F, 0x0F] 4 2 = 0x000F
      ∧ leaves (.or (blk [loc .u16 0, loc .u16 2, loc .u16 4])) [0xFF, 0x00, 0x0F, 0x0F] 4 2 = 0x0FFF
      ∧ leaves (.xor (blk [loc .u16 0, loc .u16 2, loc .u16 4])) [0xFF, 0x00, 0x0F, 0x0F] 4 2 = 0x0FF0
      ∧ leaves (.not (blk [loc .u8 0, loc .u8 1])) [0x0F] 1 1 = 0xF0 ∧ leaves (.not (blk [loc .bool 0, loc .bool 1])) [1] 1 1 = 0 := by decide

theorem test_shift_blocks :
    leaves (.shl (blk [loc .u8 0, loc .u8 1, loc .u8 2])) [0x81, 8] 2 1 = 0 ∧ leaves (.shr (blk [loc .u8 0, loc .u8 1, loc .u8 2])) [0x81, 1] 2 1 = 0x40
      ∧ leaves (.asr (blk [loc .i8 0, loc .u8 1, loc .i8 2])) [0x80, 9] 2 1 = 0xFF
      ∧ leaves (.rol (blk [loc .u8 0, loc .u8 1, loc .u8 2])) [0x81, 9] 2 1 = 0x03
      ∧ leaves (.ror (blk [loc .u8 0, loc .u8 1, loc .u8 2])) [0x81, 9] 2 1 = 0xC0
      ∧ leaves (.bitget (blk [loc .u8 0, loc .u8 1, loc .bool 2])) [0x80, 7] 2 1 = 1
      ∧ leaves (.popcnt (blk [loc .u16 0, loc .u8 2])) [0xF1, 0x03] 2 1 = 7 := by decide

theorem test_integer_blocks :
    leaves (.add { blk [loc .i16 0, loc .i16 2, loc .i16 4] with sat := true }) [0xFF, 0x7F, 1, 0] 4 2 = 0x7FFF
      ∧ leaves (.add (blk [loc .i16 0, loc .i16 2, loc .i16 4])) [0xFF, 0x7F, 1, 0] 4 2 = 0x8000
      ∧ leaves (.sub (blk [loc .u8 0, loc .u8 1, loc .u8 2])) [1, 2] 2 1 = 0xFF
      ∧ leaves (.div (blk [loc .i16 0, loc .i16 2, loc .i16 4])) [0xF9, 0xFF, 2, 0] 4 2 = 0xFFFD
      ∧ leaves (.mod (blk [loc .i16 0, loc .i16 2, loc .i16 4])) [0xF9, 0xFF, 2, 0] 4 2 = 0xFFFF
      ∧ leaves (.neg { blk [loc .i8 0, loc .i8 1] with sat := true }) [0x80] 1 1 = 0x7F
      ∧ leaves (.abs (blk [loc .i8 0, loc .i8 1])) [0x80] 1 1 = 0x80 := by decide

theorem test_q_blocks :
    leaves (.qmul (blk [loc (.q 4) 0, loc (.q 4) 4, loc (.q 4) 8])) [0x18, 0, 0, 0, 0x28, 0, 0, 0] 8 4 = 0x3C
      ∧ leaves (.qadd (blk [loc (.q 4) 0, loc (.q 4) 4, loc (.q 4) 8])) [0xFF, 0xFF, 0xFF, 0x7F, 1, 0, 0, 0] 8 4 = 0x7FFFFFFF
      ∧ leaves (.qscale (blk [loc (.q 4) 0, loc (.q 3) 4])) [5, 0, 0, 0] 4 4 = 2 ∧ leaves (.qscale (blk [loc (.q 4) 0, loc (.q 3) 4])) [7, 0, 0, 0] 4 4 = 4 := by
  decide

theorem test_compare_and_select_blocks :
    leaves (.lt (blk [loc .i8 0, loc .i8 1, loc .bool 2])) [0xFF, 1] 2 1 = 1
      ∧ leaves (.ne (blk [loc .f32 0, loc .f32 4, loc .bool 8])) [0, 0, 0xC0, 0x7F, 0, 0, 0xC0, 0x7F] 8 1 = 1
      ∧ leaves (.sel (blk [loc .bool 0, loc .u8 1, loc .u8 2, loc .u8 3])) [1, 7, 9] 3 1 = 9
      ∧ leaves (.mux (blk [loc .u8 0, loc .u8 1, loc .u8 2, loc .u8 3])) [5, 7, 9] 3 1 = 9
      ∧ leaves (.limit (blk [loc .i8 0, loc .i8 1, loc .i8 2, loc .i8 3])) [0xF0, 0x80, 5] 3 1 = 0xF0
      ∧ leaves (.limit (blk [loc .i8 0, loc .i8 1, loc .i8 2, loc .i8 3])) [0, 6, 5] 3 1 = 5 := by decide

theorem test_float_blocks :
    leaves (.fadd (blk [loc .f32 0, loc .f32 4, loc .f32 8])) [0, 0, 0x80, 0x3F, 0, 0, 0, 0x40] 8 4 = 0x40400000
      ∧ leaves (.fmul (blk [loc .f32 0, loc .f32 4, loc .f32 8])) [0, 0, 0xC0, 0x3F, 0, 0, 0, 0x40] 8 4 = 0x40400000
      ∧ leaves (.fneg (blk [loc .f32 0, loc .f32 4])) [0, 0, 0x80, 0x3F] 4 4 = 0xBF800000
      ∧ leaves (.cvt (blk [loc .f32 0, loc .i16 4])) [0, 0, 0x20, 0x40] 4 2 = 2
      ∧ leaves (.cvt (blk [loc .i8 0, loc .f32 4])) [0xFE] 4 4 = 0xC0000000 := by decide

/-! ### Witnesses: for every form of a block, one that runs in a job -/

/-- A block of task 1 with an operand of each type in the locals, 8 bytes apart. -/
def form (ts : List Ty) (inst : Option Nat := none) : Blk :=
  { task := 1, ops := ((List.range ts.length).zip ts).map (fun x => loc x.2 (8 * x.1)), inst := inst }

theorem witness_of_forms (l : List (Sig × Blk)) (h : l.all (fun x => x.1.good x.2 && x.2.task == 1 && !x.2.en) = true) :
    ∀ x ∈ l, Runs x.1 x.2 (running {}) {} := by
  intro x hx
  have hb := List.all_eq_true.1 h x hx
  simp only [Bool.and_eq_true, Bool.not_eq_true', beq_iff_eq] at hb
  obtain ⟨⟨h1, h2⟩, h3⟩ := hb
  refine ⟨h1, ?_, ?_, rfl, ?_⟩
  · rw [h2]; rfl
  · rw [h2]; rfl
  · unfold Blk.skips Blk.enable; rw [h3]; rfl

theorem witness_LogicShiftAndBitBlocks : ∀ x ∈ [
    (sigLogic 0x0101, form [.u16, .u16, .u16]), (sigLogic 0x0102, form [.bool, .bool, .bool]), (sigLogic 0x0103, form (List.replicate 17 .u8)),
    (sigNot, form [.u64, .u64]), (sigShift 0x0105 Ty.isInt, form [.i8, .u8, .i8]), (sigShift 0x0106 Ty.isInt, form [.u64, .u8, .u64]),
    (sigShift 0x0107 Ty.isI, form [.i8, .u8, .i8]), (sigShift 0x0108 Ty.isU, form [.u8, .u8, .u8]), (sigShift 0x0109 Ty.isU, form [.u8, .u8, .u8]),
    (sigBitget, form [.u8, .u8, .bool]), (sigBitset, form [.u8, .u8, .bool, .u8]), (sigPopcnt, form [.u64, .u8])],
    Runs x.1 x.2 (running {}) {} := witness_of_forms _ (by decide)

theorem witness_CompareSelectAndMoveBlocks : ∀ x ∈ [
    (sigCmp 0x0201 (fun _ => true), form [.bool, .bool, .bool]), (sigCmp 0x0202 (fun _ => true), form [.f64, .f64, .bool]),
    (sigCmp 0x0203 Ty.isNum, form [.i8, .i8, .bool]), (sigCmp 0x0204 Ty.isNum, form [.i8, .i8, .bool]),
    (sigCmp 0x0205 Ty.isNum, form [.f32, .f32, .bool]), (sigCmp 0x0206 Ty.isNum, form [.q 31, .q 31, .bool]), (sigSel, form [.bool, .u8, .u8, .u8]),
    (sigMux, form (List.replicate 18 .u8)), (sigMinMax 0x0209, form [.i8, .i8, .i8]), (sigMinMax 0x020A, form (List.replicate 9 .f32)),
    (sigLimit, form [.i8, .i8, .i8, .i8]), (sigMove, form [.u64, .u64]), (sigLdx, form [.u8, .u16, .u8]), (sigStx, form [.u8, .u16, .u8]),
    (sigGetst, { task := 1, ops := [{ sp := .inp, ty := .u8, off := 0 }, loc .u8 0] })],
    Runs x.1 x.2 (running {}) {} := witness_of_forms _ (by decide)

theorem witness_IntegerBlocks : ∀ x ∈ [
    (sigInt 0x0301 2 8 Ty.isInt, form (List.replicate 9 .i64)), (sigInt 0x0302 2 2 Ty.isInt, form [.u8, .u8, .u8]),
    (sigInt 0x0303 2 4 Ty.isInt, form (List.replicate 5 .u64)), (sigInt 0x0304 2 2 Ty.isInt, form [.i8, .i8, .i8]),
    (sigInt 0x0305 2 2 Ty.isInt, form [.i64, .i64, .i64]), (sigInt 0x0306 1 1 Ty.isI, form [.i8, .i8]), (sigInt 0x0307 1 1 Ty.isI, form [.i64, .i64])],
    Runs x.1 x.2 (running {}) {} := witness_of_forms _ (by decide)

theorem witness_QBlocks : ∀ x ∈ [
    (sigQ 0x0401 2, form [.q 0, .q 0, .q 0]), (sigQ 0x0402 2, form [.q 31, .q 31, .q 31]), (sigQany 0x0403 2, form [.q 31, .q 0, .q 4]),
    (sigQany 0x0404 2, form [.q 0, .q 31, .q 4]), (sigQ 0x0405 1, form [.q 4, .q 4]), (sigQ 0x0406 1, form [.q 4, .q 4]),
    (sigQany 0x0407 1, form [.q 31, .q 0])],
    Runs x.1 x.2 (running {}) {} := witness_of_forms _ (by decide)

theorem witness_FloatAndConversionBlocks : ∀ x ∈ [
    (sigF 0x0501 2, form [.f32, .f32, .f32]), (sigF 0x0502 2, form [.f64, .f64, .f64]), (sigF 0x0503 2, form [.f32, .f32, .f32]),
    (sigF 0x0504 2, form [.f64, .f64, .f64]), (sigF 0x050C 2, form [.f32, .f32, .f32]), (sigF 0x0505 1, form [.f32, .f32]),
    (sigF 0x0506 1, form [.f64, .f64]), (sigF 0x0507 1, form [.f32, .f32]), (sigF 0x0508 1, form [.f32, .f32]), (sigF 0x0509 1, form [.f64, .f64]),
    (sigF 0x050A 1, form [.f32, .f32]), (sigF 0x050B 1, form [.f64, .f64]), (sigCvt, form [.f64, .bool]),
    (sigF32 0x0602 5, form (List.replicate 6 .f32)), (sigF32 0x0603 5, form (List.replicate 6 .f32)),
    (sigLint, { task := 1, ops := [loc .f32 0, { sp := .con, ty := .f32, off := 0 }, imm .u8 64, loc .f32 4] })],
    Runs x.1 x.2 (running {}) {} := witness_of_forms _ (by decide)

theorem witness_TimerCounterAndEdgeBlocks : ∀ x ∈ [
    (sigNt 0x0701, form [.bool, .u64, .bool, .u64] (some 1)), (sigNt 0x0702, form [.bool, .u64, .bool, .u64] (some 1)),
    (sigNt 0x0703, form [.bool, .u64, .bool, .u64] (some 1)), (sigNt 0x0704, form [.bool, .u64, .bool, .u64] (some 1)),
    (sigTret, form [.bool, .bool, .u64, .bool, .u64] (some 1)), (sigCt 0x0801, form [.bool, .u32, .bool, .u32] (some 1)),
    (sigCt 0x0802, form [.bool, .u32, .bool, .u32] (some 1)), (sigCt 0x0803, form [.bool, .u32, .bool, .u32] (some 1)),
    (sigCtu 0x0901, form [.bool, .bool, .i32, .bool, .i32] (some 1)), (sigCtu 0x0902, form [.bool, .bool, .i32, .bool, .i32] (some 1)),
    (sigCtud, form [.bool, .bool, .bool, .bool, .i32, .bool, .bool, .i32] (some 1)), (sigCtw, form [.bool, .bool, .u64] (some 1)),
    (sigEdge 0x0A01 1, form [.bool, .bool] (some 1)), (sigEdge 0x0A02 1, form [.bool, .bool] (some 1)),
    (sigEdge 0x0A03 2, form [.bool, .bool, .bool] (some 1))],
    Runs x.1 x.2 (running {}) {} := witness_of_forms _ (by decide)

theorem witness_ControlSequenceAndFlowBlocks : ∀ x ∈ [
    (sigPid 0x0B01 (· == .f32), form (List.replicate 7 .f32 ++ [.bool, .f32, .f32]) (some 1)),
    (sigPid 0x0B02 Ty.isQ, form (List.replicate 7 (.q 8) ++ [.bool, .q 8, .q 8]) (some 1)), (sigFilt 0x0B03 2, form [.f32, .f32, .f32] (some 1)),
    (sigFilt 0x0B04 4, form (List.replicate 5 .f32) (some 1)), (sigFilt 0x0B05 3, form (List.replicate 4 .f32) (some 1)),
    (sigFilt 0x0B06 2, form [.f32, .f32, .f32] (some 1)), (sigMavg, form [.f32, .u8, .f32] (some 1)),
    (sigInteg, form [.f32, .f32, .f32, .bool, .f32] (some 1)), (sigStep, form [.bool, .bool, .u64] (some 1)), (sigTrans, form [.bool, .bool, .bool]),
    (sigSeqrst, form [.bool, .bool]), (sigJmp, { task := 1, ops := [imm .u16 7] }), (sigJmpc, { task := 1, ops := [loc .bool 0, imm .u16 7] }),
    (sigJmpn, { task := 1, ops := [loc .bool 0, imm .u16 7] }), (sigLoopb, { task := 1, ops := [imm .u16 3, imm .u16 0, loc .u16 0] }),
    (sigCall, { task := 1, ops := [imm .u16 1] }), (sigRet, { task := 1 }), (sigNop, { task := 1 })],
    Runs x.1 x.2 (running {}) {} := witness_of_forms _ (by decide)

theorem witness_AlarmVoteAndLatchBlocks : ∀ x ∈ [
    (sigAlmhl, form [.f32, .f32, .f32, .f32, .bool, .bool] (some 1)), (sigAlmdly, form [.bool, .u64, .u64, .bool] (some 1)),
    (sigAlminh, form [.bool, .bool, .bool, .bool]), (sigAlmshv, form [.bool, .bool, .u64, .bool, .bool] (some 1)),
    (sigAlmfo, form [.bool, .bool, .bool, .u8] (some 1)), (sigV1oo2, form [.bool, .bool, .u64, .bool, .bool] (some 1)),
    (sigV2oo3, form [.bool, .bool, .bool, .u64, .bool, .bool, .u8] (some 1)), (sigV1oo2a, form [.f32, .f32, .f32, .u64, .f32, .bool] (some 1)),
    (sigV2oo3a, form [.q 8, .q 8, .q 8, .q 8, .u64, .q 8, .bool, .u8] (some 1)), (sigSdl, form [.bool, .bool, .bool, .bool, .bool] (some 1))],
    Runs x.1 x.2 (running {}) {} := witness_of_forms _ (by decide)

theorem witness_UnitBlocks : ∀ x ∈ [
    (sigSgsub, form [.u8, .bool, .q 8, .u32, .u16] (some 1)), (sigSgcol, form [.u8, .u32, .q 8, .u16, .u32] (some 1)), (sigSgstat, form [.u8, .u16]),
    (sigCantx, { task := 1, ops := [imm .u8 3, imm .u8 31, loc .u32 0, loc .u8 4, loc .u8 5, loc .u16 8, loc .u8 10] }),
    (sigCanrx, { task := 1, ops := [imm .u8 3, imm .u8 127, loc .u8 0, loc .u8 1, loc .bool 2, loc .u16 4, loc .u64 8] }),
    (sigHcmd, form [.u8, .u8, .u8, .u8, .bool, .u8, .u8, .u8] (some 1)),
    (sigHvar, { task := 1, ops := [imm .u8 31, imm .u8 15, imm .u8 0, loc .f32 0, loc .u8 4, loc .u64 8] }),
    (sigTmark, { task := 1, ops := [imm .u16 0x0FEF, loc .bool 0, loc .u64 8] }), (sigCntrd, { task := 1, ops := [imm .u16 511, loc .u64 0, loc .bool 8] }),
    (sigPtext, { task := 1, ops := [imm .u8 1, imm .u16 31, { sp := .con, ty := .u8, off := 0 }] }),
    (sigPfield, { task := 1, ops := [imm .u8 1, imm .u16 31, loc .f32 0, imm .u8 2] })],
    Runs x.1 x.2 (running {}) {} := witness_of_forms _ (by decide)

/-- A job of task 1 that asks slot 0 by SGSUB. -/
def asking : Job := { tn := 5, loc := Mem.ofBytes (List.replicate 8 0 ++ [1]) }

theorem witness_SubmissionTagAndStatus :
    Runs sigSgsub (form [.u8, .bool, .q 8, .u32, .u16] (some 1)) (running asking) asking
      ∧ Mem.rdLe (jobOf (after (.sgsub (form [.u8, .bool, .q 8, .u32, .u16] (some 1))) (running asking))).loc 24 4 = 5 :=
  ⟨⟨by decide, rfl, rfl, rfl, rfl⟩, by decide⟩

theorem witness_numbers :
    Ty.i8.isInt = true ∧ Ty.u64.isInt = true ∧ (255 : Nat) < 2 ^ 8 ∧ (NT.load (List.replicate 32 0)).prev = false ∧ (2 ^ 64 - 1 : Nat) < 2 ^ 64 := by
  decide

/-! ### Tasks and boundaries -/

/-- A module in a state at boundary 10, with parameter words of the main set. -/
def machine (m : MState) (words : Map Nat) : Chip :=
  { sup := { mstate := m }, tt := { tn := 10, ticking := true }, sets := { main := { words := words } } }

/-- Words of task 1: its class, PERIOD_K 1, no offset, deadline 2000 µs, R_WC 500 µs, no image. -/
def taskWords (cls : Nat) : Map Nat :=
  [(0x2101 * 256 + 1, cls), (0x2101 * 256 + 2, 1), (0x2101 * 256 + 3, 0), (0x2101 * 256 + 4, 2000), (0x2101 * 256 + 5, 500), (0x2101 * 256 + 6, 0)]

/-- The machine with task 1 in a state. -/
def withTask (k : Task) (c : Chip) : State := { chip := { c with tasks := [(1, k)] } }

theorem witness_BlockRowsThatDoNotRun :
    (task (withTask { st := .idle } {}).chip 1).job = none ∧ sigNop.good { task := 1 } = true
      ∧ ({ task := 1, en := true, ops := [loc .bool 0] } : Blk).skips {} (running {}).chip = true
      ∧ sigNop.good { task := 1, en := true, ops := [loc .bool 0] } = true ∧ sigNop.good { task := 1, ops := [loc .u8 0] } = false := by decide +kernel

theorem witness_BlockRowsKeepWhatIsNotTheirJobs :
    let s := withTask { st := .running, job := some {} } (machine .run (taskWords 2))
    taskCls s.chip 1 ≠ .s ∧ ((task (after (.nop { task := 1 }) s) 1).job.map (fun j => (j.idx, j.cyc))) = some (1, 1) := by decide +kernel

theorem witness_EqualJobsWriteEqually :
    ∀ i : Instr, i = .not (blk [loc .u8 0, loc .u8 1]) →
    let s : State := running {}
    let s' : State := { running {} with chip := { (running {}).chip with time := { clock := 7 } } }
    s ≠ s' ∧ s.chip.mem.glb = s'.chip.mem.glb ∧ jobOf (after i s) = jobOf (after i s') ∧ (jobOf (after i s)).loc = [(1, 0xFF)] := by
  intro i hi; subst hi; refine ⟨by decide, rfl, by decide, by decide⟩

theorem witness_JobMemoryReadsItsWrites : Space.writable .loc = true ∧ Mem.wf ({} : Job).staging = true ∧ Mem.wf ({} : Job).loc = true := by decide +kernel

theorem witness_BoundaryTakesItsSteps :
    hasBoundaries (stampsArrive (pass 0 (machine .run []))) = true ∧ (machine .fault []).tt.ticking = true
      ∧ (bump 0x000 (latchCounters (nextBoundary (stampsArrive (pass 0 (machine .fault [])))))).tt.ticking = true := by
  decide +kernel

theorem witness_ReleaseStartsAJob :
    let s := withTask { st := .idle } (machine .run (taskWords 2))
    let c := pass 0 s.chip
    releases c = true ∧ relBoundary c 1 = some 10 ∧ taskCls c 1 ≠ .e ∧ cfg c 0x2101 2 31 0 ≠ 0 ∧ 10 % cfg c 0x2101 2 31 0 = 0
      ∧ (task c 1).relTn ≠ some 10 ∧ (task c 1).job = none ∧ (task c 1).st = .idle ∧ (task c 1).skip = false ∧ c.pair.adoptRel = false
      ∧ ((task (after (.taskRelease 0 1) s) 1).job.map (fun j => (j.tn, j.rel, j.dl))) = some (10, 10000, 12000) := by
  decide +kernel

theorem witness_JobEndFlushesAndStages :
    let c := after (.jobEnd 0 1) (withTask { st := .running, job := some { done := true, journal := [(false, 4, [0xAA])] } } (machine .run (taskWords 2)))
    (task c 1).st = .staged ∧ Mem.rd c.mem.glb 4 = 0xAA := by decide +kernel

theorem witness_DeadlineOverruns :
    taskCls (pass 0 (machine .run (taskWords 1))) 1 = .s ∧ taskCls (pass 0 (machine .run (taskWords 5))) 1 = .e
      ∧ cfg (machine .run (taskWords 5)) 0x2101 1 31 24 = 0
      ∧ (task (after (.jobDeadline 0 1) (withTask { st := .running, job := some {} } (machine .run (taskWords 5)))) 1).st = .suspended := by decide +kernel

theorem witness_HardwareTimerEvents :
    let s := { withTask { st := .idle } (machine .run (taskWords 5)) with chip :=
      { (withTask { st := .idle } (machine .run (taskWords 5))).chip with tt := { tn := 10, ticking := true, hwTimers := [(4095, { armed := true, task := 1, tnEv := 10 })] } } }
    releases s.chip = true ∧ relBoundary s.chip 1 = some 10 ∧ taskCls s.chip 1 = .e ∧ (task s.chip 1).evtTn = none
      ∧ ((task (after (.hwTimerEvent 0 4095) s) 1).job.map (·.tn)) = some 10 := by decide +kernel

theorem witness_OutputsReachTheirChannels :
    aoOn (machine .run [(0x3020 * 256 + 1, 1)]) 0 = true ∧ aoOn (machine .run []) 0 = false ∧ doEn (machine .run [(0x3140 * 256 + 1, 1)]) 0 = true
      ∧ doEn (machine .run []) 0 = false ∧ (ao (pushAo 0 44001 (machine .run [(0x3020 * 256 + 1, 1)])) 0).cmd = 44000 := by decide +kernel

/-! ### Throws, proposals, Sage -/

/-- A machine with a change to its sets. -/
def withSets (f : Sets → Sets) (c : Chip) : Chip := { c with sets := f c.sets }

/-- The main set of a pair member, with the role PAIR_A. -/
def pairWords : Map Nat := [(0x5300 * 256 + 1, 1)]

/-- A pair member in RUN. -/
def member : Chip := { machine .run pairWords with sup := { mstate := .run, role := .pairA }, pair := { st := .paired } }

theorem witness_ThrowEventsTakeTheirSteps :
    let named := fun (c : Chip) => withSets (fun s => { s with side := some {}, named := true, attempt := true, throwTn := 10 }) c
    (withSets (fun s => { s with siding := .preparing }) {}).sets.siding = .preparing
      ∧ (named (machine .run [])).time.clock ≤ throwLimit (named (machine .run [])) ∧ isPair (named (machine .run [])) = false
      ∧ isPair (named member) = true ∧ (named member).time.clock ≤ throwLimit (named member)
      ∧ itemSettled (withSets (fun s => { s with trans := [(5, 0, 0)] }) (machine .run [])) (5, 0) = true
      ∧ 0 + settleNs { machine .run [] with time := { clock := 60000000000 } } 8 ≤ 60000000000 := by decide +kernel

theorem witness_ThrowMakesTheSidingSetMain :
    let c := withSets (fun s => { s with side := some { setId := 7 }, named := true, postponed := 98 }) (machine .stop [])
    c.sets.side = some { setId := 7 } ∧ c.sets.rollback = false ∧ c.sets.postponed + 1 ≠ 100
      ∧ (withSets (fun s => { s with postponed := 99 }) c).sets.postponed + 1 = 100 := by decide +kernel

theorem witness_PairProposalsAndForces :
    isPair member = true ∧ (0xFE : Nat) ≠ 0xFF ∧ bNs member 10 + 100000000 ≤ ({ member with time := { clock := 10 ^ 9 } } : Chip).time.clock
      ∧ Effect.throwCancel ≠ .loaded ∧ Effect.throwCancel ≠ .named 0 false false ∧ member.tt.tn < 9 + 2
      ∧ ((after (.forceExpired 0) { chip := withSets (fun s => { s with forces := [{ varId := 1, elem := 0, fkind := 0, expiry := some 2500 },
            { varId := 2, elem := 0, fkind := 0 }] }) (machine .run []) }).sets.forces.map (·.varId)) = [2] := by decide +kernel

theorem witness_SageEvents :
    let d : Desc := { slot := 0, cls := 1, n := 1 }
    let c := fun (x : Slot) => { withSets (fun s => { s with main := { descs := [d] } }) member with slots := [(0, x)] }
    descOf (c {}).sets.main 0 = some d ∧ (slot (c { st := .checking, dl := 10 }) 0).st = .checking ∧ checkFail d {} = none
      ∧ (slot (c { st := .queued }) 0).st = .queued ∧ seActive { (c {}) with hlth := { se := [(0, { st := .active })] } } 0 = true
      ∧ (c { st := .running, runSe := 0, dl := 10 }).slots.find? (fun p => p.2.st == .running && p.2.runSe == 0) = some (0, { st := .running, runSe := 0, dl := 10 })
      ∧ (slot (c {}) 0).partner = none ∧ (slot (c {}) 0).own = none := by decide +kernel

/-! ### Health -/

theorem witness_MemoryAndRegisterErrors :
    memKind 0x0110000000 < 5 ∧ retBlock {} 0 = none ∧ taskCls (machine .run (taskWords 2)) 1 ≠ .s ∧ ({} : Chip).hlth.corrected = []
      ∧ (32 * 131072 + 5) * 2 ^ 32 / 2 ^ 32 / 131072 / 32 = 1 ∧ 0 < poolSize (32 * 131072)
      ∧ (ceEng { hlth := { ce := [(3, { st := .reserve })] } } 3).st = .reserve ∧ (5 : Nat) ∉ ({} : Chip).hlth.retired := by decide +kernel

theorem witness_EngineFailures :
    let c : Chip := { machine .run [] with hlth := { ce := [(3, { st := .active }), (4, { st := .reserve })], se := [(0, { st := .active }), (1, { st := .reserve })] } }
    let d : Chip := { machine .run (taskWords 2) with tasks := [(1, { st := .idle })], hlth := { ce := [(3, { st := .active })], se := [(0, { st := .active })] } }
    (ceEng c 3).st = .active ∧ (reserveCe c 3).isSome = true ∧ Map.getD c.hlth.dom 2 .off ≠ .fenced ∧ (reserveSe c).isSome = true
      ∧ reserveCe d 3 = none ∧ reserveSe d = none ∧ hasFencePlan d 0 = false
      ∧ (after (.ceFailed 0 3) { chip := d }).sup.mstate = .fault ∧ (ceEng (after (.ceFailed 0 3) { chip := c }) 3).st = .failed := by decide +kernel

theorem witness_LogicInputLossAndReturn :
    let c : Chip := { hlth := { laOk := true, lbOk := true } }
    c.hlth.laOk = true ∧ c.hlth.lbOk = true ∧ (17999 : Nat) < 18000 ∧ c.sup.powerFail = none ∧ ({} : Chip).hlth.laOk = false
      ∧ ({} : Chip).hlth.lbOk = false ∧ ({} : Chip).sup.mstate ≠ .off := by decide

theorem witness_LockstepOscillatorsAndDomains :
    let c : Chip := { machine .run [] with time := { tcxo := 0, tcxo2 := some 1, cold := none }, hlth := { dom := (List.range 12).map (fun i => (i, .on)) } }
    c.sup.mstate ≠ .off ∧ c.sup.mstate ≠ .fault ∧ c.time.tcxo2 = some 1 ∧ ({ c with time := { c.time with cold := some 2 } }).time.cold = some 2
      ∧ (∀ n, n < 12 → Map.getD c.hlth.dom n .off = .on) ∧ (∀ ch, ch < 4 → canMode c ch = 0)
      ∧ (after (.lockstepMismatch 0) { chip := c }).sup.mstate = .fault ∧ (after (.domainFault 0 0) { chip := c }).sup.mstate = .off := by decide +kernel

theorem witness_ThermalStages :
    let s : State := { chip := { machine .run [] with hlth := { stage := 0, critAt := some 0 }, time := { clock := 10 ^ 9 } } }
    s.chip.sup.mstate ≠ .off ∧ s.chip.hlth.stage ≤ 4 ∧ (after (.thermalSample 0 104 0 0) s).hlth.stage = 0
      ∧ (after (.thermalSample 0 105 0 0) s).hlth.stage = 1 ∧ (after (.thermalSample 0 115 0 0) s).hlth.stage = 3
      ∧ (after (.thermalSample 0 125 0 0) s).hlth.stage = 4 := by decide +kernel

theorem witness_PowerFailSequence :
    let s : State := { chip := machine .run [] }
    s.chip.sup.mstate ≠ .off ∧ s.chip.sup.powerFail = none
      ∧ (after (.powerFailSafeCommit 0) { s with chip := { s.chip with sup := { mstate := .run, powerFail := some 5 } } }).mem.savedClock = 12500005 := by
  decide +kernel

theorem witness_WearLedgers :
    (125 : Int) ≤ 125 ∧ (0x783005, 90000, true) ∈ advisoryList { hlth := { nandPe := 90000 } }
      ∧ (after (.wearLedgerUpdate 0 25 25 0 0 0 []) {}).hlth.opHours = 1 := by decide +kernel

/-! ### Field input and output -/

/-- A module in RUN whose channels of one kind are in use, each with one word. -/
def field (words : List (Nat × Nat)) (f : Machine.Field → Machine.Field) : Chip :=
  { machine .run (words.map (fun p => (p.1 * 256 + 1, p.2))) with io := f {} }

theorem witness_AnalogueInputRows :
    let c := field [(0x3000, 5)] id
    let d := field [(0x3000, 5)] (fun io => { io with ai := [(0, { isOpen := true, openCnt := 3 })], spare := [(0, .inUse)] })
    aiIsOn c 0 = true ∧ (ai c 0).subst = false ∧ c.io.fa ≠ 3 ∧ cfg c 0x3000 1 15 13 = 0 ∧ cfg c 0x3000 1 2 0 ≠ 1 ∧ aiMulti c 0 = false
      ∧ spareSt c 0 = .reserve ∧ (ai c 0).onSpare = false ∧ c.io.fa < 2 ∧ aiIsOn (field [] id) 0 = false
      ∧ (ai (after (.aiConversion 0 0 7600 false false) { chip := c }) 0).range = 0 ∧ (ai (after (.aiConversion 0 0 7599 false false) { chip := c }) 0).range = 1
      ∧ (ai (after (.aiConversion 0 0 41001 false false) { chip := c }) 0).range = 2 ∧ (ai (after (.aiConversion 0 0 42001 false false) { chip := c }) 0).range = 3
      ∧ (ai (after (.aiConversion 0 0 48001 false false) { chip := c }) 0).meas = 48000 ∧ (ai d 0).isOpen = true
      ∧ (ai (after (.aiConversion 0 0 1999 false false) { chip := d }) 0).isOpen = true ∧ (ai (after (.aiConversion 0 0 2000 false false) { chip := d }) 0).isOpen = false
      ∧ (after (.spareComparison 0 0 241) { chip := c }).io.spare = [(0, .inUse)]
      ∧ (ai (field [(0x3000, 5)] (fun io => { io with ai := [(0, { subst := true })], spare := [(0, .inUse)] })) 0).subst = true := by decide +kernel

theorem witness_AnalogueOutputRows :
    let c := field [(0x3020, 1)] id
    let d := field [(0x3020, 1)] (fun io => { io with ao := [(0, { subst := true, heldCmd := some 50000 })], spare := [(3, .inUse)] })
    aoOn c 0 = true ∧ (ao c 0).subst = false ∧ (ao c 0).trans = false ∧ c.io.fa < 2 ∧ (ao c 0).cnts = [(0, 0), (0, 0), (0, 0)]
      ∧ (ao c 0).conds = [false, false, false] ∧ (ao c 0).onSpare = false ∧ spareSt c 3 = .reserve ∧ Map.getD c.io.aoWd 0 false = false
      ∧ Map.getD c.io.refresh 0 0 + cfg c 0x3030 1 31 0 * 1000 ≤ (pass 100000000000 c).time.clock
      ∧ (Map.getD c.io.refresh 0 0 + cfg c 0x3030 1 31 0 * 1000 = 0 ∨ c.time.clock < Map.getD c.io.refresh 0 0 + cfg c 0x3030 1 31 0 * 1000)
      ∧ (verify (39, 0) false true).2 = true ∧ (verify (38, 0) false true).2 = false
      ∧ (ao d 0).subst = true ∧ (ao d 0).heldCmd = some 50000 ∧ spareSt d 3 = .inUse
      ∧ (ao (after (.aoSubstitutionDone 0 0) { chip := d }) 0).cmd = 44000 := by decide +kernel

theorem witness_FieldSupplyRows :
    let c := field [] id
    let d := field [] (fun io => { io with fa := 3, fd := [(0, 3)] })
    c.io.fa = 0 ∧ fdState c 0 = 0 ∧ d.io.fa = 3 ∧ fdState d 0 = 3 ∧ fdState (field [] (fun io => { io with fd := [(0, 2)] })) 0 = 2
      ∧ (after (.faRecovered 0 20400) { chip := d }).io.fa = 0 ∧ (after (.faRecovered 0 20399) { chip := d }).io.fa = 1
      ∧ fdState (after (.fdRecovered 0 0 19200) { chip := d }) 0 = 0 ∧ fdState (after (.fdRecovered 0 0 19199) { chip := d }) 0 = 1
      ∧ (ao (after (.faReset 0 11999) { chip := field [(0x3020, 1)] (fun io => { io with ao := [(0, { cmd := 9 })] }) }) 0).cmd = 0 := by decide +kernel

theorem witness_DigitalInputRows :
    let c := field [(0x3100, 1 + 4 + 3 * 64)] (fun io => { io with di := [(0, { c := 2 })] })
    diEn c 0 = true ∧ diDown c 0 ≠ 101 ∧ 1 ≤ cfg c 0x3100 1 15 6 ∧ (div c 0).c ≤ cfg c 0x3100 1 15 6 ∧ diEn c 1 = false
      ∧ diDown (field [] (fun io => { io with diDown := [(0, 101)] })) 0 = 101
      ∧ (div (after (.diSample 0 1 [] 0) { chip := c }) 0).count = 1 ∧ (div (after (.diSample 0 0 [] 0) { chip := c }) 0).c = 1 := by decide +kernel

theorem witness_DigitalOutputRows :
    let c := field [(0x3140, 1)] (fun io => { io with dout := [(0, { cmd := true, closed := true, cnt := 9, clr := 9 })] })
    let p := field [(0x3140, 1 + 2 ^ 15), (0x3182, 1024)] (fun io => { io with dout := [(10, { cmd := true, closed := true })] })
    let l := field [(0x3140, 1 + 2 ^ 14)] (fun io => { io with dout := [(0, { closed := true, hi := 100, devCnt := 2 })] })
    doEn c 0 = true ∧ (dov c 0).blankTo ≤ c.time.clock ∧ (dov c 0).pulse = false ∧ fdState c 0 = 0 ∧ (dov c 0).swFault = false
      ∧ (dov (after (.doReadbackSample 0 0 0 []) { chip := c }) 0).swFault = true
      ∧ doEn (field [(0x3140, 1)] (fun io => { io with dout := [(0, { cmd := true, ovl := true })] })) 0 = true
      ∧ cfgb p 0x3140 1 15 = true ∧ doEn p 0 = true ∧ cfg p 0x3182 1 15 10 * 1000000 / tTick p ≠ 0
      ∧ cfgb l 0x3140 1 14 = true ∧ (dov l 0).onAt + 60000000 ≤ (pass 60000000 l).time.clock ∧ (dov l 0).learn = none ∧ (dov l 0).hi ≠ 0
      ∧ (dov (after (.doLoadWindow 60000000 0 101) { chip := l }) 0).loadDev = true ∧ (dov (after (.doLoadWindow 60000000 0 100) { chip := l }) 0).loadDev = false
      ∧ (dov (field [] (fun io => { io with dout := [(0, { pulse := true })] })) 0).pulse = true
      ∧ Map.getD c.io.refresh 2 0 + cfg c 0x3181 1 31 0 * 1000 ≤ (pass (2 ^ 40) c).time.clock := by decide +kernel

theorem witness_GroupCurrentIsRecorded :
    (after (.doGroupCurrent 0 1) { chip := machine .run [] }).cnt = (record 0x0656 0x0A28 [] (machine .run [])).cnt := by decide +kernel

theorem witness_HartRows :
    let words := fun (x : Nat) => [(0x3000 * 256 + 1, 5 + 8), (0x3400 * 256 + 1, x)]
    let c := fun (x : Nat) (h : HChan) => { machine .run (words x) with io := { hart := [(0, h)] } }
    let r : HChan := { reqNow := true, queue := [⟨0, 0, 0, [], 7, none⟩] }
    hartOn (c (2 ^ 31) r) 0 = true ∧ (hch (c (2 ^ 31) r) 0).reqNow = true ∧ (hch (c (2 ^ 31) r) 0).queue = ⟨0, 0, 0, [], 7, none⟩ :: []
      ∧ hartOn (c (2 ^ 31) {}) 0 = true ∧ (hch (c (2 ^ 31) {}) 0).reqNow = false ∧ polled (c (2 ^ 31) {}) 0 0 = true
      ∧ (hrec (c (2 ^ 31) { recs := [(0, { idDue := false })] }) 0 0).idDue = false ∧ cfg (c (2 ^ 31) {}) 0x3400 1 30 29 = 0
      ∧ (hch (c (2 ^ 31) {}) 0).tries + 1 ≤ cfg (c (2 ^ 31 + 2 ^ 27) {}) 0x3400 1 28 27 ∧ cfg (c (2 ^ 31) {}) 0x3400 1 28 27 ≤ 0
      ∧ cfgb (c (2 ^ 31 + 2 ^ 23) {}) 0x3400 1 31 = true ∧ cfgb (c (2 ^ 31 + 2 ^ 23) {}) 0x3400 1 23 = true ∧ hartOn (field [] id) 0 = false := by
  decide +kernel

/-! ### CAN, the station network, time -/

/-- A module in RUN with words of its main set, whose CAN channel 0 is as given. -/
def bus (words : Map Nat) (h : CanCh) : Chip := { machine .run words with can := [(0, h)] }

theorem witness_CanRows :
    let f : CanFrame := { id := 5 }
    let c := bus [(0x4100 * 256 + 1, 2 ^ 31 + 5)] { st := .errorActive, tec := 250, tx := [(3, { st := 2, frame := some f })], txActive := true }
    let d := bus [] { st := .errorActive, tec := 3, tx := [(3, { st := 2, frame := some f, busy := true })] }
    (canCh c 0).st.live = true ∧ (canCh c 0).recCnt < 128 ∧ f.rtr = false
      ∧ (List.range 128).find? (fun o => canMatch (setWord c.sets.main (objIx 0 o) 1) (setWord c.sets.main (objIx 0 o) 2) false f) = some 0
      ∧ cfg c (objIx 0 0) 3 15 0 = 0 ∧ cfgb c 0x4000 1 6 = false ∧ canChoose c 0 = some 3 ∧ canMaySend c 0 = true
      ∧ (txBuf c 0 3).frame = some f ∧ (txBuf c 0 3).retry = false ∧ canBusy d 0 = some 3 ∧ (txBuf d 0 3).held = none
      ∧ (canCh d 0).setDue = false ∧ canBusy c 0 = none ∧ (canCh c 0).setDue = false ∧ 256 ≤ (canCh c 0).tec + 8 ∧ (canCh d 0).tec + 8 < 256
      ∧ (canCh (after (.canFrameSent 0 0 none) { chip := d }) 0).tec = 2
      ∧ (canCh (bus [] { st := .recovering }) 0).st = .recovering ∧ (canCh (bus [] { st := .integrating }) 0).st = .integrating := by decide +kernel

/-- A module in RUN with station 0 enabled, which tolerates `k` missed ticks. -/
def plant (k : Nat) (x : Station) : Chip :=
  { machine .run [(0x5100 * 256 + 1, 2 ^ 31 + 256 * k), (0x5100 * 256 + 2, 9)] with net := { stations := [(0, x)] } }

theorem witness_StationExchangeRows :
    let z : ZIn := { station := 0, tn := 10, blockLen := 0, configId := 0, digest := 0 }
    let c := plant 2 { st := .ok }
    sendsOut c = true ∧ sendsOut (machine .boot []) = false
      ∧ Map.find ({ c with net := { c.net with sources := [(9, 63, [0], 0)] } }).net.sources 9 = some (63, [0], 0) ∧ (63 + 65536 - 0) % 65536 < 64
      ∧ Map.find c.net.sources 9 = none ∧ c.net.sources.length < 256 ∧ 9 = stationMac c.sets.main z.station ∧ inHeader c z = true
      ∧ z.tn = c.tt.tn ∧ z.configId = cfg c (0x5100 + z.station) 5 31 0 ∧ isPair c = false ∧ z.digest = crc32c z.block
      ∧ c.time.clock ≤ bNs c c.tt.tn + cfg c 0x2000 3 31 0 * 1000 ∧ (station c z.station).now = none
      ∧ hasBoundaries c = true ∧ c.tt.ticking = true ∧ c.net.cutTn ≠ some c.tt.tn ∧ 0 ∈ enabledStations c.sets.main
      ∧ (station c 0).st = .ok ∧ (station c 0).miss + 1 < cfg c 0x5100 1 15 8 ∧ cfg (plant 1 { st := .ok }) 0x5100 1 15 8 ≤ (station c 0).miss + 1
      ∧ (station (plant 2 { st := .ok, now := some z }) 0).now = some z
      ∧ (station (after (.zslCutoff 0) { chip := plant 1 { st := .ok } }) 0).st = .substitute
      ∧ (station (after (.zslCutoff 0) { chip := c }) 0).st = .missed
      ∧ isPair member = true ∧ member.pair.st ≠ .degraded
      ∧ inHeader { member with sets := (plant 2 {}).sets } z = true := by decide +kernel

theorem witness_PortAndRingRows :
    let c := { machine .run [(0x5008 * 256 + 1, 77), (0x5000 * 256 + 4, 10)] with time := { clock := 2000000000 } }
    let ring := { c with net := { c.net with mode := 1, sources := [(9, 0, [0], 1600000000)] } }
    linkOf c .a = false ∧ c.net.mode ≠ 1 ∧ ring.net.mode = 1 ∧ (9 : Nat) ≠ ring.sup.mac ∧ ((Port.a).idx, 9, 0) ∉ ring.net.forwarded
      ∧ ring.net.ringOpen ≠ true ∧ Map.find ring.net.sources 9 = some (0, [0], 1600000000) ∧ 1600000000 + 400000000 ≤ ring.time.clock
      ∧ 77 = cfg c 0x5008 1 31 0 ∧ c.net.ingSec ≠ c.time.clock / 1000000000 ∧ 0 < cfg c 0x5000 4 31 0
      ∧ (after (.sourceAged 0 9) { chip := ring }).net.sources = [] ∧ (after (.arpRequest 0 .a 77) { chip := c }).out = [.arp 0 77] := by decide +kernel

theorem witness_TimeEngineRows :
    let c := fun (words : Map Nat) (st : PortSt) (v : Servo) =>
      { machine .stop words with time := { clock := 10 ^ 10, servo := v, portA := { st := st, delay := some 5 }, portB := { st := .passive } } }
    let still := fun (c : Chip) => c.sup.mstate ≠ .off ∧ c.time.portA.stampDue = none ∧ c.time.portB.stampDue = none
    let g : Gm := { prio1 := 255, clkClass := 255, prio2 := 255, identity := 1 }
    still (c [] .slave .unlocked) ∧ (ptpPort (c [] .slave .unlocked) .a).st = .slave ∧ (ptpPort (c [] .slave .unlocked) .a).delay ≠ none
      ∧ heldState (c [] .slave .unlocked) = false ∧ (c [] .slave .unlocked).time.firstOff = true ∧ heldState { machine .run [] with time := {} } = true
      ∧ (c [] .slave .locked).time.servo = .locked ∧ p2p (c [] .slave .locked) = false
      ∧ p2p (c [(0x5200 * 256 + 1, 2 ^ 9)] .slave .locked) = true ∧ (ptpPort (c [] .master .locked) .a).st = .master
      ∧ mayMaster (c [(0x5200 * 256 + 1, 0)] .slave .holdover) = true ∧ gmBetter g (ownGm (c [] .slave .holdover)) = false
      ∧ mayMaster (c [(0x5200 * 256 + 1, 2 ^ 11)] .slave .holdover) = false ∧ (ptpPort (c [] .slave .holdover) .a).gm = none
      ∧ (c [] .slave .locked).time.portB.st = .passive
      ∧ linkOf { c [] .slave .locked with net := { linkA := true } } .a = true
      ∧ (c [] .slave .holdover).time.longDone = false ∧ 0 + cfg (c [(0x5202 * 256 + 5, 10)] .slave .holdover) 0x5202 5 31 0 * 1000000000 ≤ 10 ^ 10
      ∧ (ptpPort { machine .run [] with time := { portA := { stampDue := some 3 } } } .a).stampDue ≠ none
      ∧ (after (.ptpSync 0 .a 5 10 0 0 true) { chip := c [] .slave .unlocked }).time.offset = 0
      ∧ (after (.ptpSyncTimeout 0) { chip := c [] .slave .locked }).time.servo = .holdover := by decide +kernel

/-! ### Redundancy -/

/-- A pair member whose redundancy state is as given. -/
def pairOf (p : Pair) : Chip := { member with pair := p }

theorem witness_PairRows :
    let words : Map Nat := [(0x5300 * 256 + 1, 2 ^ 9 * 0 + 8 * 3), (0x5300 * 256 + 8, 1)]
    let h : HB := { role := 2, mstate := 4, tn := 10, pstate := 1 }
    let c := { member with sets := { main := { words := words } } }
    let withRes := { member with sets := { main := { words := (0x5300 * 256 + 4, 1) :: words } } }
    let quiet := { c with tt := { c.tt with tn := 20 } }
    merges c = true ∧ hasBoundaries c = true ∧ c.tt.ticking = true ∧ c.pair.merged = false ∧ merges (machine .run []) = false
      ∧ exchanges (machine .run []) = false ∧ exchanges c = true ∧ h.crcOk = true ∧ h.tn = c.tt.tn ∧ c.pair.hb = none
      ∧ c.time.clock ≤ bNs c c.tt.tn + cfg c 0x2000 4 31 0 * 1000 ∧ c.pair.st = .paired ∧ h.mstate = 4 ∧ c.sup.mstate = .run
      ∧ h.digest = c.pair.digest ∧ ({ h with digest := 1 } : HB).digest ≠ c.pair.digest ∧ h.setId = c.pair.hbSet ∧ h.pstate = 1
      ∧ (after (.heartbeatReceived 0 .up { h with digest := 1 }) { chip := c }).pair.disagree = true
      ∧ (pairOf { disagree := true, equal := 16 }).pair.disagree = true ∧ c.pair.equal < 16
      ∧ cfg (pairOf {}) 0x5300 8 31 0 ≤ cfg (pairOf { disTicks := 5000 }) 0x5300 8 31 0 ∧ cfg c 0x5300 8 31 0 ≤ 1
      ∧ isPair (pairOf { disagree := true }) = true ∧ echoBad (pairOf { disagree := true }) = false
      ∧ nHb c = 3 ∧ nHb c ≤ (pairOf { upOk := true, missUp := 3 }).pair.missUp ∧ exchanges (pairOf { upLink := true, goodUp := 16 }) = true
      ∧ quiet.pair.hbTn + nHb quiet ≤ quiet.tt.tn ∧ quiet.pair.queryTn = none ∧ quiet.sup.due = [] ∧ hasReserve quiet = false ∧ hasReserve withRes = true
      ∧ ownConfirms quiet = false ∧ ownConfirms { quiet with net := { goodTicks := 3 } } = true
      ∧ (pairOf { queryTn := some 8 }).tt.tn ≤ 8 + 2 ∧ isReserve { quiet with sup := { role := .reserve } } = true ∧ isReserve quiet = false
      ∧ (pairOf { st := .degraded }).pair.repeatTn + 100 ≤ ({ pairOf { st := .degraded } with tt := { tn := 100 } } : Chip).tt.tn
      ∧ nHb c ≤ (pairOf { skew := 3 }).pair.skew
      ∧ (pairOf { lastHb := some { h with flags := 4 } }).pair.lastHb = some { h with flags := 4 } ∧ bit 4 2 = true
      ∧ ({ c with time := { diverged := true } } : Chip).time.diverged = true
      ∧ (after (.partnerPresumedFailed 0) { chip := quiet }).pair.st = .degraded := by decide +kernel

theorem witness_MergedEntry :
    let e : MergeEntry := { varId := 5, rule := 1, src := 1 }
    let d : InDecl := { varId := 5, ty := .u8, src := .ai 0, merged := true }
    let c := { machine .run (taskWords 2) with sets := { main := { words := taskWords 2, inLists := [(0, [d])] } } }
    mergeDecl c e.varId = some d ∧ srcIsOwn c d e = false ∧ srcIsOwn { c with sup := { c.sup with role := .pairA } } d e = true := by decide +kernel

theorem witness_AdoptionResyncAndReserveRows :
    let c := { machine .run [(0x5300 * 256 + 9, 5), (0x5300 * 256 + 0x0A, 1), (0x5300 * 256 + 0x0B, 1)] with sup := { mstate := .run, role := .pairA } }
    let r := { machine .stop [(0x5300 * 256 + 0x0A, 1)] with sup := { mstate := .stop, role := .reserve }, pair := { st := .standby, ckptValid := true } }
    isPair c = true ∧ (task c 1).job = none ∧ (task { c with tasks := [(1, { job := some {} })] } 1).job ≠ none
      ∧ ({ c with pair := { adopting := [(1, 12, 9, 0)] } } : Chip).tt.tn < 12 ∧ c.pair.st ≠ .resyncTarget ∧ c.pair.st ≠ .joining
      ∧ ({ c with pair := { st := .resyncTarget, jrnLast := some (7, 0, 0, {}) } } : Chip).pair.jrnLast = some (7, 0, 0, {}) ∧ (8 : Nat) = 7 + 1
      ∧ (8 : Nat) + 1 ≠ c.tt.tn ∧ cfg c 0x5300 9 31 0 = 5 ∧ c.pair.resyncTn + cfg c 0x5300 9 31 0 ≤ c.tt.tn
      ∧ c.tt.tn < ({ c with pair := { resyncTn := 6 } } : Chip).pair.resyncTn + cfg c 0x5300 9 31 0
      ∧ r.sup.role = .reserve ∧ r.pair.st = .standby ∧ r.pair.lostRole = none ∧ r.pair.ckptValid = true ∧ cfg r 0x5300 0x0A 31 0 ≠ 0
      ∧ ({ c with pair := { ckptOut := some (8, [basePage]) } } : Chip).pair.ckptOut = some (8, [basePage])
      ∧ ({ r with pair := { callAt := some 0 }, time := { clock := 5000000000 } } : Chip).time.clock = 0 + 5000000000
      ∧ (after (.checkpointReceived 0 7 true {} none) { chip := r }).pair.ckptTn = 7
      ∧ 0 + cfg c 0x5300 0x0B 31 0 * 1000000000 ≤ (pass 1000000000 c).time.clock
      ∧ (after (.proofRunStart 0) { chip := r }).sup.role = .reserveProof := by decide +kernel

/-! ### Display -/

theorem witness_DisplayRows :
    let c := fun (words : Map Nat) (d : Disp) => { machine .run words with hlth := { dom := [(11, .on)] }, disp := d, time := { clock := 10 ^ 10 } }
    let a := c [(0x7400 * 256 + 2, 2 * 65536 + 2)] { panels := [(0, { lines := [(0, { phase := 0, len := 1 })], active := [(0, 3)] })], rails := true }
    let led := c [(0x7400 * 256 + 3, 65536)] { panels := [(0, { ledger := [(0, 1)], identified := true })] }
    let id : PanelId := { width := panelW led 1, height := panelH led 1, serial := 4 }
    pd11 a = .on ∧ pd11 (machine .run []) ≠ .on ∧ a.disp.stopping = false ∧ a.disp.railDown = false ∧ (panel a 0).comp = none
      ∧ ((panel a 0).line 0).len = 1 ∧ ((panel a 0).line 0).refresh = false ∧ 1 ≤ ((panel a 0).line 0).phase + 1
      ∧ ((panel (after (.displayFrame 0) { chip := a }) 0).line 0).len = 0
      ∧ ((panel (c [] { panels := [(0, { lines := [(0, { len := 2 })] })] }) 0).line 0).phase + 1 < 2
      ∧ cfg led 0x7400 3 31 16 ≤ 1 ∧ updating led 0 (panel led 0) = false ∧ led.disp.queue = [] ∧ (panel led 0).quietAt + 10000000000 ≤ led.time.clock
      ∧ mayStart led 0 = true ∧ led.hlth.stage < 3 ∧ slotsUsed led < 16 ∧ (panel led 0).recovery = false
      ∧ anyDriven led = false ∧ led.disp.waveAt + 2000000000 ≤ led.time.clock ∧ anyDriven a = true
      ∧ ({ led.disp with railDown := true } : Disp).downAt + 10000000000 ≤ led.time.clock ∧ led.disp.sparePhase = false
      ∧ id.magicOk = true ∧ id.crcOk = true ∧ id.width = panelW led 1 ∧ id.serial ≠ (panel led 1).serial
      ∧ (panel (after (.panelInserted 0 id) { chip := led }) 1).identified = true
      ∧ (panel (c [] { panels := [(0, { recovery := true, lines := [(0, { journal := true })] })] }) 0).recovery = true := by decide +kernel

/-! ### The mailbox -/

/-- A session over the service port with every right. -/
def owner : Session := { st := .open, peer := some (.usb 0), role := 3, ceil := 3, keepalive := 10, unlock := some 9, hostSeq := 4 }

/-- A module in a state that serves its mailbox, with session 0 of an owner. -/
def served (m : MState) (words : Map Nat) : Chip :=
  { machine m words with sup := { mstate := m, serving := true }, mbx := { sess := [(0, owner)] } }

/-- A request of session 0. -/
def ask (payload : List Byte) : Req := { sess := 0, tag := 7, payload := payload }

/-- The header of a message to session `s`: command, TAG 7, payload length, SEQUENCE. -/
def head16 (cmd s len seq : Nat) : List Byte := leBytes 2 cmd ++ leBytes 1 s ++ [0] ++ leBytes 4 7 ++ leBytes 2 len ++ [0, 0] ++ leBytes 4 seq

theorem witness_MailboxEventRows :
    let c := served .stop []
    let full := { c with mbx := { sess := [(0, { owner with ring := List.replicate 8 (0, 0, 0, []) })] } }
    let b := fun (seq : Nat) => head16 0x0201 0 0 seq
    let q : List Byte := [3, 0, 10, 0] ++ List.replicate 60 0
    serves c (.usb 0) = true ∧ serves (machine .off []) (.usb 0) = false ∧ Map.find c.mbx.blocked (Peer.key (.usb 0)) = none
      ∧ headerBad (b 5) false = none ∧ headerBad (b 5 ++ [0]) false ≠ none ∧ fld (b 5) 2 1 = 0 ∧ (sess c 0).st ≠ .closed
      ∧ (sess c 0).peer = some (.usb 0) ∧ (sess c 0).sealed = false ∧ (sess c 0).hostSeq < 0xFFFFFFFF ∧ fld (b 5) 12 4 = (sess c 0).hostSeq + 1
      ∧ (sess c 0).ring.length < 8 ∧ (cmdTable.any (fun e => e.1 == fld (b 5) 0 2)) = true ∧ 8 ≤ (sess full 0).ring.length
      ∧ 1 ≤ fld (b 4) 12 4 ∧ fld (b 4) 12 4 ≤ (sess c 0).hostSeq ∧ (sess c 0).hostSeq < fld (b 4) 12 4 + 8
      ∧ ([(4, [])].find? (fun (x : Nat × List Byte) => x.1 == 4)) = some (4, []) ∧ (sess c 0).hostSeq + 1 < fld (b 6) 12 4
      ∧ headerBad (head16 0x0101 0xFF 0 1) false = none ∧ fld (head16 0x0101 0xFF 0 1) 2 1 = 0xFF ∧ fld (head16 0x0101 0xFF 0 1) 0 2 = 0x0101
      ∧ q.length = 64 ∧ fld q 1 1 = 0 ∧ fld q 0 1 ≤ 3 ∧ 0 < fld q 2 2 ∧ fld q 2 2 ≤ 60 ∧ (q.drop 32).all (fun x => x == 0) = true
      ∧ freeNumber c (.usb 0) = some 46
      ∧ freeNumber { c with mbx := { sess := (List.range 48).map (fun i => (i, owner)) } } (.usb 0) = none
      ∧ (sess { c with mbx := { sess := [(0, { owner with st := .opening })] } } 0).st = .opening
      ∧ 0 + 3 * (sess c 0).keepalive * 1000000000 ≤ (pass 30000000000 c).time.clock
      ∧ (sess c 0).unlock = some 9 ∧ 9 ≤ (pass 9 c).time.clock
      ∧ (sess (after (.messageArrival 0 (.usb 0) (b 5)) { chip := c }) 0).ring = [(0x0201, 7, 5, [])]
      ∧ (sess (after (.sessionKeepaliveTimeout 30000000000 0) { chip := c }) 0).st = .closed
      ∧ ((machine .run []).time.clock < 1 ∧ Map.find ({ c.mbx with blocked := [(5, 1)] }).blocked 5 = some 1) := by decide +kernel

theorem witness_EventRing :
    let c := { served .run [] with mbx := { sess := [(0, { owner with evLost := 1, evBytes := 300000 })] } }
    let freed := updSess 0 (fun x => { x with evBytes := x.evBytes - 300000 }) c
    (sess freed 0).st ≠ .closed ∧ (sess freed 0).evLost ≠ 0 ∧ (sess freed 0).evBytes + eventCost (sess freed 0) 56 ≤ 262144 := by decide +kernel

theorem witness_CommandRefusals :
    let c := served .stop []
    let d := { c with mbx := { sess := [(0, { owner with st := .opening })] } }
    (Instr.request (.restart (ask []))).map (·.1) = some 0x0202 ∧ (sess c 1).st = .closed ∧ (sess d 0).st = .opening
      ∧ (sess d 0).peer = some (.usb 0) ∧ (0x0202 : Nat) ≠ 0x0102 ∧ (sess c 0).st = .open ∧ (ask []).payload = [] ∧ (ask [1]).payload ≠ []
      ∧ (sess { c with mbx := { sess := [(0, { owner with ceil := 2 })] } } 0).ceil < 3
      ∧ (sess { c with mbx := { sess := [(0, { owner with role := 2 })] } } 0).role < 3
      ∧ bit (cmdStates 0x0204) c.sup.mstate.code = true ∧ bit (cmdStates 0x0204) (served .run []).sup.mstate.code = false
      ∧ (after (.serviceEnter (ask [])) { chip := served .run [] }).sup.mstate = .run := by decide +kernel

theorem witness_CommandsWithoutRightChangeNothing :
    let c := { served .stop [] with mbx := { sess := [(0, { owner with role := 1 })] } }
    (Instr.request (.setLoadBegin (ask []))).map (·.1) = some 0x0301 ∧ (sess c 0).role < cmdRole 0x0301
      ∧ bit (cmdStates 0x0202) (served .run []).sup.mstate.code = false ∧ (0x0202 : Nat) ∉ [0x0102, 0x0103, 0x0104, 0x0301, 0x0302, 0x0303]
      ∧ (after (.restart (ask [1, 0, 0, 0])) { chip := served .run [] }).sup.mstate = .run := by decide +kernel

/-- Session 0 may have the command executed, and at the instant it is taken the premise of its answer holds. -/
def may (cmd need : Nat) (q : Req) (c : Chip) (pre : Session → Chip → Bool) : Bool :=
  let ss := sess c q.sess
  ss.st == .open && ss.peer == some (.usb 0) && decide (need ≤ ss.ceil) && decide (need ≤ ss.role) && bit (cmdStates cmd) c.sup.mstate.code
    && pre ss (taken q (.usb 0) { chip := c })

theorem may_granted (cmd need : Nat) (q : Req) (c : Chip) (pre : Session → Chip → Bool) (h : may cmd need q c pre = true) :
    Granted cmd need q c (sess c q.sess) (.usb 0) ∧ pre (sess c q.sess) (taken q (.usb 0) { chip := c }) = true := by
  unfold may at h
  simp only [Bool.and_eq_true, beq_iff_eq, decide_eq_true_eq] at h
  obtain ⟨⟨⟨⟨⟨a, b⟩, c⟩, d⟩, e⟩, f⟩ := h
  exact ⟨⟨rfl, a, b, c, d, e⟩, f⟩

/-- A payload has a length and zeros in its reserved bytes. -/
def shaped (p : List Byte) (len : Nat) (zeros : List Nat) : Bool := decide (p.length = len) && zeros.all (fun i => p.getD i 0 == 0)

theorem shaped_iff (p : List Byte) (len : Nat) (zeros : List Nat) : shaped p len zeros = true ↔ Shaped p len zeros := by
  unfold shaped Shaped
  simp

/-! ### The premises of the mailbox commands -/

theorem witness_SessionAndStateCommands :
    let c := served .stop []
    let key : List Byte := List.replicate 32 1
    let msg := unlockMessage [5] c.sup.serial 0 2 60
    let held := { c with mbx := { c.mbx with vkey := some key, sess := [(0, { owner with nonce := some ([5], 2, 60, 1000) })] } }
    let resp := leBytes 4 (keyId (some key)) ++ [0, 0, 0, 0] ++ hmac key msg
    let run1 := { c with time := { servo := .locked } }
    may 0x0103 0 (ask []) c (fun _ _ => true) = true ∧ may 0x0104 0 (ask []) c (fun _ _ => true) = true
      ∧ (may 0x0110 0 (ask ([1, 0, 60, 0, 0, 0, 12, 0] ++ List.replicate 12 65)) { c with mbx := { c.mbx with pw := some ([], []) } }
          (fun ss d => shaped ([1, 0, 60, 0, 0, 0, 12, 0] ++ List.replicate 12 65) 20 [1, 7] && decide (ss.peer = some (.usb 0)) && !pathShut d 0
            && d.mbx.pw.isSome) = true)
      ∧ may 0x0112 0 (ask resp) held (fun ss d => shaped resp 40 [4, 5, 6, 7] && !pathShut d 1 && ss.nonce == some ([5], 2, 60, 1000)
          && d.mbx.vkey == some key && fld resp 0 4 == keyId (some key) && decide (d.time.clock < 1000)
          && hmac key (unlockMessage [5] d.sup.serial 0 2 60) == resp.drop 8) = true
      ∧ may 0x0112 0 (ask (List.replicate 40 0)) held (fun _ d => shaped (List.replicate 40 0) 40 [4, 5, 6, 7] && !pathShut d 1
          && hmac key (unlockMessage [5] d.sup.serial 0 2 60) != (List.replicate 40 (0 : Byte)).drop 8) = true
      ∧ may 0x0111 0 (ask [1, 0, 0, 0, 60, 0, 0, 0]) held (fun _ d => !pathShut d 1 && d.mbx.vkey.isSome) = true
      ∧ may 0x0113 0 (ask []) c (fun _ _ => true) = true ∧ may 0x0120 3 (ask []) held (fun _ d => d.mbx.vkey.isSome) = true
      ∧ may 0x0121 3 (ask []) c (fun ss _ => ss.peer == some (.usb 0)) = true
      ∧ may 0x0122 3 (ask ([12, 0, 0, 0] ++ List.replicate 12 65)) c (fun _ _ => shaped ([12, 0, 0, 0] ++ List.replicate 12 65) 16 [1, 2, 3]) = true
      ∧ may 0x0123 3 (ask key) c (fun ss _ => decide (key.length = 32) && ss.peer == some (.usb 0)) = true
      ∧ may 0x0124 3 (ask key) c (fun _ _ => true) = true ∧ may 0x0201 0 (ask []) c (fun _ _ => true) = true
      ∧ may 0x0202 2 (ask [1, 0, 0, 0]) run1 (fun _ d => d.time.servo != .unlocked && d.time.servo != .locking && decide (d.hlth.stage < 3)
          && !isReserve d && !d.sup.conflict && !isPair d) = true
      ∧ may 0x0202 1 (ask [2, 0, 0, 0]) { run1 with mem := { run1.mem with dir0 := { crcOk := true }, dir1 := { crcOk := true } } }
          (fun _ d => dirIntact d && allKept d && !migOutside d) = true
      ∧ may 0x0202 1 (ask [2, 0, 0, 0]) { run1 with
            mem := { run1.mem with dir0 := { crcOk := true, entries := [⟨1, 0, 0, 4, true⟩] }, dir1 := { crcOk := true, entries := [⟨1, 0, 0, 4, true⟩] } }
            sets := { run1.sets with live := [(0x2010 * 256 + 1, 4)] } }
          (fun _ d => dirIntact d && live d 0x2010 1 2 2 == 1 && !allKept d) = true
      ∧ may 0x0203 1 (ask []) (served .run []) (fun _ _ => true) = true ∧ may 0x0204 3 (ask []) run1 (fun _ d => d.time.servo == .locked) = true
      ∧ may 0x0205 3 (ask []) (served .service []) (fun _ _ => true) = true ∧ may 0x0206 3 (ask []) c (fun _ _ => true) = true := by
  decide +kernel

theorem any_hash (l : List Byte) : (∃ h, l = h) ∧ ∃ h, l ≠ h :=
  ⟨⟨_, rfl⟩, 0 :: l, fun h => by have := congrArg List.length h; simp at this⟩

theorem witness_PasswordIsRightOrWrong (pw salt : List Byte) : (∃ h, pbkdf2 pw salt 20000 = h) ∧ ∃ h, pbkdf2 pw salt 20000 ≠ h := any_hash _

theorem witness_SetTaskAndValueCommands :
    let c := served .run (taskWords 2)
    let loading := withSets (fun s => { s with load := some (1, 9, 0), siding := .loading }) c
    let loaded := withSets (fun s => { s with load := some (0, 9, 0), siding := .loading }) c
    let side := withSets (fun s => { s with side := some s.main, siding := .loaded }) c
    let pairOf := fun (c : Chip) => { c with sup := { c.sup with role := .pairA }, pair := { st := .paired } }
    let img : Image := { no := 0, vars := [{ id := 9, loc := { sp := .glb, ty := .u8, off := 0 } }] }
    let withVar := withSets (fun s => { s with main := { s.main with images := [img] } }) c
    let tn : List Byte := leBytes 8 100
    let varQ : List Byte := [1, 0, 0, 0] ++ leBytes 8 9 ++ leBytes 2 0 ++ leBytes 2 1 ++ [0, 0, 0, 0]
    let forceQ : List Byte := leBytes 8 9 ++ leBytes 2 0 ++ [0, 0, 0, 0, 0, 0] ++ leBytes 8 1 ++ leBytes 8 (10 ^ 9)
    may 0x0301 2 (ask (leBytes 4 8 ++ leBytes 4 9)) c (fun _ d => sidingFree d) = true
      ∧ may 0x0301 2 (ask (leBytes 4 (2 ^ 28 + 1) ++ leBytes 4 9)) c (fun _ _ => decide (2 ^ 28 < fld (leBytes 4 (2 ^ 28 + 1)) 0 4)) = true
      ∧ may 0x0302 2 (ask [0, 0, 0, 0, 0, 0, 0, 0, 1]) loading (fun _ d => d.sets.load == some (1, 9, 0) && sidingFree d) = true
      ∧ may 0x0302 2 (ask [1, 0, 0, 0, 0, 0, 0, 0, 1]) loading (fun _ _ => shaped [1, 0, 0, 0, 0, 0, 0, 0, 1] 9 [4, 5, 6, 7]) = true
      ∧ may 0x0303 2 (ask []) loading (fun _ d => d.sets.load == some (1, 9, 0)) = true
      ∧ may 0x0303 2 (ask []) loaded (fun _ d => d.sets.load == some (0, 9, 0) && sidingFree d && (packageBad d.sets.main { signed := false }).isSome
          && !isPair d) = true
      ∧ may 0x0303 2 (ask []) (withSets (fun s => { s with main := {} }) loaded) (fun _ d => packageBad d.sets.main {} == none) = true
      ∧ may 0x0303 2 (ask []) (withSets (fun s => { s with main := {} }) (pairOf loaded)) (fun _ d => packageBad d.sets.main {} == none && isPair d) = true
      ∧ may 0x0304 2 (ask (tn ++ List.replicate 8 0)) (withSets (fun s => { s with main := {}, side := some {} }) side) (fun _ d =>
          shaped (tn ++ List.replicate 8 0) 16 [9, 10, 11, 12, 13, 14, 15] && decide (d.tt.tn + 16 ≤ fld (tn ++ List.replicate 8 0) 0 8) && sidingFree d
            && throwBad d (live d 0x2020 2 1 1 == 1) (live d 0x2020 2 0 0 == 1) == none) = true
      ∧ may 0x0304 2 (ask (tn ++ List.replicate 8 0)) (pairOf (withSets (fun s => { s with main := {}, side := some {} }) side)) (fun _ d =>
          isPair d && throwBad d (live d 0x2020 2 1 1 == 1) (live d 0x2020 2 0 0 == 1) == none) = true
      ∧ may 0x0305 2 (ask []) (withSets (fun s => { s with named := true }) side) (fun _ d => d.sets.named && !d.sets.rollback) = true
      ∧ may 0x0306 2 (ask []) side (fun _ d => sidingFree d) = true ∧ may 0x0307 0 (ask [0, 0, 0, 0]) c (fun _ _ => true) = true
      ∧ may 0x0401 2 (ask [1, 0, 0, 0]) { c with tasks := [(1, { st := .suspended })] } (fun _ d => (task d 1).st == .suspended) = true
      ∧ may 0x0402 0 (ask [1, 0, 0, 0]) c (fun _ _ => true) = true
      ∧ may 0x0403 0 (ask [0, 0, 0, 0]) withVar (fun _ d => d.sets.main.images.find? (fun x => x.no == 0) == some img) = true
      ∧ may 0x0501 0 (ask varQ) withVar (fun _ _ => (varAnswer withVar (varReq varQ 0)).isSome && shaped varQ 20 [1, 2, 3, 16, 17, 18, 19]) = true
      ∧ may 0x0502 1 (ask (leBytes 8 9 ++ leBytes 2 0 ++ leBytes 2 1 ++ leBytes 1 Ty.u8.code ++ [0, 0, 0, 5])) withVar (fun _ d =>
          (match hostWritten d.sets.main 9 with | some v => v.loc.ty == .u8 && decide (0 + 1 ≤ v.elems) | none => false)) = true
      ∧ may 0x0503 2 (ask forceQ) withVar (fun ss d => shaped forceQ 32 [12, 13, 14, 15] && !classSVar d.sets.main 9
          && varInfo d.sets.main 9 == some (.u8, 1) && !forceShut d [forceAsked d 0 ss forceQ] && !bit (forceAsked d 0 ss forceQ).flags 0
          && decide (d.sets.forces.length < 512)) = true
      ∧ may 0x0504 2 (ask (leBytes 8 9 ++ List.replicate 8 0)) withVar (fun _ d => !classSVar d.sets.main 9
          && !forceShut d (d.sets.forces.filter (forceNamed 9 0 0)) && shaped (leBytes 8 9 ++ List.replicate 8 0) 16 [11, 12, 13, 14, 15]) = true
      ∧ may 0x0505 0 (ask [0, 0, 0, 0]) c (fun _ _ => true) = true := by decide +kernel

theorem witness_FieldCanTimeAndSageCommands :
    let c := served .run [(0x3140 * 256 + 1, 1 + 2 ^ 14), (0x4000 * 256 + 1, 2 ^ 7)]
    let canQ : List Byte := [0, 32, 0, 0] ++ leBytes 4 5 ++ List.replicate 68 0
    let b : SBlk := { role := 1, fmt := 1, kind := 0, rows := 1, cols := 1, off := 0, stride := 4 }
    let d : Desc := { slot := 0, cls := 1, n := 1, blks := [b] }
    let sage := fun (d : Desc) => withSets (fun s => { s with main := { descs := [d], words := [(0x2101 * 256 + 2, 10)] } }) c
    may 0x0601 2 (ask [1, 0, 0, 0]) c (fun _ _ => true) = true
      ∧ may 0x0602 2 (ask [0, 0, 0, 0]) c (fun _ x => doEn x 0 && cfgb x 0x3140 1 14 && (dov x 0).learn == none) = true
      ∧ may 0x0603 1 (ask [0, 0, 0, 0]) { c with io := { hold := [(0, true)] } } (fun _ x => Map.getD x.io.hold 0 false) = true
      ∧ may 0x0604 2 (ask [0, 0, 1, 0]) c (fun _ x => !hartRefused 1 && decide ((hch x 0).queue.length < 4)) = true
      ∧ may 0x0604 3 (ask [0, 0, 6, 0]) c (fun _ x => hartRefused 6 && !hartClassS x 0) = true
      ∧ may 0x0605 3 (ask [1, 7, 0, 0, 0xE0, 0xAB, 0, 0]) (served .service []) (fun _ _ => decide (fld [1, 7, 0, 0, 0xE0, 0xAB, 0, 0] 4 4 ≤ 44000)) = true
      ∧ may 0x0701 1 (ask canQ) c (fun _ _ => shaped canQ 76 [9, 10, 11] && decide (fld canQ 8 1 ≤ 8)) = true
      ∧ may 0x0702 1 (ask [0, 32, 0, 0]) c (fun _ _ => true) = true ∧ may 0x0703 0 (ask [0, 0, 0, 0]) c (fun _ _ => true) = true
      ∧ may 0x0703 1 (ask [0, 0, 1, 0]) c (fun _ _ => true) = true
      ∧ may 0x0704 1 (ask [0, 0, 0, 0]) { c with can := [(0, { st := .busOff })] } (fun _ x => (canCh x 0).st == .busOff && cfgb x 0x4000 1 7) = true
      ∧ may 0x0705 0 (ask [1, 0, 0, 0]) c (fun _ _ => true) = true ∧ may 0x0801 0 (ask [1, 0, 0, 0]) c (fun _ _ => true) = true
      ∧ may 0x0802 0 (ask []) c (fun _ _ => true) = true
      ∧ may 0x0803 2 (ask (List.replicate 8 0)) { served .stop [] with time := { servo := .grandmaster } } (fun _ x => x.time.servo == .grandmaster) = true
      ∧ may 0x0901 2 (ask (List.replicate 12 0)) (sage d) (fun _ x => descOf x.sets.main 0 == some d && d.owner == 0xFFFF && d.blks[0]? == some b
          && decide (0 + 1 ≤ b.count) && !slotBusy x 0) = true
      ∧ may 0x0902 2 (ask ([0, 0, 0, 0] ++ leBytes 4 1000)) (sage d) (fun _ x => descOf x.sets.main 0 == some d && decide (x.hlth.stage < 3) && !slotBusy x 0) = true
      ∧ may 0x0903 0 (ask ([0, 0, 0, 0] ++ leBytes 4 0 ++ leBytes 4 1)) (sage d) (fun _ x => descOf x.sets.main 0 == some d && decide (0 + 1 ≤ b.count)) = true
      ∧ may 0x0904 3 (ask ([0, 0, 0, 0] ++ leBytes 4 1)) (sage { d with owner := 1, marginUs := 1 })
          (fun _ x => decide (1 + 1 < cfg x (0x2100 + 1) 2 31 0 * tTick x)) = true := by decide +kernel

theorem witness_RecordCounterAndParameterCommands :
    let c := served .run []
    let readQ : List Byte := [1, 0, 0, 0, 0, 0x10, 1, 1]
    let writeQ : List Byte := [1, 0, 0, 0] ++ leBytes 2 0x2020 ++ [2, 0] ++ leBytes 4 0
    let accQ : List Byte := [1, 0, 0, 0] ++ leBytes 2 0x1100 ++ [2, 0] ++ leBytes 4 3600
    may 0x0A01 0 (ask (List.replicate 16 0)) c (fun _ _ => true) = true ∧ may 0x0A02 0 (ask (1 :: List.replicate 15 0)) c (fun _ _ => true) = true
      ∧ may 0x0A03 2 (ask []) c (fun ss _ => ss.unlock.isSome) = true ∧ may 0x0B01 1 (ask []) c (fun _ _ => true) = true
      ∧ may 0x0B02 1 (ask [0, 0, 1, 0]) c (fun _ x => decide (cntRole x 0 ≤ 1)) = true ∧ may 0x0B03 2 (ask [0, 0, 1, 0]) c (fun _ _ => true) = true
      ∧ may 0x0B04 2 (ask [0, 0, 0, 1, 5, 0, 0, 0]) c (fun _ _ => sourceOk (fld [0, 0, 0, 1, 5, 0, 0, 0] 2 2)) = true
      ∧ may 0x0C01 0 (ask [0, 0, 0, 0]) c (fun _ _ => true) = true ∧ may 0x0C02 0 (ask [0, 0, 0x4F, 2]) c (fun _ _ => decide (fld [0, 0, 0x4F, 2] 2 2 < 592)) = true
      ∧ may 0x0D01 2 (ask []) { served .run [(0x5300 * 256 + 4, 1)] with sup := { mstate := .run, role := .pairA, serving := true }, pair := { st := .alone } }
          (fun _ x => isPair x && x.pair.st == .alone && hasReserve x) = true
      ∧ may 0x0D02 2 (ask []) { served .stop [] with sup := { mstate := .stop, role := .reserve, serving := true }, pair := { st := .standby, ckptValid := true } }
          (fun _ x => x.pair.ckptValid) = true
      ∧ may 0x0D03 2 (ask []) { c with sup := { c.sup with role := .pairA }, pair := { st := .paired, disagree := true } } (fun _ x => isPair x && x.pair.disagree) = true
      ∧ may 0x0E01 2 (ask [1, 3, 0, 0]) { c with hlth := { ce := [(3, { advised := true })] } } (fun _ x => unitOf 1 3 == some 0x0103 && unitAdvised x 1 3) = true
      ∧ may 0x0E02 3 (ask [1, 3, 0, 0]) { served .stop [] with hlth := { ce := [(3, { st := .failed })] } } (fun _ x => unitOut x 1 3) = true
      ∧ may 0x0E03 3 (ask (List.replicate 8 0 ++ leBytes 4 4)) (served .service []) (fun _ _ => windows.any (fun w => decide (w.1 ≤ 0 ∧ 4 ≤ w.1 + w.2))) = true
      ∧ may 0x0F01 0 (ask readQ) c (fun _ x => shaped readQ 8 [1, 2, 3] && decide (entryRole x (readEntry readQ 0) ≤ 0)) = true
      ∧ may 0x0F02 3 (ask writeQ) c (fun _ x => shaped writeQ 12 [1, 2, 3] && writeBad writeQ 1 == none && decide (writeRole 0x2020 2 ≤ 3)
          && !accessIx 0x2020 && writeOk x 0x2020 2 0) = true
      ∧ may 0x0F02 3 (ask accQ) c (fun _ x => writeBad accQ 1 == none && decide (writeRole 0x1100 2 ≤ 3) && accessIx 0x1100 && writeOk x 0x1100 2 3600) = true
      ∧ may 0x0F03 0 (ask [0, 0x10, 1, 0]) c (fun _ x => (descriptor x 0x1000 1).isSome) = true := by decide +kernel

/-! ### Start-up and the whole machine -/

theorem witness_StartUpRows :
    let off : Chip := { sup := { mstate := .off } }
    let test : Chip := { sup := { mstate := .selftest, roleWait := true } }
    let stop := fun (l : Map Nat) (w : Option Nat) (v : Servo) => { withSets (fun s => { s with live := l }) {} with
      sup := { mstate := .stop, autoWait := w }, time := { clock := 10 ^ 12, servo := v } }
    off.sup.bootFail = false ∧ off.sup.heating = none ∧ ({ off with sup := { mstate := .off, orderCx := true } } : Chip).sup.orderCx = true
      ∧ ({} : StartUp).cause ≠ 1 ∧ ({} : StartUp).heater = false ∧ ({} : StartUp).tcxoFail = none ∧ (∀ n, (ceEng off n).st ≠ .failed ∧ (ceEng off n).subBy = none)
      ∧ ({ off with sup := { mstate := .off, heating := some {} } } : Chip).sup.heating = some {}
      ∧ (after (.powerUp 0 {}) { chip := { off with mem := { off.mem with nand0 := some {} } } }).sup.mstate = .selftest
      ∧ (after (.powerUp 0 { boot1Ok := false, boot2Ok := false }) { chip := off }).sup.bootFail = true ∧ setBad {} = none
      ∧ test.sup.roleWait = true ∧ (after (.roleNegotiation 0 {}) { chip := test }).sup.mstate = .stop
      ∧ cfgRole { words := pairWords } = 1
      ∧ timeOk (stop [(0x7800 * 256 + 1, 1)] (some 0) .locked) = true ∧ live (stop [(0x7800 * 256 + 1, 1)] (some 0) .locked) 0x7800 1 0 0 ≠ 0
      ∧ timeOk (stop [] (some 0) .unlocked) = false ∧ 0 + liveWord (stop [] (some 0) .unlocked) 0x7800 2 * 1000000000 ≤ 10 ^ 12
      ∧ (5 : Nat) ∈ ({ off with cnt := { wrapDue := [5] } } : Chip).cnt.wrapDue
      ∧ (match paramAt 0x2020 2 with | some w => !w.reservedSet 0 | none => false) = true ∧ writeOk off 0x2020 2 0 = true := by
  refine ⟨rfl, rfl, rfl, by decide, rfl, rfl, fun n => ⟨nofun, rfl⟩, by decide +kernel⟩

theorem witness_Holds (cs : ConfigSet) (h : Holds {} cs) : Mem.wf cs.initGlb = true := by
  rcases h with h | h | h | h | h
  · rw [h]; rfl
  all_goals (have := congrArg Option.isSome h; simp at this)

theorem witness_Invariant : ∃ s : State, Inv s ∧ s.pending ≠ [] := by
  refine ⟨{ chip := {}, pending := [.reset { sess := 0 }] }, ⟨fun i hi => ?_, ⟨rfl, rfl⟩, fun cs h => witness_Holds cs h, rfl, rfl, ?_, ?_⟩, nofun⟩
  · rw [List.mem_singleton.1 hi]; decide +kernel
  · intro m d h; have := congrArg Option.isSome h; simp at this
  · intro e he; simp at he

/-! ### What WellFormed refuses -/

/-- A block that no opcode has: forty operands. -/
def odd : Blk := { task := 1, ops := List.replicate 40 (loc .u8 0) }

theorem test_wellFormed_refuses_blocks : [
    Instr.and, Instr.or, Instr.xor, Instr.not, Instr.shl, Instr.shr, Instr.asr, Instr.rol, Instr.ror, Instr.bitget, Instr.bitset,
    Instr.popcnt, Instr.eq, Instr.ne, Instr.lt, Instr.le, Instr.gt, Instr.ge, Instr.sel, Instr.mux, Instr.min, Instr.max, Instr.limit,
    Instr.move, Instr.ldx, Instr.stx, Instr.getst, Instr.add, Instr.sub, Instr.mul, Instr.div, Instr.mod, Instr.neg, Instr.abs, Instr.qadd,
    Instr.qsub, Instr.qmul, Instr.qdiv, Instr.qneg, Instr.qabs, Instr.qscale, Instr.fadd, Instr.fsub, Instr.fmul, Instr.fdiv, Instr.fsqrt,
    Instr.fabs, Instr.fneg, Instr.fexp, Instr.fln, Instr.fsin, Instr.fcos, Instr.fatan2, Instr.cvt, Instr.scale, Instr.unscale, Instr.lint,
    Instr.ton, Instr.tof, Instr.tp, Instr.tpulse, Instr.tret, Instr.tons, Instr.tofs, Instr.tps, Instr.ctu, Instr.ctd, Instr.ctud,
    Instr.ctw, Instr.rtrig, Instr.ftrig, Instr.edge2, Instr.pid, Instr.pidq, Instr.lag1, Instr.leadlag, Instr.ramp, Instr.deadb, Instr.mavg,
    Instr.integ, Instr.step, Instr.trans, Instr.seqrst, Instr.almhl, Instr.almdly, Instr.alminh, Instr.almshv, Instr.almfo, Instr.v1oo2,
    Instr.v2oo3, Instr.v1oo2a, Instr.v2oo3a, Instr.sdl, Instr.sgsub, Instr.sgcol, Instr.sgstat, Instr.cantx, Instr.canrx, Instr.hcmd,
    Instr.hvar, Instr.tmark, Instr.cntrd, Instr.ptext, Instr.pfield, Instr.jmp, Instr.jmpc, Instr.jmpn, Instr.loopb, Instr.call, Instr.ret,
    Instr.nop].all (fun mk => !(mk odd).wf && !(mk { task := 1, ops := [loc .bool 0, { sp := .inp, ty := .f64, off := 0 }], inst := some 7, en := true }).wf) = true := by
  decide +kernel

theorem test_wellFormed_accepts_blocks : (Instr.not (form [.u8, .u8])).wf = true ∧ (Instr.nop (blk [])).wf = true
    ∧ (Instr.cvt (form [.i64, .f32])).wf = true := by decide +kernel

theorem test_wellFormed_refuses_requests : [
    Instr.sessionOpen, Instr.sessionConfirm, Instr.sessionClose, Instr.keepalive, Instr.unlockPassword, Instr.unlockChallenge,
    Instr.unlockResponse, Instr.relock, Instr.fieldLockEngage, Instr.fieldLockRelease, Instr.setPassword, Instr.setVesselKey,
    Instr.setLinkKey, Instr.stateGet, Instr.restart, Instr.stop, Instr.serviceEnter, Instr.serviceExit, Instr.reset, Instr.setLoadBegin,
    Instr.setLoadData, Instr.throw, Instr.throwCancel, Instr.sidingClear, Instr.reportRead, Instr.taskResume, Instr.taskRead,
    Instr.imageInfo, Instr.varRead, Instr.varWrite, Instr.forceSet, Instr.forceClear, Instr.forceList, Instr.diCountReset, Instr.doLearn,
    Instr.holdAck, Instr.hartSend, Instr.loopCheck, Instr.canTx, Instr.canAbort, Instr.canObjRead, Instr.canRecover, Instr.canSubscribe,
    Instr.tsSubscribe, Instr.timeGet, Instr.timeSet, Instr.slotWrite, Instr.slotSubmit, Instr.slotRead, Instr.deadlineTest, Instr.thymeRead,
    Instr.thymeSubscribe, Instr.thymeClear, Instr.cntSnapshot, Instr.cntRead, Instr.cntClear, Instr.cntThreshold, Instr.dispJournalRead,
    Instr.ledgerRead, Instr.reserveCall, Instr.proofStart, Instr.pairResync, Instr.substitute, Instr.diagRead, Instr.paramRead,
    Instr.paramWrite, Instr.paramDescribe].all (fun mk => !(mk { sess := 256 }).wf && !(mk { sess := 0, tag := 2 ^ 32 }).wf && (mk { sess := 255 }).wf
      && !(mk { sess := 0, payload := List.replicate 4097 0 }).wf && !(mk { sess := 0, src := .udp (2 ^ 32) 0 }).wf) = true := by
  decide +kernel

theorem test_wellFormed_refuses_values : [
    Instr.spareRestore { sess := 256 } true, .setLoadEnd { sess := 0 } { set := { initGlb := [(1, 0)] } }, .eccUncorrectable 0 (2 ^ 32) none,
    .scrubPass 0 0 [⟨5, 0, 0, 0, false, 0⟩], .scrubPass 0 0 [⟨0, 24, 0, 0, false, 0⟩], .parityError 0 (2 ^ 32) none, .logicInputLost 0 .a 65536,
    .logicInputRestored 0 .a 65536, .throwDoneReceived 0 (2 ^ 64) .up, .throwProposalReceived 0 (.throw (2 ^ 64) true true),
    .throwProposalReceived 0 (.cmd (2 ^ 64) .enterStop), .throwProposalReceived 0 (.load { set := { initGlb := [(1, 0)] } }),
    .sageOutcomeReceived 0 0 (2 ^ 32) 0 ⟨0, 0, []⟩, .sageOutcomeReceived 0 0 0 (2 ^ 64) ⟨0, 0, []⟩, .sageOutcomeReceived 0 0 0 0 ⟨16, 0, []⟩,
    .aiConversion 0 0 65536 false false, .spareComparison 0 0 65536, .aiSubstitutionDone 0 0 65536, .aoReadbackSample 0 0 65536 0, .faLow 0 65536,
    .faSag 0 65536, .faReset 0 65536, .faRecovered 0 65536, .faLowCleared 0 65536, .hartResponse 0 0 256 0 [], .hartResponse 0 0 0 256 [],
    .hartResponse 0 0 0 0 (List.replicate 256 0), .hartBurstFrame 0 0 0 256 0 0 [], .diSample 0 0 [⟨32, 0, true⟩] 0, .doReadbackSample 0 0 0 [65536],
    .doLoadWindow 0 0 65536, .fdLow 0 0 65536, .fdSag 0 0 65536, .fdReset 0 0 65536, .fdRecovered 0 0 65536, .fdLowCleared 0 0 65536,
    .fdSagCleared 0 0 65536, .canBusError 0 0 0 (some (2 ^ 29)) 0 0].all (fun i => !i.wf) = true := by decide +kernel

theorem test_wellFormed_refuses_frames :
    let z : ZIn := { station := 0, tn := 0, blockLen := 0, configId := 0, digest := 0 }
    let h : HB := { role := 1, mstate := 4, tn := 0, pstate := 1 }
    let b : Beacon := { role := 1, pstate := 1, mstate := 4, tn := 0 }
    let g : Gm := { prio1 := 0, clkClass := 0, prio2 := 0, identity := 0 }
    [Instr.canFrameReceived 0 0 0 { id := 2 ^ 29 }, .canFrameReceived 0 0 0 { id := 0, dlc := 16 }, .canFrameReceived 0 0 0 { id := 0, data := [1] },
    .canFrameReceived 0 0 0 { id := 0, fdf := true, rtr := true }, .zslInFrame 0 .a (2 ^ 48) 0 z, .zslInFrame 0 .a 0 65536 z,
    .zslInFrame 0 .a 0 0 { z with digest := 2 ^ 32 }, .zslInForward 0 .up { z with station := 256 } true, .zslInForward 0 .up { z with tn := 2 ^ 64 } true,
    .zslInForward 0 .up { z with block := List.replicate 1501 0 } true, .sourceAged 0 (2 ^ 48), .hsrForward 0 .a (2 ^ 48) 0 false false none,
    .arpRequest 0 .a (2 ^ 32), .icmpEcho 0 .a 0 (2 ^ 32), .ipReassemblyTimeout 0 65536, .ptpSync 0 .a 0 0 65536 0 true,
    .ptpPdelayReqReceived 0 .a 0 (2 ^ 64) 0, .ptpDelayReqReceived 0 .a 65536 0 0, .ptpAnnounceReceived 0 .a { g with prio1 := 256 },
    .heartbeatReceived 0 .up { h with tn := 2 ^ 64 }, .heartbeatReceived 0 .up { h with role := 8 }, .taskDigestsReceived 0 .up [(256, 0)],
    .witnessQuery 0 { b with mstate := 8 }, .witnessAnswer 0 { b with tn := 2 ^ 64 }, .beaconReceived 0 { b with role := 8 }].all (fun i => !i.wf) = true
    ∧ (Instr.zslInForward 0 .up z true).wf = true ∧ (Instr.heartbeatReceived 0 .up h).wf = true ∧ (Instr.beaconReceived 0 b).wf = true
    ∧ (Instr.ptpAnnounceReceived 0 .a g).wf = true := by decide +kernel

theorem test_wellFormed_refuses_state : [
    Instr.adoptionAnswer 0 .up 0 (2 ^ 64) {}, .adoptionAnswer 0 .up 0 0 { outs := [(0, [(1, 0)])] }, .resyncDataReceived 0 (.mainSet { initGlb := [(1, 0)] }),
    .resyncDataReceived 0 (.base { full := true, glb := [(1, 0)] } true), .resyncDataReceived 0 (.journal 0 0 0 { glb := [(2 ^ 26, 1)] }),
    .checkpointReceived 0 (2 ^ 64) true {} none, .checkpointReceived 0 0 true { ret := [(2 ^ 23, 1)] } none,
    .checkpointReceived 0 0 true {} (some { initGlb := [(1, 0)] }), .checkpointAck 0 (2 ^ 64), .panelInserted 0 { width := 65536, height := 0, serial := 0 },
    .messageArrival 0 (.udp 0 65536) [], .messageArrival 0 (.usb 0) (List.replicate 4129 0), .sourceBlockEnd 0 (2 ^ 32), .eventBatchTimeout 0 0 111,
    .eventBatchTimeout 0 0 125, .powerUp 0 { cause := 3 }, .powerUp 0 { ceFail := [24] }, .powerUp 0 { seFail := [8] }, .powerUp 0 { holdup := 101 },
    .roleNegotiation 0 { hbState := some 8 }, .paramRegisterWrite 0 65536 0 0, .paramRegisterWrite 0 0 256 0].all (fun i => !i.wf) = true := by
  decide +kernel

end Sys2Proof.Tests
end

section
/-! The state after reset: what it holds, and that it meets the invariant that every step keeps. -/
namespace Sys2Proof.Machine

open Sys2Proof Sys2Proof.Safety

/-- An address of a memory with nothing listed reads as blank (log entry 3). -/
@[simp] theorem Mem.rd_nil (a : Nat) : Mem.rd [] a = Mem.blank := rfl

/-- Nothing listed is canonical. -/
@[simp] theorem Mem.wf_nil : Mem.wf [] = true := rfl

/-- A task that the block does not list is in its reset condition. -/
theorem task_of_tasks_nil {c : Chip} (h : c.tasks = []) (t : Nat) : task c t = {} := by
  simp only [task, h, Map.getD_nil]

/-- A block without a siding, a rollback target and stored sets holds its main set only. -/
theorem holds_iff_main {c : Chip} (hside : c.sets.side = none) (hrev : c.sets.revertTo = none) (hn0 : c.mem.nand0 = none)
    (hn1 : c.mem.nand1 = none) (cs : ConfigSet) : Holds c cs ↔ cs = c.sets.main := by
  simp [Holds, hside, hrev, hn0, hn1]

/-- With no command waiting every waiting command is well formed. -/
theorem ready_of_pending_nil {s : State} (h : s.pending = []) : Ready s := by simp [Ready, h]

/-- After reset the module holds the empty main set only: no siding, no rollback target, no stored set (log entry 4). -/
theorem holds_reset_iff (cs : ConfigSet) : Holds State.reset.chip cs ↔ cs = {} := holds_iff_main rfl rfl rfl rfl cs

/-- The reset state meets each part of the invariant with nothing listed: no command, no memory cell, no counter, no rewrite in progress. -/
theorem inv_reset : Inv State.reset := by
  have hsets : ∀ cs, Holds State.reset.chip cs → Mem.wf cs.initGlb = true := by
    intro cs h
    rw [(holds_reset_iff cs).1 h]
    exact Mem.wf_nil
  have hcopy : ∀ m d, State.reset.chip.mem.restartCopy = some (m, d) → Mem.wf m = true := nofun
  have hcnt : ∀ e ∈ State.reset.chip.cnt.val, e.2 < 2 ^ 48 := nofun
  exact ⟨ready_of_pending_nil rfl, ⟨Mem.wf_nil, Mem.wf_nil⟩, hsets, Mem.wf_nil, Mem.wf_nil, hcopy, hcnt⟩

/-- Settles O60: the invariant by `inv_reset`; tasks, counters and memory cells are those of empty lists (log entries 3 and 4). -/
theorem resetMeetsTheInvariant : Obligations.ResetMeetsTheInvariant := by
  have htask : ∀ t, (task State.reset.chip t).st = .empty := fun t => by rw [task_of_tasks_nil rfl]
  exact ⟨inv_reset, rfl, rfl, rfl, htask, rfl, rfl, fun n => Map.getD_nil n 0, fun a => ⟨Mem.rd_nil a, Mem.rd_nil a⟩⟩

end Sys2Proof.Machine
end

section
/-! The commands of groups 0x01 and 0x02 (R427): what each run comes to once its checks pass, and from it what each row answers. -/
namespace Sys2Proof.Machine

open Sys2Proof Sys2Proof.Safety

/-- A check that passes lets the rest of the command run. -/
@[simp] theorem done_bind_ok {α β : Type} (a : α) (f : α → Except No β) : (Except.ok a >>= f) = f a := by simp only [bind, Except.bind]

/-- A mailbox row whose run, once the role and the state are granted, comes to an answer gives that answer (R411). -/
theorem answers_of_run {cmd need : Nat} {mk : Req → Instr} {pre : Req → Session → Chip → Prop} {ans : Req → Session → Chip → Ans}
    (run : Req → Session → List Byte → Chip → Done) (hrow : ∀ q, exec (mk q) = lift (serve cmd (run q) q))
    (hrun : ∀ q ss c, gate cmd c = .ok () → role need ss = .ok () → pre q ss c → run q ss q.payload c = .ok (ans q ss c)) :
    Answers cmd need mk pre ans := by
  intro q s ss p hg hp
  unfold Goes
  rw [hrow]
  exact serve_granted hg (hrun q ss _ (gate_granted hg) (role_granted hg (Nat.le_refl need)) hp)

/-! ### Sessions and unlocks (R405, R417, R418) -/

theorem doSessionClose_closes (q : Req) (ss : Session) {p : List Byte} (c : Chip) (hp : p = []) :
    doSessionClose q ss p c = .ok { chip := c, after := closeSession q.sess 0 } := by simp [doSessionClose, form_nil hp]

theorem doKeepalive_answers (ss : Session) {p : List Byte} (c : Chip) (hp : p = []) : doKeepalive ss p c = .ok { chip := c } := by
  simp [doKeepalive, form_nil hp, okWith]

/-- A password in its form, over an open path of the service port, where one is set: it decides the unlock (R417). -/
theorem doUnlockPassword_decides (q : Req) {ss : Session} {p salt h : List Byte} {c : Chip} (hg : gate 0x0110 c = .ok ())
    (hp : Shaped p (8 + fld p 6 1) [1, 7]) (hmin : 12 ≤ fld p 6 1) (hmax : fld p 6 1 ≤ 64) (husb : OverUsb ss)
    (hopen : pathShut c 0 = false) (hrole : fld p 0 1 ≤ 3) (hpw : c.mbx.pw = some (salt, h)) :
    doUnlockPassword q ss p c
      = if pbkdf2 (p.drop 8) salt 20000 = h then grantUnlock q.sess 0 (fld p 0 1) (fld p 2 4) c else failUnlock q.sess 0 c := by
  have hlen : (decide (12 ≤ fld p 6 1) && decide (fld p 6 1 ≤ 64) && p.length == 8 + fld p 6 1) = true := by simp [hmin, hmax, hp.1]
  have hpath : (!pathShut c 0) = true := by simp [hopen]
  simp only [doUnlockPassword, check_true hlen, form_shaped hp, overUsb_usb husb, check_true hpath, check_true (decide_eq_true hrole), hg,
    hpw, done_bind_ok]

/-- An answer to a challenge over an open path, with a nonce out and a key set: it decides the unlock (R418). -/
theorem doUnlockResponse_decides (q : Req) {ss : Session} {p nonce k : List Byte} {r dur till : Nat} {c : Chip}
    (hg : gate 0x0112 c = .ok ()) (hp : Shaped p 40 [4, 5, 6, 7]) (hopen : pathShut c 1 = false)
    (hn : ss.nonce = some (nonce, r, dur, till)) (hk : c.mbx.vkey = some k) :
    doUnlockResponse q ss p c
      = if fld p 0 4 = keyId (some k) ∧ c.time.clock < till ∧ hmac k (unlockMessage nonce c.sup.serial q.sess r dur) = p.drop 8 then
          grantUnlock q.sess 1 r dur (updSess q.sess (fun x => { x with nonce := none }) c)
        else failUnlock q.sess 1 (updSess q.sess (fun x => { x with nonce := none }) c) := by
  simp [doUnlockResponse, check, form_shaped hp, hopen, hg, hn, hk]

/-- A challenge over an open path, with a key set, hands out a nonce for 60 s (R418). -/
theorem doUnlockChallenge_answers (q : Req) (ss : Session) {p : List Byte} {c : Chip} (hg : gate 0x0111 c = .ok ())
    (hp : Shaped p 8 [1, 2, 3]) (hopen : pathShut c 1 = false) (hrole : fld p 0 1 ≤ 3) (hk : c.mbx.vkey.isSome = true) :
    doUnlockChallenge q ss p c
      = okWith (padTo 32 (Config.freeBytes c.sup.freeCtr 32) ++ leBytes 8 c.sup.serial ++ leBytes 2 60 ++ leBytes 1 (fld p 0 1)
            ++ List.replicate 5 0)
          (updSess q.sess (fun x => { x with
            nonce := some (padTo 32 (Config.freeBytes c.sup.freeCtr 32), fld p 0 1, fld p 4 4, c.time.clock + 60000000000) }) (drawn c)) := by
  simp [doUnlockChallenge, check, form_shaped hp, hopen, hrole, hg, hk]

theorem doRelock_ends (q : Req) {ss : Session} {p : List Byte} {c : Chip} (hg : gate 0x0113 c = .ok ()) (hp : p = []) :
    doRelock q ss p c = okWith [] (when ss.unlock.isSome (unlockEnds q.sess 2) c) := by simp [doRelock, form_nil hp, hg]

/-! ### The field lock and the secrets (R416, R419) -/

theorem doFieldLockEngage_engages {ss : Session} {p : List Byte} {c : Chip} (hg : gate 0x0120 c = .ok ()) (hr : role 3 ss = .ok ())
    (hp : p = []) (hs : c.mbx.vkey.isSome = true ∨ c.mbx.pw.isSome = true) :
    doFieldLockEngage ss p c
      = okWith [] (forAll (c.mbx.sess.map (·.1)) dropRole (record 0x0114 0x0300 [] (updMbx (fun m => { m with lock := true }) c))) := by
  have hsec : (c.mbx.vkey.isSome || c.mbx.pw.isSome) = true := by simpa using hs
  simp [doFieldLockEngage, form_nil hp, hr, hg, check, hsec]

theorem doFieldLockRelease_releases {ss : Session} {p : List Byte} {c : Chip} (hg : gate 0x0121 c = .ok ()) (hr : role 3 ss = .ok ())
    (hp : p = []) (husb : OverUsb ss) :
    doFieldLockRelease ss p c = okWith [] (record 0x0115 0x0300 [] (updMbx (fun m => { m with lock := false }) c)) := by
  simp [doFieldLockRelease, form_nil hp, overUsb_usb husb, hr, hg]

theorem doSetPassword_sets {ss : Session} {p : List Byte} {c : Chip} (hg : gate 0x0122 c = .ok ()) (hr : role 3 ss = .ok ())
    (hp : Shaped p (4 + fld p 0 1) [1, 2, 3]) (hmin : 12 ≤ fld p 0 1) (hmax : fld p 0 1 ≤ 64) (husb : OverUsb ss) :
    doSetPassword ss p c
      = okWith [] (secretChanged 0 (Config.freeNat c.sup.freeCtr [0x0122] % 2 ^ 32)
          (updMbx (fun m => { m with pw := some (padTo 16 (Config.freeBytes c.sup.freeCtr 16),
            pbkdf2 (p.drop 4) (padTo 16 (Config.freeBytes c.sup.freeCtr 16)) 20000) }) (drawn c))) := by
  simp [doSetPassword, check, hmin, hmax, hp.1, form_shaped hp, overUsb_usb husb, hr, hg]

theorem doSetVesselKey_sets {ss : Session} {p : List Byte} {c : Chip} (hg : gate 0x0123 c = .ok ()) (hr : role 3 ss = .ok ())
    (hp : p.length = 32) (hs : ss.sealed = true ∨ OverUsb ss) :
    doSetVesselKey ss p c
      = okWith (leBytes 4 (keyId (some p))) (secretChanged 1 (keyId (some p)) (updMbx (fun m => { m with vkey := some p }) c)) := by
  rcases hs with h | ⟨u, h⟩ <;> simp [doSetVesselKey, form_length hp, check, h, Peer.isUsb, hr, hg]

theorem doSetLinkKey_sets {ss : Session} {p : List Byte} {c : Chip} (hg : gate 0x0124 c = .ok ()) (hr : role 3 ss = .ok ())
    (hp : p.length = 32) (husb : OverUsb ss) :
    doSetLinkKey ss p c
      = okWith (leBytes 4 (keyId (some p))) (secretChanged 2 (keyId (some p)) (updMbx (fun m => { m with lkey := some p }) c)) := by
  simp [doSetLinkKey, form_length hp, overUsb_usb husb, hr, hg]

/-! ### The module state (R33, R139, R394, R427) -/

theorem doStateGet_answers {ss : Session} {p : List Byte} {c : Chip} (hg : gate 0x0201 c = .ok ()) (hr : role 0 ss = .ok ()) (hp : p = []) :
    doStateGet ss p c
      = okWith (leBytes 1 c.sup.mstate.code ++ leBytes 1 c.sup.role.code ++ leBytes 1 c.pair.st.code ++ leBytes 1 c.sets.siding.code
          ++ leBytes 1 c.time.servo.code ++ [0, 0, 0] ++ leBytes 8 c.tt.tn) c := by simp [doStateGet, form_nil hp, hr, hg]

/-- The servo has locked once and the die is below stage 3: RESTART and SERVICE_ENTER go on (R33, R332, R485). -/
theorem runReady_ok {c : Chip} (hu : c.time.servo ≠ .unlocked) (hl : c.time.servo ≠ .locking) (hs : c.hlth.stage < 3) :
    runReady c = .ok () := by simp [runReady, check, hu, hl, hs]

theorem doStop_orders (q : Req) {ss : Session} {p : List Byte} {c : Chip} (hg : gate 0x0203 c = .ok ()) (hr : role 1 ss = .ok ()) (hp : p = []) :
    doStop q ss p c = .ok (acceptedFor .enterStop (await 0x0203 q.sess q.tag c)) := by
  simp [doStop, form_nil hp, hr, hg, accept, acceptedFor]

theorem doServiceEnter_orders (q : Req) {ss : Session} {p : List Byte} {c : Chip} (hg : gate 0x0204 c = .ok ()) (hr : role 3 ss = .ok ())
    (hp : p = []) (hready : runReady c = .ok ()) :
    doServiceEnter q ss p c = .ok (doneFor .enterService { c with sup := { c.sup with svcSess := some q.sess } }) := by
  simp [doServiceEnter, form_nil hp, hr, hg, hready, okWith, doneFor]

theorem doServiceExit_orders {ss : Session} {p : List Byte} {c : Chip} (hg : gate 0x0205 c = .ok ()) (hr : role 3 ss = .ok ()) (hp : p = []) :
    doServiceExit ss p c = .ok (doneFor .enterStop c) := by simp [doServiceExit, form_nil hp, hr, hg, okWith, doneFor]

theorem doReset_resets {ss : Session} {p : List Byte} {c : Chip} (hg : gate 0x0206 c = .ok ()) (hr : role 3 ss = .ok ()) (hp : p = []) :
    doReset ss p c = .ok { chip := c, after := resetModule } := by simp [doReset, form_nil hp, hr, hg]

/-- What keeps a module in STOP at a RESTART is absent (R33, R332, R485): its servo, its die, its role and its pair allow RUN. -/
def MayRun (c : Chip) : Prop :=
  (c.time.servo ≠ .unlocked ∧ c.time.servo ≠ .locking) ∧ c.hlth.stage < 3 ∧ isReserve c = false
    ∧ c.sup.conflict = false ∧ ¬(isPair c = true ∧ c.pair.st = .degraded ∧ c.pair.withdrawn = true)

/-- The check of RESTART that asks for the role and the pair passes. -/
theorem MayRun.not_held {c : Chip} (h : MayRun c) :
    (!isReserve c && !c.sup.conflict && !(isPair c && c.pair.st == .degraded && c.pair.withdrawn)) = true := by
  obtain ⟨-, -, hres, hcon, hpair⟩ := h
  have hpair : (isPair c && c.pair.st == .degraded && c.pair.withdrawn) = false := by
    rw [Bool.eq_false_iff]
    simpa [and_assoc] using hpair
  simp [hres, hcon, hpair]

theorem MayRun.ready {c : Chip} (h : MayRun c) : runReady c = .ok () := by
  obtain ⟨⟨hu, hl⟩, hs, -⟩ := h
  exact runReady_ok hu hl hs

theorem doRestart_cold (q : Req) {ss : Session} {p : List Byte} {c : Chip} (hg : gate 0x0202 c = .ok ()) (hr : role 2 ss = .ok ())
    (hp : Shaped p 4 [1, 2, 3]) (hk : fld p 0 1 = 1) (hm : MayRun c) :
    doRestart q ss p c = .ok (acceptedFor (.enterRun false 1) (await 0x0202 q.sess q.tag c)) := by
  have hcold : (fld p 0 1 == 1) = true := by rw [hk]; rfl
  simp only [doRestart, form_shaped hp, hcold, hr, Bool.true_or, hg, hm.ready, check_true hm.not_held, check_true rfl, if_true, done_bind_ok,
    accept, acceptedFor, await_tt, Bool.not_true]

section
variable (q : Req) {ss : Session} {p : List Byte} {c c' : Chip} (hg : gate 0x0202 c = .ok ()) (hr : role 1 ss = .ok ())
  (hp : Shaped p 4 [1, 2, 3]) (hk : fld p 0 1 = 2) (hm : MayRun c) (hd : dirIntact c = true)
include hg hr hp hk hm hd

/-- A warm restart with an intact directory that is not refused is ordered (R138, R427). -/
theorem doRestart_warm (hw : warmRefused c = (none, c')) :
    doRestart q ss p c = .ok (acceptedFor (.enterRun true 1) (await 0x0202 q.sess q.tag c')) := by
  have hwarm : (fld p 0 1 == 1) = false := by rw [hk]; rfl
  have hkind : (fld p 0 1 == 2) = true := by rw [hk]; rfl
  simp only [doRestart, form_shaped hp, hwarm, hkind, hd, hr, hg, hm.ready, check_true hm.not_held, Bool.false_or, check_true rfl,
    Bool.false_eq_true, if_false, done_bind_ok, hw, accept, acceptedFor, await_tt, Bool.not_false]

/-- A warm restart with an intact directory that STRICT refuses completes so after its answer (R139). -/
theorem doRestart_strict (hw : warmRefused c = (some 0x0403, c')) :
    doRestart q ss p c = .ok { status := 1, chip := c', after := complete 0x0202 q.sess q.tag 0x0403 [] } := by
  have hwarm : (fld p 0 1 == 1) = false := by rw [hk]; rfl
  have hkind : (fld p 0 1 == 2) = true := by rw [hk]; rfl
  simp only [doRestart, form_shaped hp, hwarm, hkind, hd, hr, hg, hm.ready, check_true hm.not_held, Bool.false_or, check_true rfl,
    Bool.false_eq_true, if_false, done_bind_ok, hw, accept]

end

/-- STRICT refuses a warm start that would not keep every retained block (R139). -/
theorem warmRefused_strict {c : Chip} (hs : live c 0x2010 1 2 2 = 1) (ha : allKept c = false) :
    warmRefused c = (some 0x0403, record 0x0235 0x0300 [] { c with sup := { c.sup with mismatch := true } }) := by
  simp [warmRefused, hs, ha]

/-- A warm start that STRICT and the MIGRATE entries allow goes ahead (R135, R139). -/
theorem warmRefused_none {c : Chip} (hs : live c 0x2010 1 2 2 ≠ 1 ∨ allKept c = true) (hm : migOutside c = false) :
    warmRefused c = (none, { c with sup := { c.sup with mismatch := false } }) := by
  rcases hs with hs | hs <;> simp [warmRefused, hs, hm]

/-- Settles O53: every clause is what its command's run comes to, by `answers_of_run`. -/
theorem sessionAndStateCommands : Obligations.SessionAndStateCommands := by
  unfold Obligations.SessionAndStateCommands
  refine ⟨?close, ?keep, ?unlocks, ?challenge, ?relock, ?engage, ?release, ?secrets, ?get, ?restart, ?stop, ?enter, ?exit, ?reset⟩
  case close => exact answers_of_run doSessionClose (fun _ => rfl) fun q ss c _ _ hp => doSessionClose_closes q ss c hp
  case keep => exact answers_of_run (fun _ => doKeepalive) (fun _ => rfl) fun _ ss c _ _ hp => doKeepalive_answers ss c hp
  case unlocks =>
    rintro granted failed rfl rfl
    refine ⟨fun salt h => ⟨?_, ?_⟩, fun nonce k r dur till => ⟨?_, ?_⟩⟩
    · refine answers_of_run doUnlockPassword (fun _ => rfl) fun q ss c hg _ hp => ?_
      obtain ⟨⟨hf, hmin, hmax, husb, hopen, hrole, hpw⟩, heq⟩ := hp
      rw [doUnlockPassword_decides q hg hf hmin hmax husb hopen hrole hpw, if_pos heq]
      rfl
    · refine answers_of_run doUnlockPassword (fun _ => rfl) fun q ss c hg _ hp => ?_
      obtain ⟨⟨hf, hmin, hmax, husb, hopen, hrole, hpw⟩, hne⟩ := hp
      rw [doUnlockPassword_decides q hg hf hmin hmax husb hopen hrole hpw, if_neg hne]
      rfl
    · refine answers_of_run doUnlockResponse (fun _ => rfl) fun q ss c hg _ hp => ?_
      obtain ⟨⟨hf, hopen, hn, hk⟩, hright⟩ := hp
      rw [doUnlockResponse_decides q hg hf hopen hn hk, if_pos hright]
      rfl
    · refine answers_of_run doUnlockResponse (fun _ => rfl) fun q ss c hg _ hp => ?_
      obtain ⟨⟨hf, hopen, hn, hk⟩, hwrong⟩ := hp
      rw [doUnlockResponse_decides q hg hf hopen hn hk, if_neg hwrong]
      rfl
  case challenge =>
    refine answers_of_run doUnlockChallenge (fun _ => rfl) fun q ss c hg _ hp => ?_
    obtain ⟨hf, hopen, hrole, hk⟩ := hp
    exact doUnlockChallenge_answers q ss hg hf hopen hrole hk
  case relock => exact answers_of_run doRelock (fun _ => rfl) fun q _ _ hg _ hp => doRelock_ends q hg hp
  case engage =>
    exact answers_of_run (fun _ => doFieldLockEngage) (fun _ => rfl) fun _ _ _ hg hr hp => doFieldLockEngage_engages hg hr hp.1 hp.2
  case release =>
    exact answers_of_run (fun _ => doFieldLockRelease) (fun _ => rfl) fun _ _ _ hg hr hp => doFieldLockRelease_releases hg hr hp.1 hp.2
  case secrets =>
    rintro changed rfl
    refine ⟨?_, ?_, ?_⟩
    · refine answers_of_run (fun _ => doSetPassword) (fun _ => rfl) fun _ _ _ hg hr hp => ?_
      obtain ⟨hf, hmin, hmax, husb⟩ := hp
      exact doSetPassword_sets hg hr hf hmin hmax husb
    · exact answers_of_run (fun _ => doSetVesselKey) (fun _ => rfl) fun _ _ _ hg hr hp => doSetVesselKey_sets hg hr hp.1 hp.2
    · exact answers_of_run (fun _ => doSetLinkKey) (fun _ => rfl) fun _ _ _ hg hr hp => doSetLinkKey_sets hg hr hp.1 hp.2
  case get => exact answers_of_run (fun _ => doStateGet) (fun _ => rfl) fun _ _ _ hg hr hp => doStateGet_answers hg hr hp
  case restart =>
    intro may hmay
    refine ⟨?_, ?_, ?_⟩
    · refine answers_of_run doRestart (fun _ => rfl) fun q ss c hg hr hp => ?_
      obtain ⟨hf, hk, hm⟩ := hp
      exact doRestart_cold q hg hr hf hk ((hmay c).1 hm)
    · refine answers_of_run doRestart (fun _ => rfl) fun q ss c hg hr hp => ?_
      obtain ⟨hf, hk, hm, hd, hs, hmig⟩ := hp
      exact doRestart_warm q hg hr hf hk ((hmay c).1 hm) hd (warmRefused_none hs hmig)
    · refine answers_of_run doRestart (fun _ => rfl) fun q ss c hg hr hp => ?_
      obtain ⟨hf, hk, hm, hd, hs, ha⟩ := hp
      exact doRestart_strict q hg hr hf hk ((hmay c).1 hm) hd (warmRefused_strict hs ha)
  case stop => exact answers_of_run doStop (fun _ => rfl) fun q _ _ hg hr hp => doStop_orders q hg hr hp
  case enter =>
    refine answers_of_run doServiceEnter (fun _ => rfl) fun q ss c hg hr hp => ?_
    obtain ⟨hnil, hu, hl, hs⟩ := hp
    exact doServiceEnter_orders q hg hr hnil (runReady_ok hu hl hs)
  case exit => exact answers_of_run (fun _ => doServiceExit) (fun _ => rfl) fun _ _ _ hg hr hp => doServiceExit_orders hg hr hp
  case reset => exact answers_of_run (fun _ => doReset) (fun _ => rfl) fun _ _ _ hg hr hp => doReset_resets hg hr hp

end Sys2Proof.Machine
end

section
/-! The tick boundary (R39): what a stamp that arrives leaves, what BOUNDARY comes to in each state, and the boundary's number. -/
namespace Sys2Proof.Machine

open Sys2Proof Sys2Proof.Safety

/-! ### Stamps that arrive keep all but the time engine and the recorder (R326) -/

/-- What is read off the block without the recorder and the sessions, a change that keeps `core` leaves. -/
theorem Keeps.reads {β : Type} {g : Chip → β} (hg : ∀ c, g c.core = g c) {f : Chip → Chip} (hf : Keeps f) (c : Chip) : g (f c) = g c := by
  rw [← hg, hf, hg]

theorem updPtp_eq_updTime (p : Port) (f : PtpPort → PtpPort) (c : Chip) : ∃ h : TimeEng → TimeEng, updPtp p f c = updTime h c := by
  cases p
  · exact ⟨fun t => { t with portA := f t.portA }, rfl⟩
  · exact ⟨fun t => { t with portB := f t.portB }, rfl⟩

/-- What neither the recorder, the sessions nor the time engine hold, a stamp leaves. -/
theorem stamp_keeps {β : Type} {g : Chip → β} (hg : ∀ c, g c.core = g c) (ht : ∀ f c, g (updTime f c) = g c) (p : Port) (rx : Bool)
    (ts mtype seq srcId : Nat) (oneStep : Bool) (c : Chip) : g (stamp p rx ts mtype seq srcId oneStep c) = g c := by
  unfold stamp tsDropped
  rw [when_keeps g _ _ _ ((keeps_record _ _ _).reads hg _), (keeps_exportRing _ _).reads hg, ht]

theorem stampArrives_keeps {β : Type} {g : Chip → β} (hg : ∀ c, g c.core = g c) (ht : ∀ f c, g (updTime f c) = g c) (p : Port) (c : Chip) :
    g (stampArrives p c) = g c := by
  unfold stampArrives
  dsimp only
  split
  · rfl
  · obtain ⟨h, hh⟩ := updPtp_eq_updTime p (fun x => { x with stampDue := none }) c
    rw [(keeps_emit _).reads hg, stamp_keeps hg ht, hh, ht]

@[simp] theorem stampsArrive_mstate (c : Chip) : (stampsArrive c).sup.mstate = c.sup.mstate := by
  have h := stampArrives_keeps (g := fun c => c.sup.mstate) (fun _ => rfl) (fun _ _ => rfl)
  exact (h .b (stampArrives .a c)).trans (h .a c)

@[simp] theorem stampsArrive_tt (c : Chip) : (stampsArrive c).tt = c.tt := by
  have h := stampArrives_keeps (g := fun c => c.tt) (fun _ => rfl) (fun _ _ => rfl)
  exact (h .b (stampArrives .a c)).trans (h .a c)

/-! ### What BOUNDARY comes to (R34, R39, R466) -/

theorem hasBoundaries_eq_false {c : Chip} (h : c.sup.mstate = .off ∨ c.sup.mstate = .boot ∨ c.sup.mstate = .selftest) :
    hasBoundaries c = false := by
  rcases h with h | h | h <;> simp [hasBoundaries, h]

/-- The block as the commit, the pair's step and the capture of a boundary leave it, once the tick is closed and numbered. -/
def capturedAt (busy : List (Nat × Nat)) (c : Chip) : Chip :=
  stepCapture (stepPair (stepCommit (nextBoundary (when c.tt.ticking (closeTick busy) c))))

/-- With boundaries: the block captured is kept for reads, and what is due is applied to it. -/
theorem evBoundary_of_hasBoundaries {dt : Nat} {busy : List (Nat × Nat)} {c : Chip} (hf : c.sup.mstate ≠ .fault)
    (hb : hasBoundaries (stampsArrive (pass dt c)) = true) :
    evBoundary dt busy c
      = (sendHeartbeat (stepApply (capturedAt busy (stampsArrive (pass dt c)))), some (capturedAt busy (stampsArrive (pass dt c)))) := by
  have hm : (stampsArrive (pass dt c)).sup.mstate ≠ .fault := by rwa [stampsArrive_mstate, pass_sup]
  simp only [evBoundary, capturedAt, if_neg hm, hb, Bool.not_true, Bool.false_eq_true, if_false]

/-- In FAULT a boundary serves the counters. -/
theorem evBoundary_of_fault {dt : Nat} {busy : List (Nat × Nat)} {c : Chip} (hf : c.sup.mstate = .fault) :
    evBoundary dt busy c
      = (faultBoundary (stampsArrive (pass dt c)),
        if (faultBoundary (stampsArrive (pass dt c))).tt.ticking then some (faultBoundary (stampsArrive (pass dt c))) else none) := by
  have hm : (stampsArrive (pass dt c)).sup.mstate = .fault := by rwa [stampsArrive_mstate, pass_sup]
  simp only [evBoundary, if_pos hm]

/-- Without boundaries time passes and the stamps due arrive. -/
theorem evBoundary_of_no_boundaries {dt : Nat} {busy : List (Nat × Nat)} {c : Chip}
    (h : c.sup.mstate = .off ∨ c.sup.mstate = .boot ∨ c.sup.mstate = .selftest) :
    evBoundary dt busy c = (stampsArrive (pass dt c), none) := by
  have hm : (stampsArrive (pass dt c)).sup.mstate = c.sup.mstate := by rw [stampsArrive_mstate, pass_sup]
  have hf : (stampsArrive (pass dt c)).sup.mstate ≠ .fault := by rcases h with h | h | h <;> rw [hm, h] <;> decide
  have hb : hasBoundaries (stampsArrive (pass dt c)) = false := hasBoundaries_eq_false (by rwa [hm])
  simp only [evBoundary, if_neg hf, hb, Bool.not_false, if_true]

/-! ### The number of the boundary (R31) -/

/-- While boundaries run, the next one has the number after, and time passes to its instant at least. -/
theorem nextBoundary_of_ticking {c : Chip} (ht : c.tt.ticking = true) (hr : c.tt.rederive = false) :
    nextBoundary c = pass (bNs c (c.tt.tn + 1) - c.time.clock) { c with tt := { c.tt with tn := c.tt.tn + 1 } } := by
  simp [nextBoundary, ht, hr]

/-- Settles O19: the three answers of BOUNDARY by state, and the number by `nextBoundary_of_ticking`. -/
theorem boundaryTakesItsSteps : Obligations.BoundaryTakesItsSteps := by
  refine ⟨?steps, ?fault, ?none, ?number⟩
  case steps =>
    intro dt busy s hf hb
    show execBoundary dt busy s = _
    simp only [execBoundary, evBoundary_of_hasBoundaries hf hb, Option.getD_some]
    rfl
  case fault =>
    intro dt busy s hf ht c hc
    have hb : faultBoundary (stampsArrive (pass dt s.chip)) = c := by
      have hrun : (stampsArrive (pass dt s.chip)).tt.ticking = true := by rwa [stampsArrive_tt, pass_tt]
      rw [faultBoundary, if_pos hrun]
    show execBoundary dt busy s = _
    simp only [execBoundary, evBoundary_of_fault hf, hb, hc, if_true, Option.getD_some]
  case none =>
    intro dt busy s h
    show execBoundary dt busy s = _
    simp only [execBoundary, evBoundary_of_no_boundaries h, Option.getD_none]
  case number =>
    intro c ht hr
    rw [nextBoundary_of_ticking ht hr]
    refine ⟨by simp, by simpa using ht, ?_, by simp, by simp, by simp⟩
    rw [pass_clock, Nat.add_comm, Nat.sub_add_eq_max]
    exact Nat.max_comm ..

end Sys2Proof.Machine
end

section
/-! Jobs (R41 to R43, R58 to R64, R92, R93): what the operations that a release and a job's end share leave of the timetable, the tasks,
the memories and the channels, said once as what they do to a view of the block. -/
namespace Sys2Proof.Machine

open Sys2Proof Sys2Proof.Safety

/-! ### A view of the block -/

/-- A task without what an event raised for it changes (R65, R71). -/
def Task.quiet (k : Task) : Task := { k with evtNew := 0, evtNewN := 0, evtLost := 0 }

/-- What a job is released from and what its end changes. -/
structure JobView where
  tt    : Timetable
  clock : Nat
  main  : ConfigSet
  mem   : Memories
  ao    : Map Ao
  di    : Map Di
  task  : Nat → Task

/-- The view of the block. -/
def Chip.view (c : Chip) : JobView :=
  { tt := c.tt, clock := c.time.clock, main := c.sets.main, mem := c.mem, ao := c.io.ao, di := c.io.di, task := fun t => (task c t).quiet }

/-- A task of the view changes. -/
def JobView.upd (v : JobView) (t : Nat) (f : Task → Task) : JobView := { v with task := Function.update v.task t (f (v.task t)) }

/-- The view with its clock at another instant. -/
def JobView.setClock (v : JobView) (clk : Nat) : JobView := { v with clock := clk }

section
variable (v : JobView) (t : Nat) (f : Task → Task)

@[simp] theorem JobView.upd_self : (v.upd t f).task t = f (v.task t) := by simp [JobView.upd]

@[simp] theorem JobView.upd_ne {u : Nat} (h : u ≠ t) : (v.upd t f).task u = v.task u := by simp [JobView.upd, h]

@[simp] theorem JobView.upd_upd (g : Task → Task) : (v.upd t f).upd t g = v.upd t (fun k => g (f k)) := by simp [JobView.upd]

@[simp] theorem JobView.upd_id : v.upd t id = v := by simp [JobView.upd]

end

/-- A task's change of the block is one of the view, `g`, where its events are left out. -/
theorem view_updTask {t : Nat} {f : Task → Task} {c : Chip} (g : Task → Task) (hf : (f (task c t)).quiet = g (task c t).quiet) :
    (updTask t f c).view = c.view.upd t g := by
  have htask : (updTask t f c).view.task = (c.view.upd t g).task := by
    funext u
    by_cases h : u = t
    · subst h
      rw [JobView.upd_self]
      simpa [Chip.view] using hf
    · rw [JobView.upd_ne _ _ _ h]
      simp [Chip.view, updTask_ne _ _ _ _ h]
  exact congrArg (fun k => ({ c.view with task := k } : JobView)) htask

/-! ### What keeps the view -/

theorem view_core (c : Chip) : c.core.view = c.view := rfl

/-- Records, events to sessions, completions, counters and messages keep the view. -/
theorem Keeps.view {f : Chip → Chip} (hf : Keeps f) (c : Chip) : (f c).view = c.view := hf.reads view_core c

theorem view_updSlot (s : Nat) (f : Slot → Slot) (c : Chip) : (updSlot s f c).view = c.view := rfl

/-- An event raised for a task only joins the task's events. -/
theorem view_raiseEvt (b t : Nat) (c : Chip) : (raiseEvt b t c).view = c.view := by
  have hmark : (markEvt b t c).view = c.view := by
    unfold markEvt
    rw [view_updTask id (by split <;> rfl), JobView.upd_id]
  unfold raiseEvt
  dsimp only
  split
  · exact hmark
  · exact hmark

theorem view_sageEvent (d : Desc) (c : Chip) : (sageEvent d c).view = c.view := by
  unfold sageEvent raiseBound
  split
  · exact when_keeps Chip.view _ _ _ (view_raiseEvt _ _ _)
  · rfl

theorem keeps_sageDone (word iter tag : Nat) (host : Option (Nat × Nat)) : Keeps (sageDone word iter tag host) := by
  cases host with
  | none => exact keeps_id
  | some o => exact fun c => keeps_complete _ _ _ _ _ c

/-- The end of a Sage job changes its slot, the recorder, the counters and events alone (R203, R219, R220). -/
theorem view_sageEnd (d : Desc) (s code iter : Nat) (ws : List Nat) (res : List (List Int)) (c : Chip) :
    (sageEnd d s code iter ws res c).view = c.view := by
  unfold sageEnd
  extract_lets x word c1 c2 c3 c4 dg late
  have h3 : c3.view = c.view := by
    have h2 : c2.view = c.view := (keeps_bump _).view c1
    simp only [c3]
    split
    · exact h2
    · exact ((keeps_record _ _ _).view c2).trans h2
  have h4 : c4.view = c.view := ((keeps_sageDone _ _ _ _).view c3).trans h3
  split
  · rw [view_updSlot, (keeps_emit _).view, h4]
  · rw [when_keeps Chip.view _ _ _ (view_sageEvent _ _), h4]

theorem view_submitSage (s dl tag : Nat) (ops : Option (List (List Int))) (host : Option (Nat × Nat)) (c : Chip) :
    (submitSage s dl tag ops host c).view = c.view := by
  unfold submitSage
  split
  · rfl
  · dsimp only
    split
    · unfold sageLate
      rw [view_sageEnd, view_updSlot]
    · rw [view_updSlot]

/-- The submissions of a completed job keep the view (R197). -/
theorem view_submitJob (t : Nat) (j : Job) (c : Chip) : (submitJob t j c).view = c.view := by
  unfold submitJob
  refine forAll_keeps Chip.view _ _ (fun q c => ?_) c
  split
  · rfl
  · dsimp only
    rw [view_submitSage]
    exact when_keeps Chip.view _ _ _ (view_updSlot ..)

/-- The change journal of a throw is no part of the view (R148). -/
theorem view_journalChange (t : Nat) (j : Job) (c : Chip) : (journalChange t j c).view = c.view := by
  unfold journalChange
  dsimp only
  split
  · rw [(keeps_record _ _ _).view]; rfl
  · rfl

/-- What a pair member tells its partner about a completed job keeps the view (R358, R359). -/
theorem view_tellPartner (t tn : Nat) (c : Chip) : (tellPartner t tn c).view = c.view := by
  unfold tellPartner
  dsimp only
  split
  · exact ((keeps_emit _).view _).trans (when_keeps Chip.view _ _ _ rfl)
  · exact when_keeps Chip.view _ _ _ rfl

theorem view_latchSlots (t : Nat) (c : Chip) : (latchSlots t c).view = c.view := by
  unfold latchSlots
  exact forAll_keeps Chip.view _ _ (fun _ c => view_updSlot _ _ c) c

theorem view_pass (dt : Nat) (c : Chip) : (pass dt c).view = c.view.setClock (c.time.clock + dt) := by
  simp [Chip.view, JobView.setClock, task]

/-! ### The engine takes its next job (R56, R57) -/

/-- What bringing an engine up to date can do to a task: nothing, a start, or a preemption. -/
def Scheduled (k k' : Task) : Prop :=
  k' = k ∨ ((k.st = .ready ∨ k.st = .preempted) ∧ k' = { k with st := .running }) ∨ (k.st = .running ∧ k' = { k with st := .preempted })

/-- A task that is scheduled keeps everything but its state. -/
theorem Scheduled.eq_but_st {k k' : Task} (h : Scheduled k k') : k' = { k with st := k'.st } := by
  rcases h with h | ⟨-, h⟩ | ⟨-, h⟩ <;> rw [h]

/-- A scheduled task reads as it did, in all but its state and its events. -/
theorem Scheduled.reads {β : Type} (g : Task → β) (hg : ∀ k st, g { k.quiet with st := st } = g k) {k k' e : Task} (h : Scheduled k k')
    (hk : k.quiet = e) : g k' = g e := by
  have hsame : g k' = g k := by rw [h.eq_but_st, ← hg k k'.st, ← hg { k with st := k'.st } k'.st]; rfl
  rw [hsame, ← hk, ← hg k k.st, ← hg k.quiet k.st]
  rfl

/-- A task that kept its job keeps it when it is scheduled. -/
theorem Scheduled.job_eq {k k' l : Task} (h : Scheduled k k') (hk : k.quiet = l.quiet) : k'.job = l.job :=
  h.reads (e := l.quiet) Task.job (fun _ _ => rfl) hk

theorem Scheduled.of_ready {k k' : Task} (h : Scheduled k k') (hk : k.st = .ready) : k'.st = .ready ∨ k'.st = .running := by
  rcases h with h | ⟨-, h⟩ | ⟨h, -⟩
  · exact .inl (h ▸ hk)
  · exact .inr (by rw [h])
  · rw [hk] at h; contradiction

theorem Scheduled.of_staged {k k' : Task} (h : Scheduled k k') (hk : k.st = .staged) : k'.st = .staged := by
  rcases h with h | ⟨h | h, -⟩ | ⟨h, -⟩
  · exact h ▸ hk
  · rw [hk] at h; contradiction
  · rw [hk] at h; contradiction
  · rw [hk] at h; contradiction

/-- The first task of a list by priority is one of the list. -/
theorem mem_of_firstByPrio {c : Chip} {l : List Nat} {t : Nat} (h : firstByPrio c l = some t) : t ∈ l := by
  unfold firstByPrio at h
  refine List.foldlRecOn l _ (motive := fun b => ∀ u, b = some u → u ∈ l) (by simp) (fun b hb a ha u hu => ?_) t h
  split at hu
  · exact Option.some.inj hu ▸ ha
  · split at hu
    · exact Option.some.inj hu ▸ ha
    · exact hb u hu

theorem mem_onCe {c : Chip} {n t : Nat} {p : TaskSt → Bool} (h : t ∈ onCe c n p) : p (task c t).st = true := by
  simp only [onCe, List.mem_filter, Bool.and_eq_true] at h
  obtain ⟨-, -, hp⟩ := h
  exact hp

theorem task_bump (n u : Nat) (c : Chip) : task (bump n c) u = task c u := by rw [task, bump_tasks, task]

/-- A ready or preempted task that starts to run is scheduled, and no other task changes. -/
theorem scheduled_start {c : Chip} {t : Nat} (h : (task c t).st = .ready ∨ (task c t).st = .preempted) (u : Nat) :
    Scheduled (task c u) (task (updTask t (fun k => { k with st := .running }) c) u) := by
  by_cases hu : u = t
  · subst hu
    exact .inr (.inl ⟨h, updTask_self u _ c⟩)
  · exact .inl (updTask_ne t u _ c hu)

/-- A class B job that gives way is preempted, the other task starts, and no third task changes. -/
theorem scheduled_preempt {c : Chip} {t r : Nat} (ht : (task c t).st = .ready) (hr : (task c r).st = .running) (u : Nat) :
    Scheduled (task c u)
      (task (updTask t (fun k => { k with st := .running }) (updTask r (fun k => { k with st := .preempted }) c)) u) := by
  have hne : t ≠ r := fun h => by rw [h, hr] at ht; contradiction
  by_cases hu : u = t
  · subst hu
    rw [updTask_self, updTask_ne r u _ c hne]
    exact .inr (.inl ⟨.inl ht, rfl⟩)
  · rw [updTask_ne t u _ _ hu]
    by_cases hur : u = r
    · subst hur
      rw [updTask_self]
      exact .inr (.inr ⟨hr, rfl⟩)
    · exact .inl (updTask_ne r u _ c hur)

/-- Bringing an engine up to date only schedules tasks. -/
theorem dispatch_scheduled (n : Nat) (c : Chip) (u : Nat) : Scheduled (task c u) (task (dispatch n c) u) := by
  have hready : ∀ {t}, t ∈ onCe c n (fun s => s == .ready) → (task c t).st = .ready := fun h => by simpa using mem_onCe h
  have hother : ∀ {t}, firstByPrio c ((onCe c n (fun s => s == .ready)).filter (fun t => taskCls c t != .b)) = some t →
      (task c t).st = .ready := fun h => hready (List.mem_filter.1 (mem_of_firstByPrio h)).1
  unfold dispatch
  split
  · exact .inl rfl
  · dsimp only
    split
    · rename_i r l hrun
      have hr : (task c r).st = .running := by
        have hmem : r ∈ onCe c n (fun s => s == .running) := hrun ▸ List.mem_cons_self
        simpa using mem_onCe hmem
      split
      · split
        · rename_i t ht
          rw [task_bump]
          exact scheduled_preempt (hother ht) hr u
        · exact .inl rfl
      · exact .inl rfl
    · split
      · rename_i t ht
        exact scheduled_start (.inl (hother ht)) u
      · split
        · rename_i t _ ht
          exact scheduled_start (.inr (by simpa using mem_onCe (mem_of_firstByPrio ht))) u
        · rename_i t _ ht
          exact scheduled_start (.inl (hready (mem_of_firstByPrio ht))) u
        · exact .inl rfl

/-- What counters and tasks do not hold, bringing an engine up to date leaves. -/
theorem dispatch_keeps {β : Type} (g : Chip → β) (hbump : ∀ n c, g (bump n c) = g c) (htask : ∀ t f c, g (updTask t f c) = g c)
    (n : Nat) (c : Chip) : g (dispatch n c) = g c := by
  unfold dispatch
  split
  · rfl
  · dsimp only
    split
    · split
      · split
        · rw [hbump, htask, htask]
        · rfl
      · rfl
    · split
      · rw [htask]
      · split
        · rw [htask]
        · rw [htask]
        · rfl

@[simp] theorem dispatch_mem (n : Nat) (c : Chip) : (dispatch n c).mem = c.mem := dispatch_keeps (fun c => c.mem) bump_mem updTask_mem n c

@[simp] theorem dispatch_tt (n : Nat) (c : Chip) : (dispatch n c).tt = c.tt := dispatch_keeps (fun c => c.tt) bump_tt updTask_tt n c

@[simp] theorem dispatch_io (n : Nat) (c : Chip) : (dispatch n c).io = c.io := dispatch_keeps (fun c => c.io) bump_io updTask_io n c

/-! ### Releases (R41, R58, R60, R61, R92) -/

/-- A number among bytes that fill a memory from address 0 reads back at its place. -/
theorem Mem.rdLe_ofBytes (pre : List Byte) (v : Nat) (post : List Byte) :
    Mem.rdLe (Mem.ofBytes (pre ++ (leBytes 8 v ++ post))) pre.length 8 = v % 2 ^ 64 := by
  have hb : Mem.rdN (Mem.ofBytes (pre ++ (leBytes 8 v ++ post))) pre.length 8 = leBytes 8 v := by
    apply List.ext_getElem
    · simp [Mem.rdN]
    · intro i h1 h2
      have hi : i < 8 := by simpa using h2
      have hlt : pre.length + i < (pre ++ (leBytes 8 v ++ post)).length := by simp; omega
      have h := Mem.rd_wrN_in (pre ++ (leBytes 8 v ++ post)) [] 0 (pre.length + i) rfl hlt
      simp only [Mem.rdN, List.getElem_map, List.getElem_range]
      rw [Nat.zero_add] at h
      rw [Mem.ofBytes, h, List.getElem_append_right (Nat.le_add_right _ _), List.getElem_append_left (by simpa using hi)]
      simp
  rw [Mem.rdLe, hb, leNat_leBytes]
  norm_num

/-- The SYS record begins with TN, REL_TIME and the deadline (R60, R91). -/
theorem sysBytes_begins (c : Chip) (t : Nat) (k : Task) (tn rel cause : Nat) :
    Mem.rdLe (Mem.ofBytes (sysBytes c t k tn rel cause)) 0 8 = tn % 2 ^ 64
      ∧ Mem.rdLe (Mem.ofBytes (sysBytes c t k tn rel cause)) 8 8 = rel % 2 ^ 64
      ∧ Mem.rdLe (Mem.ofBytes (sysBytes c t k tn rel cause)) 16 8 = (rel + cfg c (0x2100 + t) 4 31 0) % 2 ^ 64 := by
  have hbytes : ∃ rest, sysBytes c t k tn rel cause
      = leBytes 8 tn ++ (leBytes 8 rel ++ (leBytes 8 (rel + cfg c (0x2100 + t) 4 31 0) ++ rest)) := by
    unfold sysBytes
    simp only [List.append_assoc]
    exact ⟨_, rfl⟩
  obtain ⟨rest, h⟩ := hbytes
  rw [h]
  refine ⟨Mem.rdLe_ofBytes [] tn _, Mem.rdLe_ofBytes (leBytes 8 tn) rel _, ?_⟩
  rw [← List.append_assoc]
  exact Mem.rdLe_ofBytes (leBytes 8 tn ++ leBytes 8 rel) _ rest

@[simp] theorem cfg_pass (dt : Nat) (c : Chip) : cfg (pass dt c) = cfg c := by
  funext ix sub hi lo
  rw [cfg, pass_sets, cfg]

@[simp] theorem sysBytes_pass (dt : Nat) (c : Chip) : sysBytes (pass dt c) = sysBytes c := by
  have hcfgb : cfgb (pass dt c) = cfgb c := by
    funext ix sub i
    rw [cfgb, pass_sets, cfgb]
  have hmode : pairMode (pass dt c) = pairMode c := by
    unfold pairMode isPair
    rw [pass_sup, pass_pair]
  funext t k tn rel cause
  simp only [sysBytes, tTick, cfg_pass, hcfgb, hmode, pass_sets, pass_tt]

/-- The instant in ns of the release of task `t` for boundary `tn` (R41, R45). -/
def relInstant (c : Chip) (t tn : Nat) : Nat := bNs c tn + relOffset c t tn * 1000

/-- The job that a release of task `t` for boundary `tn` starts, with its event causes and its input image (R58, R60, R61, R92). -/
def startJob (c : Chip) (t tn cause : Nat) (image : Mem) (status : List Nat) : Job :=
  { tn := tn, rel := relInstant c t tn / 1000, relNs := relInstant c t tn
    dl := relInstant c t tn / 1000 + cfg c (0x2100 + t) 4 31 0, image := image, status := status
    sys := Mem.ofBytes (sysBytes c t (task c t) tn (relInstant c t tn / 1000) cause)
    staging := (task c t).committed, loc := (task c t).loc, insts := (task c t).insts, list := cfg c (0x2100 + t) 6 15 0 }

/-- The task that a release makes ready with job `j`; `evts` is whether its pending events are served (R65, R67, R290). -/
def Task.released (j : Job) (seen : Map Nat) (evts : Bool) (k : Task) : Task :=
  { k with
    st := .ready, job := some j, relTn := some j.tn, firstRun := false, firstThrow := false, skipped := false, canSeen := seen
    evtPend := if evts then 0 else k.evtPend, evtCount := if evts then 0 else k.evtCount, evtTn := if evts then none else k.evtTn }

/-- A release at a boundary without an adoption gives the task its job and wakes its engine; no other task, no memory and no channel
changes. -/
theorem release_starts {c : Chip} (t tn : Nat) (evts : Bool) (ha : c.pair.adoptRel = false) :
    ∃ n c' clk cause image status seen, release t tn evts c = dispatch n c'
      ∧ c'.view = (c.view.setClock clk).upd t (Task.released (startJob c t tn cause image status) seen evts) := by
  unfold release
  extract_lets k off relNs rel cause c0 seen
  obtain ⟨image, status⟩ := buildImage c0 t
  dsimp -zeta only
  extract_lets j c1 c2 c3 c4
  have hj : j = startJob c t tn cause image status := by
    simp only [j, rel, c0, ha, cfg_pass, sysBytes_pass, Bool.and_false, Bool.false_eq_true, if_false]
    rfl
  have h1 : c1.view = (c.view.setClock (c.time.clock + (relNs - c.time.clock))).upd t (Task.released j seen evts) := by
    rw [← view_pass]
    exact view_updTask _ rfl
  have h2 : c2.view = c1.view := (keeps_bump _).view c1
  have h3 : c3.view = c2.view := when_keeps Chip.view _ _ _ ((keeps_bump _).view c2)
  have h4 : c4.view = c3.view := when_keeps Chip.view _ _ _ (((keeps_bump _).view _).trans ((keeps_record _ _ _).view c3))
  refine ⟨_, latchSlots t c4, c.time.clock + (relNs - c.time.clock), cause, image, status, seen, rfl, ?_⟩
  rw [view_latchSlots, h4, h3, h2, h1, hj]

/-- A task that may be released and whose period divides the boundary is released for it, with its pending events or without (R41, R68). -/
theorem tryRelease_due {t tn : Nat} {c : Chip} (hcls : taskCls c t ≠ .e) (hk : cfg c (0x2100 + t) 2 31 0 ≠ 0)
    (hdiv : tn % cfg c (0x2100 + t) 2 31 0 = 0)
    (hfree : ¬((task c t).relTn = some tn ∨ (task c t).job.isSome ∨ (task c t).st = .suspended ∨ (task c t).st = .halted
      ∨ (task c t).st = .empty))
    (hskip : (task c t).skip = false) (hshed : taskCls c t = .b → shedding c = false) :
    ∃ evts, tryRelease t tn c = release t tn evts c := by
  unfold tryRelease
  extract_lets k cls due evts skip c1 shed c2
  have hdue : due = true := by simp [due, cls, hcls, hk, hdiv]
  have hnoskip : skip = false := by simp [skip, k, hskip]
  have hc1 : c1 = c := by rw [show c1 = when skip _ c from rfl, hnoskip, when_false]
  have hnoshed : shed = false := by
    rw [show shed = (due && !skip && cls == .b && shedding c1) from rfl, hc1, Bool.and_eq_false_imp]
    intro h
    exact hshed (by simpa using (Bool.and_eq_true_iff.1 h).2)
  have hc2 : c2 = c := by rw [show c2 = when shed _ c1 from rfl, hnoshed, when_false, hc1]
  exact ⟨evts, by rw [if_neg hfree, hdue, hnoskip, hnoshed, hc2]; rfl⟩

/-- A TASK_RELEASE where the module releases tasks and the boundary is the task's is tried (R41). -/
theorem evTaskRelease_tries {dt t tn : Nat} {c : Chip} (hr : releases (pass dt c) = true) (hb : relBoundary (pass dt c) t = some tn) :
    evTaskRelease dt t c = tryRelease t tn (pass dt c) := by
  simp [evTaskRelease, hr, hb]

/-- The SYS record of a job that starts holds its TN, its release instant and its deadline (R60). -/
theorem startJob_sys (c : Chip) (t tn cause : Nat) (image : Mem) (status : List Nat) :
    Mem.rdLe (startJob c t tn cause image status).sys 0 8 = tn % 2 ^ 64
      ∧ Mem.rdLe (startJob c t tn cause image status).sys 8 8 = (startJob c t tn cause image status).rel % 2 ^ 64
      ∧ Mem.rdLe (startJob c t tn cause image status).sys 16 8 = (startJob c t tn cause image status).dl % 2 ^ 64 := by
  simp only [startJob]
  exact sysBytes_begins ..

/-- Settles O20: the row tries the release, which starts the job of `release_starts`; what wakes the engine only schedules tasks. -/
theorem releaseStartsAJob : Obligations.ReleaseStartsAJob := by
  intro dt tn t s c k w relNs hrel hbound hcls hk hdiv hnew hjob hsusp hhalt hempty hskip hshed ha
  have hfree : ¬((task c t).relTn = some tn ∨ (task c t).job.isSome ∨ (task c t).st = .suspended ∨ (task c t).st = .halted
      ∨ (task c t).st = .empty) := by
    have hnojob : (task c t).job = none := hjob
    simpa [hnojob] using ⟨hnew, hsusp, hhalt, hempty⟩
  obtain ⟨evts, htry⟩ := tryRelease_due hcls hk hdiv hfree hskip hshed
  obtain ⟨n, c1, clk, cause, image, status, seen, hrelease, hview⟩ := release_starts t.val tn evts ha
  have hgoes : Goes (.taskRelease dt t) s (dispatch n c1) := by
    show execTaskRelease dt t s = _
    rw [execTaskRelease, lift_eq, evTaskRelease_tries hrel hbound, htry, hrelease]
  have hsched := dispatch_scheduled n c1
  have htask : (task c1 t).quiet = Task.released (startJob c t tn cause image status) seen evts (task c t).quiet := by
    have h := congrArg (fun v => v.task t.val) hview
    rwa [JobView.upd_self] at h
  have hother : ∀ u, u ≠ t.val → (task (dispatch n c1) u).job = (task c u).job := fun u hu => by
    have h : (task c1 u).quiet = (task c u).quiet := by
      have h := congrArg (fun v => v.task u) hview
      rwa [JobView.upd_ne _ _ _ hu] at h
    exact (hsched u).job_eq h
  obtain ⟨hsysTn, hsysRel, hsysDl⟩ := startJob_sys c t tn cause image status
  refine ⟨_, hgoes, startJob c t tn cause image status, (hsched t).reads Task.job (fun _ _ => rfl) htask,
    rfl, rfl, rfl, rfl, rfl, rfl, rfl, rfl, rfl, rfl, rfl, rfl, rfl, hsysTn, hsysRel, hsysDl, (hsched t).of_ready (congrArg Task.st htask),
    (hsched t).reads Task.relTn (fun _ _ => rfl) htask, ?_, ?_, ?_, hother⟩
  · rw [dispatch_mem]
    exact congrArg JobView.mem hview
  · rw [dispatch_tt]
    exact congrArg JobView.tt hview
  · rw [dispatch_io]
    exact congrArg JobView.ao hview

end Sys2Proof.Machine
end

section
/-! The end of a job (R42, R43, R62, R77, R92, R93, R514): its flush into the memories, the task it leaves, its staging that waits. -/
namespace Sys2Proof.Machine

open Sys2Proof Sys2Proof.Safety

/-! ### The flush (R93) -/

/-- One entry of a write journal, put into its memory. -/
def Memories.put (m : Memories) (e : Bool × Nat × List Byte) : Memories :=
  if e.1 then { m with ret := Mem.wrN m.ret e.2.1 e.2.2 } else { m with glb := Mem.wrN m.glb e.2.1 e.2.2 }

/-- The view with its memories after a write journal, newest entry first. -/
def JobView.flush (v : JobView) (l : List (Bool × Nat × List Byte)) : JobView := { v with mem := l.foldr (fun e m => m.put e) v.mem }

theorem flush_glb (l : List (Bool × Nat × List Byte)) (m : Memories) :
    (l.foldr (fun e m => m.put e) m).glb = l.foldr (fun e g => if e.1 then g else Mem.wrN g e.2.1 e.2.2) m.glb := by
  induction l with
  | nil => rfl
  | cons e r ih =>
    rw [List.foldr_cons, List.foldr_cons, ← ih, Memories.put]
    split <;> rfl

theorem flush_ret (l : List (Bool × Nat × List Byte)) (m : Memories) :
    (l.foldr (fun e m => m.put e) m).ret = l.foldr (fun e g => if e.1 then Mem.wrN g e.2.1 e.2.2 else g) m.ret := by
  induction l with
  | nil => rfl
  | cons e r ih =>
    rw [List.foldr_cons, List.foldr_cons, ← ih, Memories.put]
    split <;> rfl

/-- A write to memory changes that memory and what a pair member notes of it. -/
theorem view_memWrite (e : Bool × Nat × List Byte) (c : Chip) : (memWrite e.1 e.2.1 e.2.2 c).view = { c.view with mem := c.view.mem.put e } := by
  unfold memWrite dirty
  refine Eq.trans (when_keeps Chip.view (c.pair.st == .resyncSource) _ _ rfl) ?_
  unfold Memories.put
  split <;> rfl

theorem view_memWrites (l : List (Bool × Nat × List Byte)) (c : Chip) :
    (l.foldr (fun e c => memWrite e.1 e.2.1 e.2.2 c) c).view = c.view.flush l := by
  induction l with
  | nil => rfl
  | cons e r ih =>
    rw [List.foldr_cons, view_memWrite, ih]
    rfl

/-! ### The task after its job (R62, R77, R92) -/

/-- The task as a job that ends at `clk` leaves it: the shadow banks are its own, the response is kept, no job is active. -/
def Task.ended (j : Job) (clk : Nat) (k : Task) : Task :=
  { k with
    job := none, loc := j.loc, insts := j.insts, ovrConsec := 0, lastResp := (clk - j.relNs) / 1000
    maxResp := Nat.max k.maxResp ((clk - j.relNs) / 1000) }

theorem view_flushJob (t : Nat) (j : Job) (c : Chip) :
    (flushJob t j c).view = (c.view.flush j.journal).upd t (fun k => { k with loc := j.loc, insts := j.insts }) := by
  unfold flushJob
  dsimp only
  rw [view_updTask (fun k => { k with loc := j.loc, insts := j.insts }) rfl, (keeps_bumpBy _ _).view, view_memWrites]

theorem view_response (t : Nat) (j : Job) (c : Chip) :
    (response t j c).view = c.view.upd t (fun k => { k with
      ovrConsec := 0, lastResp := (c.view.clock - j.relNs) / 1000, maxResp := Nat.max k.maxResp ((c.view.clock - j.relNs) / 1000) }) :=
  view_updTask _ rfl

/-- The task with a staging more that waits for its commit boundary. -/
def Task.stagedWith (s : Staged) (k : Task) : Task := { k with st := .staged, staged := k.staged ++ [s] }

/-- A job that has completed is flushed and leaves its task without a job (R77, R93, R514). -/
theorem view_finishJob (t : Nat) (j : Job) (c : Chip) :
    (finishJob t j c).view = (c.view.flush j.journal).upd t (Task.ended j c.time.clock) := by
  have hgone : (updTask t (fun k => { k with job := none }) (flushJob t j c)).view
      = (c.view.flush j.journal).upd t (fun k => { k with loc := j.loc, insts := j.insts, job := none }) := by
    rw [view_updTask (fun k => { k with job := none }) rfl, view_flushJob, JobView.upd_upd]
  unfold finishJob
  dsimp only
  rw [forAll_keeps Chip.view _ _ (fun m c => Keeps.view (keeps_recordF _ _ _ _ _ _ _) c), (keeps_bump _).view, view_response, hgone,
    JobView.upd_upd]
  rfl

/-! ### The staging that waits (R42, R43, R62) -/

/-- What the job hands to its commit boundary: the next one at the earliest, and none before the end of its commit window. -/
def JobView.stagingOf (v : JobView) (t : Nat) (j : Job) : Staged :=
  let due := j.relNs + setFld v.main (0x2100 + t) 5 31 0 * 1000
  { tn := if due < v.clock then v.tt.tn + 1 else Nat.max (v.tt.tn + 1) (cdiv due (tickUs v.tt.tickCode * 1000))
    bytes := j.staging, can := j.can, hart := j.hart, panels := j.panels, timers := j.evalInst }

/-- The flags of the main set are part of the view. -/
theorem cfgb_of_view {c c' : Chip} (h : c.view.main = c'.view.main) : cfgb c = cfgb c' := by
  funext ix sub i
  exact congrArg (fun cs => bit (setWord cs ix sub) i) h

/-- Under commit at the boundary the staging of a completed job waits with its task (R42, R43). -/
theorem view_handOver {t : Nat} {j : Job} {c : Chip} (hb : cfgb c (0x2100 + t) 1 20 = false) :
    (handOver t j c).view = c.view.upd t (Task.stagedWith (c.view.stagingOf t j)) := by
  unfold handOver
  extract_lets due late next cb s c1
  have h1 : c1.view = c.view := when_keeps Chip.view _ _ _ (((keeps_bump _).view _).trans ((keeps_record _ _ _).view c))
  have hs : s = c.view.stagingOf t j := by simp only [s, cb, late, decide_eq_true_eq]; rfl
  rw [cfgb_of_view (congrArg JobView.main h1), hb, ← hs, ← h1]
  exact view_updTask _ rfl

/-! ### The row -/

/-- The block once a completed job has ended and its Sage submissions are made. -/
def jobDone (t : Nat) (j : Job) (c : Chip) : Chip := submitJob t j (finishJob t j (journalChange t j c))

theorem view_jobDone (t : Nat) (j : Job) (c : Chip) : (jobDone t j c).view = (c.view.flush j.journal).upd t (Task.ended j c.time.clock) := by
  have hchange : (journalChange t j c).view = c.view := view_journalChange t j c
  have hclock : (journalChange t j c).time.clock = c.time.clock := congrArg JobView.clock hchange
  rw [jobDone, view_submitJob, view_finishJob, hchange, hclock]

/-- A completed job's row ends it, hands its staging over, wakes its engine, and saves the instances during the power-fail sequence. -/
theorem evJobEnd_ends {dt t : Nat} {c : Chip} {j : Job} (hj : (task (pass dt c) t).job = some j) (hd : j.done = true)
    (hb : cfgb (pass dt c) (0x2100 + t) 1 20 = false) :
    ∃ p n c', evJobEnd dt t c = when p saveInsts (dispatch n c')
      ∧ c'.view = ((pass dt c).view.flush j.journal).upd t (fun k =>
          (Task.ended j (pass dt c).time.clock k).stagedWith ((pass dt c).view.stagingOf t j)) := by
  generalize hc0 : pass dt c = c0 at hj hb
  have hdone := view_jobDone t j c0
  have hmain : (jobDone t j c0).view.main = c0.view.main := by rw [hdone]; rfl
  have hcommit : cfgb (jobDone t j c0) (0x2100 + t) 1 20 = false := by rwa [cfgb_of_view hmain]
  let c1 := tellPartner t j.tn (handOver t j (jobDone t j c0))
  refine ⟨(dispatch (taskCe c0 t) c1).sup.powerFail.isSome, taskCe c0 t, c1, ?_, ?_⟩
  · simp only [evJobEnd, hc0, hj, hd, Bool.not_true, Bool.false_eq_true, if_false]
    rfl
  · rw [view_tellPartner, view_handOver hcommit, hdone, JobView.upd_upd]
    rfl

/-- Settles O21: the view that `evJobEnd_ends` leaves; what wakes the engine only schedules tasks, and the save area is a memory of its own. -/
theorem jobEndFlushesAndStages : Obligations.JobEndFlushesAndStages := by
  intro dt t s j c due hjob hdone hcommit
  obtain ⟨p, n, c1, hend, hview⟩ := evJobEnd_ends (t := t.val) hjob hdone hcommit
  have hsched : ∀ u, Scheduled (task c1 u) (task (when p saveInsts (dispatch n c1)) u) := fun u => by
    rw [when_keeps (fun c => task c u) p saveInsts _ rfl]
    exact dispatch_scheduled n c1 u
  have hnow : (task c1 t).quiet = (Task.ended j c.time.clock (task c t).quiet).stagedWith (c.view.stagingOf t j) := by
    have h := congrArg (fun v => v.task t.val) hview
    rwa [JobView.upd_self] at h
  have hother : ∀ u, u ≠ t.val → (task (when p saveInsts (dispatch n c1)) u).job = (task c u).job := fun u hu => by
    have h : (task c1 u).quiet = (task c u).quiet := by
      have h := congrArg (fun v => v.task u) hview
      rwa [JobView.upd_ne _ _ _ hu] at h
    exact (hsched u).job_eq h
  have hmem : (dispatch n c1).mem = j.journal.foldr (fun e m => m.put e) c.mem := by
    rw [dispatch_mem]
    exact congrArg JobView.mem hview
  have hreads {β : Type} (g : Task → β) (hg : ∀ k st, g { k.quiet with st := st } = g k) := (hsched t).reads g hg hnow
  refine ⟨_, ?goes, ?glb, ?ret, hreads Task.job fun _ _ => rfl, hreads Task.loc fun _ _ => rfl, hreads Task.insts fun _ _ => rfl,
    hreads Task.ovrConsec fun _ _ => rfl, hreads Task.lastResp fun _ _ => rfl, hreads Task.maxResp fun _ _ => rfl,
    hreads Task.committed fun _ _ => rfl, (hsched t).of_staged (congrArg Task.st hnow), hreads Task.staged fun _ _ => rfl,
    ?tt, ?ao, ?di, hother⟩
  case goes =>
    show execJobEnd dt t s = _
    rw [execJobEnd, lift_eq, hend]
  case glb =>
    rw [when_keeps (fun c => c.mem.glb) p saveInsts _ rfl, hmem, flush_glb]
  case ret =>
    rw [when_keeps (fun c => c.mem.ret) p saveInsts _ rfl, hmem, flush_ret]
  case tt =>
    rw [when_keeps (fun c => c.tt) p saveInsts _ rfl, dispatch_tt]
    exact congrArg JobView.tt hview
  case ao =>
    rw [when_keeps (fun c => c.io.ao) p saveInsts _ rfl, dispatch_io]
    exact congrArg JobView.ao hview
  case di =>
    rw [when_keeps (fun c => c.io.di) p saveInsts _ rfl, dispatch_io]
    exact congrArg JobView.di hview

end Sys2Proof.Machine
end

section
/-! The commands of groups 0x03, 0x04 and 0x05 (R428 to R431): what each run comes to once its checks pass, and from it what each row answers. -/
namespace Sys2Proof.Machine

open Sys2Proof Sys2Proof.Safety

/-- A row of a session that may have it executed, whose run comes to an answer, gives that answer (R411). -/
theorem goes_of_run {cmd need : Nat} {i : Instr} {run : Session → List Byte → Chip → Done} {q : Req} {s : State} {ss : Session} {p : Peer}
    {a : Ans} (h : Granted cmd need q s.chip ss p) (hrow : exec i s = lift (serve cmd run q) s)
    (hrun : run ss q.payload (taken q p s) = .ok a) : Goes i s (a.after (respond cmd q.sess q.tag a.status a.payload a.chip)) := by
  unfold Goes
  rw [hrow]
  exact serve_granted h hrun

/-! ### Siding loads (R143, R428, R429) -/

/-- A load that is discarded is one that had begun. -/
theorem discardLoad_begun {c : Chip} {load : Nat × Nat × Nat} (h : c.sets.load = some load) :
    discardLoad c = .ok { status := 0x0103, chip := clearSiding c } := by
  simp [discardLoad, h]

section
variable {ss : Session} {p : List Byte} {c : Chip} {total id n : Nat} (hr : role 2 ss = .ok ())
include hr

theorem doSetLoadBegin_begins (hg : gate 0x0301 c = .ok ()) (hlen : p.length = 8) (hmax : fld p 0 4 ≤ 2 ^ 28) (hfree : sidingFree c = true) :
    doSetLoadBegin ss p c
      = okWith [] { c with sets := { c.sets with side := none, siding := .loading, load := some (fld p 0 4, fld p 4 4, 0) } } := by
  simp only [doSetLoadBegin, form_length hlen, hr, if_neg (Nat.not_lt.2 hmax), hg, check_true hfree, done_bind_ok]

/-- A load beyond 256 MiB discards the one before it (R428). -/
theorem doSetLoadBegin_discards (hlen : p.length = 8) (hmax : 2 ^ 28 < fld p 0 4) : doSetLoadBegin ss p c = discardLoad c := by
  simp only [doSetLoadBegin, form_length hlen, hr, if_pos hmax, done_bind_ok]

section
variable (hp : Shaped p p.length [4, 5, 6, 7]) (hmin : 9 ≤ p.length) (hmax : p.length ≤ 4096) (hload : c.sets.load = some (total, id, n))
include hp hmin hmax hload

/-- The segment that comes next joins the load (R428). -/
theorem doSetLoadData_joins (hg : gate 0x0302 c = .ok ()) (hnext : fld p 0 4 = n) (hfits : n + (p.length - 8) ≤ total)
    (hfree : sidingFree c = true) :
    doSetLoadData ss p c = okWith [] { c with sets := { c.sets with load := some (total, id, n + (p.length - 8)) } } := by
  have hlen : (decide (9 ≤ p.length) && decide (p.length ≤ 4096)) = true := by simp [hmin, hmax]
  have hright : ¬(fld p 0 4 ≠ n ∨ total < n + (p.length - 8)) := by omega
  simp only [doSetLoadData, check_true hlen, form_shaped hp, hr, hload, if_neg hright, hg, check_true hfree, done_bind_ok]

/-- A segment that does not come next, or reaches beyond the load, discards it (R428). -/
theorem doSetLoadData_discards (hwrong : fld p 0 4 ≠ n ∨ total < n + (p.length - 8)) :
    doSetLoadData ss p c = .ok { status := 0x0103, chip := clearSiding c } := by
  have hlen : (decide (9 ≤ p.length) && decide (p.length ≤ 4096)) = true := by simp [hmin, hmax]
  simp only [doSetLoadData, check_true hlen, form_shaped hp, hr, hload, if_pos hwrong, discardLoad_begun hload, done_bind_ok]

end

/-- The end of a load that is not all there discards it (R428). -/
theorem doSetLoadEnd_discards (q : Req) (pkg : Package) (hp : p = []) (hload : c.sets.load = some (total, id, n)) (hn : n < total) :
    doSetLoadEnd q pkg ss p c = .ok { status := 0x0103, chip := clearSiding c } := by
  simp only [doSetLoadEnd, form_nil hp, hr, hload, if_pos hn, discardLoad_begun hload, done_bind_ok]

section
variable (q : Req) {pkg : Package} (hg : gate 0x0303 c = .ok ()) (hp : p = []) (hload : ∃ total id, c.sets.load = some (total, id, total))
  (hfree : sidingFree c = true)
include hg hp hload hfree

/-- The end of a whole load whose package fails a check completes with the check's status and report (R429). -/
theorem doSetLoadEnd_refuses {b : Bad} (hbad : packageBad c.sets.main pkg = some b) :
    doSetLoadEnd q pkg ss p c
      = .ok { status := 1, chip := (loadRefused b c).2, after := complete 0x0303 q.sess q.tag b.status (loadRefused b c).1 } := by
  obtain ⟨total, id, hload⟩ := hload
  simp only [doSetLoadEnd, form_nil hp, hr, hload, if_neg (Nat.lt_irrefl total), hg, check_true hfree, hbad, accept, done_bind_ok]

/-- Outside a pair a whole load that passes its checks is LOADED (R143). -/
theorem doSetLoadEnd_loads (hgood : packageBad c.sets.main pkg = none) (hpair : isPair c = false) :
    doSetLoadEnd q pkg ss p c
      = .ok { status := 1, chip := (loadDone (storeSiding pkg.set .loading c)).2
              after := complete 0x0303 q.sess q.tag 0 (loadDone (storeSiding pkg.set .loading c)).1 } := by
  obtain ⟨total, id, hload⟩ := hload
  have hpair : isPair (storeSiding pkg.set .loading c) = false := hpair
  simp only [doSetLoadEnd, form_nil hp, hr, hload, if_neg (Nat.lt_irrefl total), hg, check_true hfree, hgood, hpair, Bool.false_eq_true,
    if_false, accept, done_bind_ok]

/-- In a pair a whole load that passes its checks is passed to the partner (R162). -/
theorem doSetLoadEnd_proposes (hgood : packageBad c.sets.main pkg = none) (hpair : isPair c = true) :
    doSetLoadEnd q pkg ss p c
      = .ok { status := 1
              chip := emit (.proposal (.load pkg)) { storeSiding pkg.set .loading c with
                sup := { (storeSiding pkg.set .loading c).sup with
                  pairCmds := (storeSiding pkg.set .loading c).sup.pairCmds
                    ++ [((storeSiding pkg.set .loading c).tt.tn, .loaded, q.sess, q.tag)] } } } := by
  obtain ⟨total, id, hload⟩ := hload
  have hpair : isPair (storeSiding pkg.set .loading c) = true := hpair
  simp only [doSetLoadEnd, form_nil hp, hr, hload, if_neg (Nat.lt_irrefl total), hg, check_true hfree, hgood, hpair, if_true, accept,
    done_bind_ok]

end

/-! ### Throws (R147, R162, R428, R430) -/

/-- FORCES_BLOCK as a THROW asks for it (R147). -/
def throwForce (p : List Byte) (c : Chip) : Bool := throwOption (fld p 8 1) 0 1 (live c 0x2020 2 1 1)

/-- STAGED_ALLOWED as a THROW asks for it (R147). -/
def throwStaged (p : List Byte) (c : Chip) : Bool := throwOption (fld p 8 1) 2 3 (live c 0x2020 2 0 0)

section
variable (q : Req) (hg : gate 0x0304 c = .ok ()) (hp : Shaped p 16 [9, 10, 11, 12, 13, 14, 15]) (ho : fld p 8 1 < 16)
  (htn : c.tt.tn + 16 ≤ fld p 0 8) (hfree : sidingFree c = true) (hgood : throwBad c (throwForce p c) (throwStaged p c) = none)
include hg hp ho htn hfree hgood

/-- Outside a pair a throw that passes its checks is named (R147). -/
theorem doThrow_names (hpair : isPair c = false) :
    doThrow q ss p c = accept (nameThrow (fld p 0 8) (throwForce p c) false (some (q.sess, q.tag)) c) := by
  unfold throwForce throwStaged at hgood
  simp only [doThrow, form_shaped hp, check_true (decide_eq_true ho), hr, check_true (decide_eq_true htn), hg, check_true hfree, hgood, hpair,
    Bool.false_eq_true, if_false, done_bind_ok, throwForce]

/-- In a pair that is not degraded a throw that passes its checks is proposed to the partner (R162). -/
theorem doThrow_proposes (hpair : isPair c = true) (hst : c.pair.st ≠ .degraded) :
    doThrow q ss p c
      = accept (emit (.proposal (.throw (fld p 0 8) (throwForce p c) (throwStaged p c))) { c with
          sup := { c.sup with
            pairCmds := c.sup.pairCmds ++ [(c.tt.tn, .named (fld p 0 8) (throwForce p c) (throwStaged p c), q.sess, q.tag)] } }) := by
  unfold throwForce throwStaged at hgood
  simp only [doThrow, form_shaped hp, check_true (decide_eq_true ho), hr, check_true (decide_eq_true htn), hg, check_true hfree, hgood, hpair,
    if_true, if_neg hst, done_bind_ok, throwForce, throwStaged]

end

/-- A throw that a host named is cancelled, in a pair by agreement (R428). -/
theorem doThrowCancel_cancels (q : Req) (hg : gate 0x0305 c = .ok ()) (hp : p = []) (hnamed : c.sets.named = true)
    (hback : c.sets.rollback = false) :
    doThrowCancel q ss p c = .ok (if isPair c then decided .throwCancel q [] c else { chip := cancelThrow 0x0323 c }) := by
  have hown : (c.sets.named && !c.sets.rollback) = true := by simp [hnamed, hback]
  simp only [doThrowCancel, form_nil hp, hr, hg, check_true hown, propose_decided, done_bind_ok]
  split <;> rfl

theorem doSidingClear_clears (hg : gate 0x0306 c = .ok ()) (hp : p = []) (hfree : sidingFree c = true) :
    doSidingClear ss p c = okWith [] (clearSiding c) := by
  simp only [doSidingClear, form_nil hp, hr, hg, check_true hfree, done_bind_ok]

/-! ### Tasks and images (R71, R431) -/

theorem doTaskResume_decides (q : Req) (hg : gate 0x0401 c = .ok ()) (hp : Shaped p 4 [1, 2, 3])
    (hst : (task c (fld p 0 1)).st = .suspended) : doTaskResume q ss p c = .ok (decided (.taskResume (fld p 0 1)) q [] c) := by
  have hsusp : ((task c (fld p 0 1)).st == .suspended) = true := by simp [hst]
  simp only [doTaskResume, form_shaped hp, hr, hg, check_true hsusp, propose_decided, done_bind_ok]

end

section
variable {ss : Session} {p : List Byte} {c : Chip} (hr : role 0 ss = .ok ())
include hr

theorem doReportRead_answers (hg : gate 0x0307 c = .ok ()) (hlen : p.length = 4) :
    doReportRead ss p c = okWith ((c.sets.report.drop (fld p 0 4)).take 4096) c := by
  simp only [doReportRead, form_length hlen, hr, hg, done_bind_ok]

theorem doTaskRead_answers (sn : Chip) (hg : gate 0x0402 c = .ok ()) (hp : Shaped p 4 [1, 2, 3]) :
    doTaskRead sn ss p c
      = okWith (((List.range 10).map (fun i => (0x2100 + fld p 0 1, i + 1)) ++ (List.range 6).map (fun i => (0x2200 + fld p 0 1, i + 1))).flatMap
          (fun (w : Nat × Nat) => leBytes 4 ((paramWord sn w.1 w.2).getD 0))) c := by
  simp only [doTaskRead, form_shaped hp, hr, hg, done_bind_ok]

theorem doImageInfo_answers {i : Image} (hg : gate 0x0403 c = .ok ()) (hp : Shaped p 4 [2, 3])
    (himage : c.sets.main.images.find? (fun x => x.no == fld p 0 2) = some i) : doImageInfo ss p c = okWith (imageHeader i) c := by
  simp only [doImageInfo, form_shaped hp, hr, himage, hg, done_bind_ok]

/-! ### Variables (R431) -/

/-- A read of variables that are all there, and that fit into an answer, gives their entries in the order asked. -/
theorem doVarRead_answers {sn : Chip} {bs : List (List Byte)} (hg : gate 0x0501 c = .ok ())
    (hp : Shaped p (4 + 16 * fld p 0 1)
      ([1, 2, 3] ++ (List.range (fld p 0 1)).flatMap (fun i => (List.range 4).map (fun k => 16 + 16 * i + k))))
    (hbs : (List.range (fld p 0 1)).map (fun i => varAnswer sn (varReq p i)) = bs.map some) (hfit : bs.flatten.length ≤ 4096) :
    doVarRead sn ss p c = okWith bs.flatten c := by
  have hall : (bs.map some).all (·.isSome) = true := by simp
  have hvals : (bs.map some).filterMap id = bs := by simp
  simp only [doVarRead, form_shaped hp, hr, hbs, check_true hall, hvals, check_true (decide_eq_true hfit), hg, done_bind_ok]

theorem doForceList_answers (hg : gate 0x0505 c = .ok ()) (hp : Shaped p 4 [2, 3]) :
    doForceList ss p c
      = okWith (leBytes 4 ((c.sets.forces.drop (fld p 0 2)).take 127).length ++ ((c.sets.forces.drop (fld p 0 2)).take 127).flatMap forceBytes)
          c := by
  simp only [doForceList, form_shaped hp, hr, hg, done_bind_ok]

end

/-- A write of elements that the variable has, in its type, is decided together (R431). -/
theorem doVarWrite_decides (q : Req) {ss : Session} {p : List Byte} {c : Chip} {v : VarEntry} (hg : gate 0x0502 c = .ok ())
    (hr : role 1 ss = .ok ()) (hmin : 17 ≤ p.length) (hmax : p.length ≤ 4096) (hp : Shaped p (16 + fld p 10 2 * v.loc.ty.size) [13, 14, 15])
    (hv : hostWritten c.sets.main (fld p 0 8) = some v) (hty : fld p 12 1 = v.loc.ty.code) (hn : fld p 10 2 ≠ 0)
    (hfit : fld p 8 2 + fld p 10 2 ≤ v.elems) :
    doVarWrite q ss p c
      = .ok (decided (.varWrite (fld p 0 8) (fld p 8 2) ((List.range (fld p 10 2)).map (fun i =>
          fld p (16 + i * v.loc.ty.size) v.loc.ty.size))) q [] c) := by
  have hlen : (decide (17 ≤ p.length) && decide (p.length ≤ 4096)) = true := by simp [hmin, hmax]
  have hform : form p p.length [13, 14, 15] = .ok () := form_shaped ⟨rfl, hp.2⟩
  have harg : (v.loc.ty.code == fld p 12 1 && fld p 10 2 != 0 && decide (fld p 8 2 + fld p 10 2 ≤ v.elems)
      && p.length == 16 + fld p 10 2 * v.loc.ty.size) = true := by simp [hty, hn, hfit, hp.1]
  simp only [doVarWrite, check_true hlen, hform, hr, hv, check_true harg, hg, propose_decided, done_bind_ok]

/-! ### Forces (R154 to R158, R353) -/

/-- The role that a force of variable `id` needs (R156). -/
def forceNeed (c : Chip) (id : Nat) : Nat := if classSVar c.sets.main id then 3 else 2

/-- A session of the role that a force needs may set and clear it. -/
theorem forceRole_ok {c : Chip} {p : List Byte} {ss : Session} (hr : role (forceNeed c (fld p 0 8)) ss = .ok ()) : forceRole c p ss = .ok () := by
  unfold forceNeed at hr
  unfold forceRole
  split
  · rename_i hs
    rw [if_pos hs] at hr
    have hne : ss.role ≠ 2 := fun h => by
      unfold role at hr
      split at hr
      · cases hr
      · simp [h] at hr
    rw [if_neg hne, hr]
  · rename_i hs
    rwa [if_neg hs] at hr

/-- A pair that is not degraded takes a force command that no named throw shuts out (R158, R353). -/
theorem forceReady_ok {cmd : Nat} {fs : List Force} {c : Chip} (hg : gate cmd c = .ok ()) (hpair : ¬(isPair c = true ∧ c.pair.st = .degraded))
    (hshut : forceShut c fs = false) : forceReady cmd fs c = .ok () := by
  have hdeg : (isPair c && c.pair.st == .degraded) = false := by
    rw [Bool.eq_false_iff]
    simpa using hpair
  simp only [forceReady, hg, hdeg, hshut, check_true, Bool.not_false, done_bind_ok]

/-- A byte of the payload as a field. -/
theorem fld_byte (p : List Byte) (i : Nat) : fld p i 1 = (p.getD i 0).toNat := by
  unfold fld
  rw [List.getD_eq_getElem?_getD, ← List.head?_drop]
  cases p.drop i <;> simp [leNat]

section
variable (q : Req) {ss : Session} {p : List Byte} {c : Chip} (hr : role (forceNeed c (fld p 0 8)) ss = .ok ())
  (hpair : ¬(isPair c = true ∧ c.pair.st = .degraded))
include hr hpair

/-- A force of an element that the variable has, in the role and the form it needs, with room in the table, is decided together. -/
theorem doForceSet_decides (hg : gate 0x0503 c = .ok ()) (hp : Shaped p 32 [12, 13, 14, 15]) (hflags : fld p 11 1 < 4)
    (hvar : ∃ ty elems, varInfo c.sets.main (fld p 0 8) = some (ty, elems) ∧ fld p 8 2 < elems) (hkind : fld p 10 1 < 2)
    (hs : bit (forceAsked c q.sess ss p).flags 0 = false ∨ meetsS (forceAsked c q.sess ss p) = true)
    (hshut : forceShut c [forceAsked c q.sess ss p] = false)
    (hroom : c.sets.forces.length < 512
      ∨ ∃ g ∈ c.sets.forces, g.varId = (forceAsked c q.sess ss p).varId ∧ g.elem = (forceAsked c q.sess ss p).elem) :
    doForceSet q ss p c = .ok (decided (.forceSet (forceAsked c q.sess ss p)) q [] c) := by
  obtain ⟨ty, elems, hinfo, helem⟩ := hvar
  obtain ⟨hlen, hzero⟩ := hp
  have hform : form p 32 [13, 14, 15] = .ok () := form_shaped ⟨hlen, fun i hi => hzero i (List.mem_cons_of_mem 12 hi)⟩
  have hbyte : fld p 12 1 = 0 := by rw [fld_byte, hzero 12 List.mem_cons_self]; rfl
  have hinfo : varInfo c.sets.main (forceAsked c q.sess ss p).varId = some (ty, elems) := hinfo
  have harg : (decide ((forceAsked c q.sess ss p).elem < elems) && decide ((forceAsked c q.sess ss p).fkind < 2) && fld p 12 1 == 0
      && (!bit (forceAsked c q.sess ss p).flags 0 || meetsS (forceAsked c q.sess ss p))) = true := by
    have helem : (forceAsked c q.sess ss p).elem < elems := helem
    have hkind : (forceAsked c q.sess ss p).fkind < 2 := hkind
    simpa [helem, hkind, hbyte] using hs
  have hroom : (decide (c.sets.forces.length < 512) || c.sets.forces.any (fun g =>
      g.varId == (forceAsked c q.sess ss p).varId && g.elem == (forceAsked c q.sess ss p).elem)) = true := by simpa using hroom
  simp only [doForceSet, hform, check_true (decide_eq_true hflags), forceRole_ok hr, hinfo, check_true harg, forceReady_ok hg hpair hshut,
    check_true hroom, propose_decided, done_bind_ok]

/-- The forces that a request names are cleared together. -/
theorem doForceClear_decides (hg : gate 0x0504 c = .ok ()) (hp : Shaped p 16 [11, 12, 13, 14, 15]) (hkind : fld p 10 1 < 2)
    (hshut : forceShut c (c.sets.forces.filter (forceNamed (fld p 0 8) (fld p 8 2) (fld p 10 1))) = false) :
    doForceClear q ss p c = .ok (decided (.forceClear (fld p 0 8) (fld p 8 2) (fld p 10 1) q.sess) q [] c) := by
  simp only [doForceClear, form_shaped hp, forceRole_ok hr, check_true (decide_eq_true hkind), forceReady_ok hg hpair hshut, propose_decided,
    done_bind_ok]

end

/-- Settles O54: every clause is what its command's run comes to, by `answers_of_run` and, where values are read as the last boundary left
them, by `goes_of_run`. -/
theorem setTaskAndValueCommands : Obligations.SetTaskAndValueCommands := by
  unfold Obligations.SetTaskAndValueCommands
  refine ⟨?loadBegin, ?loadData, ?loadEnd, ?throws, ?cancel, ?clear, ?report, ?resume, ?taskRead, ?image, ?varRead, ?varWrite, ?forces, ?list⟩
  case loadBegin =>
    rintro begun rfl
    refine ⟨?_, ?_⟩
    · refine answers_of_run (fun _ => doSetLoadBegin) (fun _ => rfl) fun q ss c hg hr hp => ?_
      obtain ⟨hlen, hmax, hfree⟩ := hp
      exact doSetLoadBegin_begins hr hg hlen hmax hfree
    · refine answers_of_run (fun _ => doSetLoadBegin) (fun _ => rfl) fun q ss c _ hr hp => ?_
      exact doSetLoadBegin_discards hr hp.1 hp.2
  case loadData =>
    intro total id n
    refine ⟨?_, ?_, fun pkg => ?_⟩
    · refine answers_of_run (fun _ => doSetLoadData) (fun _ => rfl) fun q ss c hg hr hp => ?_
      obtain ⟨hf, hmin, hmax, hload, hnext, hfits, hfree⟩ := hp
      exact doSetLoadData_joins hr hf hmin hmax hload hg hnext hfits hfree
    · refine answers_of_run (fun _ => doSetLoadData) (fun _ => rfl) fun q ss c _ hr hp => ?_
      obtain ⟨hf, hmin, hmax, hload, hwrong⟩ := hp
      exact doSetLoadData_discards hr hf hmin hmax hload hwrong
    · refine answers_of_run (fun q => doSetLoadEnd q pkg) (fun _ => rfl) fun q ss c _ hr hp => ?_
      obtain ⟨hnil, hload, hn⟩ := hp
      exact doSetLoadEnd_discards hr q pkg hnil hload hn
  case loadEnd =>
    intro pkg pre hpre
    refine ⟨fun b => ?_, ?_, ?_⟩
    · refine answers_of_run (fun q => doSetLoadEnd q pkg) (fun _ => rfl) fun q ss c hg hr hp => ?_
      obtain ⟨hnil, hload, hfree⟩ := (hpre q ss c).1 hp.1
      exact doSetLoadEnd_refuses hr q hg hnil hload hfree hp.2
    · refine answers_of_run (fun q => doSetLoadEnd q pkg) (fun _ => rfl) fun q ss c hg hr hp => ?_
      obtain ⟨hp, hgood, hpair⟩ := hp
      obtain ⟨hnil, hload, hfree⟩ := (hpre q ss c).1 hp
      exact doSetLoadEnd_loads hr q hg hnil hload hfree hgood hpair
    · refine answers_of_run (fun q => doSetLoadEnd q pkg) (fun _ => rfl) fun q ss c hg hr hp => ?_
      obtain ⟨hp, hgood, hpair⟩ := hp
      obtain ⟨hnil, hload, hfree⟩ := (hpre q ss c).1 hp
      exact doSetLoadEnd_proposes hr q hg hnil hload hfree hgood hpair
  case throws =>
    intro force staged pre hforce hstaged hpre
    obtain rfl : force = fun q c => throwForce q.payload c := by funext q c; exact hforce q c
    obtain rfl : staged = fun q c => throwStaged q.payload c := by funext q c; exact hstaged q c
    refine ⟨?_, ?_⟩
    · refine answers_of_run doThrow (fun _ => rfl) fun q ss c hg hr hp => ?_
      obtain ⟨hf, ho, htn, hfree, hgood⟩ := (hpre q ss c).1 hp.1
      exact doThrow_names hr q hg hf ho htn hfree hgood hp.2
    · refine answers_of_run doThrow (fun _ => rfl) fun q ss c hg hr hp => ?_
      obtain ⟨hp, hpair, hst⟩ := hp
      obtain ⟨hf, ho, htn, hfree, hgood⟩ := (hpre q ss c).1 hp
      exact doThrow_proposes hr q hg hf ho htn hfree hgood hpair hst
  case cancel =>
    refine answers_of_run doThrowCancel (fun _ => rfl) fun q ss c hg hr hp => ?_
    obtain ⟨hnil, hnamed, hback⟩ := hp
    exact doThrowCancel_cancels hr q hg hnil hnamed hback
  case clear => exact answers_of_run (fun _ => doSidingClear) (fun _ => rfl) fun _ _ _ hg hr hp => doSidingClear_clears hr hg hp.1 hp.2
  case report => exact answers_of_run (fun _ => doReportRead) (fun _ => rfl) fun _ _ _ hg hr hp => doReportRead_answers hr hg hp
  case resume => exact answers_of_run doTaskResume (fun _ => rfl) fun q _ _ hg hr hp => doTaskResume_decides hr q hg hp.1 hp.2
  case taskRead =>
    intro q s ss p hgr hp
    exact goes_of_run hgr rfl (doTaskRead_answers (role_granted hgr (Nat.le_refl 0)) (latched s) (gate_granted hgr) hp)
  case image =>
    exact fun i => answers_of_run (fun _ => doImageInfo) (fun _ => rfl) fun _ _ _ hg hr hp => doImageInfo_answers hr hg hp.1 hp.2
  case varRead =>
    intro q s ss p bs hgr n hp hbs hfit
    exact goes_of_run hgr rfl (doVarRead_answers (role_granted hgr (Nat.le_refl 0)) (gate_granted hgr) hp hbs hfit)
  case varWrite =>
    refine fun v => answers_of_run doVarWrite (fun _ => rfl) fun q ss c hg hr hp => ?_
    obtain ⟨hmin, hmax, hf, hv, hty, hn, hfit⟩ := hp
    exact doVarWrite_decides q hg hr hmin hmax hf hv hty hn hfit
  case forces =>
    refine fun need => ⟨?_, ?_⟩
    · refine answers_of_run doForceSet (fun _ => rfl) fun q ss c hg hr hp => ?_
      obtain ⟨rfl, hf, hflags, hvar, hkind, hs, hpair, hshut, hroom⟩ := hp
      exact doForceSet_decides q hr hpair hg hf hflags hvar hkind hs hshut hroom
    · refine answers_of_run doForceClear (fun _ => rfl) fun q ss c hg hr hp => ?_
      obtain ⟨rfl, hf, hkind, hpair, hshut⟩ := hp
      exact doForceClear_decides q hr hpair hg hf hkind hshut
  case list => exact answers_of_run (fun _ => doForceList) (fun _ => rfl) fun _ _ _ hg hr hp => doForceList_answers hr hg hp

end Sys2Proof.Machine
end

section
/-! The hardware timer event (R65, R68, R71, R120): what a release at any boundary leaves, and what the event's row comes to. -/
namespace Sys2Proof.Machine

open Sys2Proof Sys2Proof.Safety

/-! ### The event causes in the SYS record (R60) -/

/-- The bytes that fill a memory from address 0 read back. -/
theorem Mem.rdN_ofBytes (bs : List Byte) (a n : Nat) (h : a + n ≤ bs.length) : Mem.rdN (Mem.ofBytes bs) a n = (bs.drop a).take n := by
  apply List.ext_getElem
  · simp [Mem.rdN]; omega
  · intro i h1 h2
    have hi : i < n := by simpa [Mem.rdN] using h1
    have hread := Mem.rd_wrN_in bs [] 0 (a + i) rfl (by omega)
    rw [Nat.zero_add] at hread
    simp [Mem.rdN, Mem.ofBytes, hread]

/-- The SYS record holds the event causes at byte 24 (R60, R91). -/
theorem sysBytes_cause (c : Chip) (t : Nat) (k : Task) (tn rel cause : Nat) :
    Mem.rdLe (Mem.ofBytes (sysBytes c t k tn rel cause)) 24 4 = cause % 2 ^ 32 := by
  have hbytes : ∃ pre rest, pre.length = 24 ∧ sysBytes c t k tn rel cause = pre ++ (leBytes 4 cause ++ rest) := by
    have hpre : (leBytes 8 tn ++ leBytes 8 rel ++ leBytes 8 (rel + cfg c (0x2100 + t) 4 31 0)).length = 24 := by simp
    refine ⟨_, ?rest, hpre, ?bytes⟩
    case bytes =>
      unfold sysBytes
      simp only [List.append_assoc]
      rfl
  obtain ⟨pre, rest, hpre, h⟩ := hbytes
  have hfits : 24 + 4 ≤ (pre ++ (leBytes 4 cause ++ rest)).length := by
    simp only [List.length_append, hpre, leBytes_length]
    omega
  rw [Mem.rdLe, h, Mem.rdN_ofBytes _ _ _ hfits, List.drop_left' hpre, List.take_left' (leBytes_length 4 cause), leNat_leBytes]
  norm_num

/-! ### Releases, also after an adoption (R41, R359) -/

/-- A release gives the task a job for its boundary, with its pending events as causes where they are served, and wakes its engine. -/
theorem release_gives_job (t tn : Nat) (evts : Bool) (c : Chip) :
    ∃ n c' clk j seen rel, release t tn evts c = dispatch n c' ∧ j.tn = tn
      ∧ j.sys = Mem.ofBytes (sysBytes c t (task c t) tn rel (if evts then (task c t).evtPend else 0))
      ∧ c'.view = (c.view.setClock clk).upd t (Task.released j seen evts) := by
  unfold release
  extract_lets k off relNs rel cause c0 seen
  obtain ⟨image, status⟩ := buildImage c0 t
  dsimp -zeta only
  extract_lets j c1 c2 c3 c4
  have h1 : c1.view = c0.view.upd t (Task.released j seen evts) := view_updTask _ rfl
  have h2 : c2.view = c1.view := (keeps_bump _).view c1
  have h3 : c3.view = c2.view := when_keeps Chip.view _ _ _ ((keeps_bump _).view c2)
  have h4 : c4.view = c3.view := when_keeps Chip.view _ _ _ (((keeps_bump _).view _).trans ((keeps_record _ _ _).view c3))
  refine ⟨_, latchSlots t c4, c.time.clock + (relNs - c.time.clock), j, seen, rel, rfl, rfl, ?_, ?_⟩
  · simp only [j, c0, sysBytes_pass]
    rfl
  · rw [view_latchSlots, h4, h3, h2, h1, view_pass]

@[simp] theorem release_mem (t tn : Nat) (evts : Bool) (c : Chip) : (release t tn evts c).mem = c.mem := by
  obtain ⟨n, c', clk, j, seen, rel, hrel, -, -, hview⟩ := release_gives_job t tn evts c
  rw [hrel, dispatch_mem]
  exact congrArg JobView.mem hview

@[simp] theorem release_tt (t tn : Nat) (evts : Bool) (c : Chip) : (release t tn evts c).tt = c.tt := by
  obtain ⟨n, c', clk, j, seen, rel, hrel, -, -, hview⟩ := release_gives_job t tn evts c
  rw [hrel, dispatch_tt]
  exact congrArg JobView.tt hview

/-- A release that serves the pending events gives the task a job with their bits as causes, and none stays pending (R60, R67). -/
theorem release_serves_events (t tn : Nat) (c : Chip) :
    (∃ j, (task (release t tn true c) t).job = some j ∧ j.tn = tn ∧ Mem.rdLe j.sys 24 4 = (task c t).evtPend % 2 ^ 32)
      ∧ (task (release t tn true c) t).evtPend = 0 := by
  obtain ⟨n, c', clk, j, seen, rel, hrel, htn, hsys, hview⟩ := release_gives_job t tn true c
  have htask : (task c' t).quiet = Task.released j seen true (task c t).quiet := by
    have h := congrArg (fun v => v.task t) hview
    rwa [JobView.upd_self] at h
  have hsched := dispatch_scheduled n c' t
  rw [hrel]
  refine ⟨⟨j, hsched.reads Task.job (fun _ _ => rfl) htask, htn, ?_⟩, hsched.reads Task.evtPend (fun _ _ => rfl) htask⟩
  rw [hsys, sysBytes_cause, if_pos rfl]

/-- What a release, the recorder, the counters and the tasks do not hold, a release that is skipped, shed or made leaves. -/
theorem tryRelease_keeps {β : Type} (g : Chip → β) (hcore : ∀ c, g c.core = g c) (htask : ∀ t f c, g (updTask t f c) = g c)
    (hrel : ∀ t tn evts c, g (release t tn evts c) = g c) (t tn : Nat) (c : Chip) : g (tryRelease t tn c) = g c := by
  have hbump : ∀ n c, g (bump n c) = g c := fun n c => (keeps_bump n).reads hcore c
  have hshed : ∀ c, g (recShed t c) = g c := fun c => by
    unfold recShed
    split
    · rfl
    · rw [hbump, (keeps_record _ _ _).reads hcore, htask]
  unfold tryRelease
  extract_lets k cls due evts skip c1 shed c2
  split
  · rfl
  · rw [when_keeps g _ _ _ (hrel t tn evts c2), when_keeps g _ _ _ (by rw [hbump, hshed, htask]),
      when_keeps g _ _ _ (by rw [hbump, htask])]

@[simp] theorem tryRelease_mem (t tn : Nat) (c : Chip) : (tryRelease t tn c).mem = c.mem :=
  tryRelease_keeps (fun c => c.mem) Chip.core_mem updTask_mem release_mem t tn c

@[simp] theorem tryRelease_tt (t tn : Nat) (c : Chip) : (tryRelease t tn c).tt = c.tt :=
  tryRelease_keeps (fun c => c.tt) Chip.core_tt updTask_tt release_tt t tn c

/-- A task with an active job is not released (R41, R68). -/
theorem tryRelease_busy {t tn : Nat} {c : Chip} (hjob : (task c t).job ≠ none) : tryRelease t tn c = c := by
  have hsome : (task c t).job.isSome = true := Option.isSome_iff_ne_none.2 hjob
  simp [tryRelease, hsome]

/-- A task of class E without a job, with an event that the boundary may serve, is released for it (R65, R67). -/
theorem tryRelease_event {t tn x : Nat} {c : Chip} (hcls : taskCls c t = .e)
    (hst : (task c t).st = .idle ∨ (task c t).st = .staged) (hjob : (task c t).job = none) (hrel : (task c t).relTn ≠ some tn)
    (hpend : (task c t).evtPend ≠ 0) (htn : (task c t).evtTn = some x) (hx : x ≤ tn) : tryRelease t tn c = release t tn true c := by
  have hevts : ((task c t).evtPend != 0) = true := by simp [hpend]
  rcases hst with hst | hst <;> simp [tryRelease, hst, hjob, hrel, hcls, hevts, htn, hx]

/-! ### The row (R120) -/

/-- The event's cause bit becomes pending, for the event's boundary unless a job is active (R67, R68). -/
def Task.timerPending (busy : Bool) (tnEv : Nat) (k : Task) : Task :=
  { k with evtPend := k.evtPend ||| 64, evtCount := k.evtCount + 1, evtTn := if busy then none else some (k.evtTn.getD tnEv) }

/-- The block with the event pending for its task. -/
def timerPends (x : HwTimer) (c : Chip) : Chip := updTask x.task (Task.timerPending (task c x.task).job.isSome x.tnEv) c

/-- What a used event does to its task: a suspended one counts it as lost, another has it pending and is released where it may be. -/
def timerServed (x : HwTimer) (c : Chip) : Chip :=
  if (task c x.task).st = .suspended then updTask x.task (fun k => { k with evtLost := (k.evtLost + 1) % 2 ^ 32 }) c
  else
    match relBoundary c x.task with
    | some tn => tryRelease x.task tn (timerPends x c)
    | none => timerPends x c

/-- The block `c'` is `c` with event `e` used: it is disarmed, and of task `t` nothing changes but the states of its native timers. -/
def TimerUsed (e t : Nat) (c c' : Chip) : Prop :=
  c'.mem = c.mem ∧ c'.sets = c.sets ∧ (∃ timers, c'.tt = { c.tt with hwTimers := timers } ∧ (Map.getD timers e {}).armed = false)
    ∧ ∃ insts, task c' t = { task c t with insts := insts }

/-- The timer's own ARMED flag shows in nothing of a task but its states of native timers. -/
theorem TimerUsed.upd_insts {e t : Nat} {c c' : Chip} (h : TimerUsed e t c c') (u : Nat) (f : Map (List Byte) → Map (List Byte)) :
    TimerUsed e t c (updTask u (fun k => { k with insts := f k.insts }) c') := by
  obtain ⟨hmem, hsets, htt, insts, htask⟩ := h
  refine ⟨hmem, hsets, htt, ?_⟩
  by_cases hu : t = u
  · subst hu
    exact ⟨_, by rw [updTask_self, htask]⟩
  · exact ⟨insts, by rw [updTask_ne u t _ _ hu, htask]⟩

section
variable {dt e : Nat} {c : Chip}

/-- An event that is not armed, or not yet due, changes nothing. -/
theorem evHwTimerEvent_not_due (h : (Map.getD (pass dt c).tt.hwTimers e {}).armed = false
    ∨ (pass dt c).tt.tn < (Map.getD (pass dt c).tt.hwTimers e {}).tnEv) : evHwTimerEvent dt e c = pass dt c := by
  rcases h with h | h <;> simp only [evHwTimerEvent, h, decide_true, Bool.not_false, Bool.or_true, Bool.true_or, if_true]

/-- An armed event that is due is used, and serves its task (R120). -/
theorem evHwTimerEvent_due (hr : releases (pass dt c) = true) (ha : (Map.getD (pass dt c).tt.hwTimers e {}).armed = true)
    (hd : (Map.getD (pass dt c).tt.hwTimers e {}).tnEv ≤ (pass dt c).tt.tn) :
    ∃ c1, TimerUsed e (Map.getD (pass dt c).tt.hwTimers e {}).task (pass dt c) c1
      ∧ evHwTimerEvent dt e c = timerServed (Map.getD (pass dt c).tt.hwTimers e {}) c1 := by
  unfold evHwTimerEvent
  extract_lets c0 x t start tt used c1
  have hgo : ¬(!releases c0 || !x.armed || decide (c0.tt.tn < x.tnEv)) = true := by
    have hr : releases c0 = true := hr
    have ha : x.armed = true := ha
    have hd : x.tnEv ≤ c0.tt.tn := hd
    simp [hr, ha, hd]
  have hused : TimerUsed e x.task c0 used := ⟨rfl, rfl, ⟨_, rfl, by rw [Map.getD_put_self]⟩, (task c0 x.task).insts, rfl⟩
  have h1 : TimerUsed e x.task c0 c1 := by
    clear_value start
    cases start with
    | none => exact hused
    | some _ => exact hused.upd_insts _ _
  exact ⟨c1, h1, by rw [if_neg hgo]; rfl⟩

end

/-! ### What serving its task comes to (R68, R71) -/

@[simp] theorem timerServed_mem (x : HwTimer) (c : Chip) : (timerServed x c).mem = c.mem := by
  unfold timerServed timerPends
  split
  · rfl
  · split <;> simp

@[simp] theorem timerServed_tt (x : HwTimer) (c : Chip) : (timerServed x c).tt = c.tt := by
  unfold timerServed timerPends
  split
  · rfl
  · split <;> simp

section
variable {x : HwTimer} {c : Chip}

theorem task_timerServed_of_suspended (h : (task c x.task).st = .suspended) :
    task (timerServed x c) x.task = { task c x.task with evtLost := ((task c x.task).evtLost + 1) % 2 ^ 32 } := by
  rw [timerServed, if_pos h, updTask_self]

theorem task_timerPends : task (timerPends x c) x.task = (task c x.task).timerPending (task c x.task).job.isSome x.tnEv := updTask_self _ _ _

/-- Beside an active job the event stays pending (R68). -/
theorem task_timerServed_of_busy (h : (task c x.task).st ≠ .suspended) (hjob : (task c x.task).job ≠ none) :
    task (timerServed x c) x.task = (task c x.task).timerPending true x.tnEv := by
  have hpends : task (timerPends x c) x.task = (task c x.task).timerPending true x.tnEv := by
    rw [task_timerPends, Option.isSome_iff_ne_none.2 hjob]
  have hactive : (task (timerPends x c) x.task).job ≠ none := by rw [hpends]; exact hjob
  rw [timerServed, if_neg h]
  split
  · rw [tryRelease_busy hactive, hpends]
  · exact hpends

/-- An idle class E task is released for the present release boundary, when the event may be served at it (R68). -/
theorem timerServed_of_idle {tn : Nat} (hst : (task c x.task).st = .idle ∨ (task c x.task).st = .staged)
    (hjob : (task c x.task).job = none) (hevt : (task c x.task).evtTn = none) (hcls : taskCls c x.task = .e)
    (hb : relBoundary c x.task = some tn) (hx : x.tnEv ≤ tn) (hrel : (task c x.task).relTn ≠ some tn) :
    timerServed x c = release x.task tn true (timerPends x c) := by
  have hsusp : (task c x.task).st ≠ .suspended := by rcases hst with h | h <;> simp [h]
  have htask : task (timerPends x c) x.task = (task c x.task).timerPending false x.tnEv := by rw [task_timerPends, hjob, Option.isSome_none]
  have hst' : (task (timerPends x c) x.task).st = .idle ∨ (task (timerPends x c) x.task).st = .staged := by rwa [htask]
  have hjob' : (task (timerPends x c) x.task).job = none := by rwa [htask]
  have hrel' : (task (timerPends x c) x.task).relTn ≠ some tn := by rwa [htask]
  have hpend : (task (timerPends x c) x.task).evtPend ≠ 0 := by
    rw [htask]
    simp [Task.timerPending, Nat.or_eq_zero_iff]
  have htn : (task (timerPends x c) x.task).evtTn = some x.tnEv := by
    rw [htask]
    simp [Task.timerPending, hevt]
  have hcls : taskCls (timerPends x c) x.task = .e := hcls
  simp only [timerServed, if_neg hsusp, hb, tryRelease_event hcls hst' hjob' hrel' hpend htn hx]

end

/-- A task's release boundary is read off the main set and the timetable. -/
theorem relBoundary_of_used {e u t : Nat} {c c' : Chip} (h : TimerUsed e u c c') : relBoundary c' t = relBoundary c t := by
  obtain ⟨-, hsets, ⟨timers, htt, -⟩, -⟩ := h
  have hcode : c'.tt.tickCode = c.tt.tickCode := by rw [htt]
  have htn : c'.tt.tn = c.tt.tn := by rw [htt]
  unfold relBoundary cfg tTick
  rw [hsets, hcode, htn]

theorem taskCls_of_used {e u t : Nat} {c c' : Chip} (h : TimerUsed e u c c') : taskCls c' t = taskCls c t := by
  obtain ⟨-, hsets, -⟩ := h
  rw [taskCls, cfg, hsets, taskCls, cfg]

/-- Bit 6 of the causes is set once the event is pending (R118). -/
theorem bit_six_of_pending (n : Nat) : bit ((n ||| 64) % 2 ^ 32) 6 = true := by
  have h64 : Nat.testBit 64 6 = true := by decide
  have h : ((n ||| 64) % 2 ^ 32).testBit 6 = true := by
    rw [Nat.testBit_mod_two_pow, Nat.testBit_or, h64]
    simp
  rwa [Nat.testBit_eq_decide_div_mod_eq] at h

/-- Settles O23: an event that is due is used and serves its task, by the task's state: `timerServed` says how. -/
theorem hardwareTimerEvents : Obligations.HardwareTimerEvents := by
  intro dt e s c x k
  refine ⟨fun h => ?_, fun hr ha hd => ?_⟩
  · show execHwTimerEvent dt e s = _
    rw [execHwTimerEvent, lift_eq, evHwTimerEvent_not_due h]
  obtain ⟨c1, hused, hev⟩ := evHwTimerEvent_due (c := s.chip) hr ha hd
  have hgoes : Goes (.hwTimerEvent dt e) s (timerServed x c1) := by
    show execHwTimerEvent dt e s = _
    rw [execHwTimerEvent, lift_eq, hev]
  have hbound : relBoundary c1 x.task = relBoundary c x.task := relBoundary_of_used hused
  have hcls : taskCls c1 x.task = taskCls c x.task := taskCls_of_used hused
  obtain ⟨hmem, -, ⟨timers, htt, harmed⟩, insts, htask⟩ := hused
  have htask : task c1 x.task = { k with insts := insts } := htask
  refine ⟨_, hgoes, ?armed, ?mem, ?tn, ?suspended, ?busy, ?idle⟩
  case armed => rwa [timerServed_tt, htt]
  case mem => rw [timerServed_mem, hmem]
  case tn => rw [timerServed_tt, htt]
  case suspended =>
    intro hst
    have hserved := task_timerServed_of_suspended (c := c1) (x := x) (by rw [htask]; exact hst)
    rw [hserved, htask]
    exact ⟨rfl, rfl⟩
  case busy =>
    intro hst hjob
    have hserved := task_timerServed_of_busy (c := c1) (x := x) (by rw [htask]; exact hst) (by rw [htask]; exact hjob)
    rw [hserved, htask]
    exact ⟨rfl, rfl⟩
  case idle =>
    intro tn hst hjob hevt _ he hb hx hrel
    have hserved : timerServed x c1 = release x.task tn true (timerPends x c1) := by
      refine timerServed_of_idle ?_ ?_ ?_ (hcls.trans he) (hbound.trans hb) hx ?_ <;> rw [htask]
      exacts [hst, hjob, hevt, hrel]
    obtain ⟨⟨j, hj, htn, hcause⟩, hpend⟩ := release_serves_events x.task tn (timerPends x c1)
    have hbits : (task (timerPends x c1) x.task).evtPend = k.evtPend ||| 64 := by
      rw [task_timerPends, htask]
      rfl
    rw [hbits] at hcause
    rw [hserved]
    exact ⟨j, hj, htn, by rw [hcause]; exact bit_six_of_pending _, hpend⟩

end Sys2Proof.Machine
end

section
/-! A missed deadline of class S beside a job that has ended (R69, R74, R514). -/
namespace Sys2Proof.Machine

open Sys2Proof Sys2Proof.Safety

/-- A row that is the lift of a change of the block leaves the block that the change makes. -/
theorem goes_lift_eq {i : Instr} {f : Chip → Chip} {s : State} {c : Chip} (hrow : exec i s = lift f s) (h : Goes i s c) : c = f s.chip := by
  rw [Goes, hrow, lift_eq] at h
  injection h with h
  exact (congrArg State.chip h).symm

/-- A module in RUN: the job of task 1, of class S, has not ended; the job of task 2, of class C, has ended, with a write of byte 1 to global
memory address 0 in its journal. -/
def lateBesideEnded : State :=
  { chip := { sup := { mstate := .run }, tt := { tn := 10, ticking := true }
              sets := { main := { words := [(0x2101 * 256 + 1, 1), (0x2102 * 256 + 1, 2)] } }
              tasks := [(1, { st := .running, job := some {} }),
                        (2, { st := .running, job := some { done := true, journal := [(false, 0, [1])] } })] } }

/-- The deadline of task 1 trips the module, and the flush of the job of task 2 runs to its end (R74, R514). -/
theorem lateBesideEnded_flushes : Mem.rd (evJobDeadline 0 1 lateBesideEnded.chip).mem.glb 0 = 1 := by decide +kernel

/-- Refutes O22: its clause of class S leaves global memory as it was, but the trip lets the flush of another task's ended job run to its
end (R74, R514). -/
theorem not_deadlineOverruns : ¬ Obligations.DeadlineOverruns := by
  intro h
  obtain ⟨-, hs, -⟩ := h 0 1 lateBesideEnded {} rfl
  obtain ⟨c, hgoes, -, hglb, -⟩ := hs rfl (by decide +kernel)
  have hc : c = evJobDeadline 0 1 lateBesideEnded.chip := goes_lift_eq rfl hgoes
  have hblank : Mem.rd c.mem.glb 0 = Mem.blank := by rw [hglb]; rfl
  rw [hc, lateBesideEnded_flushes] at hblank
  exact absurd hblank (by decide)

end Sys2Proof.Machine
end

section
/-! What a block row runs (R96, R98, R104, R107): the body of its opcode, what that body reads of the block, and where it sends the job. -/
namespace Sys2Proof.Machine

open Sys2Proof Sys2Proof.Safety

/-- What a block of some form computes from what it sees, its inputs, its outputs and the state it keeps. -/
abbrev Body := Env → List Ref → List Ref → List Byte → BRes

/-- The part of the module that a block reads besides its job: the main set, global and retained memory (R88, R93). -/
def Chip.seen (c : Chip) : Chip := { sets := { main := c.sets.main }, mem := { glb := c.mem.glb, ret := c.mem.ret } }

/-- What a block sees, with nothing of the module but what a block reads. -/
def Env.seen (e : Env) : Env := { e with c := e.c.seen }

/-- A result without its effect on the module: what it does to the job. -/
def BRes.forJob (r : BRes) : BRes := { r with eff := id }

/-- The body does to its job what it would do if the module held nothing but what a block reads, and it does not return from a list. -/
structure Local (body : Body) : Prop where
  seen  : ∀ e ins outs st, (body e ins outs st).forJob = (body e.seen ins outs st).forJob
  stays : ∀ e ins outs st, (body e ins outs st).ctl ≠ .ret

theorem forJob_ite {p : Prop} [Decidable p] {x y x' y' : BRes} (hx : x.forJob = x'.forJob) (hy : y.forJob = y'.forJob) :
    (if p then x else y).forJob = (if p then x' else y').forJob := by
  split
  · exact hx
  · exact hy

/-- Two results that differ in their effect on the module alone do the same to the job. -/
theorem forJob_eff {r r' : BRes} {f f' : Chip → Chip} (h : r.forJob = r'.forJob) :
    BRes.forJob { r with eff := f } = BRes.forJob { r' with eff := f' } := h

theorem ctl_ite {p : Prop} [Decidable p] {x y : BRes} (hx : x.ctl ≠ .ret) (hy : y.ctl ≠ .ret) : (if p then x else y).ctl ≠ .ret := by
  split
  · exact hx
  · exact hy

/-! That cutting the module down changes nothing is by definition: a body reads it through the journal over the two memories, and through the
main set. The journal's recursion has to unfold on an open list for this, which needs `smartUnfolding` off. -/

section
set_option smartUnfolding false

theorem val_seen (e : Env) (r : Ref) : e.seen.val r = e.val r := rfl

/-! The bodies that branch over their results; a zero divisor or an index out of range is noted to the module alone (R100, R106). -/

theorem local_div : Local bodyDiv where
  seen _ _ _ _ := forJob_ite (forJob_eff rfl) rfl
  stays _ _ _ _ := ctl_ite nofun nofun

theorem local_mod : Local bodyMod where
  seen _ _ _ _ := forJob_ite (forJob_eff rfl) rfl
  stays _ _ _ _ := ctl_ite nofun nofun

theorem local_qdiv : Local bodyQdiv where
  seen _ _ _ _ := forJob_ite (forJob_eff rfl) rfl
  stays _ _ _ _ := ctl_ite nofun nofun

theorem local_ldx : Local bodyLdx where
  seen _ _ _ _ := forJob_ite rfl (forJob_eff rfl)
  stays _ _ _ _ := ctl_ite nofun nofun

theorem local_stx : Local bodyStx where
  seen _ _ _ _ := forJob_ite rfl (forJob_eff (r := { cyc := 6 }) (r' := { cyc := 6 }) rfl)
  stays _ _ _ _ := ctl_ite nofun nofun

theorem local_trans : Local bodyTrans where
  seen _ _ _ _ := rfl
  stays _ _ _ _ := ctl_ite nofun nofun

theorem local_jmpc : Local bodyJmpc where
  seen _ _ _ _ := rfl
  stays e ins outs st := by
    unfold bodyJmpc
    dsimp only
    split <;> nofun

theorem local_jmpn : Local bodyJmpn where
  seen _ _ _ _ := rfl
  stays e ins outs st := by
    unfold bodyJmpn
    dsimp only
    split <;> nofun

theorem local_loopb : Local bodyLoopb where
  seen _ _ _ _ := rfl
  stays _ _ _ _ := ctl_ite nofun nofun

end

/-- Every block row runs a body under the form of its opcode; the bodies are local, but for those of Sage, which read a slot, and for RET. -/
theorem block_row {i : Instr} {sg : Sig} {b : Blk} (h : i.block = some (sg, b)) :
    ∃ body : Body, (∀ s, exec i s = runBlock sg body b s) ∧ (sg.op / 256 ≠ 0x10 → sg.op ≠ 0x1606 → Local body) := by
  cases i <;> cases h <;> refine ⟨_, fun _ => rfl, fun hsage hret => ?_⟩
  case sgsub => exact absurd rfl hsage
  case sgcol => exact absurd rfl hsage
  case sgstat => exact absurd rfl hsage
  case ret => exact absurd rfl hret
  case div => exact local_div
  case mod => exact local_mod
  case qdiv => exact local_qdiv
  case ldx => exact local_ldx
  case stx => exact local_stx
  case trans => exact local_trans
  case jmpc => exact local_jmpc
  case jmpn => exact local_jmpn
  case loopb => exact local_loopb
  all_goals
    refine ⟨?_, fun _ _ _ _ => nofun⟩
    set_option smartUnfolding false in
    exact fun _ _ _ _ => rfl

/-- A row of no block goes on. -/
theorem next_of_block_none {i : Instr} (h : i.block = none) (s : State) : ∃ t, exec i s = .next t := by
  cases i <;> cases h <;> exact ⟨_, rfl⟩

end Sys2Proof.Machine
end

section
/-! Block rows that are skipped, have no running job, or carry a block that no image can hold (R86, R95, R98, R105). -/
namespace Sys2Proof.Machine

open Sys2Proof Sys2Proof.Safety

theorem Space.slow_eq (sp : Space) : sp.slow = (sp == .glb || sp == .ret) := by cases sp <;> rfl

/-- The cycles of the reads of a list of operands, with the two spaces of R105 named. -/
theorem readCost_eq (rs : List Ref) : readCost rs = 60 * (rs.filter (fun r => r.sp == .glb || r.sp == .ret)).length := by
  simp only [readCost, Space.slow_eq]

/-- Settles O15: every block row runs a body (`block_row`), so it idles, skips or stops as `runBlock` does; no other row stops. -/
theorem blockRowsThatDoNotRun : Obligations.BlockRowsThatDoNotRun := by
  refine ⟨?idle, ?skips, ?illFormed, ?goesOn⟩
  case idle =>
    intro i sg b s hi hgood hidle
    obtain ⟨body, hrow, -⟩ := block_row hi
    rw [hrow, runBlock_good sg body b s hgood, evalBlock_idle sg body b s.chip hidle]
  case skips =>
    intro i sg b s j hi hgood hjob hst hdone hskip
    obtain ⟨body, hrow, -⟩ := block_row hi
    rw [Goes, hrow, runBlock_good sg body b s hgood, evalBlock_skips sg body b s.chip j hjob hst hdone hskip, Blk.passedBy, readCost_eq]
  case illFormed =>
    rintro i s ⟨sg, b, hi, hbad⟩
    obtain ⟨body, hrow, -⟩ := block_row hi
    rw [hrow, runBlock_bad sg body b s hbad]
  case goesOn =>
    intro i s hgood
    cases hi : i.block with
    | none => exact next_of_block_none hi s
    | some p =>
      obtain ⟨sg, b⟩ := p
      obtain ⟨body, hrow, -⟩ := block_row hi
      exact ⟨_, (hrow s).trans (runBlock_good sg body b s (hgood sg b hi))⟩

end Sys2Proof.Machine
end

section
/-! A job that is aborted, or trips the module, is gone (R70 to R74). -/
namespace Sys2Proof.Machine

open Sys2Proof Sys2Proof.Safety

/-! ### What keeps the main set -/

/-- Records, events to sessions, completions, counters and messages keep the main set. -/
theorem Keeps.main {f : Chip → Chip} (hf : Keeps f) (c : Chip) : (f c).sets.main = c.sets.main :=
  hf.reads (g := fun c => c.sets.main) (fun _ => rfl) c

/-- Records, events to sessions, completions, counters and messages keep the tasks. -/
theorem Keeps.tasks {f : Chip → Chip} (hf : Keeps f) (c : Chip) : (f c).tasks = c.tasks :=
  hf.reads (g := fun c => c.tasks) (fun _ => rfl) c

theorem keeps_recTask (code t tn : Nat) : Keeps (recTask code t tn) := fun c => keeps_record code _ _ c

theorem main_cancelSage (c : Chip) : (cancelSage c).sets.main = c.sets.main := by
  unfold cancelSage
  refine forAll_keeps (fun c => c.sets.main) _ _ (fun e c => ?_) c
  rw [(keeps_sageDone _ _ _ _).main]

theorem main_finishJobs (c : Chip) : (finishJobs c).sets.main = c.sets.main := by
  refine forAll_keeps (fun c => c.sets.main) _ _ (fun t c => ?_) c
  split
  · split
    · exact congrArg JobView.main (view_finishJob _ _ c)
    · rfl
  · rfl

/-! ### What keeps the tasks -/

theorem tasks_endPeriod (ch : Nat) (c : Chip) : (endPeriod ch c).tasks = c.tasks := by
  unfold endPeriod
  dsimp only
  split
  · split
    · rfl
    · split
      · rfl
      · rw [(keeps_complete _ _ _ _ _).tasks, (keeps_record _ _ _).tasks]
        rfl
  · rfl

theorem tasks_reachDo (ch : Nat) (on : Bool) (c : Chip) : (reachDo ch on c).tasks = c.tasks := by
  have hend : (when (!on) (endPeriod ch) c).tasks = c.tasks := when_keeps Chip.tasks _ _ _ (tasks_endPeriod ch c)
  unfold reachDo
  dsimp only
  split
  · split
    · exact hend
    · rw [bump_tasks]
      exact hend
  · exact hend

theorem tasks_pushDo (ch : Nat) (on : Bool) (c : Chip) : (pushDo ch on c).tasks = c.tasks := by
  unfold pushDo
  dsimp only
  split
  · rfl
  · split
    · rfl
    · exact tasks_reachDo ch on _

theorem tasks_pushAo (ch v : Nat) (c : Chip) : (pushAo ch v c).tasks = c.tasks := rfl

theorem tasks_safeCommit (c : Chip) : (safeCommit c).tasks = c.tasks := by
  unfold safeCommit
  dsimp only
  rw [forAll_keeps Chip.tasks _ _ (fun ch c => tasks_pushDo ch _ c), forAll_keeps Chip.tasks _ _ (fun ch c => tasks_pushAo ch _ c)]

theorem tasks_canHostDone (ch bf : Nat) (c : Chip) : (canHostDone ch bf c).tasks = c.tasks := by
  unfold canHostDone
  dsimp only
  rw [forAll_keeps Chip.tasks _ _ (fun h c => (keeps_complete _ _ _ _ _).tasks c)]

theorem tasks_abortCan (c : Chip) : (abortCan c).tasks = c.tasks := by
  unfold abortCan
  refine forAll_keeps Chip.tasks _ _ (fun e c => ?_) c
  refine forAll_keeps Chip.tasks _ _ (fun b c => ?_) c
  exact when_keeps Chip.tasks _ _ _ (tasks_canHostDone _ _ _)

theorem tasks_tripFrames (c : Chip) : (tripFrames c).tasks = c.tasks := by
  unfold tripFrames
  split
  · rfl
  · refine forAll_keeps Chip.tasks _ _ (fun _ c => ?_) c
    rw [bump_tasks, netSend_tasks, emit_tasks]

theorem tasks_cancelThrow (code : Nat) (c : Chip) : (cancelThrow code c).tasks = c.tasks := by
  have hend : ∀ status old new tn staged drops c, (endThrow status old new tn staged drops c).tasks = c.tasks := by
    intro status old new tn staged drops c
    unfold endThrow
    dsimp only
    split
    · exact (keeps_complete _ _ _ _ _).tasks _
    · rfl
  unfold cancelThrow
  split
  · dsimp only
    rw [hend, (keeps_record _ _ _).tasks]
    rfl
  · rfl

theorem task_recTask (code t tn u : Nat) (c : Chip) : task (recTask code t tn c) u = task c u := by
  rw [task, (keeps_recTask code t tn).tasks, task]

/-! ### No job is left -/

/-- What one element of a list brings about and every element keeps holds at the end. -/
theorem forAll_attains {α : Type} {P : Chip → Prop} {f : α → Chip → Chip} {a : α} (hset : ∀ c, P (f a c))
    (hkeep : ∀ x c, P c → P (f x c)) : ∀ {l : List α}, a ∈ l → ∀ c, P (forAll l f c) := by
  have hlast : ∀ (l : List α) c, P c → P (forAll l f c) := by
    intro l
    induction l with
    | nil => exact fun _ h => h
    | cons x r ih => exact fun c h => ih (f x c) (hkeep x c h)
  intro l
  induction l with
  | nil => exact fun h => absurd h List.not_mem_nil
  | cons x r ih =>
    intro h c
    rcases List.mem_cons.1 h with rfl | h
    · exact hlast r _ (hset c)
    · exact ih h (f x c)

/-- Every task of the main set is halted without a job (R64, R78). -/
theorem job_haltTasks {t : Nat} {dropped : Bool} {c : Chip} (ht : t ∈ usedTasks c) : (task (haltTasks dropped c) t).job = none := by
  unfold haltTasks
  refine forAll_attains (P := fun c => (task c t).job = none) (a := t) (fun c => ?_) (fun u c h => ?_) ht c
  · rw [updTask_self]
  · by_cases hu : t = u
    · rw [hu, updTask_self]
    · rw [updTask_ne _ _ _ _ hu]
      split
      · rwa [task, when_keeps Chip.tasks _ _ _ ((keeps_recTask _ _ _).tasks c)]
      · exact h

theorem mem_usedTasks {t : Nat} {c : Chip} (ht : t < 256) (hcls : taskCls c t ≠ .none) : t ∈ usedTasks c := by
  simpa [usedTasks, ht] using hcls

/-- A trip leaves no job (R74). -/
theorem job_trip {t tn u : Nat} {c : Chip} (ht : u < 256) (hcls : taskCls c u ≠ .none) : (task (trip t tn c) u).job = none := by
  have hmain : ∀ {c' : Chip}, c'.sets.main = c.sets.main → u ∈ usedTasks c' := fun h =>
    mem_usedTasks ht (by rwa [taskCls, cfg, h])
  unfold trip tripSequence
  extract_lets c1 c2 c3 sets c4 c5 c6 c7 c8
  have h1 : c1.sets.main = c.sets.main := (main_cancelSage _).trans ((keeps_record _ _ _).main c)
  have h2 : c2.sets.main = c.sets.main :=
    (when_keeps (fun c => c.sets.main) _ (fun c => saveInsts (finishJobs c)) _ (main_finishJobs c1)).trans h1
  have h4 : c4.tasks = c3.tasks := (keeps_eventAll _ _).tasks _
  have h6 : c6.tasks = c3.tasks := (tasks_abortCan _).trans ((tasks_safeCommit _).trans h4)
  have h7 : c7.tasks = c3.tasks := (when_keeps Chip.tasks _ _ _ (tasks_tripFrames _)).trans h6
  have h8 : c8.tasks = c3.tasks := (when_keeps Chip.tasks _ _ _ (emit_tasks _ _)).trans h7
  rw [task, tasks_cancelThrow, h8]
  exact job_haltTasks (hmain h2)

/-- Bringing an engine up to date moves no job. -/
theorem job_dispatch (n t : Nat) (c : Chip) : (task (dispatch n c) t).job = (task c t).job := (dispatch_scheduled n c t).job_eq rfl

/-- Two blocks of one view have the same jobs. -/
theorem job_of_view {c c' : Chip} (h : c.view = c'.view) (t : Nat) : (task c t).job = (task c' t).job :=
  congrArg (fun v => (v.task t).job) h

/-- What the limit of consecutive overruns does leaves a task without a job without one (R70, R71). -/
theorem job_overrunLimit {t tn : Nat} {c : Chip} (h : (task c t).job = none) : (task (overrunLimit t tn c) t).job = none := by
  unfold overrunLimit
  split
  · rw [task_recTask, updTask_self]
    exact h
  · unfold raiseBound
    dsimp only
    rw [job_of_view (when_keeps Chip.view _ _ _ (view_raiseEvt _ _ _)), task_recTask, updTask_self]
    exact h

/-- An overrun leaves its task without a job (R69, R70, R72). -/
theorem job_overrun {t tn : Nat} {c : Chip} (ht : t < 256) : (task (overrun t tn c) t).job = none := by
  unfold overrun
  extract_lets cls c1 c2 c3
  split
  · rename_i hs
    rw [task_bump]
    exact job_trip ht (fun h => Cls.noConfusion (hs.symm.trans h))
  · have h2 : (task c2 t).job = none := by
      rw [task_bump, task_recTask, updTask_self]
    rw [job_dispatch]
    show (task (when _ _ c2) t).job = none
    unfold when
    split
    · exact job_overrunLimit h2
    · exact h2

/-- A job that is aborted is gone (R72). -/
theorem job_abortJob {t code src : Nat} {ws : List Nat} {c : Chip} (ht : t < 256) : (task (abortJob t code src ws c) t).job = none := by
  unfold abortJob
  split
  · assumption
  · exact job_overrun ht

end Sys2Proof.Machine
end

section
/-! What a block leaves depends on its job, its set and the memory it reads alone (R104, R112, R202). -/
namespace Sys2Proof.Machine

open Sys2Proof Sys2Proof.Safety

/-- A block row that goes through leaves what its block leaves. -/
theorem goes_block {i : Instr} {sg : Sig} {body : Body} {b : Blk} (hrow : ∀ s, exec i s = runBlock sg body b s) {s : State} {c : Chip}
    (h : Goes i s c) : c = evalBlock sg body b s.chip := by
  rw [Goes, hrow, runBlock] at h
  split at h
  · rw [lift_eq] at h
    injection h with h
    exact (congrArg State.chip h).symm
  · cases h

/-- The job a block of job `j` leaves where it leaves one: the job itself when it does not run, the job past the block when the block is
skipped, else the job after the block. -/
def Blk.leaves (b : Blk) (sg : Sig) (body : Body) (st : TaskSt) (j : Job) (c : Chip) : Job :=
  if st != .running || j.done then j
  else if b.skips j c then b.passedBy j
  else jobAfter sg b j (body (b.env j c) (sg.ins b) (sg.outs b) ((b.env j c).inst sg)) c.time.clock

/-- The job after a block is the one of its result; a journal that overflows leaves none (R110). -/
theorem job_chipAfter {sg : Sig} {b : Blk} {j k : Job} {r : BRes} {c : Chip} (h : (task (chipAfter sg b j r c) b.task.val).job = some k) :
    k = jobAfter sg b j r c.time.clock := by
  unfold chipAfter at h
  dsimp only at h
  split at h
  · rw [job_abortJob b.task.isLt] at h
    cases h
  · rw [updTask_self] at h
    exact (Option.some.inj h).symm

theorem job_evalBlock {sg : Sig} {body : Body} {b : Blk} {j k : Job} {c : Chip} (hj : (task c b.task.val).job = some j)
    (hk : (task (evalBlock sg body b c) b.task.val).job = some k) : k = b.leaves sg body (task c b.task.val).st j c := by
  unfold evalBlock at hk
  dsimp only at hk
  rw [hj] at hk
  dsimp only at hk
  unfold Blk.leaves
  split
  · rename_i hidle
    rw [if_pos hidle, hj] at hk
    exact (Option.some.inj hk).symm
  · rename_i hruns
    rw [if_neg hruns] at hk
    split
    · rename_i hskip
      rw [if_pos hskip, updTask_self] at hk
      exact (Option.some.inj hk).symm
    · rename_i hskip
      rw [if_neg hskip] at hk
      exact job_chipAfter hk

/-! ### The job that a block leaves in two modules -/

/-- The clock tells only in a return from a list (R514). -/
theorem Job.go_of_ne_ret {ct : Ctl} (h : ct ≠ .ret) (j : Job) (now now' : Nat) : j.go ct now = j.go ct now' := by
  cases ct with
  | ret => exact absurd rfl h
  | _ => rfl

/-- Two results that do the same to the job, without a return, leave the same job at any two instants. -/
theorem jobAfter_eq {r r' : BRes} (hr : r.forJob = r'.forJob) (hc : r.ctl ≠ .ret) (sg : Sig) (b : Blk) (j : Job) (now now' : Nat) :
    jobAfter sg b j r now = jobAfter sg b j r' now' :=
  calc jobAfter sg b j r now = jobAfter sg b j r now' := Job.go_of_ne_ret hc _ now now'
    _ = jobAfter sg b j r.forJob now' := rfl
    _ = jobAfter sg b j r'.forJob now' := by rw [hr]

section
variable {c c' : Chip} (hmain : c.sets.main = c'.sets.main) (hglb : c.mem.glb = c'.mem.glb) (hret : c.mem.ret = c'.mem.ret)
include hmain hglb hret

/-- A block sees the same in two modules that hold the same main set and memories. -/
theorem env_seen_eq (b : Blk) (j : Job) : (b.env j c).seen = (b.env j c').seen := by
  simp only [Env.seen, Blk.env, Chip.seen, hmain, hglb, hret]

theorem skips_eq (b : Blk) (j : Job) : b.skips j c = b.skips j c' := by
  unfold Blk.skips
  simp only [← val_seen (b.env j _), env_seen_eq hmain hglb hret]

theorem inst_eq (b : Blk) (j : Job) (sg : Sig) : (b.env j c).inst sg = (b.env j c').inst sg := by
  show (b.env j c).seen.inst sg = (b.env j c').seen.inst sg
  rw [env_seen_eq hmain hglb hret]

/-- A body that is local does the same to the job in both. -/
theorem forJob_eq {body : Body} (hl : Local body) (b : Blk) (j : Job) (ins outs : List Ref) (st : List Byte) :
    (body (b.env j c) ins outs st).forJob = (body (b.env j c') ins outs st).forJob := by
  rw [hl.seen, env_seen_eq hmain hglb hret, ← hl.seen]

theorem leaves_eq {body : Body} (hl : Local body) (b : Blk) (sg : Sig) (st : TaskSt) (j : Job) :
    b.leaves sg body st j c = b.leaves sg body st j c' := by
  unfold Blk.leaves
  rw [skips_eq hmain hglb hret, inst_eq hmain hglb hret]
  rw [jobAfter_eq (forJob_eq hmain hglb hret hl b j _ _ _) (hl.stays _ _ _ _)]

end

/-- Settles O17: the body of the row is local, so the job it leaves is the same in both states. -/
theorem equalJobsWriteEqually : Obligations.EqualJobsWriteEqually := by
  intro i sg b s s' c c' j k k' hi hsage hret hmain hglb hrm hj hj' hst hc hc' hk hk'
  obtain ⟨body, hrow, hlocal⟩ := block_row hi
  rw [goes_block hrow hc] at hk
  rw [goes_block hrow hc'] at hk'
  rw [job_evalBlock hj hk, job_evalBlock hj' hk', hst]
  exact leaves_eq hmain hglb hrm (hlocal hsage hret) b sg _ j

end Sys2Proof.Machine
end

section
/-! Two's complement (R89): a raw value and the integer it stands for. -/
namespace Sys2Proof.Machine

open Sys2Proof

theorem two_pow_eq_double {n : Nat} (hn : 0 < n) : (2 : Int) ^ n = 2 * 2 ^ (n - 1) := by
  obtain ⟨m, rfl⟩ : ∃ m, n = m + 1 := ⟨n - 1, by omega⟩
  rw [Nat.add_sub_cancel, pow_succ, mul_comm]

/-- The integer that `n` bits stand for is their balanced remainder. -/
theorem signed_eq_bmod {n : Nat} (hn : 0 < n) (w : Nat) : signed n w = (w : Int).bmod (2 ^ n) := by
  have hhalf : ((2 : Int) ^ n + 1) / 2 = (2 ^ (n - 1) : Nat) := by rw [two_pow_eq_double hn]; push_cast; omega
  have hcast : (w : Int) % 2 ^ n = (w % 2 ^ n : Nat) := by push_cast; rfl
  rw [Int.bmod_def, signed]
  push_cast
  rw [hhalf, hcast]
  split <;> split <;> omega

/-- The raw value of an integer is its bit string. -/
theorem unsigned_eq_ofInt (n : Nat) (i : Int) : unsigned n i = (BitVec.ofInt n i).toNat := by
  rw [BitVec.toNat_ofInt]
  push_cast
  rfl

/-- The integer of a bit string's number is the one the bit string stands for. -/
theorem signed_eq_toInt {n : Nat} (hn : 0 < n) (w : Nat) : signed n w = (BitVec.ofNat n w).toInt := by
  rw [signed_eq_bmod hn, BitVec.toInt_eq_toNat_bmod, BitVec.toNat_ofNat, Int.natCast_emod, Int.emod_bmod]

theorem unsigned_cast (n : Nat) (i : Int) : (unsigned n i : Int) = i % 2 ^ n :=
  Int.toNat_of_nonneg (Int.emod_nonneg i (by positivity))

/-- An integer written in `n` bits and read back as two's complement is its balanced remainder. -/
theorem signed_unsigned {n : Nat} (hn : 0 < n) (i : Int) : signed n (unsigned n i) = i.bmod (2 ^ n) := by
  rw [signed_eq_bmod hn, unsigned_cast]
  exact_mod_cast Int.emod_bmod i (2 ^ n)

end Sys2Proof.Machine
end

section
/-! Raw shifts and rotates are those of bit strings (R99). -/
namespace Sys2Proof.Machine

open Sys2Proof

section
variable {w a : Nat} (ha : a < 2 ^ w)
include ha

theorem shlRaw_eq (n : Nat) : shlRaw w a n = (BitVec.ofNat w a <<< n).toNat := by
  rw [BitVec.toNat_shiftLeft, BitVec.toNat_ofNat, Nat.mod_eq_of_lt ha, Nat.shiftLeft_eq, shlRaw]
  split
  · rename_i hn
    exact (Nat.mod_eq_zero_of_dvd (Dvd.dvd.mul_left (Nat.pow_dvd_pow 2 hn) a)).symm
  · rfl

theorem shrRaw_eq (n : Nat) : shrRaw w a n = (BitVec.ofNat w a >>> n).toNat := by
  rw [BitVec.toNat_ushiftRight, BitVec.toNat_ofNat, Nat.mod_eq_of_lt ha, Nat.shiftRight_eq_div_pow, shrRaw]
  split
  · rename_i hn
    exact (Nat.div_eq_of_lt (ha.trans_le (Nat.pow_le_pow_right (by decide) hn))).symm
  · rfl

/-- The low and the high part of a rotated value do not overlap: their sum is the bit string of both. -/
theorem rolRaw_eq (hw : 0 < w) (n : Nat) : rolRaw w a n = ((BitVec.ofNat w a).rotateLeft n).toNat := by
  have hk : n % w < w := Nat.mod_lt n hw
  rw [BitVec.toNat_rotateLeft, BitVec.toNat_ofNat, Nat.mod_eq_of_lt ha, Nat.shiftLeft_eq, Nat.shiftRight_eq_div_pow, rolRaw]
  generalize n % w = k at hk
  have hsplit : 2 ^ w = 2 ^ k * 2 ^ (w - k) := by rw [← pow_add]; congr 1; omega
  have hhigh : a * 2 ^ k % 2 ^ w = 2 ^ k * (a % 2 ^ (w - k)) := by rw [hsplit, mul_comm a, Nat.mul_mod_mul_left]
  have hlow : a / 2 ^ (w - k) < 2 ^ k := Nat.div_lt_of_lt_mul (by rwa [mul_comm, ← hsplit])
  rw [hhigh, Nat.two_pow_add_eq_or_of_lt hlow]

theorem rorRaw_eq (hw : 0 < w) (n : Nat) : rorRaw w a n = ((BitVec.ofNat w a).rotateRight n).toNat := by
  have hk : n % w < w := Nat.mod_lt n hw
  rw [BitVec.toNat_rotateRight, BitVec.toNat_ofNat, Nat.mod_eq_of_lt ha, Nat.shiftLeft_eq, Nat.shiftRight_eq_div_pow, rorRaw]
  generalize n % w = k at hk
  have hsplit : 2 ^ w = 2 ^ (w - k) * 2 ^ k := by rw [← pow_add]; congr 1; omega
  have hhigh : ∀ x, x * 2 ^ (w - k) % 2 ^ w = 2 ^ (w - k) * (x % 2 ^ k) := fun x => by
    rw [hsplit, mul_comm x, Nat.mul_mod_mul_left]
  have hlow : a / 2 ^ k < 2 ^ (w - k) := Nat.div_lt_of_lt_mul (by rwa [mul_comm, ← hsplit])
  rw [hhigh, hhigh, Nat.mod_mod, Nat.add_comm, Nat.two_pow_add_eq_or_of_lt hlow, Nat.or_comm]

end

/-- A shift by the width or more leaves the sign of an integer of that width alone. -/
theorem ediv_two_pow_min {w : Nat} {x : Int} (hlo : -2 ^ (w - 1) ≤ x) (hhi : x < 2 ^ (w - 1)) (n : Nat) :
    x / 2 ^ Nat.min n w = x / 2 ^ n := by
  rcases Nat.le_total n w with h | h
  · rw [show Nat.min n w = n from Nat.min_eq_left h]
  · rw [show Nat.min n w = w from Nat.min_eq_right h]
    have h1 : (2 : Int) ^ (w - 1) ≤ 2 ^ w := pow_le_pow_right₀ (by decide) (Nat.sub_le w 1)
    have h2 : (2 : Int) ^ w ≤ 2 ^ n := pow_le_pow_right₀ (by decide) h
    rcases lt_or_ge x 0 with hx | hx
    · rw [Int.ediv_eq_neg_one_of_neg_of_le hx (by omega), Int.ediv_eq_neg_one_of_neg_of_le hx (by omega)]
    · rw [Int.ediv_eq_zero_of_lt hx (by omega), Int.ediv_eq_zero_of_lt hx (by omega)]

theorem asrRaw_eq {w : Nat} (hw : 0 < w) (a n : Nat) : asrRaw w a n = ((BitVec.ofNat w a).sshiftRight n).toNat := by
  rw [asrRaw, signed_eq_toInt hw, unsigned_eq_ofInt, BitVec.sshiftRight, Int.shiftRight_eq_div_pow,
    ediv_two_pow_min (BitVec.le_toInt _) BitVec.toInt_lt]
  push_cast
  rfl

/-- Settles O2: each raw operation is the one of `BitVec`. -/
theorem shiftsAreBitStringShifts : Obligations.ShiftsAreBitStringShifts := fun _ a n hw ha =>
  ⟨shlRaw_eq ha n, shrRaw_eq ha n, asrRaw_eq hw a n, rolRaw_eq ha hw n, rorRaw_eq ha hw n⟩

end Sys2Proof.Machine
end

section
/-! What an integer block writes reads back clamped or wrapped (R89, R99, R100). -/
namespace Sys2Proof.Machine

open Sys2Proof

theorem Ty.width_pos (t : Ty) : 0 < t.width := by
  unfold Ty.width Ty.size
  split <;> decide

/-- The range of a type holds 2^w values. -/
theorem Ty.hi_eq (t : Ty) : t.hi = t.lo + 2 ^ t.width - 1 := by
  have := two_pow_eq_double t.width_pos
  unfold Ty.hi Ty.lo
  split <;> omega

/-- A raw value written in a type reads back within the range of the type, and agrees with what was written modulo 2^w. -/
theorem Ty.int_unsigned (t : Ty) (x : Int) :
    t.lo ≤ t.int (unsigned t.width x) ∧ t.int (unsigned t.width x) ≤ t.hi ∧ (2 ^ t.width : Int) ∣ t.int (unsigned t.width x) - x := by
  have hpos : (0 : Int) < 2 ^ t.width := by positivity
  rw [Ty.hi_eq]
  unfold Ty.int Ty.lo
  split
  · rw [signed_unsigned t.width_pos]
    have hdouble := two_pow_eq_double t.width_pos
    have hlo := Int.le_bmod (x := x) (Nat.two_pow_pos t.width)
    have hhi := Int.bmod_lt (x := x) (Nat.two_pow_pos t.width)
    have hdvd := Int.dvd_bmod_sub_self (x := x) (m := 2 ^ t.width)
    push_cast at hlo hhi hdvd
    exact ⟨by omega, by omega, hdvd⟩
  · rw [unsigned_cast]
    have hhi := Int.emod_lt_of_pos x hpos
    exact ⟨Int.emod_nonneg x hpos.ne', by omega, Int.dvd_sub_self_of_emod_eq rfl⟩

/-- A value of the range reads back as itself: no other value of the range agrees with it modulo 2^w. -/
theorem Ty.int_unsigned_of_mem {t : Ty} {x : Int} (hlo : t.lo ≤ x) (hhi : x ≤ t.hi) : t.int (unsigned t.width x) = x := by
  obtain ⟨h1, h2, hdvd⟩ := t.int_unsigned x
  rw [Ty.hi_eq] at h2 hhi
  have habs : |t.int (unsigned t.width x) - x| < 2 ^ t.width := by rw [abs_lt]; omega
  exact sub_eq_zero.1 (Int.eq_zero_of_abs_lt_dvd hdvd habs)

theorem Ty.lo_le_hi (t : Ty) : t.lo ≤ t.hi := by
  have hpos : (0 : Int) < 2 ^ t.width := by positivity
  rw [Ty.hi_eq]
  omega

theorem Ty.clamp_eq (t : Ty) (x : Int) : t.clamp x = Max.max t.lo (Min.min t.hi x) := by
  have := t.lo_le_hi
  unfold Ty.clamp
  split
  · omega
  · split <;> omega

/-- With SAT the result reads back clamped (R99). -/
theorem Ty.int_raw_sat (t : Ty) (x : Int) : t.int (t.raw true x) = Max.max t.lo (Min.min t.hi x) := by
  have := t.lo_le_hi
  rw [← Ty.clamp_eq]
  show t.int (unsigned t.width (t.clamp x)) = t.clamp x
  refine Ty.int_unsigned_of_mem ?_ ?_ <;> rw [Ty.clamp_eq] <;> omega

theorem Ty.sgn_of_isI : ∀ {t : Ty}, t.isI = true → t.sgn = true
  | .i8, _ | .i16, _ | .i32, _ | .i64, _ => rfl

/-- Of a signed type the negative of the smallest value is one above the largest. -/
theorem Ty.lo_tdiv_neg_one {t : Ty} (h : t.isI = true) : t.lo.tdiv (-1) = t.hi + 1 := by
  rw [Ty.lo, Ty.hi, if_pos (Ty.sgn_of_isI h), if_pos (Ty.sgn_of_isI h), Int.tdiv_neg, Int.tdiv_one, neg_neg, sub_add_cancel]

/-- Values that agree modulo 2^w are written alike. -/
theorem unsigned_eq_of_dvd {n : Nat} {x y : Int} (h : (2 ^ n : Int) ∣ x - y) : unsigned n x = unsigned n y := by
  unfold unsigned
  rw [Int.emod_eq_emod_iff_emod_sub_eq_zero.2 (Int.emod_eq_zero_of_dvd h)]

/-- Settles O5: reading back by `int_raw_sat`, `int_unsigned` and `int_unsigned_of_mem`; MIN / -1 is one above the largest value (R100). -/
theorem integerRangeRules : Obligations.IntegerRangeRules := by
  intro t _ x
  obtain ⟨hlo, hhi, hdvd⟩ := t.int_unsigned x
  refine ⟨t.int_raw_sat x, hlo, hhi, hdvd, Ty.int_unsigned_of_mem, fun hI => ?_⟩
  have hle := t.lo_le_hi
  rw [Ty.lo_tdiv_neg_one hI]
  refine ⟨by rw [Ty.int_raw_sat]; omega, ?_⟩
  have hwrap : unsigned t.width (t.hi + 1) = unsigned t.width t.lo := unsigned_eq_of_dvd ⟨1, by rw [Ty.hi_eq]; ring⟩
  show t.int (unsigned t.width (t.hi + 1)) = t.lo
  rw [hwrap]
  exact Ty.int_unsigned_of_mem le_rfl hle

end Sys2Proof.Machine
end

section
/-! Rounding to nearest even (R101). -/
namespace Sys2Proof.Machine

open Sys2Proof

/-- A natural fraction rounded is within half a unit of it, and even at the half. -/
theorem rne_near (n d : Nat) (hd : 0 < d) :
    (2 * ((rne n d : Int) * d - n)).natAbs ≤ d ∧ ((2 * ((rne n d : Int) * d - n)).natAbs = d → 2 ∣ rne n d) := by
  have hdiv : (d : Int) * (n / d : Nat) + (n % d : Nat) = n := by exact_mod_cast Nat.div_add_mod n d
  have hlt : n % d < d := Nat.mod_lt n hd
  unfold rne
  dsimp only
  generalize n / d = q at hdiv ⊢
  generalize n % d = r at hdiv hlt ⊢
  split
  · rename_i hup
    have herr : ((q + 1 : Nat) : Int) * d - n = d - r := by rw [← hdiv]; push_cast; ring
    rw [herr]
    omega
  · rename_i hdown
    have herr : (q : Int) * d - n = -r := by rw [← hdiv]; ring
    rw [herr]
    omega

/-- An integer fraction rounded is within half a unit of it, and even at the half. -/
theorem rneInt_near (i : Int) {d : Nat} (hd : 0 < d) :
    (2 * (rneInt i d * d - i)).natAbs ≤ d ∧ ((2 * (rneInt i d * d - i)).natAbs = d → 2 ∣ rneInt i d) := by
  obtain ⟨hnear, heven⟩ := rne_near i.natAbs d hd
  unfold rneInt
  split
  · rename_i hneg
    have habs : (2 * (-(rne i.natAbs d : Int) * d - i)).natAbs = (2 * ((rne i.natAbs d : Int) * d - i.natAbs)).natAbs := by
      rw [← Int.natAbs_neg]
      congr 1
      rw [Int.ofNat_natAbs_of_nonpos hneg.le]
      ring
    rw [habs]
    exact ⟨hnear, fun h => (Int.dvd_neg).2 (Int.natCast_dvd_natCast.2 (heven h))⟩
  · rename_i hpos
    rw [Int.natAbs_of_nonneg (not_lt.1 hpos)] at hnear heven
    exact ⟨hnear, fun h => Int.natCast_dvd_natCast.2 (heven h)⟩

/-- The error of a quotient of two Q values is the one of the fraction that is rounded, up to the sign of the divisor. -/
theorem qQuot_error (a b : Int) (fa fb fy : Nat) :
    (qQuot a b fa fb fy * b * 2 ^ fa - a * 2 ^ (fy + fb)).natAbs * b.sign.natAbs
      = (qQuot a b fa fb fy * (b.natAbs * 2 ^ fa : Nat) - a * 2 ^ (fy + fb) * b.sign).natAbs := by
  rw [← Int.natAbs_mul]
  congr 1
  have habs : ((b.natAbs : Nat) : Int) = b * b.sign := by rw [Int.mul_sign_self]
  push_cast
  rw [← Int.natCast_natAbs, habs]
  ring

/-- Settles O7: a value rounded is near (`rneInt_near`), and the quotient's error is the one of a rounded fraction (`qQuot_error`). -/
theorem qRoundingRules : Obligations.QRoundingRules := by
  refine ⟨fun i f g h => by rw [qTo, if_pos h], fun i f g h => ?_, fun a b fa fb fy hb => ?_⟩
  · have hnear := rneInt_near i (Nat.two_pow_pos (f - g))
    rw [qTo, if_neg (not_le.2 h)]
    push_cast at hnear
    exact hnear
  · have hpos : 0 < b.natAbs * 2 ^ fa := Nat.mul_pos (Int.natAbs_pos.2 hb) (Nat.two_pow_pos fa)
    have hnear := rneInt_near (a * 2 ^ (fy + fb) * b.sign) hpos
    rw [← qQuot, Int.natAbs_mul, ← qQuot_error, Int.natAbs_sign_of_ne_zero hb, mul_one] at hnear
    exact hnear

end Sys2Proof.Machine
end

section
/-! A job reads back what it has written (R88, R92, R93, R97): the journal as it is read, and one byte of each space after a write. -/
namespace Sys2Proof.Machine

open Sys2Proof Sys2Proof.Safety

/-! ### The journal (R93) -/

/-- The bytes `bs` at `a` laid over what `f` gives. -/
def overlay (a : Nat) (bs : List Byte) (f : Nat → Byte) (x : Nat) : Byte := if a ≤ x ∧ x < a + bs.length then bs.getD (x - a) 0 else f x

theorem overlay_in {a : Nat} {bs : List Byte} (f : Nat → Byte) {i : Nat} (h : i < bs.length) : overlay a bs f (a + i) = bs[i] := by
  rw [overlay, if_pos (by omega), Nat.add_sub_cancel_left, List.getD_eq_getElem _ _ h]

theorem overlay_out {a : Nat} {bs : List Byte} (f : Nat → Byte) {x : Nat} (h : x < a ∨ a + bs.length ≤ x) : overlay a bs f x = f x :=
  if_neg (by omega)

theorem overlay_nil (a : Nat) (f : Nat → Byte) : overlay a [] f = f := by
  funext x
  exact overlay_out f (Nat.lt_or_ge x a)

/-- Bytes laid over in two parts, the later ones behind the earlier ones. -/
theorem overlay_split (k a : Nat) (bs : List Byte) (f : Nat → Byte) :
    overlay (a + k) (bs.drop k) (overlay a (bs.take k) f) = overlay a bs f := by
  funext x
  by_cases hlate : a + k ≤ x
  · have hidx : k + (x - (a + k)) = x - a := by omega
    rw [overlay, overlay_out _ (by rw [List.length_take]; omega), overlay, List.length_drop]
    simp only [List.getD_eq_getElem?_getD, List.getElem?_drop, hidx]
    congr 1
    apply propext
    omega
  · rw [overlay_out _ (by omega), overlay, overlay, List.length_take]
    by_cases hin : a ≤ x ∧ x < a + bs.length
    · rw [if_pos hin, if_pos (by omega), List.getD_eq_getElem?_getD, List.getD_eq_getElem?_getD, List.getElem?_take_of_lt (by omega)]
    · rw [if_neg hin, if_neg (by omega)]

/-- A journal without entries that do not hold the byte reads the same there. -/
theorem jrnByte_filter (m : Memories) (keep : Bool × Nat × List Byte → Bool) (ret : Bool) (x : Nat) (j : List (Bool × Nat × List Byte))
    (h : ∀ e ∈ j, keep e = false → ¬(e.1 = ret ∧ e.2.1 ≤ x ∧ x < e.2.1 + e.2.2.length)) :
    jrnByte m (j.filter keep) ret x = jrnByte m j ret x := by
  induction j with
  | nil => rfl
  | cons e r ih =>
    obtain ⟨r', b, bs⟩ := e
    have hr := ih (fun e he => h e (List.mem_cons_of_mem _ he))
    cases hk : keep (r', b, bs) with
    | true => rw [List.filter_cons_of_pos hk, jrnByte, jrnByte, hr]
    | false =>
      have hout := h _ List.mem_cons_self hk
      rw [List.filter_cons_of_neg (by simp [hk]), hr, jrnByte, if_neg (by simpa using hout)]

/-- A piece put into the journal lies over what was read in its memory before. -/
theorem jrnByte_jrnPut (m : Memories) (j : List (Bool × Nat × List Byte)) (ret : Bool) (a : Nat) (bs : List Byte) :
    jrnByte m (jrnPut j ret a bs) ret = overlay a bs (jrnByte m j ret) := by
  funext x
  unfold jrnPut
  rw [jrnByte]
  by_cases hin : a ≤ x ∧ x < a + bs.length
  · rw [overlay, if_pos hin, if_pos (by simpa using hin)]
  · rw [overlay, if_neg hin, if_neg (by simpa using hin), jrnByte_filter]
    intro e _ hk hcov
    simp only [Bool.not_eq_false', Bool.and_eq_true, beq_iff_eq, decide_eq_true_eq] at hk
    obtain ⟨⟨-, ha⟩, hlen⟩ := hk
    omega

/-- A piece put into the journal leaves the other memory as it reads. -/
theorem jrnByte_jrnPut_ne (m : Memories) (j : List (Bool × Nat × List Byte)) {ret ret' : Bool} (hne : ret ≠ ret') (a : Nat)
    (bs : List Byte) : jrnByte m (jrnPut j ret a bs) ret' = jrnByte m j ret' := by
  funext x
  unfold jrnPut
  rw [jrnByte, if_neg (by simp [hne]), jrnByte_filter]
  intro e _ hk hcov
  simp only [Bool.not_eq_false', Bool.and_eq_true, beq_iff_eq, decide_eq_true_eq] at hk
  exact hne (hk.1.1.symm.trans hcov.1)

/-- The pieces of a write together lie over what was read before. -/
theorem jrnByte_pieces (m : Memories) (ret : Bool) (n a : Nat) (bs : List Byte) (j : List (Bool × Nat × List Byte)) (h : bs.length ≤ n) :
    jrnByte m ((pieces n a bs).foldl (fun l p => jrnPut l ret p.1 p.2) j) ret = overlay a bs (jrnByte m j ret) := by
  induction n generalizing a bs j with
  | zero =>
    rw [List.eq_nil_of_length_eq_zero (Nat.le_zero.1 h), overlay_nil]
    rfl
  | succ n ih =>
    unfold pieces
    split
    · rename_i hnil
      rw [List.isEmpty_iff.1 hnil, overlay_nil]
      rfl
    · rw [List.foldl_cons, ih _ _ _ (by rw [List.length_drop]; omega), jrnByte_jrnPut, overlay_split]

/-- The pieces of a write to one memory leave the other as it reads. -/
theorem jrnByte_pieces_ne (m : Memories) {ret ret' : Bool} (hne : ret ≠ ret') (ps : List (Nat × List Byte))
    (j : List (Bool × Nat × List Byte)) :
    jrnByte m (ps.foldl (fun l p => jrnPut l ret p.1 p.2) j) ret' = jrnByte m j ret' := by
  induction ps generalizing j with
  | nil => rfl
  | cons p r ih => rw [List.foldl_cons, ih, jrnByte_jrnPut_ne m j hne]

/-! ### One byte of a space (R88) -/

/-- A write to a canonical memory lies over what it held. -/
theorem rd_wrN {m : Mem} (h : Mem.wf m = true) (a : Nat) (bs : List Byte) : Mem.rd (Mem.wrN m a bs) = overlay a bs (Mem.rd m) := by
  funext x
  by_cases hin : a ≤ x ∧ x < a + bs.length
  · obtain ⟨i, rfl⟩ := Nat.exists_eq_add_of_le hin.1
    have hi : i < bs.length := by omega
    rw [overlay_in _ hi, Mem.rd_wrN_in bs m a i h hi]
  · have hout : x < a ∨ a + bs.length ≤ x := by omega
    rw [overlay_out _ hout, Mem.rd_wrN_out bs m a x h hout]

/-- The byte at an offset of a space, as the job reads it. -/
def Env.byte (e : Env) (sp : Space) (x : Nat) : Byte :=
  match sp with
  | .inp => Mem.rd e.job.image x
  | .out => Mem.rd e.job.staging x
  | .loc => Mem.rd e.job.loc x
  | .glb => jrnByte e.c.mem e.job.journal false x
  | .ret => jrnByte e.c.mem e.job.journal true x
  | .con => Mem.rd e.img.con x
  | .sys => Mem.rd e.job.sys x
  | .imm => Mem.blank

theorem bytes_eq_map {sp : Space} (h : sp ≠ .imm) (e : Env) (a n : Nat) :
    e.bytes sp a n = (List.range n).map (fun i => e.byte sp (a + i)) := by
  cases sp with
  | imm => exact absurd rfl h
  | _ => rfl

/-- What a block of the job sees after a write. -/
def Env.after (e : Env) (sp : Space) (a : Nat) (bs : List Byte) : Env := { e with job := e.job.write sp a bs }

/-- A write lies over what its space held. -/
theorem byte_after {e : Env} {sp : Space} (h : sp.writable = true) (hst : Mem.wf e.job.staging = true) (hloc : Mem.wf e.job.loc = true)
    (a : Nat) (bs : List Byte) : (e.after sp a bs).byte sp = overlay a bs (e.byte sp) := by
  cases sp with
  | out => exact rd_wrN hst a bs
  | loc => exact rd_wrN hloc a bs
  | glb => exact jrnByte_pieces e.c.mem false _ a bs _ le_rfl
  | ret => exact jrnByte_pieces e.c.mem true _ a bs _ le_rfl
  | inp | con | sys | imm => cases h

/-- A write leaves the other spaces as they read. -/
theorem byte_after_ne {e : Env} {sp sp' : Space} (h : sp' ≠ sp) (a : Nat) (bs : List Byte) : (e.after sp a bs).byte sp' = e.byte sp' := by
  cases sp with
  | glb =>
    cases sp' with
    | glb => exact absurd rfl h
    | ret => exact jrnByte_pieces_ne e.c.mem (by decide) _ _
    | _ => rfl
  | ret =>
    cases sp' with
    | ret => exact absurd rfl h
    | glb => exact jrnByte_pieces_ne e.c.mem (by decide) _ _
    | _ => rfl
  | out =>
    cases sp' with
    | out => exact absurd rfl h
    | _ => rfl
  | loc =>
    cases sp' with
    | loc => exact absurd rfl h
    | _ => rfl
  | inp | con | sys | imm => rfl

/-- Settles O18: byte by byte, the write lies over its space (`byte_after`) and leaves the others (`byte_after_ne`). -/
theorem jobMemoryReadsItsWrites : Obligations.JobMemoryReadsItsWrites := by
  intro e sp a bs hw hst hloc
  have himm : sp ≠ .imm := by rintro rfl; cases hw
  have hbyte := byte_after hw hst hloc a bs
  refine ⟨?_, fun x n hx => ?_, fun sp' x n hne himm' => ?_⟩
  · show (e.after sp a bs).bytes sp a bs.length = bs
    rw [bytes_eq_map himm, hbyte]
    refine List.ext_getElem (by simp) fun i _ hi => ?_
    rw [List.getElem_map, List.getElem_range, overlay_in _ hi]
  · show (e.after sp a bs).bytes sp x n = e.bytes sp x n
    rw [bytes_eq_map himm, bytes_eq_map himm, hbyte]
    refine List.map_congr_left fun i hi => overlay_out _ ?_
    have := List.mem_range.1 hi
    omega
  · show (e.after sp a bs).bytes sp' x n = e.bytes sp' x n
    rw [bytes_eq_map himm', bytes_eq_map himm', byte_after_ne hne]

end Sys2Proof.Machine
end

section
/-! The logic, shift and bit rows (R99, R107): each row's body, in the terms of R99. -/
namespace Sys2Proof.Machine

open Sys2Proof Sys2Proof.Safety

/-- A row computes what its body comes to. -/
theorem computes_congr {sg : Sig} {mk : Blk → Instr} {body f : Env → List Ref → List Ref → List Byte → BRes}
    (hrow : ∀ b s, exec (mk b) s = runBlock sg body b s) (hf : ∀ e ins outs st, body e ins outs st = f e ins outs st) :
    Computes sg mk f := by
  have hbody : body = f := funext fun e => funext fun ins => funext fun outs => funext fun st => hf e ins outs st
  exact hbody ▸ computes_of sg mk body hrow

theorem bit_eq_testBit (w i : Nat) : bit w i = w.testBit i := (Nat.testBit_eq_decide_div_mod_eq).symm

theorem cut_eq_sub (x k : Nat) : cut x k = x - k := Int.toNat_sub x k

/-- BITSET (R99) in the operations of natural numbers. -/
theorem bitsetRaw_eq (w a n v : Nat) :
    bitsetRaw w a n v = if w ≤ n then a else if v ≠ 0 then a ||| 2 ^ n else a - (if a.testBit n then 2 ^ n else 0) := by
  unfold bitsetRaw
  rw [bit_eq_testBit, cut_eq_sub]
  split
  · rfl
  · split
    · rfl
    · split <;> rfl

theorem popRaw_eq (w a : Nat) : popRaw w a = ((List.range w).filter (fun i => a.testBit i)).length := by
  simp only [popRaw, bit_eq_testBit]

/-- Settles O1: each row runs its body, in whose result only the bit operations are written otherwise. -/
theorem logicShiftAndBitBlocks : Obligations.LogicShiftAndBitBlocks := by
  refine ⟨⟨?and, ?or, ?xor, ?not⟩, ?shl, ?shr, ?asr, ?rol, ?ror, ?bitget, ?bitset, ?popcnt⟩
  case and => exact computes_of _ _ bodyAnd fun _ _ => rfl
  case or => exact computes_of _ _ bodyOr fun _ _ => rfl
  case xor => exact computes_of _ _ bodyXor fun _ _ => rfl
  case not =>
    refine computes_congr (body := bodyNot) (fun _ _ => rfl) fun e ins outs st => ?_
    unfold bodyNot one notRaw
    cases (at_ ins 0).ty <;> rfl
  case shl => exact computes_of _ _ bodyShl fun _ _ => rfl
  case shr => exact computes_of _ _ bodyShr fun _ _ => rfl
  case asr => exact computes_of _ _ bodyAsr fun _ _ => rfl
  case rol => exact computes_of _ _ bodyRol fun _ _ => rfl
  case ror => exact computes_of _ _ bodyRor fun _ _ => rfl
  case bitget =>
    refine computes_congr (body := bodyBitget) (fun _ _ => rfl) fun e ins outs st => ?_
    simp only [bodyBitget, one, bit_eq_testBit]
  case bitset =>
    refine computes_congr (body := bodyBitset) (fun _ _ => rfl) fun e ins outs st => ?_
    simp only [bodyBitset, one, bitsetRaw_eq]
  case popcnt =>
    refine computes_congr (body := bodyPopcnt) (fun _ _ => rfl) fun e ins outs st => ?_
    simp only [bodyPopcnt, one, popRaw_eq]

end Sys2Proof.Machine
end

section
/-! The integer rows (R99, R100): each row's body. -/
namespace Sys2Proof.Machine

open Sys2Proof Sys2Proof.Safety

/-- Settles O4: each row runs its body. -/
theorem integerBlocks : Obligations.IntegerBlocks := by
  refine ⟨?add, ?sub, ?mul, ?div, ?mod, ?neg, ?abs⟩
  case add => exact computes_of _ _ bodyAdd fun _ _ => rfl
  case sub => exact computes_of _ _ bodySub fun _ _ => rfl
  case mul => exact computes_of _ _ bodyMul fun _ _ => rfl
  case div => exact computes_of _ _ bodyDiv fun _ _ => rfl
  case mod => exact computes_of _ _ bodyMod fun _ _ => rfl
  case neg => exact computes_of _ _ bodyNeg fun _ _ => rfl
  case abs => exact computes_of _ _ bodyAbs fun _ _ => rfl

/-- Settles O6: each row runs its body. -/
theorem qBlocks : Obligations.QBlocks := by
  refine ⟨?qadd, ?qsub, ?qmul, ?qdiv, ?qneg, ?qabs, ?qscale⟩
  case qadd => exact computes_of _ _ bodyQadd fun _ _ => rfl
  case qsub => exact computes_of _ _ bodyQsub fun _ _ => rfl
  case qmul => exact computes_of _ _ bodyQmul fun _ _ => rfl
  case qdiv => exact computes_of _ _ bodyQdiv fun _ _ => rfl
  case qneg => exact computes_of _ _ bodyQneg fun _ _ => rfl
  case qabs => exact computes_of _ _ bodyQabs fun _ _ => rfl
  case qscale => exact computes_of _ _ bodyQscale fun _ _ => rfl

end Sys2Proof.Machine
end

section
/-! The control, sequence and control-flow rows (R96, R108, R109, R512, R514): each row's body, and where a call and a return lead. -/
namespace Sys2Proof.Machine

open Sys2Proof Sys2Proof.Safety

/-- The raw value of input `i` is the `i`-th raw value; beyond the inputs both are 0. -/
theorem vals_getD (e : Env) (ins : List Ref) (i : Nat) : (e.vals ins).getD i 0 = e.val (at_ ins i) := by
  rw [Env.vals, at_, List.getD_eq_getElem?_getD, List.getD_eq_getElem?_getD, List.getElem?_map]
  cases ins[i]? <;> rfl

/-- The output of a PID row: mv in manual, else the free value brought into its limits (R108, log entry 15). -/
theorem bodyPid_eq (op cyc : Nat) (e : Env) (ins outs : List Ref) (st : List Byte) :
    bodyPid op cyc e ins outs st =
      { wr := puts outs [if e.val (at_ ins 7) ≠ 0 then e.val (at_ ins 8) else
          limitRaw (at_ outs 0).ty (e.val (at_ ins 5)) (e.ctlFree op (ins.map e.val) st (at_ outs 0).ty) (e.val (at_ ins 6))]
        inst := some (e.ctlInst op (ins.map e.val ++ [b01 e.blk.optA]) st), cyc := cyc } := by
  simp only [bodyPid, vals_getD, bne_iff_ne]
  rfl

/-- Settles O11: each row runs its body; where a call and a return lead is `Job.go` (R96, R514). -/
theorem controlSequenceAndFlowBlocks : Obligations.ControlSequenceAndFlowBlocks := by
  refine ⟨?pid, ?filt, ?mavg, ?integ, ?step, ?trans, ?seqrst, ?jmp, ?jmpc, ?jmpn, ?loopb, ?call, ?ret, ?nop, ?called, ?ended⟩
  case pid =>
    intro op cyc mk p h
    simp only [List.mem_cons, Prod.mk.injEq, List.not_mem_nil, or_false] at h
    obtain ⟨rfl, rfl, rfl, rfl⟩ | ⟨rfl, rfl, rfl, rfl⟩ := h
    · exact computes_congr (fun _ _ => rfl) (bodyPid_eq 0x0B01 60)
    · exact computes_congr (fun _ _ => rfl) (bodyPid_eq 0x0B02 40)
  case filt =>
    intro op n cyc mk h
    simp only [List.mem_cons, Prod.mk.injEq, List.not_mem_nil, or_false] at h
    obtain ⟨rfl, rfl, rfl, rfl⟩ | ⟨rfl, rfl, rfl, rfl⟩ | ⟨rfl, rfl, rfl, rfl⟩ | ⟨rfl, rfl, rfl, rfl⟩ := h
    · exact computes_of _ _ (bodyFilt 0x0B03 12) fun _ _ => rfl
    · exact computes_of _ _ (bodyFilt 0x0B04 20) fun _ _ => rfl
    · exact computes_of _ _ (bodyFilt 0x0B05 12) fun _ _ => rfl
    · exact computes_of _ _ (bodyFilt 0x0B06 6) fun _ _ => rfl
  case mavg => exact computes_of _ _ bodyMavg fun _ _ => rfl
  case integ => exact computes_of _ _ bodyInteg fun _ _ => rfl
  case step => exact computes_of _ _ bodyStep fun _ _ => rfl
  case trans => exact computes_of _ _ bodyTrans fun _ _ => rfl
  case seqrst => exact computes_of _ _ bodySeqrst fun _ _ => rfl
  case jmp => exact computes_of _ _ bodyJmp fun _ _ => rfl
  case jmpc =>
    refine computes_congr (body := bodyJmpc) (fun _ _ => rfl) fun e ins outs st => ?_
    simp only [bodyJmpc, bne_iff_ne]
  case jmpn =>
    refine computes_congr (body := bodyJmpn) (fun _ _ => rfl) fun e ins outs st => ?_
    simp only [bodyJmpn, bne_iff_ne, ite_not]
  case loopb => exact computes_of _ _ bodyLoopb fun _ _ => rfl
  case call => exact computes_of _ _ bodyCall fun _ _ => rfl
  case ret => exact computes_of _ _ bodyRet fun _ _ => rfl
  case nop => exact computes_of _ _ bodyNop fun _ _ => rfl
  case called => exact fun j l now => ⟨rfl, rfl, rfl⟩
  case ended =>
    intro j now h
    rw [Job.go, h]

end Sys2Proof.Machine
end

section
/-! The native timers (R114): one equation for each row of the table, over the elapsed time `NT.delta`. A start goes on as a running timer in
the same evaluation, with no time elapsed. -/
namespace Sys2Proof.Machine

open Sys2Proof

/-- A timer that starts at `t` has no time elapsed at `t`. -/
theorem NT.delta_of_start {n : NT} {t : Nat} (h : n.start = t) : n.delta t = 0 := by
  rw [NT.delta, h, Nat.add_sub_cancel_left, Nat.mod_self]

/-! What a start (`NT.begin_`) sets and what it leaves. -/

@[simp] theorem NT.begin_start (n : NT) (t : Nat) : (n.begin_ t).start = t := rfl

@[simp] theorem NT.begin_run (n : NT) (t : Nat) : (n.begin_ t).run = true := rfl

@[simp] theorem NT.begin_acc (n : NT) (t : Nat) : (n.begin_ t).acc = n.acc := rfl

@[simp] theorem NT.begin_prev (n : NT) (t : Nat) : (n.begin_ t).prev = n.prev := rfl

@[simp] theorem NT.begin_prevRst (n : NT) (t : Nat) : (n.begin_ t).prevRst = n.prevRst := rfl

@[simp] theorem NT.begin_expired (n : NT) (t : Nat) : (n.begin_ t).expired = n.expired := rfl

@[simp] theorem NT.begin_delta (n : NT) (t : Nat) : (n.begin_ t).delta t = 0 := NT.delta_of_start rfl

variable {n : NT} {pt t : Nat}

/-! TON. -/

theorem NT.ton_of_rise (hp : n.prev = false) :
    n.ton true pt t = { n with start := t, run := true, et := 0, q := decide (pt = 0) } := by
  simp [NT.ton, hp]

theorem NT.ton_of_running (hp : n.prev = true) (hr : n.run = true) :
    n.ton true pt t = { n with et := Nat.min (n.delta t) pt, q := decide (pt ≤ n.delta t) } := by
  simp [NT.ton, hp, hr]

theorem NT.ton_of_in_false : n.ton false pt t = { n with q := false, et := 0, run := false } := rfl

/-! TOF. -/

theorem NT.tof_of_in_true : n.tof true pt t = { n with q := true, et := 0, run := false, expired := false } := rfl

theorem NT.tof_of_fall (hp : n.prev = true) (h0 : 0 < pt) :
    n.tof false pt t = { n with start := t, run := true, q := true, et := 0 } := by
  simp [NT.tof, hp, h0]

theorem NT.tof_of_running (hp : n.prev = false) (hr : n.run = true) (hd : n.delta t < pt) :
    n.tof false pt t = { n with q := true, et := n.delta t } := by
  simp [NT.tof, hp, hr, hd]

theorem NT.tof_of_end (hp : n.prev = false) (hr : n.run = true) (hd : pt ≤ n.delta t) :
    n.tof false pt t = { n with q := false, et := pt, run := false, expired := true } := by
  simp [NT.tof, hp, hr, hd.not_gt]

theorem NT.tof_of_idle (hp : n.prev = false) (hr : n.run = false) :
    n.tof false pt t = { n with q := false, et := if n.expired then pt else 0 } := by
  simp [NT.tof, hp, hr]

/-! TP. -/

theorem NT.tp_of_rise (hp : n.prev = false) (hr : n.run = false) (h0 : 0 < pt) :
    n.tp true pt t = { n with start := t, run := true, q := true, et := 0 } := by
  simp [NT.tp, hp, hr, h0]

theorem NT.tp_of_running (i : Bool) (hr : n.run = true) (hd : n.delta t < pt) :
    n.tp i pt t = { n with q := true, et := n.delta t } := by
  simp [NT.tp, hr, hd]

theorem NT.tp_of_end (i : Bool) (hr : n.run = true) (hd : pt ≤ n.delta t) :
    n.tp i pt t = { n with q := false, run := false, et := if i then pt else 0 } := by
  simp [NT.tp, hr, hd.not_gt]

/-! TPULSE. -/

theorem NT.tpulse_of_rise (hp : n.prev = false) (h0 : 0 < pt) :
    n.tpulse true pt t = { n with start := t, run := true, q := true, et := 0 } := by
  simp [NT.tpulse, hp, h0]

/-- Without a rise of its input a TPULSE starts nothing. -/
theorem NT.tpulse_of_no_rise {i : Bool} (hi : i = true → n.prev = true) :
    n.tpulse i pt t = if n.run && decide (n.delta t < pt) then { n with q := true, et := n.delta t }
      else { n with q := false, run := false, et := 0 } := by
  have rise : (i && !n.prev) = false := by simpa using hi
  simp [NT.tpulse, rise]

theorem NT.tpulse_of_running (i : Bool) (hi : i = true → n.prev = true) (hr : n.run = true) (hd : n.delta t < pt) :
    n.tpulse i pt t = { n with q := true, et := n.delta t } := by
  simp [NT.tpulse_of_no_rise hi, hr, hd]

theorem NT.tpulse_of_end (i : Bool) (hi : i = true → n.prev = true) (hr : n.run = true) (hd : pt ≤ n.delta t) :
    n.tpulse i pt t = { n with q := false, run := false, et := 0 } := by
  simp [NT.tpulse_of_no_rise hi, hr, hd.not_gt]

/-! TRET. -/

theorem NT.tret_of_rst (i : Bool) : n.tret i true pt t = { n with acc := 0, et := 0, q := false, run := false } := rfl

theorem NT.tret_of_rise (hp : n.prev = false) :
    n.tret true false pt t = { n with start := t, run := true, et := Nat.min n.acc pt, q := decide (pt ≤ n.acc) } := by
  simp [NT.tret, hp]

theorem NT.tret_of_running (hp : n.prev = true) (hr : n.run = true) :
    n.tret true false pt t = { n with et := Nat.min (n.acc + n.delta t) pt, q := decide (pt ≤ n.acc + n.delta t) } := by
  simp [NT.tret, hp, hr]

theorem NT.tret_of_fall (hr : n.run = true) :
    (n.tret false false pt t).acc = Nat.min (n.acc + n.delta t) pt ∧ (n.tret false false pt t).run = false := by
  simp [NT.tret, hr]

theorem NT.tret_of_idle (hr : n.run = false) :
    n.tret false false pt t = { n with et := Nat.min n.acc pt, q := decide (pt ≤ n.acc) } := by
  simp [NT.tret, hr]

end Sys2Proof.Machine
end

section
/-! The table of R114 as one statement. -/
namespace Sys2Proof.Machine

/-- Settles O10: the rows of the table, timer by timer. -/
theorem nativeTimerRules : Obligations.NativeTimerRules := fun _ _ _ _ =>
  ⟨NT.ton_of_rise, NT.ton_of_running, NT.ton_of_in_false,
    NT.tof_of_in_true, NT.tof_of_fall, NT.tof_of_running, NT.tof_of_end, NT.tof_of_idle,
    NT.tp_of_rise, NT.tp_of_running, NT.tp_of_end,
    NT.tpulse_of_rise, NT.tpulse_of_running, NT.tpulse_of_end,
    NT.tret_of_rst, NT.tret_of_rise, NT.tret_of_running, NT.tret_of_fall, NT.tret_of_idle⟩

end Sys2Proof.Machine
end

section
/-! The throw and its events (R148 to R152, R160 to R163): when a member takes the throw, what the end of a staged item leaves, and each
event's equation. -/
namespace Sys2Proof.Machine

open Sys2Proof Sys2Proof.Safety

/-- A row that is the lift of a change takes the effect that the change comes to wherever the condition holds. -/
theorem takes_of_lift {i : Instr} {dt : Nat} {pre : Chip → Prop} {f eff : Chip → Chip} (hrow : ∀ s, exec i s = lift f s)
    (h : ∀ c, pre (pass dt c) → f c = eff (pass dt c)) : Takes i dt pre eff := fun s hpre => by
  rw [Goes, hrow, lift_eq, h s.chip hpre]

/-! ### The catch-up and the partner's DONE (R148, R163) -/

/-- The throw is taken once the own catch-up is finished in time and, in a pair, the partner's DONE names the same boundary. -/
theorem takeThrow_eq (c : Chip) :
    takeThrow c = if (c.sets.attempt = true ∧ c.sets.caughtUp = true ∧ c.time.clock ≤ throwLimit c)
      ∧ (isPair c = true → c.sets.doneTn = some c.sets.throwTn) then throwNow c else c := by
  refine if_congr ?_ rfl rfl
  cases isPair c <;> simp [and_assoc]

/-- Catch-up in time finishes it, and a pair member sends its DONE. -/
theorem evCatchupDone_in_time {dt : Nat} {c : Chip} (ha : (pass dt c).sets.attempt = true) (hn : (pass dt c).sets.caughtUp = false)
    (ht : (pass dt c).time.clock ≤ throwLimit (pass dt c)) :
    evCatchupDone dt c = takeThrow (when (isPair (pass dt c)) (emit (.done (pass dt c).sets.throwTn))
      { pass dt c with sets := { (pass dt c).sets with caughtUp := true } }) := by
  simp only [evCatchupDone, ha, hn, ht.not_gt, decide_false, Bool.not_true, Bool.or_false, Bool.false_eq_true, if_false]
  rfl

/-- A DONE that a pair member receives while a throw is named is kept. -/
theorem evThrowDoneReceived_of_named {dt : Nat} {c : Chip} (hp : isPair (pass dt c) = true) (hn : (pass dt c).sets.named = true) (tn : Nat) :
    evThrowDoneReceived dt tn c = takeThrow { pass dt c with sets := { (pass dt c).sets with doneTn := some tn } } := by
  simp only [evThrowDoneReceived, hp, hn, Bool.not_true, Bool.or_false, Bool.false_eq_true, if_false]

/-- An attempt at its limit is postponed at the limit's instant. -/
theorem evThrowCatchupLimit_of_attempt {dt : Nat} {c : Chip} (ha : (pass dt c).sets.attempt = true) :
    evThrowCatchupLimit dt c
      = postpone (if (pass dt c).sets.caughtUp then 6 else 5) (pass (throwLimit (pass dt c) - (pass dt c).time.clock) (pass dt c)) := by
  simp only [evThrowCatchupLimit, ha, Bool.not_true, Bool.false_eq_true, if_false]
  rw [pass_sets _ (pass dt c)]

theorem evPreparationDone_of_preparing {dt : Nat} {c : Chip} (h : (pass dt c).sets.siding = .preparing) :
    evPreparationDone dt c = { prepareRetained (pass dt c) with
      sets := { (prepareRetained (pass dt c)).sets with siding := .named, chgOld := 0 } } := by
  simp only [evPreparationDone, h, bne_self_eq_false, Bool.false_eq_true, if_false]

/-! ### The end of a staged item (R160) begins no rollback -/

/-- Records, events to sessions, completions, counters and messages keep the set that a rollback returns to. -/
theorem Keeps.revertTo {f : Chip → Chip} (hf : Keeps f) (c : Chip) : (f c).sets.revertTo = c.sets.revertTo :=
  hf.reads (g := fun c => c.sets.revertTo) (fun _ => rfl) c

theorem revertTo_stationsSettle (c : Chip) : (stationsSettle c).sets.revertTo = c.sets.revertTo := by
  unfold stationsSettle
  split
  · rfl
  · exact forAll_keeps (fun c => c.sets.revertTo) _ _ (fun _ _ => by rfl) c

theorem revertTo_updAi (ch : Nat) (f : Ai → Ai) (c : Chip) : (updAi ch f c).sets.revertTo = c.sets.revertTo := by
  unfold updAi
  dsimp only
  split
  · rfl
  · split
    · rw [(Keeps.when _ (keeps_record _ _ _)).revertTo, (keeps_bump _).revertTo]
    · split
      · rw [(keeps_record _ _ _).revertTo]
      · split
        · rw [(keeps_record _ _ _).revertTo]
        · rfl

theorem keeps_hartSendNow (h : Nat) : Keeps (hartSendNow h) := fun c => by
  unfold hartSendNow
  dsimp only
  split <;> rfl

theorem revertTo_hartStart (h : Nat) (c : Chip) : (hartStart h c).sets.revertTo = c.sets.revertTo := by
  unfold hartStart
  split
  · exact (keeps_hartSendNow h).revertTo _
  · rfl

theorem revertTo_refreshPanels (c : Chip) : (refreshPanels c).sets.revertTo = c.sets.revertTo :=
  forAll_keeps (fun c => c.sets.revertTo) _ _ (fun _ _ => by rfl) c

/-- The end of a staged item leaves the set that a rollback returns to. -/
theorem revertTo_endItem (i : Nat × Nat) (c : Chip) : (endItem i c).sets.revertTo = c.sets.revertTo := by
  unfold endItem
  refine ((keeps_record _ _ _).revertTo _).trans ?_
  dsimp only
  -- the items in the order of the table of R160
  split
  case h_1 => exact revertTo_stationsSettle _
  case h_2 => exact revertTo_stationsSettle _
  case h_3 => split <;> rfl
  case h_4 => exact (revertTo_hartStart _ _).trans (revertTo_updAi _ _ _)
  case h_5 => exact revertTo_hartStart _ _
  case h_6 => rfl
  case h_7 => exact revertTo_refreshPanels _
  case h_8 => rfl

/-- An item that settles outside a rollback ends, and nothing follows. -/
theorem evStagedSettled_of_settled {dt item obj : Nat} {c : Chip} (hi : ∃ e ∈ (pass dt c).sets.trans, (e.1, e.2.1) = (item + 1, obj))
    (hs : itemSettled (pass dt c) (item + 1, obj) = true) (hr : (pass dt c).sets.revertTo = none) :
    evStagedSettled dt item obj c = endItem (item + 1, obj) (pass dt c) := by
  have hany : (pass dt c).sets.trans.any (fun e => (e.1, e.2.1) == (item + 1, obj)) = true := by
    simpa only [List.any_eq_true, beq_iff_eq] using hi
  have hnone : (endItem (item + 1, obj) (pass dt c)).sets.revertTo.isSome = false := by rw [revertTo_endItem, hr]; rfl
  simp only [evStagedSettled, hany, hs, hnone, Bool.not_true, Bool.or_false, Bool.false_eq_true, if_false]

/-! ### The rollback of an item that fails to settle (R161) -/

/-- Outside a pair the rollback is named at once. -/
theorem startRollback_alone {c : Chip} (hp : isPair c = false) :
    startRollback c = nameThrow (Nat.max (c.tt.tn + 2) (cdiv (c.time.clock + 2 * tTick c * 1000) (tTick c * 1000))) false true none c := by
  simp [startRollback, hp]

/-- The only item in TRANSITION, late outside a rollback, is recorded and starts one. -/
theorem evStagedSettleFail_starts {dt item obj at' : Nat} {c : Chip} (hi : (pass dt c).sets.trans = [(item + 1, obj, at')])
    (hl : at' + settleNs (pass dt c) (item + 1) ≤ (pass dt c).time.clock) (hr : (pass dt c).sets.revertTo = none)
    (hb : (pass dt c).sets.rollback = false) :
    evStagedSettleFail dt item obj c = startRollback (record 0x0352 0x0300 [item + 1, obj] (pass dt c)) := by
  have hback : (record 0x0352 0x0300 [item + 1, obj] (pass dt c)).sets.rollback = false :=
    ((keeps_record _ _ _).reads (g := fun c => c.sets.rollback) (fun _ => rfl) _).trans hb
  simp only [evStagedSettleFail, hi, List.find?_cons, beq_self_eq_true, hl.not_gt, hr, hback, Option.isSome_none, Bool.false_eq_true, if_false]

/-- Settles O25: each row is one event's equation, and `takeThrow_eq` says which catch-ups and DONEs take the throw. -/
theorem throwEventsTakeTheirSteps : Obligations.ThrowEventsTakeTheirSteps := by
  refine ⟨fun dt => ?prepared, fun dt => ?alone, fun dt => ?inPair, fun dt tn l => ?done, fun dt => ?limit, fun dt item obj => ?settled,
    fun dt item obj at' => ?failed⟩
  case prepared => exact takes_of_lift (fun _ => rfl) fun c h => evPreparationDone_of_preparing h
  case alone =>
    refine takes_of_lift (f := evCatchupDone dt) (fun _ => rfl) fun c ⟨ha, hn, ht, hp⟩ => ?_
    rw [evCatchupDone_in_time ha hn ht, hp, when_false, takeThrow_eq]
    exact if_pos ⟨⟨ha, rfl, ht⟩, fun h => absurd (hp.symm.trans h) Bool.false_ne_true⟩
  case inPair =>
    refine takes_of_lift (f := evCatchupDone dt) (fun _ => rfl) fun c ⟨ha, hn, ht, hp⟩ => ?_
    rw [evCatchupDone_in_time ha hn ht, hp, when_true, takeThrow_eq]
    exact if_congr ⟨fun h => h.2 hp, fun h => ⟨⟨ha, rfl, ht⟩, fun _ => h⟩⟩ rfl rfl
  case done =>
    refine takes_of_lift (f := evThrowDoneReceived dt tn) (fun _ => rfl) fun c ⟨hp, hn⟩ => ?_
    rw [evThrowDoneReceived_of_named hp hn, takeThrow_eq]
    refine if_congr ⟨fun ⟨⟨ha, hc, ht⟩, h⟩ => ⟨ha, hc, ht, Option.some.inj (h hp)⟩, fun ⟨ha, hc, ht, h⟩ => ⟨⟨ha, hc, ht⟩, fun _ => ?_⟩⟩ rfl rfl
    exact congrArg some h
  case limit => exact takes_of_lift (fun _ => rfl) fun c h => evThrowCatchupLimit_of_attempt h
  case settled => exact takes_of_lift (fun _ => rfl) fun c ⟨hi, hs, hr⟩ => evStagedSettled_of_settled hi hs hr
  case failed =>
    refine takes_of_lift (f := evStagedSettleFail dt item.val obj) (fun _ => rfl) fun c ⟨hi, hl, hr, hb, hp⟩ => ?_
    rw [evStagedSettleFail_starts hi hl hr hb]
    generalize pass dt c = c0 at hp
    have hpair : isPair (record 0x0352 0x0300 [item.val + 1, obj] c0) = false := by simpa [isPair] using hp
    rw [startRollback_alone hpair, tTick, record_tt, record_time, tTick]

end Sys2Proof.Machine
end

section
/-! A throw that changes the tick period numbers its boundary anew (R35, R36). -/
namespace Sys2Proof.Machine

open Sys2Proof

/-- A module in STOP at boundary 12, with ticks of 1 ms, where the throw of a siding set with ticks of 2 ms takes effect. -/
def periodDoubles : Chip :=
  { sup := { mstate := .stop }, tt := { tn := 12, ticking := true, tickCode := 2 }
    sets := { side := some { setId := 7, words := [(0x2000 * 256 + 1, 3)] }, siding := .named, named := true, attempt := true, caughtUp := true
              throwTn := 12 } }

/-- The boundary of the throw is number 6 in ticks of 2 ms, and the new main set releases tasks from there. -/
theorem periodDoubles_renumbers : (throwNow periodDoubles).sets.mainTn = 6 := by decide +kernel

/-- Refutes O26: its clause on a throw has the new main set begin at the old number of the boundary, but a throw that changes the tick
period renumbers it (R35). -/
theorem not_throwMakesTheSidingSetMain : ¬ Obligations.ThrowMakesTheSidingSetMain := by
  intro h
  obtain ⟨hthrow, -, -⟩ := h
  obtain ⟨-, -, -, -, -, hmain, -⟩ := hthrow periodDoubles _ rfl rfl
  rw [periodDoubles_renumbers] at hmain
  exact absurd hmain (by decide)

end Sys2Proof.Machine
end

section
/-! Sage jobs (R190 to R192, R206 to R208, R217 to R222): a slot after the changes of a job, and what each event of a job comes to. -/
namespace Sys2Proof.Machine

open Sys2Proof Sys2Proof.Safety

/-! ### Slots -/

/-- Of two objects put at one number, the second stands. -/
@[simp] theorem Map.put_put {α : Type} (m : Map α) (k : Nat) (a b : α) : Map.put (Map.put m k a) k b = Map.put m k b := by
  induction m with
  | nil => simp [Map.put]
  | cons x r ih =>
    obtain ⟨j, y⟩ := x
    rcases lt_trichotomy k j with h | h | h
    · simp [Map.put, h]
    · simp [Map.put, h]
    · simp [Map.put, h.not_gt, h.ne, ih]

@[simp] theorem Map.upd_upd {α : Type} (m : Map α) (k : Nat) (d : α) (f g : α → α) :
    Map.upd (Map.upd m k d f) k d g = Map.upd m k d (fun x => g (f x)) := by simp [Map.upd]

@[simp] theorem updSlot_updSlot (n : Nat) (f g : Slot → Slot) (c : Chip) :
    updSlot n g (updSlot n f c) = updSlot n (fun x => g (f x)) c := by simp [updSlot]

@[simp] theorem slot_updSlot_self (n : Nat) (f : Slot → Slot) (c : Chip) : slot (updSlot n f c) n = f (slot c n) := by
  simp [slot, updSlot]

@[simp] theorem updSlot_time (n : Nat) (f : Slot → Slot) (c : Chip) : (updSlot n f c).time = c.time := rfl

@[simp] theorem slot_pass (dt n : Nat) (c : Chip) : slot (pass dt c) n = slot c n := by simp [slot]

/-! ### The input check (R190 to R192, R206) -/

/-- A slot once the operands that wait are copied into its input blocks (R190). -/
def Slot.copied (d : Desc) (x : Slot) : Slot :=
  { (match x.ops with | some o => copyOps d o x | none => x) with ops := none }

/-- The copy leaves the deadline. -/
theorem copyOps_dl (d : Desc) (ops : List (List Int)) (x : Slot) : (copyOps d ops x).dl = x.dl := by
  unfold copyOps
  induction (blksOf d 0).zip ops generalizing x with
  | nil => rfl
  | cons p l ih => exact ih _

@[simp] theorem Slot.copied_dl (d : Desc) (x : Slot) : (x.copied d).dl = x.dl := by
  unfold Slot.copied
  split
  · exact copyOps_dl d _ x
  · rfl

/-- The check works on the copied operands: it ends the job at the first bad element or a deadline that has come, and queues it else. -/
theorem evSageInputCheckDone_of_checking {dt n : Nat} {c : Chip} {d : Desc} (hd : descOf (pass dt c).sets.main n = some d)
    (hst : (slot (pass dt c) n).st = .checking) :
    evSageInputCheckDone dt n c =
      let c1 := updSlot n (Slot.copied d) (pass dt c)
      match checkFail d (slot c1 n) with
      | some (b, k, v) => sageEnd d n 0x201 0 [n, b, k, unsigned 32 v] []
          (updSlot n (fun x => { x with failBlk := b, failElem := k, failVal := v }) c1)
      | none => if (slot c1 n).dl * 1000 ≤ c1.time.clock then sageLate d n c1 else updSlot n (fun x => { x with st := .queued }) c1 := by
  simp only [evSageInputCheckDone, hd, hst, bne_self_eq_false, Bool.false_eq_true, if_false]
  rfl

/-- A bad element ends the job as RANGE_INPUT and is named in the slot. -/
theorem evSageInputCheckDone_fails {dt n b k : Nat} {v : Int} {c : Chip} {d : Desc} (hd : descOf (pass dt c).sets.main n = some d)
    (hst : (slot (pass dt c) n).st = .checking) (hbad : checkFail d ((slot (pass dt c) n).copied d) = some (b, k, v)) :
    evSageInputCheckDone dt n c = sageEnd d n 0x201 0 [n, b, k, unsigned 32 v] []
      (updSlot n (fun x => { x.copied d with failBlk := b, failElem := k, failVal := v }) (pass dt c)) := by
  simp only [evSageInputCheckDone_of_checking hd hst, slot_updSlot_self, hbad, updSlot_updSlot]

/-- A job whose operands pass ahead of its deadline is queued. -/
theorem evSageInputCheckDone_queues {dt n : Nat} {c : Chip} {d : Desc} (hd : descOf (pass dt c).sets.main n = some d)
    (hst : (slot (pass dt c) n).st = .checking) (hdl : (pass dt c).time.clock < (slot (pass dt c) n).dl * 1000)
    (hgood : checkFail d ((slot (pass dt c) n).copied d) = none) :
    evSageInputCheckDone dt n c = updSlot n (fun x => { x.copied d with st := .queued }) (pass dt c) := by
  simp only [evSageInputCheckDone_of_checking hd hst, slot_updSlot_self, hgood, Slot.copied_dl, updSlot_time, hdl.not_ge, if_false,
    updSlot_updSlot]

/-! ### The start of a job (R170, R207) -/

/-- A free active engine that is not the alternative of the job's placement, or has run the slot before, starts the job it takes next. -/
theorem evSageJobStart_of_free {dt e n : Nat} {c : Chip} (ha : seActive (pass dt c) e = true)
    (hfree : ∀ p ∈ (pass dt c).slots, ¬(p.2.st = .running ∧ p.2.runSe = e)) (hn : nextSlot (pass dt c) e = some n)
    (hhome : (slot (pass dt c) n).alt ≠ e ∨ (slot (pass dt c) n).home = e ∨ (slot (pass dt c) n).runSe = e) :
    evSageJobStart dt e c = bump (0x098 + e) (updSlot n (fun x =>
      { x with st := .running, runSe := e, startNs := (pass dt c).time.clock, phase := 0 }) (pass dt c)) := by
  have hnone : (pass dt c).slots.any (fun p => p.2.st == .running && p.2.runSe == e) = false := by
    simpa only [List.any_eq_false, Bool.and_eq_true, beq_iff_eq] using hfree
  have hmoved : (e == (slot (pass dt c) n).alt && e != (slot (pass dt c) n).home && (slot (pass dt c) n).runSe != e) = false := by
    simp only [Bool.and_eq_false_iff, beq_eq_false_iff_ne, bne_eq_false_iff_eq]
    omega
  simp only [evSageJobStart, ha, hnone, hn, hmoved, when_false, Bool.not_true, Bool.or_false, Bool.false_eq_true, if_false]

/-! ### The end of a job and its deadline (R208, R218) -/

/-- The running job of an engine ends by its deadline with the outcome of its solve; a factor it built and its iterations are counted. -/
theorem evSageJobEnd_in_time {dt e n : Nat} {c : Chip} {x : Slot} {d : Desc}
    (hx : (pass dt c).slots.find? (fun p => p.2.st == .running && p.2.runSe == e) = some (n, x)) (ho : x.orphan = false)
    (hd : descOf (pass dt c).sets.main n = some d) (ht : (pass dt c).time.clock ≤ x.dl * 1000) :
    evSageJobEnd dt e c =
      let r := solveJob d x
      let c1 := when (!reuses d x && !(r.code == 0x202 && r.role == 0x20)) (bump (0x0A0 + e)) (pass dt c)
      sageEnd d n r.code r.iter (if r.code = 0x202 then [n, r.role, r.step] else []) (if isErr r.code then [] else r.res)
        (updSlot n (applySolve d r) (if 4 ≤ d.cls then bumpBy (0x0A8 + e) r.iter c1 else c1)) := by
  simp only [evSageJobEnd, hx, ho, hd, ht.not_gt, Bool.false_eq_true, if_false]

/-- A job that has not started by its deadline ends there. -/
theorem evSageDeadline_of_waiting {dt n : Nat} {c : Chip} {d : Desc} (hd : descOf (pass dt c).sets.main n = some d)
    (hw : (slot (pass dt c) n).st = .checking ∨ (slot (pass dt c) n).st = .queued) :
    evSageDeadline dt n c = sageLate d n (pass ((slot (pass dt c) n).dl * 1000 - (pass dt c).time.clock) (pass dt c)) := by
  rcases hw with h | h <;> simp only [evSageDeadline, h, pass_sets _ (pass dt c), hd]

/-! ### Agreement in a pair (R222) -/

/-- A member without an outcome of its own keeps the first one that its partner reports. -/
theorem evSageOutcomeReceived_first {dt n : Nat} {c : Chip} (hp : isPair (pass dt c) = true) (hq : (slot (pass dt c) n).partner = none)
    (hown : (slot (pass dt c) n).own = none) (tag dg : Nat) (o : SOut) :
    evSageOutcomeReceived dt n tag dg o c = updSlot n (fun x => { x with partner := some (tag, dg, o) }) (pass dt c) := by
  simp only [evSageOutcomeReceived, hp, hq, hown, Bool.not_true, Bool.not_false, when_true, Bool.false_eq_true, if_false]

/-- A change made where a condition fails. -/
theorem when_not (p : Bool) (f : Chip → Chip) (c : Chip) : when (!p) f c = if p then c else f c := by cases p <;> rfl

/-- Neither member's outcome waits for the agreement any more. -/
def clearOutcomes (n : Nat) (c : Chip) : Chip := updSlot n (fun x => { x with own := none, partner := none }) c

/-- The agreement comes to the own outcome: a disagreement is recorded, and an error raises its event. -/
def settleOwn (d : Desc) (n code : Nat) (agreed : Bool) (c : Chip) : Chip :=
  when (isErr code) (sageEvent d) (when (!agreed) (record 0x0919 (0x0D00 + n) []) (clearOutcomes n c))

theorem settleOwn_of_err {code : Nat} (h : isErr code = true) (d : Desc) (n : Nat) (agreed : Bool) (c : Chip) :
    settleOwn d n code agreed c
      = sageEvent d (if agreed then clearOutcomes n c else record 0x0919 (0x0D00 + n) [] (clearOutcomes n c)) := by
  rw [settleOwn, h, when_true, when_not]

theorem settleOwn_of_ok {code : Nat} (h : isErr code = false) (d : Desc) (n : Nat) (agreed : Bool) (c : Chip) :
    settleOwn d n code agreed c = if agreed then clearOutcomes n c else record 0x0919 (0x0D00 + n) [] (clearOutcomes n c) := by
  rw [settleOwn, h, when_false, when_not]

/-- At t_ag a member that missed the deadline takes the result blocks its partner sent; any other outcome stays its own, and is agreed where
both have the same error or the same result. -/
theorem evSageAgreement_of_heard {dt n code it dg tag pdg : Nat} {c : Chip} {d : Desc} {o : SOut} (hp : isPair (pass dt c) = true)
    (hd : descOf (pass dt c).sets.main n = some d) (hown : (slot (pass dt c) n).own = some (code, it, dg))
    (hq : (slot (pass dt c) n).partner = some (tag, pdg, o)) (ht : tag = (slot (pass dt c) n).tag) (ho : o.code ≠ 0x206) :
    evSageAgreement dt n c =
      let c1 := pass ((slot (pass dt c) n).dl * 1000 + 50000 - (pass dt c).time.clock) (pass dt c)
      if code = 0x206 ∧ isErr o.code = false then
        (if o.res.isEmpty then settleOwn d n code false c1
         else clearOutcomes n (adoptSage d n o c1))
      else settleOwn d n code (if isErr code then code == o.code else !isErr o.code && dg == pdg) c1 := by
  subst ht
  simp only [evSageAgreement, hp, hd, hown, hq, ho, and_false, bne_self_eq_false, Bool.not_true, Bool.not_eq_true', Bool.false_eq_true, if_false]
  exact if_congr Iff.rfl rfl (apply_ite (settleOwn d n code · _) _ _ _).symm

/-- Settles O28: each row is one event's equation; at the agreement the own outcome and then its being an error split the cases. -/
theorem sageEvents : Obligations.SageEvents := by
  refine ⟨fun dt n d b k v => ?fails, fun dt n d => ?queues, fun dt e n => ?starts, fun dt e n x d => ?ends, fun dt n d => ?misses,
    fun dt n tag dg o => ?hears, fun dt n d code it dg tag pdg o => ?agrees⟩
  case fails =>
    exact takes_of_lift (f := evSageInputCheckDone dt n) (fun _ => rfl) fun c ⟨hd, hst, hbad⟩ => evSageInputCheckDone_fails hd hst hbad
  case queues =>
    exact takes_of_lift (f := evSageInputCheckDone dt n) (fun _ => rfl) fun c ⟨hd, hst, hdl, _, hgood⟩ =>
      evSageInputCheckDone_queues hd hst hdl hgood
  case starts =>
    exact takes_of_lift (f := evSageJobStart dt e) (fun _ => rfl) fun c ⟨ha, hfree, hn, hhome⟩ => evSageJobStart_of_free ha hfree hn hhome
  case ends =>
    exact takes_of_lift (f := evSageJobEnd dt e) (fun _ => rfl) fun c ⟨hx, ho, hd, ht⟩ => evSageJobEnd_in_time hx ho hd ht
  case misses =>
    refine takes_of_lift (f := evSageDeadline dt n) (fun _ => rfl) fun c ⟨hd, hw⟩ => ?_
    rw [evSageDeadline_of_waiting hd hw, sageLate, slot_pass _ _ (pass dt c)]
    rfl
  case hears =>
    exact takes_of_lift (f := evSageOutcomeReceived dt n tag dg o) (fun _ => rfl) fun c ⟨hp, hq, hown⟩ =>
      evSageOutcomeReceived_first hp hq hown tag dg o
  case agrees =>
    refine takes_of_lift (f := evSageAgreement dt n) (fun _ => rfl) fun c ⟨hp, hd, hown, hq, ht, ho⟩ => ?_
    rw [evSageAgreement_of_heard hp hd hown hq ht ho]
    refine ite_congr rfl (fun ⟨hmiss, _⟩ => ?_) fun _ => ?_
    · rw [settleOwn_of_err (hmiss ▸ rfl), if_neg Bool.false_ne_true]
      rfl
    · cases herr : isErr code with
      | false =>
        simp only [settleOwn_of_ok herr, Bool.false_eq_true, if_false, Bool.and_eq_true, Bool.not_eq_true', beq_iff_eq]
        rfl
      | true =>
        simp only [settleOwn_of_err herr, if_true, beq_iff_eq]
        rfl

end Sys2Proof.Machine
end

section
/-! The commands of groups 0x06 to 0x09 (R432, R433): what each run comes to once its checks pass, and from it what each row answers. -/
namespace Sys2Proof.Machine

open Sys2Proof Sys2Proof.Safety

section
variable {ss : Session} {p : List Byte} {c : Chip}

/-! ### Digital and analogue channels (R249, R256, R269, R272) -/

theorem doDiCountReset_decides (q : Req) (hg : gate 0x0601 c = .ok ()) (hr : role 2 ss = .ok ()) (hlen : p.length = 4) :
    doDiCountReset q ss p c = .ok (decided (.diReset (fld p 0 4)) q [] c) := by
  simp only [doDiCountReset, form_length hlen, hr, hg, propose_decided, done_bind_ok]

theorem doDoLearn_learns (q : Req) (hg : gate 0x0602 c = .ok ()) (hr : role 2 ss = .ok ()) (hp : Shaped p 4 [1, 2, 3])
    (hch : fld p 0 1 < 24) (hen : doEn c (fld p 0 1) = true) (hcfg : cfgb c (0x3140 + fld p 0 1) 1 14 = true)
    (hidle : (dov c (fld p 0 1)).learn = none) :
    doDoLearn q ss p c
      = accept (updDo (fld p 0 1) (fun d => { d with learn := some (16, none, 0, q.sess, q.tag), learnOn := false, learnCur := none }) c) := by
  have hmay : (doEn c (fld p 0 1) && cfgb c (0x3140 + fld p 0 1) 1 14) = true := by rw [hen, hcfg]; rfl
  have hidle : (dov c (fld p 0 1)).learn.isNone = true := by rw [hidle]; rfl
  simp only [doDoLearn, form_shaped hp, hr, check_true (decide_eq_true hch), hg, check_true hmay, check_true hidle, done_bind_ok]

theorem doHoldAck_decides (q : Req) (hg : gate 0x0603 c = .ok ()) (hr : role 1 ss = .ok ()) (hp : Shaped p 4 [1, 2, 3])
    (hgrp : fld p 0 1 < 3) (hheld : Map.getD c.io.hold (fld p 0 1) false = true) :
    doHoldAck q ss p c = .ok (decided (.holdAck (fld p 0 1)) q [] c) := by
  simp only [doHoldAck, form_shaped hp, hr, check_true (decide_eq_true hgrp), hg, check_true hheld, propose_decided, done_bind_ok]

/-- A HART request with room in its channel's queue is queued after its answer; a command that jobs may not send stays off a channel of
class S but in STOP (R248, R249). -/
theorem doHartSend_queues (q : Req) (hg : gate 0x0604 c = .ok ()) (hr : role (if hartRefused (fld p 2 1) then 3 else 2) ss = .ok ())
    (hlen : p.length = 4 + fld p 3 1) (hmax : fld p 3 1 ≤ 64) (hchan : fld p 0 1 < 32) (haddr : fld p 1 1 < 64)
    (hmay : hartRefused (fld p 2 1) = false ∨ hartClassS c (fld p 0 1) = false ∨ c.sup.mstate = .stop)
    (hroom : (hch c (fld p 0 1)).queue.length < 4) :
    doHartSend q ss p c
      = accept c (hartPush { h := fld p 0 1, addr := fld p 1 1, cmd := fld p 2 1, data := p.drop 4, tag := q.tag % 2 ^ 32,
                             sess := some q.sess }) := by
  have harg : (decide (fld p 0 1 < 32) && decide (fld p 1 1 < 64)) = true := by simp [hchan, haddr]
  have hmay : (!hartRefused (fld p 2 1) || !hartClassS c (fld p 0 1) || c.sup.mstate == .stop) = true := by
    simpa [or_assoc] using hmay
  simp only [doHartSend, check_true (decide_eq_true hmax), form_length hlen, hr, check_true harg, hg, check_true hmay,
    check_true (decide_eq_true hroom), done_bind_ok]

/-- A loop check sets a digital output on or off, or an analogue output up to its limit (R432). -/
theorem doLoopCheck_orders (hg : gate 0x0605 c = .ok ()) (hr : role 3 ss = .ok ()) (hp : Shaped p 8 [2, 3])
    (hch : (fld p 0 1 = 0 ∧ fld p 1 1 < 24 ∧ fld p 4 4 < 2) ∨ (fld p 0 1 = 1 ∧ fld p 1 1 < 8 ∧ fld p 4 4 ≤ 44000)) :
    doLoopCheck ss p c = .ok (doneFor (.loopCheck (fld p 0 1) (fld p 1 1) (fld p 4 4)) c) := by
  have harg : ((fld p 0 1 == 0 && decide (fld p 1 1 < 24) && decide (fld p 4 4 < 2))
      || (fld p 0 1 == 1 && decide (fld p 1 1 < 8) && decide (fld p 4 4 ≤ 44000))) = true := by simpa [and_assoc] using hch
  simp only [doLoopCheck, form_shaped hp, hr, check_true harg, hg, okWith, doneFor, done_bind_ok]

/-! ### CAN (R282, R285, R290, R294) -/

/-- A channel and a buffer that hosts may name (R281). -/
theorem hostBuf_ok {ch bf : Nat} (hch : ch < 4) (hmin : 32 ≤ bf) (hmax : bf < 48) : hostBuf ch bf = true := by
  simp [hostBuf, hch, hmin, hmax]

/-- The frame that a CAN_TX payload describes (R282). -/
def canTxFrame (p : List Byte) : CanFrame :=
  { ext := flg p 7 7, id := fld p 4 4 % 2 ^ 29, dlc := fld p 8 1, data := (p.drop 12).take (dlcLen (fld p 8 1)) }

theorem doCanTx_orders (q : Req) (hg : gate 0x0701 c = .ok ()) (hr : role 1 ss = .ok ()) (hp : Shaped p 76 [9, 10, 11])
    (hbuf : hostBuf (fld p 0 1) (fld p 1 1) = true) (harm : fld p 2 2 ≤ 10000) (hdlc : fld p 8 1 < 16)
    (hfd : fld p 8 1 ≤ 8 ∨ cfgb c (0x4000 + fld p 0 1) 1 2 = true) :
    doCanTx q ss p c
      = .ok (acceptedFor (.canTx { ch := fld p 0 1, buf := fld p 1 1, frame := canTxFrame p, arm := fld p 2 2, tag := q.tag % 2 ^ 32 }
          q.sess q.tag) c) := by
  have hfd : (decide (fld p 8 1 ≤ 8) || cfgb c (0x4000 + fld p 0 1) 1 2) = true := by simpa using hfd
  have harg : (hostBuf (fld p 0 1) (fld p 1 1) && decide (fld p 2 2 ≤ 10000) && decide (fld p 8 1 < 16)
      && (decide (fld p 8 1 ≤ 8) || cfgb c (0x4000 + fld p 0 1) 1 2)) = true := by simp [hbuf, harm, hdlc, hfd]
  simp only [doCanTx, form_shaped hp, hr, check_true harg, hg, accept, acceptedFor, canTxFrame, done_bind_ok]

theorem doCanAbort_aborts (hg : gate 0x0702 c = .ok ()) (hr : role 1 ss = .ok ()) (hp : Shaped p 4 [2, 3])
    (hbuf : hostBuf (fld p 0 1) (fld p 1 1) = true) : doCanAbort ss p c = okWith [] (canAbortBuf (fld p 0 1) (fld p 1 1) c) := by
  simp only [doCanAbort, form_shaped hp, hr, check_true hbuf, hg, done_bind_ok]

/-- The copy of an object that CAN_OBJ_READ answers: its record with the NEW bit, or zeros (R289, R290). -/
def canObjAnswer (x : CanObj) : List Byte := match canCopy x with | some r => rxBytes r x.isNew false | none => List.replicate 80 0

/-- A copy of an object that asks for its NEW bit to be cleared needs role 1, one that does not needs none (R290). -/
theorem doCanObjRead_copies (hg : gate 0x0703 c = .ok ()) (hr : role (fld p 2 1) ss = .ok ()) (hp : Shaped p 4 [3])
    (hch : fld p 0 1 < 4) (hobj : fld p 1 1 < 128) (hclear : fld p 2 1 < 2) :
    doCanObjRead ss p c
      = okWith (canObjAnswer (Map.getD (canCh c (fld p 0 1)).objs (fld p 1 1) {}))
        (if fld p 2 1 = 1 then updCan (fld p 0 1) (fun h => { h with
            objs := Map.upd h.objs (fld p 1 1) {} (fun x => { x with isNew := false }) }) c
         else c) := by
  have harg : (decide (fld p 0 1 < 4) && decide (fld p 1 1 < 128) && decide (fld p 2 1 < 2)) = true := by simp [hch, hobj, hclear]
  have hrole : role (if fld p 2 1 = 0 then 0 else 1) ss = .ok () := by
    split <;> rename_i h
    · rwa [h] at hr
    · rwa [show fld p 2 1 = 1 by omega] at hr
  simp only [doCanObjRead, form_shaped hp, hrole, check_true harg, hg, when, beq_iff_eq, done_bind_ok]
  rfl

theorem doCanRecover_recovers (hg : gate 0x0704 c = .ok ()) (hr : role 1 ss = .ok ()) (hp : Shaped p 4 [1, 2, 3])
    (hch : fld p 0 1 < 4) (hoff : (canCh c (fld p 0 1)).st = .busOff) (hman : cfgb c (0x4000 + fld p 0 1) 1 7 = true) :
    doCanRecover ss p c = okWith [] (updCan (fld p 0 1) (fun h => { h with st := .recovering }) c) := by
  have hmay : ((canCh c (fld p 0 1)).st == .busOff && cfgb c (0x4000 + fld p 0 1) 1 7) = true := by rw [hoff, hman]; rfl
  simp only [doCanRecover, form_shaped hp, hr, check_true (decide_eq_true hch), hg, check_true hmay, done_bind_ok]

theorem doCanSubscribe_subscribes (q : Req) (hg : gate 0x0705 c = .ok ()) (hr : role 0 ss = .ok ()) (hp : Shaped p 4 [1, 2, 3]) :
    doCanSubscribe q ss p c
      = .ok { chip := subscribe q.sess 0 8 (fld p 0 1) c
              after := forAll ((List.range 8).filter (fun r => bit (fld p 0 1) r)) drainCan } := by
  simp only [doCanSubscribe, form_shaped hp, hr, hg, done_bind_ok]

/-! ### Time (R324, R333) -/

theorem doTsSubscribe_subscribes (q : Req) (hg : gate 0x0801 c = .ok ()) (hr : role 0 ss = .ok ()) (hp : Shaped p 4 [1, 2, 3])
    (hmask : fld p 0 1 < 16) : doTsSubscribe q ss p c = okWith [] (subscribe q.sess 8 4 (fld p 0 1) c) := by
  simp only [doTsSubscribe, form_shaped hp, hr, check_true (decide_eq_true hmask), hg, done_bind_ok]

theorem doTimeGet_answers (hg : gate 0x0802 c = .ok ()) (hr : role 0 ss = .ok ()) (hp : p = []) :
    doTimeGet ss p c
      = okWith (leBytes 8 c.time.clock ++ (List.range 8).flatMap (fun i => leBytes 4 ((paramWord c 0x5201 (i + 1)).getD 0))) c := by
  simp only [doTimeGet, form_nil hp, hr, hg, done_bind_ok]

theorem doTimeSet_steps (hg : gate 0x0803 c = .ok ()) (hr : role 2 ss = .ok ()) (hlen : p.length = 8) (hservo : c.time.servo = .grandmaster) :
    doTimeSet ss p c = okWith [] (stepClock (fld p 0 8) (record 0x082A 0 [] c)) := by
  have hservo : (c.time.servo == .grandmaster) = true := by rw [hservo]; rfl
  simp only [doTimeSet, form_length hlen, hr, hg, check_true hservo, done_bind_ok]

/-! ### Sage (R204, R209, R224) -/

/-- A slot whose descriptor names no owner is the hosts' (R204). -/
theorem hostSlot_of_owner {n : Nat} {d : Desc} (hd : descOf c.sets.main n = some d) (ho : d.owner = 0xFFFF) : hostSlot c n = some d := by
  simp [hostSlot, hd, ho]

/-- Values for elements that an input block of a host's idle slot has are written at once (R204, R209). -/
theorem doSlotWrite_writes {d : Desc} {b : SBlk} {n : Nat} (hg : gate 0x0901 c = .ok ()) (hr : role 2 ss = .ok ())
    (hp : Shaped p (8 + 4 * n) [2, 3]) (hmin : 1 ≤ n) (hmax : n ≤ 1020) (hslot : hostSlot c (fld p 0 1) = some d)
    (hb : d.blks[fld p 1 1]? = some b) (hin : b.kind = 0) (hfit : fld p 4 4 + n ≤ b.count) (hidle : slotBusy c (fld p 0 1) = false) :
    doSlotWrite ss p c
      = okWith [] (updSlot (fld p 0 1)
          (writeSlot d b (fld p 1 1) (fld p 4 4) ((List.range n).map (fun i => signed 32 (fld p (8 + 4 * i) 4)))) c) := by
  obtain ⟨hlen, hzero⟩ := hp
  have hn : (p.length - 8) / 4 = n := by omega
  have hform : form p p.length [2, 3] = .ok () := form_shaped ⟨rfl, hzero⟩
  have hcount : (p.length == 8 + 4 * n && decide (1 ≤ n) && decide (n ≤ 1020)) = true := by simp [hlen, hmin, hmax]
  have harg : (b.kind == 0 && decide (fld p 4 4 + n ≤ b.count)) = true := by simp [hin, hfit]
  have hidle : (!slotBusy c (fld p 0 1)) = true := by rw [hidle]; rfl
  simp only [doSlotWrite, hn, check_true hcount, hform, hr, hslot, hb, check_true harg, hg, check_true hidle, done_bind_ok]

theorem doSlotSubmit_orders (q : Req) (hg : gate 0x0902 c = .ok ()) (hr : role 2 ss = .ok ()) (hp : Shaped p 8 [1, 2, 3])
    (hslot : (hostSlot c (fld p 0 1)).isSome = true) (hmin : 1000 ≤ fld p 4 4) (hmax : fld p 4 4 ≤ 10000000) (hcool : c.hlth.stage < 3)
    (hidle : slotBusy c (fld p 0 1) = false) :
    doSlotSubmit q ss p c = .ok (acceptedFor (.slotSubmit (fld p 0 1) (fld p 4 4) q.sess q.tag) c) := by
  have harg : ((hostSlot c (fld p 0 1)).isSome && decide (1000 ≤ fld p 4 4) && decide (fld p 4 4 ≤ 10000000)) = true := by
    simp [hslot, hmin, hmax]
  have hidle : (!slotBusy c (fld p 0 1)) = true := by rw [hidle]; rfl
  simp only [doSlotSubmit, form_shaped hp, hr, check_true harg, hg, check_true (decide_eq_true hcool), check_true hidle, accept, acceptedFor,
    done_bind_ok]

/-- A read of elements that a block has gives the slot's status word and the elements, those of a result from the published bank. -/
theorem doSlotRead_answers {d : Desc} {b : SBlk} (hg : gate 0x0903 c = .ok ()) (hr : role 0 ss = .ok ()) (hp : Shaped p 12 [2, 3])
    (hd : descOf c.sets.main (fld p 0 1) = some d) (hb : d.blks[fld p 1 1]? = some b) (hmax : fld p 8 4 ≤ 1020)
    (hfit : fld p 4 4 + fld p 8 4 ≤ b.count) :
    doSlotRead ss p c
      = okWith (leBytes 4 (slot c (fld p 0 1)).cur.word
          ++ ((slotRead (slot c (fld p 0 1)) (fld p 1 1) (fld p 4 4 + fld p 8 4)
                (b.kind == 1 && (slot c (fld p 0 1)).pubBank)).drop (fld p 4 4)).flatMap
              (fun v => leBytes (if b.role = 0x21 then 2 else 4) (unsigned 32 v))) c := by
  have hblk : (descOf c.sets.main (fld p 0 1)).bind (fun d => d.blks[fld p 1 1]?) = some b := by rw [hd, Option.bind_some, hb]
  have harg : (decide (fld p 8 4 ≤ 1020) && decide (fld p 4 4 + fld p 8 4 ≤ b.count)) = true := by simp [hmax, hfit]
  simp only [doSlotRead, form_shaped hp, hr, hblk, check_true harg, hg, done_bind_ok]

/-- A test of a deadline that lies within the owner's period is decided in a pair, and acts two boundaries on elsewhere (R224). -/
theorem doDeadlineTest_orders (q : Req) {d : Desc} (hg : gate 0x0904 c = .ok ()) (hr : role 3 ss = .ok ()) (hp : Shaped p 8 [1, 2, 3])
    (hd : descOf c.sets.main (fld p 0 1) = some d) (howner : d.owner ≠ 0xFFFF) (hus : fld p 4 4 ≠ 0)
    (hfit : fld p 4 4 + d.marginUs < cfg c (0x2100 + d.owner) 2 31 0 * tTick c) :
    doDeadlineTest q ss p c
      = .ok (if isPair c then decided (.deadlineTest (fld p 0 1) (fld p 4 4)) q [] c
             else { chip := order (c.tt.tn + 2) (.deadlineTest (fld p 0 1) (fld p 4 4)) c }) := by
  have harg : (d.owner != 0xFFFF && fld p 4 4 != 0
      && decide (fld p 4 4 + d.marginUs < cfg c (0x2100 + d.owner) 2 31 0 * tTick c)) = true := by simp [howner, hus, hfit]
  simp only [doDeadlineTest, form_shaped hp, hr, hd, check_true harg, hg, propose_decided, done_bind_ok]
  split <;> rfl

end

/-- Settles O55: every clause is what its command's run comes to, by `answers_of_run`. -/
theorem fieldCanTimeAndSageCommands : Obligations.FieldCanTimeAndSageCommands := by
  unfold Obligations.FieldCanTimeAndSageCommands
  refine ⟨?diReset, ?learn, ?hold, ?hart, ?loop, ?canTx, ?canAbort, ?canObj, ?canRecover, ?canSubscribe, ?tsSubscribe, ?timeGet, ?timeSet,
    ?write, ?submit, ?read, ?deadline⟩
  case diReset => exact answers_of_run doDiCountReset (fun _ => rfl) fun q _ _ hg hr hp => doDiCountReset_decides q hg hr hp
  case learn =>
    refine answers_of_run doDoLearn (fun _ => rfl) fun q ss c hg hr hp => ?_
    obtain ⟨hf, hch, hen, hcfg, hidle⟩ := hp
    exact doDoLearn_learns q hg hr hf hch hen hcfg hidle
  case hold =>
    refine answers_of_run doHoldAck (fun _ => rfl) fun q ss c hg hr hp => ?_
    obtain ⟨hf, hgrp, hheld⟩ := hp
    exact doHoldAck_decides q hg hr hf hgrp hheld
  case hart =>
    refine fun need => answers_of_run doHartSend (fun _ => rfl) fun q ss c hg hr hp => ?_
    obtain ⟨rfl, hlen, hmax, hchan, haddr, hmay, hroom⟩ := hp
    exact doHartSend_queues q hg hr hlen hmax hchan haddr hmay hroom
  case loop => exact answers_of_run (fun _ => doLoopCheck) (fun _ => rfl) fun _ _ _ hg hr hp => doLoopCheck_orders hg hr hp.1 hp.2
  case canTx =>
    refine answers_of_run doCanTx (fun _ => rfl) fun q ss c hg hr hp => ?_
    obtain ⟨hf, hch, hmin, hmax, harm, hdlc, hfd⟩ := hp
    exact doCanTx_orders q hg hr hf (hostBuf_ok hch hmin hmax) harm hdlc hfd
  case canAbort =>
    refine answers_of_run (fun _ => doCanAbort) (fun _ => rfl) fun q ss c hg hr hp => ?_
    obtain ⟨hf, hch, hmin, hmax⟩ := hp
    exact doCanAbort_aborts hg hr hf (hostBuf_ok hch hmin hmax)
  case canObj =>
    refine fun need => answers_of_run (fun _ => doCanObjRead) (fun _ => rfl) fun q ss c hg hr hp => ?_
    obtain ⟨hf, hch, hobj, hclear, rfl⟩ := hp
    exact doCanObjRead_copies hg hr hf hch hobj hclear
  case canRecover =>
    refine answers_of_run (fun _ => doCanRecover) (fun _ => rfl) fun q ss c hg hr hp => ?_
    obtain ⟨hf, hch, hoff, hman⟩ := hp
    exact doCanRecover_recovers hg hr hf hch hoff hman
  case canSubscribe => exact answers_of_run doCanSubscribe (fun _ => rfl) fun q _ _ hg hr hp => doCanSubscribe_subscribes q hg hr hp
  case tsSubscribe => exact answers_of_run doTsSubscribe (fun _ => rfl) fun q _ _ hg hr hp => doTsSubscribe_subscribes q hg hr hp.1 hp.2
  case timeGet => exact answers_of_run (fun _ => doTimeGet) (fun _ => rfl) fun _ _ _ hg hr hp => doTimeGet_answers hg hr hp
  case timeSet => exact answers_of_run (fun _ => doTimeSet) (fun _ => rfl) fun _ _ _ hg hr hp => doTimeSet_steps hg hr hp.1 hp.2
  case write =>
    refine fun d b n => answers_of_run (fun _ => doSlotWrite) (fun _ => rfl) fun q ss c hg hr hp => ?_
    obtain ⟨hf, hmin, hmax, hd, ho, hb, hin, hfit, hidle⟩ := hp
    exact doSlotWrite_writes hg hr hf hmin hmax (hostSlot_of_owner hd ho) hb hin hfit hidle
  case submit =>
    refine answers_of_run doSlotSubmit (fun _ => rfl) fun q ss c hg hr hp => ?_
    obtain ⟨hf, ⟨d, hd, ho⟩, hmin, hmax, hcool, hidle⟩ := hp
    exact doSlotSubmit_orders q hg hr hf (by rw [hostSlot_of_owner hd ho]; rfl) hmin hmax hcool hidle
  case read =>
    refine fun d b => answers_of_run (fun _ => doSlotRead) (fun _ => rfl) fun q ss c hg hr hp => ?_
    obtain ⟨hf, hd, hb, hmax, hfit⟩ := hp
    exact doSlotRead_answers hg hr hf hd hb hmax hfit
  case deadline =>
    refine fun d => answers_of_run doDeadlineTest (fun _ => rfl) fun q ss c hg hr hp => ?_
    obtain ⟨hf, hd, howner, hus, hfit⟩ := hp
    exact doDeadlineTest_orders q hg hr hf hd howner hus hfit

end Sys2Proof.Machine
end

section
/-! What SGSUB outputs (R200): the two rows of the rule, by the req input. -/
namespace Sys2Proof.Machine

open Sys2Proof Sys2Proof.Safety

/-- A number at the front of some bytes reads back, cut to its bytes. -/
theorem fld_leBytes_append (k n : Nat) (bs : List Byte) : fld (leBytes k n ++ bs) 0 k = n % 256 ^ k := by
  rw [fld, List.drop_zero, List.take_left' (leBytes_length k n), leNat_leBytes]

section
variable (e : Env) (ins outs : List Ref) (st : List Byte)

/-- With req TRUE SGSUB writes the low word of the job's TN and PENDING (R200). -/
theorem bodySgsub_wr_of_req (h : e.val (at_ ins 1) ≠ 0) : (bodySgsub e ins outs st).wr = puts outs [e.job.tn % 2 ^ 32, 1] := by
  simp [bodySgsub, Env.on, h]

/-- With req TRUE SGSUB keeps the tag as LAST_TAG (R200). -/
theorem bodySgsub_tag_of_req (h : e.val (at_ ins 1) ≠ 0) :
    (bodySgsub e ins outs st).inst.map (fun st => fld st 0 4) = some (e.job.tn % 2 ^ 32) := by
  simp [bodySgsub, Env.on, h, fld_leBytes_append]

/-- With req FALSE SGSUB writes LAST_TAG and the slot's current status word (R200). -/
theorem bodySgsub_wr_of_no_req (h : e.val (at_ ins 1) = 0) :
    (bodySgsub e ins outs st).wr = puts outs [fld st 0 4, (slot e.c (e.val (at_ ins 0))).cur.word] := by
  simp [bodySgsub, Env.on, h]

end

/-- Settles O14: the row computes `bodySgsub`, whose outputs and LAST_TAG the req input decides. -/
theorem submissionTagAndStatus : Obligations.SubmissionTagAndStatus := by
  intro b s j hruns e ins
  have hrow : Computes sigSgsub .sgsub bodySgsub := computes_of sigSgsub .sgsub bodySgsub fun _ _ => rfl
  exact ⟨_, hrow b s j hruns, fun hreq => ⟨bodySgsub_wr_of_req e ins _ _ hreq, bodySgsub_tag_of_req e ins _ _ hreq⟩,
    bodySgsub_wr_of_no_req e ins _ _⟩

end Sys2Proof.Machine
end

section
/-! What a commit leaves at the output channels (R160, R233, R241, R242, R262, R266, R269, R272): a channel after a change of it, after a value
committed to it, and after its on-period ends. -/
namespace Sys2Proof.Machine

open Sys2Proof

/-! ### A channel after a change of it -/

@[simp] theorem ao_updAo_self (ch : Nat) (f : Ao → Ao) (c : Chip) :
    ao (updAo ch f c) ch = { f (ao c ch) with status := aoStatus c ch (f (ao c ch)) } := by
  simp [ao, updAo]

theorem ao_updAo_ne {ch u : Nat} (f : Ao → Ao) (c : Chip) (h : u ≠ ch) : ao (updAo ch f c) u = ao c u := by
  simp [ao, updAo, Map.getD_put_ne _ _ _ _ _ h]

@[simp] theorem dov_updDo_self (ch : Nat) (f : Do → Do) (c : Chip) :
    dov (updDo ch f c) ch = { f (dov c ch) with status := doStatus c ch (f (dov c ch)) } := by
  simp [dov, updDo]

theorem dov_updDo_ne {ch u : Nat} (f : Do → Do) (c : Chip) (h : u ≠ ch) : dov (updDo ch f c) u = dov c u := by
  simp [dov, updDo, Map.getD_put_ne _ _ _ _ _ h]

@[simp] theorem doEn_updDo (ch : Nat) (f : Do → Do) (c : Chip) : doEn (updDo ch f c) = doEn c := rfl

@[simp] theorem fdState_updDo (ch : Nat) (f : Do → Do) (c : Chip) : fdState (updDo ch f c) = fdState c := rfl

@[simp] theorem updDo_reinit (ch : Nat) (f : Do → Do) (c : Chip) : (updDo ch f c).io.reinit = c.io.reinit := rfl

@[simp] theorem updDo_hold (ch : Nat) (f : Do → Do) (c : Chip) : (updDo ch f c).io.hold = c.io.hold := rfl

theorem dov_bump (n : Nat) (c : Chip) (ch : Nat) : dov (bump n c) ch = dov c ch := by rw [dov, bump_io, dov]

/-! ### A value committed to a current output (R160, R233, R241, R242) -/

section
variable (ch v : Nat) {c : Chip}

theorem committed_pushAo (c : Chip) : (ao (pushAo ch v c) ch).committed = Nat.min v 44000 := by
  unfold pushAo
  rw [ao_updAo_self]
  dsimp only
  split_ifs <;> rfl

/-- Nothing keeps the value from becoming the command in force. -/
theorem pushAo_of_reached (ht : (ao c ch).trans = false) (hon : aoOn c ch = true) (hs : (ao c ch).subst = false) (hfa : c.io.fa ≠ 3)
    (hwd : Map.getD c.io.aoWd (ch / 4) false = false) :
    pushAo ch v c = updAo ch (fun a => { a with committed := Nat.min v 44000, cmd := Nat.min v 44000 }) c := by
  simp [pushAo, updAo, ht, hon, hs, hfa, hwd]

theorem cmd_pushAo_of_reached (ht : (ao c ch).trans = false) (hon : aoOn c ch = true) (hs : (ao c ch).subst = false) (hfa : c.io.fa ≠ 3)
    (hwd : Map.getD c.io.aoWd (ch / 4) false = false) : (ao (pushAo ch v c) ch).cmd = Nat.min v 44000 := by
  rw [pushAo_of_reached ch v ht hon hs hfa hwd, ao_updAo_self]

theorem cmd_pushAo_of_off (ht : (ao c ch).trans = false) (hoff : aoOn c ch = false) : (ao (pushAo ch v c) ch).cmd = 0 := by
  simp [pushAo, ht, hoff]

/-- During a transfer to the spare driver the commit is held back. -/
theorem pushAo_of_subst (ht : (ao c ch).trans = false) (hon : aoOn c ch = true) (hs : (ao c ch).subst = true) :
    (ao (pushAo ch v c) ch).cmd = (ao c ch).cmd ∧ (ao (pushAo ch v c) ch).heldCmd = some (Nat.min v 44000) := by
  simp [pushAo, ht, hon, hs]

theorem cmd_pushAo_of_trans (ht : (ao c ch).trans = true) : (ao (pushAo ch v c) ch).cmd = (ao c ch).cmd := by
  simp [pushAo, ht]

/-- A reset field side and a group in the hands of its watchdog keep the command in force. -/
theorem cmd_pushAo_of_barred (hon : aoOn c ch = true) (hs : (ao c ch).subst = false)
    (hb : c.io.fa = 3 ∨ Map.getD c.io.aoWd (ch / 4) false = true) : (ao (pushAo ch v c) ch).cmd = (ao c ch).cmd := by
  simp [pushAo, hon, hs, hb]

theorem ao_pushAo_ne {ch u : Nat} (v : Nat) (c : Chip) (h : u ≠ ch) : ao (pushAo ch v c) u = ao c u := ao_updAo_ne _ c h

end

/-! ### The end of an on-period (R269) changes what has been learned alone -/

/-- A digital output without its status and what it has learned of its load. -/
def Do.switch (d : Do) : Do :=
  { d with status := 0, lo := 0, hi := 0, devCnt := 0, learn := none, learnOn := false, learnCur := none }

theorem Do.outputs_of_switch {d d' : Do} (h : d.switch = d'.switch) : d.cmd = d'.cmd ∧ d.closed = d'.closed ∧ d.committed = d'.committed :=
  ⟨show d.switch.cmd = d'.switch.cmd by rw [h], show d.switch.closed = d'.switch.closed by rw [h],
    show d.switch.committed = d'.switch.committed by rw [h]⟩

theorem Map.find_mapV {α β : Type} (m : Map α) (f : Nat → α → β) (k : Nat) : Map.find (Map.mapV m f) k = (Map.find m k).map (f k) := by
  induction m with
  | nil => rfl
  | cons x r ih =>
    obtain ⟨j, a⟩ := x
    by_cases h : j = k
    · subst h; simp [Map.mapV, Map.find]
    · simpa [Map.mapV, Map.find, h] using ih

/-- An object that is not listed is in its reset condition; a change that keeps that condition changes every object alike. -/
theorem Map.getD_mapV {α : Type} (m : Map α) (f : Nat → α → α) (k : Nat) {d : α} (hd : f k d = d) :
    Map.getD (Map.mapV m f) k d = f k (Map.getD m k d) := by
  rw [Map.getD, Map.find_mapV, Map.getD]
  cases Map.find m k with
  | none => exact hd.symm
  | some a => rfl

theorem dov_core (c : Chip) (ch : Nat) : dov c.core ch = { dov c ch with learn := none } :=
  Map.getD_mapV c.io.dout (fun _ d => { d with learn := none }) ch rfl

theorem switch_core (ch : Nat) (c : Chip) : (dov c.core ch).switch = (dov c ch).switch := by rw [dov_core]; rfl

section
variable {β : Type} {g : Chip → β} (hcore : ∀ c, g c.core = g c) {ch : Nat}
include hcore

/-- What changes of the learning, records and completions keep, the end of an on-period keeps. -/
theorem endPeriod_keeps (hlearn : ∀ f c, (∀ d, (f d).switch = d.switch) → g (updDo ch f c) = g c) (c : Chip) : g (endPeriod ch c) = g c := by
  unfold endPeriod
  dsimp only
  split
  · split
    · exact hlearn _ c fun _ => rfl
    · split
      · exact hlearn _ c fun _ => rfl
      · rw [(keeps_complete _ _ _ _ _).reads hcore, (keeps_record _ _ _).reads hcore]
        exact hlearn _ c fun _ => rfl
  · rfl

variable (hupd : ∀ f c, g (updDo ch f c) = g c)
include hupd

theorem reachDo_keeps (on : Bool) (c : Chip) : g (reachDo ch on c) = g c := by
  have hend : g (when (!on) (endPeriod ch) c) = g c := when_keeps g _ _ _ (endPeriod_keeps hcore (fun f c _ => hupd f c) c)
  unfold reachDo
  dsimp only
  split
  · split
    · rw [hupd, hend]
    · rw [(keeps_bump _).reads hcore, hupd, hend]
  · rw [hupd, hend]

/-- What changes of one digital output, records and completions keep, a value committed to that output keeps. -/
theorem pushDo_keeps (on : Bool) (c : Chip) : g (pushDo ch on c) = g c := by
  unfold pushDo
  dsimp only
  split
  · rw [hupd, hupd]
  · split
    · rw [hupd]
    · rw [reachDo_keeps hcore hupd, hupd]

end

/-- An on-period that ends leaves every channel but for its status and what it has learned. -/
theorem switch_endPeriod (ch : Nat) (c : Chip) : (dov (endPeriod ch c) ch).switch = (dov c ch).switch :=
  endPeriod_keeps (g := fun c => (dov c ch).switch) (switch_core ch) (fun f c hf => by rw [dov_updDo_self]; exact hf (dov c ch)) c

/-! ### A value committed to a digital output (R262, R263, R266, R272) -/

theorem reachDo_off (ch : Nat) (c : Chip) :
    (dov (reachDo ch false c) ch).cmd = false ∧ (dov (reachDo ch false c) ch).closed = false
      ∧ (dov (reachDo ch false c) ch).committed = (dov c ch).committed := by
  obtain ⟨-, -, hkept⟩ := Do.outputs_of_switch (switch_endPeriod ch c)
  simpa [reachDo] using hkept

/-- A switch that is neither in an off-pulse nor overloaded closes, unless it is closed already. -/
theorem reachDo_on (ch : Nat) (c : Chip) :
    (dov (reachDo ch true c) ch).cmd = true ∧ (dov (reachDo ch true c) ch).committed = (dov c ch).committed
      ∧ ((dov c ch).pulse = false → (dov c ch).ovl = false → (dov (reachDo ch true c) ch).closed = true) := by
  simp only [reachDo, Bool.not_true, when_false, if_true]
  split
  case isTrue h => exact ⟨by simp, by simp, fun hp ho => by simpa [hp, ho] using h⟩
  case isFalse => simp [dov_bump]

theorem cmd_reachDo (ch : Nat) (on : Bool) (c : Chip) : (dov (reachDo ch on c) ch).cmd = on := by
  cases on
  · exact (reachDo_off ch c).1
  · exact (reachDo_on ch c).1

theorem committed_reachDo (ch : Nat) (on : Bool) (c : Chip) : (dov (reachDo ch on c) ch).committed = (dov c ch).committed := by
  cases on
  · exact (reachDo_off ch c).2.2
  · exact (reachDo_on ch c).2.1

section
variable (ch : Nat) (on : Bool) {c : Chip}

/-- A disabled channel opens. -/
theorem pushDo_of_disabled (h : doEn c ch = false) :
    pushDo ch on c = updDo ch (fun d => { d with cmd := false, closed := false }) (updDo ch (fun d => { d with committed := on }) c) := by
  simp [pushDo, h]

/-- A group without supply, one that holds its safe values, and one that waits for its initialisation only keep the value. -/
theorem pushDo_of_barred (he : doEn c ch = true)
    (h : fdState c (ch / 8) = 3 ∨ Map.getD c.io.reinit (ch / 8) false = true ∨ Map.getD c.io.hold (ch / 8) false = true) :
    pushDo ch on c = updDo ch (fun d => { d with committed := on }) c := by
  rcases h with h | h | h <;> simp [pushDo, he, h]

theorem pushDo_of_reached (he : doEn c ch = true) (hfd : fdState c (ch / 8) ≠ 3) (hr : Map.getD c.io.reinit (ch / 8) false = false)
    (hh : Map.getD c.io.hold (ch / 8) false = false) : pushDo ch on c = reachDo ch on (updDo ch (fun d => { d with committed := on }) c) := by
  simp [pushDo, he, hfd, hr, hh]

theorem committed_pushDo (c : Chip) : (dov (pushDo ch on c) ch).committed = on := by
  unfold pushDo
  dsimp only
  split
  · simp
  · split
    · simp
    · simp [committed_reachDo]

end

/-- A value committed to a digital output leaves the current outputs. -/
theorem ao_pushDo (ch : Nat) (on : Bool) (c : Chip) : (pushDo ch on c).io.ao = c.io.ao :=
  pushDo_keeps (g := fun c => c.io.ao) (fun _ => rfl) (fun _ _ => rfl) on c

/-- It leaves every other digital output, but for the session that a learning names. -/
theorem switch_pushDo_ne {ch u : Nat} (on : Bool) (c : Chip) (h : u ≠ ch) : (dov (pushDo ch on c) u).switch = (dov c u).switch :=
  pushDo_keeps (g := fun c => (dov c u).switch) (switch_core u) (fun f c => by rw [dov_updDo_ne f c h]) on c

/-- Settles O24: the cases of a committed current by `pushAo`, those of a committed switch by `pushDo` and `reachDo`. -/
theorem outputsReachTheirChannels : Obligations.OutputsReachTheirChannels := by
  refine ⟨fun ch v c => ⟨committed_pushAo ch v c, fun ht hon hs hfa hwd => cmd_pushAo_of_reached ch v ht hon hs hfa hwd,
      fun ht hoff => cmd_pushAo_of_off ch v ht hoff, fun ht hon hs => pushAo_of_subst ch v ht hon hs, ?heldBack,
      fun u hu => ao_pushAo_ne v c hu⟩,
    fun ch on c => ⟨committed_pushDo ch on c, fun he => ?disabled, fun he hbar => ?barred, fun he hfd hr hh => ?reached, ao_pushDo ch on c,
      fun u hu => ?others⟩⟩
  case heldBack =>
    rintro (ht | ⟨hon, hs, hb⟩)
    · exact cmd_pushAo_of_trans ch v ht
    · exact cmd_pushAo_of_barred ch v hon hs hb
  case disabled => simp [pushDo_of_disabled ch on he]
  case barred => simp [pushDo_of_barred ch on he hbar]
  case reached =>
    rw [pushDo_of_reached ch on he hfd hr hh]
    refine ⟨cmd_reachDo ch on _, fun hoff => ?_, fun hon hp ho => ?_⟩
    · subst hoff
      exact (reachDo_off ch _).2.1
    · subst hon
      exact (reachDo_on ch _).2.2 (by simpa using hp) (by simpa using ho)
  case others =>
    obtain ⟨hcmd, hclosed, -⟩ := Do.outputs_of_switch (switch_pushDo_ne on c hu)
    exact ⟨hcmd, hclosed⟩

end Sys2Proof.Machine
end

section
/-! Current outputs (R234, R237, R241): what a readback sample judges, the hand-over to the spare driver and its end, and the strap level of a
group whose watchdog expires. -/
namespace Sys2Proof.Machine

open Sys2Proof Sys2Proof.Safety

/-- A row that is the lift of a change goes through to the block that the change makes. -/
theorem goes_of_lift {i : Instr} {f : Chip → Chip} {s : State} {c : Chip} (hrow : exec i s = lift f s) (h : f s.chip = c) : Goes i s c := by
  rw [Goes, hrow, lift_eq, h]

theorem does_of_lift {i : Instr} {f : Chip → Chip} {s : State} {P : Chip → Prop} (hrow : exec i s = lift f s) (h : P (f s.chip)) : Does i s P :=
  ⟨_, goes_of_lift hrow rfl, h⟩

/-! ### What records, completions and spares leave of the outputs -/

/-- Records, events to sessions, completions, counters and messages keep the current outputs. -/
theorem Keeps.ao {f : Chip → Chip} (hf : Keeps f) (c : Chip) : ao (f c) = ao c := hf.reads (g := Machine.ao) (fun _ => rfl) c

/-- They keep the spares of the analogue groups. -/
theorem Keeps.spareSt {f : Chip → Chip} (hf : Keeps f) (c : Chip) : spareSt (f c) = spareSt c :=
  hf.reads (g := Machine.spareSt) (fun _ => rfl) c

theorem keeps_completeSubst (unit st : Nat) : Keeps (completeSubst unit st) := fun c => by
  unfold completeSubst
  exact (Keeps.forAll _ (fun (w : Nat × Nat × Nat) => keeps_complete 0x0E01 w.2.1 w.2.2 st []) _).trans rfl

/-- The record of a substitution and its event leave what neither the recorder, the sessions nor the tasks' events hold. -/
theorem spareUsed_keeps {β : Type} {g : Chip → β} (hcore : ∀ c, g c.core = g c) (hevt : ∀ b t c, g (raiseEvt b t c) = g c)
    (unit by_ cause : Nat) (c : Chip) : g (spareUsed unit by_ cause c) = g c := by
  unfold spareUsed raiseBound
  dsimp only
  rw [when_keeps g _ _ _ (hevt _ _ _), (keeps_completeSubst _ _).reads hcore, (keeps_record _ _ _).reads hcore, (keeps_bump _).reads hcore]

/-! ### The readback (R234) -/

/-- A condition that is clear is set by the fortieth sample in a row that meets it. -/
theorem verify_clear_met (n : Nat × Nat) : verify n false true = if 39 ≤ n.1 then ((0, 0), true) else ((n.1 + 1, 0), false) := by
  simp [verify]

/-- A condition that is set is cleared by the fortieth sample in a row that fails it. -/
theorem verify_set_failed (n : Nat × Nat) : verify n true false = if 39 ≤ n.2 then ((0, 0), false) else ((0, n.2 + 1), true) := by
  simp [verify]

theorem verify_clear_failed (n : Nat × Nat) : verify n false false = ((0, n.2 + 1), false) := by simp [verify]

theorem verify_set_met (n : Nat × Nat) : verify n true true = ((n.1 + 1, 0), true) := by simp [verify]

/-- An output after a readback sample: the conditions go one sample further unless the output is not judged. -/
def Ao.sampled (rb : Nat) (h : Int) (unjudged : Bool) (a : Ao) : Ao :=
  if unjudged then { a with rb := rb % 65536, head := Nat.min h.toNat 65535 }
  else
    let l := ((a.cnts.zip a.conds).zip (aoConds a.cmd rb h)).map (fun x => verify x.1.1 x.1.2 x.2)
    { a with rb := rb % 65536, head := Nat.min h.toNat 65535, cnts := l.map (·.1), conds := l.map (·.2) }

/-- A sample does not judge an output that is OFF, substituting or in TRANSITION, nor any while the field side is reset. -/
def aoUnjudged (c : Chip) (ch : Nat) (a : Ao) : Bool := !aoOn c ch || a.subst || a.trans || c.io.fa = 3

section
variable (rb : Nat) (h : Int) (u : Bool) (a : Ao)

@[simp] theorem Ao.sampled_rb : (a.sampled rb h u).rb = rb % 65536 := by cases u <;> rfl

@[simp] theorem Ao.sampled_head : (a.sampled rb h u).head = Nat.min h.toNat 65535 := by cases u <;> rfl

@[simp] theorem Ao.sampled_cmd : (a.sampled rb h u).cmd = a.cmd := by cases u <;> rfl

@[simp] theorem Ao.sampled_committed : (a.sampled rb h u).committed = a.committed := by cases u <;> rfl

end

/-- A sample that judges an output brings each of its three conditions one sample further. -/
theorem Ao.sampled_judged (rb : Nat) (h : Int) {a : Ao} {n₁ n₂ n₃ : Nat × Nat} {b₁ b₂ b₃ : Bool} (hn : a.cnts = [n₁, n₂, n₃])
    (hb : a.conds = [b₁, b₂, b₃]) :
    let v₁ := verify n₁ b₁ (decide (2000 ≤ a.cmd ∧ rb < 1000 ∧ h < 300))
    let v₂ := verify n₂ b₂ (decide (h < 1500 ∧ rb + 400 < a.cmd))
    let v₃ := verify n₃ b₃ (decide (a.cmd + 400 < rb))
    (a.sampled rb h false).conds = [v₁.2, v₂.2, v₃.2] ∧ (a.sampled rb h false).cnts = [v₁.1, v₂.1, v₃.1] := by
  simp [Ao.sampled, aoConds, hn, hb, Bool.and_assoc]

theorem Ao.sampled_unjudged (rb : Nat) (h : Int) (a : Ao) : (a.sampled rb h true).conds = a.conds ∧ (a.sampled rb h true).cnts = a.cnts :=
  ⟨rfl, rfl⟩

theorem aoUnjudged_eq_false {c : Chip} {ch : Nat} {a : Ao} (hon : aoOn c ch = true) (hs : a.subst = false) (ht : a.trans = false)
    (hfa : c.io.fa ≠ 3) : aoUnjudged c ch a = false := by
  simp [aoUnjudged, hon, hs, ht, hfa]

theorem aoUnjudged_eq_true {c : Chip} {ch : Nat} {a : Ao} (h : aoOn c ch = false ∨ a.subst = true) : aoUnjudged c ch a = true := by
  rcases h with h | h <;> simp [aoUnjudged, h]

/-- A sample is kept, and a condition that it sets is counted and recorded. -/
theorem evAoReadbackSample_keeps {β : Type} {g : Chip → β} (hcore : ∀ c, g c.core = g c) (dt ch rb : Nat) (h : Int) (c : Chip) :
    g (evAoReadbackSample dt ch rb h c) = g (updAo ch (fun a => a.sampled rb h (aoUnjudged (pass dt c) ch a)) (pass dt c)) := by
  unfold evAoReadbackSample
  exact (Keeps.when _ ((keeps_bump 0x111).comp (keeps_record 0x0610 (0x0918 + ch) []))).reads hcore _

/-! ### The spare driver (R241) -/

/-- An output with a driver fault in the hands of the spare driver of its group, recorded and counted. -/
def toSpareDriver (ch : Nat) (c : Chip) : Chip :=
  spareUsed (0x0918 + ch) (3 + ch / 4) 0 (bump 0x112 (setSpare (3 + ch / 4) .inUse ch (updAo ch (fun a => { a with subst := true })
    (record 0x0611 (0x0918 + ch) [] (updAo ch (fun a => { a with drv := true }) c)))))

/-- What neither the field side nor the recorder, the sessions and the tasks' events hold, the hand-over leaves. -/
theorem toSpareDriver_keeps {β : Type} {g : Chip → β} (hcore : ∀ c, g c.core = g c) (hevt : ∀ b t c, g (raiseEvt b t c) = g c) {ch : Nat}
    (hset : ∀ n st c, g (setSpare n st ch c) = g c) (hupd : ∀ f c, g (updAo ch f c) = g c) (c : Chip) : g (toSpareDriver ch c) = g c := by
  rw [toSpareDriver, spareUsed_keeps hcore hevt, (keeps_bump _).reads hcore, hset, hupd, (keeps_record _ _ _).reads hcore, hupd]

theorem ao_spareUsed (unit by_ cause : Nat) (c : Chip) : ao (spareUsed unit by_ cause c) = ao c :=
  spareUsed_keeps (g := ao) (fun _ => rfl) (fun b t c => by unfold ao; rw [raiseEvt_io]) unit by_ cause c

theorem ao_setSpare (n : Nat) (st : SpareSt) (ch : Nat) (c : Chip) : ao (setSpare n st ch c) = ao c := rfl

theorem ao_toSpareDriver (ch : Nat) (c : Chip) :
    (ao (toSpareDriver ch c) ch).subst = true ∧ (ao (toSpareDriver ch c) ch).drv = true ∧ (ao (toSpareDriver ch c) ch).cmd = (ao c ch).cmd := by
  rw [toSpareDriver, ao_spareUsed, (keeps_bump _).ao, ao_setSpare, ao_updAo_self, (keeps_record _ _ _).ao, ao_updAo_self]
  exact ⟨rfl, rfl, rfl⟩

theorem ao_toSpareDriver_ne {ch u : Nat} (c : Chip) (h : u ≠ ch) : ao (toSpareDriver ch c) u = ao c u :=
  toSpareDriver_keeps (g := fun c => ao c u) (fun _ => rfl) (fun b t c => by unfold ao; rw [raiseEvt_io]) (fun _ _ _ => rfl)
    (fun f c => ao_updAo_ne f c h) c

/-- The spare of the group is in use. -/
theorem spareSt_toSpareDriver (ch : Nat) (c : Chip) : spareSt (toSpareDriver ch c) (3 + ch / 4) = .inUse := by
  rw [toSpareDriver, spareUsed_keeps (g := spareSt) (fun _ => rfl) (fun b t c => by unfold spareSt; rw [raiseEvt_io]), (keeps_bump _).spareSt]
  exact Map.getD_put_self _ _ _ _

/-- A fault of a healthy output's own driver hands the output to the spare driver in reserve. -/
theorem evAoDrvFault_substitutes {dt ch : Nat} {c : Chip} (hon : aoOn (pass dt c) ch = true) (hs : (ao (pass dt c) ch).subst = false)
    (hsp : (ao (pass dt c) ch).onSpare = false) (hfa : (pass dt c).io.fa < 2) (hr : spareSt (pass dt c) (3 + ch / 4) = .reserve) :
    evAoDrvFault dt ch c = toSpareDriver ch (pass dt c) := by
  unfold evAoDrvFault
  generalize pass dt c = d at hon hs hsp hfa hr ⊢
  have hfa' : (record 0x0611 (0x0918 + ch) [] (updAo ch (fun a => { a with drv := true }) d)).io.fa = d.io.fa :=
    (keeps_record _ _ _).reads (g := fun c => c.io.fa) (fun _ => rfl) _
  have hr' : spareSt (updAo ch (fun a => { a with drv := true }) d) (3 + ch / 4) = .reserve := hr
  simp [toSpareDriver, hon, hs, hsp, (keeps_record _ _ _).ao, (keeps_record _ _ _).spareSt, hfa', hfa, hr']

/-- The end of a transfer to the spare driver applies the commit that was held back. -/
theorem evAoSubstitutionDone_applies {dt ch v : Nat} {c : Chip} (hs : (ao (pass dt c) ch).subst = true)
    (hh : (ao (pass dt c) ch).heldCmd = some v) (hu : spareSt (pass dt c) (3 + ch / 4) = .inUse) :
    evAoSubstitutionDone dt ch c
      = pushAo ch v (updAo ch (fun a => { a with subst := false, drv := false, onSpare := true, heldCmd := none }) (pass dt c)) := by
  unfold evAoSubstitutionDone
  generalize pass dt c = d at hs hh hu ⊢
  have hout : (SpareSt.inUse == SpareSt.reserve) = false := by decide
  simp [hs, hh, hu, hout]

/-- Where nothing else keeps it back, that commit becomes the command in force. -/
theorem evAoSubstitutionDone_reaches {dt ch v : Nat} {c : Chip} (hon : aoOn (pass dt c) ch = true) (hs : (ao (pass dt c) ch).subst = true)
    (ht : (ao (pass dt c) ch).trans = false) (hh : (ao (pass dt c) ch).heldCmd = some v) (hfa : (pass dt c).io.fa ≠ 3)
    (hwd : Map.getD (pass dt c).io.aoWd (ch / 4) false = false) (hu : spareSt (pass dt c) (3 + ch / 4) = .inUse) :
    evAoSubstitutionDone dt ch c = updAo ch (fun a => { a with committed := Nat.min v 44000, cmd := Nat.min v 44000 })
      (updAo ch (fun a => { a with subst := false, drv := false, onSpare := true, heldCmd := none }) (pass dt c)) := by
  rw [evAoSubstitutionDone_applies hs hh hu]
  exact pushAo_of_reached ch v (by simpa using ht) hon (by simp) hfa hwd

/-! ### The watchdog of a group (R237) -/

/-- A condition that each step of a loop keeps holds after the loop. -/
theorem forAll_inv {α : Type} {P : Chip → Prop} {l : List α} {f : α → Chip → Chip} (hstep : ∀ a ∈ l, ∀ c, P c → P (f a c)) {c : Chip}
    (h : P c) : P (forAll l f c) :=
  List.foldlRecOn l _ h fun c hc a ha => hstep a ha c hc

/-- An output that is ON goes to a level. -/
def strapCh (lv ch : Nat) (c : Chip) : Chip := updAo ch (fun a => if aoOn c ch then { a with cmd := lv } else a) c

theorem aoOn_strapCh (lv ch : Nat) (c : Chip) : aoOn (strapCh lv ch c) = aoOn c := rfl

theorem cmd_strapCh (lv ch : Nat) (c : Chip) : (ao (strapCh lv ch c) ch).cmd = if aoOn c ch then lv else (ao c ch).cmd := by
  unfold strapCh
  rw [ao_updAo_self]
  dsimp only
  split <;> rfl

theorem ao_strapCh_ne {lv ch u : Nat} (c : Chip) (h : u ≠ ch) : ao (strapCh lv ch c) u = ao c u := ao_updAo_ne _ c h

/-- The strap level of an output group (R237). -/
def strapLevel (g : Nat) (c : Chip) : Nat := if Map.getD c.io.fdsHigh g false then 43000 else 7000

theorem aoStrap_eq (g : Nat) (c : Chip) :
    aoStrap g c = forAll (List.range 4) (fun i => strapCh (strapLevel g c) (g * 4 + i))
      { c with io := { c.io with aoWd := Map.put c.io.aoWd g true } } :=
  rfl

/-- What the outputs do not hold, the loop over them leaves. -/
theorem aoStrap_keeps {β : Type} {f : Chip → β} (hupd : ∀ ch h c, f (updAo ch h c) = f c) (g : Nat) (c : Chip) :
    f (aoStrap g c) = f { c with io := { c.io with aoWd := Map.put c.io.aoWd g true } } := by
  rw [aoStrap_eq]
  exact forAll_keeps f _ _ (fun _ _ => hupd _ _ _) _

/-- The output, if it is ON, carries the level. -/
def AtLevel (lv ch : Nat) (c : Chip) : Prop := aoOn c ch = true → (ao c ch).cmd = lv

theorem atLevel_strapCh_self (lv ch : Nat) (c : Chip) : AtLevel lv ch (strapCh lv ch c) := fun hon => by
  rw [aoOn_strapCh] at hon
  rw [cmd_strapCh, if_pos hon]

/-- An output that carries the level keeps it when any output goes to the level. -/
theorem AtLevel.strapCh {lv ch : Nat} {c : Chip} (h : AtLevel lv ch c) (u : Nat) : AtLevel lv ch (strapCh lv u c) := by
  by_cases hu : ch = u
  · exact hu ▸ atLevel_strapCh_self lv ch c
  · intro hon
    rw [ao_strapCh_ne c hu]
    exact h hon

theorem cmd_aoStrap_of_on {g ch : Nat} {c : Chip} (hg : ch / 4 = g) (hon : aoOn c ch = true) :
    (ao (aoStrap g c) ch).cmd = strapLevel g c := by
  have hch : g * 4 + ch % 4 = ch := by omega
  have hmem : ch % 4 ∈ List.range 4 := List.mem_range.2 (Nat.mod_lt _ (by decide))
  have h : AtLevel (strapLevel g c) ch (aoStrap g c) := by
    rw [aoStrap_eq]
    exact forAll_attains (a := ch % 4) (fun c' => by rw [hch]; exact atLevel_strapCh_self _ ch c') (fun _ _ h => h.strapCh _) hmem _
  exact h (by rw [aoStrap_keeps (f := aoOn) (fun _ _ _ => rfl)]; exact hon)

theorem cmd_aoStrap_of_off (g : Nat) {ch : Nat} {c : Chip} (hoff : aoOn c ch = false) : (ao (aoStrap g c) ch).cmd = (ao c ch).cmd := by
  have h : aoOn (aoStrap g c) ch = false ∧ (ao (aoStrap g c) ch).cmd = (ao c ch).cmd := by
    rw [aoStrap_eq]
    refine forAll_inv (P := fun c' => aoOn c' ch = false ∧ (ao c' ch).cmd = (ao c ch).cmd) (fun i _ c' h => ?_) ⟨hoff, rfl⟩
    obtain ⟨hoff', hcmd⟩ := h
    refine ⟨hoff', ?_⟩
    by_cases hi : ch = g * 4 + i
    · subst hi
      rw [cmd_strapCh, if_neg (by rw [hoff']; decide), hcmd]
    · rw [ao_strapCh_ne c' hi, hcmd]
  exact h.2

theorem ao_aoStrap_ne {g ch : Nat} (c : Chip) (h : ch / 4 ≠ g) : ao (aoStrap g c) ch = ao c ch := by
  rw [aoStrap_eq]
  refine forAll_inv (P := fun c' => ao c' ch = ao c ch) (fun i hi c' hc' => ?_) rfl
  have hi : i < 4 := List.mem_range.1 hi
  rw [ao_strapCh_ne c' (by omega), hc']

/-- A refresh in time leaves the group. -/
theorem evAoWatchdogExpired_early {dt g : Nat} {c : Chip}
    (h : (pass dt c).time.clock < Map.getD (pass dt c).io.refresh g 0 + cfg (pass dt c) 0x3030 (g + 1) 31 0 * 1000) :
    evAoWatchdogExpired dt g c = pass dt c := if_pos (by rw [decide_eq_true h, Bool.or_true])

theorem evAoWatchdogExpired_late {dt g : Nat} {c : Chip}
    (h : Map.getD (pass dt c).io.refresh g 0 + cfg (pass dt c) 0x3030 (g + 1) 31 0 * 1000 ≤ (pass dt c).time.clock)
    (hfa : (pass dt c).io.fa ≠ 3) (hwd : Map.getD (pass dt c).io.aoWd g false = false) :
    evAoWatchdogExpired dt g c = aoStrap g (pass dt c) :=
  if_neg (by rw [hwd, decide_eq_false hfa, decide_eq_false h.not_gt]; decide)

/-! ### The rows -/

/-- The number of an output's group of spares is below 8, so it is the same among the numbers of outputs. -/
theorem group_val : ∀ ch : Fin 8, ((3 + ch / 4 : Fin 8) : Nat) = 3 + ch / 4 := by decide

/-- Settles O37: a sample by what `verify` makes of each condition, a driver fault and its end by their equations, and the watchdog by the loop of
`aoStrap`. -/
theorem analogueOutputRows : Obligations.AnalogueOutputRows := by
  refine ⟨fun dt ch rb h s => ?sample, verify_clear_met, verify_set_failed, fun n => ?steady, fun dt ch s => ?fault, fun dt ch s v => ?done,
    fun dt g s => ⟨fun hearly => ?early, fun hlate hfa hwd => ?late⟩⟩
  case sample =>
    refine does_of_lift (f := evAoReadbackSample dt ch rb h) rfl ?_
    rw [evAoReadbackSample_keeps (g := ao) (fun _ => rfl), evAoReadbackSample_keeps (g := fun c => c.io.ai) (fun _ => rfl),
      evAoReadbackSample_keeps (g := fun c => c.mem) (fun _ => rfl)]
    refine ⟨by simp, by simp, by simp, by simp, fun hon hs ht hfa n₁ n₂ n₃ b₁ b₂ b₃ hn hb => ?_, fun hidle => ?_, rfl, rfl,
      fun u hu => ao_updAo_ne _ _ hu⟩
    · rw [ao_updAo_self, aoUnjudged_eq_false hon hs ht hfa]
      exact Ao.sampled_judged rb h hn hb
    · rw [ao_updAo_self, aoUnjudged_eq_true hidle]
      exact Ao.sampled_unjudged rb h _
  case steady => simp [verify_clear_failed, verify_set_met]
  case fault =>
    intro c g hon hs hsp hfa hr
    have hg : (g : Nat) = 3 + ch / 4 := group_val ch
    rw [hg] at hr ⊢
    refine does_of_lift (f := evAoDrvFault dt ch) rfl ?_
    rw [evAoDrvFault_substitutes hon hs hsp hfa hr]
    obtain ⟨hsub, hdrv, hcmd⟩ := ao_toSpareDriver ch c
    refine ⟨hsub, hdrv, hcmd, spareSt_toSpareDriver ch c, ?_, ?_, fun u hu => ao_toSpareDriver_ne c hu⟩
    · exact toSpareDriver_keeps (g := fun c => c.io.ai) (fun _ => rfl) (fun b t c => by rw [raiseEvt_io]) (fun _ _ _ => rfl) (fun _ _ => rfl) c
    · exact toSpareDriver_keeps (g := fun c => c.mem) (fun _ => rfl) raiseEvt_mem (fun _ _ _ => rfl) (fun _ _ => rfl) c
  case done =>
    intro c hon hs ht hh hfa hwd hu
    refine does_of_lift (f := evAoSubstitutionDone dt ch) rfl ?_
    rw [evAoSubstitutionDone_reaches hon hs ht hh hfa hwd hu]
    refine ⟨by simp, by simp, by simp, by simp, by simp, fun u hu => ?_⟩
    rw [ao_updAo_ne _ _ hu, ao_updAo_ne _ _ hu]
  case early => exact goes_of_lift (f := evAoWatchdogExpired dt g) rfl (evAoWatchdogExpired_early hearly)
  case late =>
    refine does_of_lift (f := evAoWatchdogExpired dt g) rfl ?_
    rw [evAoWatchdogExpired_late hlate hfa hwd]
    refine ⟨?_, ?_, ?_, ?_, fun ch _ hch hon => cmd_aoStrap_of_on hch hon, fun ch _ hoff => cmd_aoStrap_of_off g hoff,
      fun ch hch => ao_aoStrap_ne _ hch⟩
    · rw [aoStrap_keeps (f := fun c => c.io.aoWd) (fun _ _ _ => rfl)]
      exact Map.getD_put_self _ _ _ _
    · exact aoStrap_keeps (f := fun c => c.io.ai) (fun _ _ _ => rfl) g _
    · exact aoStrap_keeps (f := fun c => c.io.dout) (fun _ _ _ => rfl) g _
    · exact aoStrap_keeps (f := fun c => c.mem) (fun _ _ _ => rfl) g _

end Sys2Proof.Machine
end

section
/-! HART transactions (R244, R246, R248): a channel after a change of it and after the end of a transaction, and what a response, a missing
response and a burst frame come to. -/
namespace Sys2Proof.Machine

open Sys2Proof Sys2Proof.Safety

/-! ### A channel and its records -/

@[simp] theorem hch_updHart_self (h : Nat) (f : HChan → HChan) (c : Chip) : hch (updHart h f c) h = f (hch c h) := by
  simp [hch, updHart]

@[simp] theorem hrec_updHrec_self (h e : Nat) (f : HRec → HRec) (c : Chip) : hrec (updHrec h e f c) h e = f (hrec c h e) := by
  simp [hrec, updHrec]

theorem hrec_updHrec_ne {h e u : Nat} (f : HRec → HRec) (c : Chip) (hu : u ≠ e) : hrec (updHrec h e f c) h u = hrec c h u := by
  simp [hrec, updHrec, Map.getD_upd_ne _ _ _ _ _ _ hu]

/-- Channels with equal records have equal records. -/
theorem hrec_of_recs {c c' : Chip} {h : Nat} (hr : (hch c h).recs = (hch c' h).recs) : hrec c h = hrec c' h := by
  funext e
  rw [hrec, hr, hrec]

theorem hch_bump (n : Nat) (c : Chip) : hch (bump n c) = hch c := by unfold hch; rw [bump_io]

theorem cfg_bump (n : Nat) (c : Chip) : cfg (bump n c) = cfg c := by
  funext ix sub hi lo
  rw [cfg, bump_sets, cfg]

theorem polled_bump (n : Nat) (c : Chip) : polled (bump n c) = polled c := by
  funext h e
  rw [polled, cfgb, cfgb, bump_sets]
  rfl

theorem hch_hartSendNow (h : Nat) (c : Chip) : hch (hartSendNow h c) = hch c := by
  unfold hartSendNow
  dsimp only
  split <;> rfl

theorem thy_hartSendNow (h : Nat) (c : Chip) : (hartSendNow h c).thy = c.thy := by
  unfold hartSendNow
  dsimp only
  split <;> rfl

/-- A channel without the sessions that its requests name. -/
def HChan.anon (x : HChan) : HChan := { x with queue := x.queue.map (fun q => { q with sess := none }) }

theorem hch_core (c : Chip) (h : Nat) : hch c.core h = (hch c h).anon := Map.getD_mapV c.io.hart (fun _ x => x.anon) h rfl

theorem HChan.anon_anon (x : HChan) : x.anon.anon = x.anon := by simp [HChan.anon, Function.comp_def]

/-- Records, events to sessions and completions keep a channel but for the sessions that its requests name. -/
theorem Keeps.hch {f : Chip → Chip} (hf : Keeps f) (c : Chip) (h : Nat) : (hch (f c) h).anon = (hch c h).anon :=
  hf.reads (g := fun c => (Machine.hch c h).anon) (fun c => by rw [hch_core, HChan.anon_anon]) c

/-- All but those sessions is the same in channels that are the same without them. -/
theorem HChan.fields_of_anon {x y : HChan} (h : x.anon = y.anon) :
    x.recs = y.recs ∧ x.ring = y.ring ∧ x.queue.length = y.queue.length ∧ x.reqNow = y.reqNow := by
  refine ⟨show x.anon.recs = y.anon.recs by rw [h], show x.anon.ring = y.anon.ring by rw [h], ?_, show x.anon.reqNow = y.anon.reqNow by rw [h]⟩
  have hq : x.anon.queue.length = y.anon.queue.length := by rw [h]
  simpa [HChan.anon] using hq

theorem Keeps.hrec {f : Chip → Chip} (hf : Keeps f) (c : Chip) (h : Nat) : hrec (f c) h = hrec c h := by
  obtain ⟨hrecs, -⟩ := HChan.fields_of_anon (hf.hch c h)
  exact hrec_of_recs hrecs

theorem ring_updHrec (h e : Nat) (f : HRec → HRec) (c : Chip) : (hch (updHrec h e f c) h).ring = (hch c h).ring := by simp [updHrec]

/-! ### The end of a transaction (R244, R248) -/

/-- The end of a transaction counts it and readies the channel for the next one, which is sent where there is one to send. -/
theorem hartNext_eq (h : Nat) (stay : Bool) (c : Chip) : ∃ req e sends, hartNext h stay c = when sends (hartSendNow h) (updHart h (fun x =>
    { x with tries := 0, polls := Nat.min (if (hch c h).reqNow then 0 else (hch c h).polls + 1) 2, reqNow := req, poll := Option.getD e x.poll })
      (bump (0x0D0 + h) c)) :=
  ⟨_, _, _, rfl⟩

section
variable {β : Type} {g : Chip → β} (hcore : ∀ c, g c.core = g c) {h : Nat} (hupd : ∀ f c, g (updHart h f c) = g c)
include hcore hupd

/-- What neither the channel nor the recorder and the sessions hold, the end of a transaction leaves. -/
theorem hartNext_keeps (stay : Bool) (c : Chip) : g (hartNext h stay c) = g c := by
  obtain ⟨req, e, sends, he⟩ := hartNext_eq h stay c
  rw [he, (Keeps.when _ (keeps_hartSendNow h)).reads hcore, hupd, (keeps_bump _).reads hcore]

theorem hartRespond_keeps (q : HReq) (rc st : Nat) (data : List Byte) (c : Chip) : g (hartRespond h q rc st data c) = g c := by
  unfold hartRespond
  dsimp only
  split
  · rw [(keeps_complete _ _ _ _ _).reads hcore, hupd]
  · rw [hupd]

end

/-- The next transaction begins with no attempt made, counts the polls since the last request, and leaves the records, the ring and the queue. -/
theorem hch_hartNext (h : Nat) (stay : Bool) (c : Chip) : ∃ req e, hch (hartNext h stay c) h =
    { hch c h with tries := 0, polls := Nat.min (if (hch c h).reqNow then 0 else (hch c h).polls + 1) 2, reqNow := req, poll := e } := by
  obtain ⟨req, e, sends, he⟩ := hartNext_eq h stay c
  exact ⟨req, _, by rw [he, when_keeps hch _ _ _ (hch_hartSendNow h _), hch_updHart_self, hch_bump]⟩

theorem tries_hartNext (h : Nat) (stay : Bool) (c : Chip) : (hch (hartNext h stay c) h).tries = 0 := by
  obtain ⟨req, e, hn⟩ := hch_hartNext h stay c
  rw [hn]

theorem ring_hartNext (h : Nat) (stay : Bool) (c : Chip) : (hch (hartNext h stay c) h).ring = (hch c h).ring := by
  obtain ⟨req, e, hn⟩ := hch_hartNext h stay c
  rw [hn]

theorem hrec_hartNext (h : Nat) (stay : Bool) (c : Chip) : hrec (hartNext h stay c) h = hrec c h := by
  obtain ⟨req, e, hn⟩ := hch_hartNext h stay c
  exact hrec_of_recs (by rw [hn])

/-- A response joins the ring as its newest entry. -/
theorem hch_hartRespond (h : Nat) (q : HReq) (rc st : Nat) (data : List Byte) (c : Chip) :
    (hch (hartRespond h q rc st data c) h).anon =
      { hch c h with ring :=
          (({ tag := q.tag, cmd := q.cmd, rc := rc, st := st, data := data.take 64, ts := mTime c } : HResp) :: (hch c h).ring).take 4 }.anon := by
  unfold hartRespond
  dsimp only
  split
  · rw [(keeps_complete _ _ _ _ _).hch, hch_updHart_self]
  · rw [hch_updHart_self]

/-! ### The rows where HART runs (R244, R246, R248) -/

section
variable {dt h dev comm : Nat} {data : List Byte} {c : Chip}

theorem evHartResponse_off (hoff : hartOn (pass dt c) h = false) : evHartResponse dt h dev comm data c = pass dt c := by
  simp [evHartResponse, hoff]

theorem evHartNoResponse_off (hoff : hartOn (pass dt c) h = false) : evHartNoResponse dt h c = pass dt c := by
  simp [evHartNoResponse, hoff]

theorem evHartBurstFrame_off {e cmd : Nat} (hoff : hartOn (pass dt c) h = false) : evHartBurstFrame dt h e cmd dev comm data c = pass dt c := by
  simp [evHartBurstFrame, hoff]

theorem evHartBurstFrame_fills {e cmd : Nat} (hon : hartOn (pass dt c) h = true) (hen : cfgb (pass dt c) (0x3400 + h) (e + 1) 31 = true)
    (hb : cfgb (pass dt c) (0x3400 + h) (e + 1) 23 = true) :
    evHartBurstFrame dt h e cmd dev comm data c = updHrec h e (hartFill cmd dev comm (mTime (pass dt c)) data) (pass dt c) := by
  simp [evHartBurstFrame, hon, hen, hb]

/-- The response to the request in progress takes it out of the queue and into the ring. -/
theorem evHartResponse_request {q : HReq} {rest : List HReq} (hon : hartOn (pass dt c) h = true) (hreq : (hch (pass dt c) h).reqNow = true)
    (hq : (hch (pass dt c) h).queue = q :: rest) :
    evHartResponse dt h dev comm data c
      = hartNext h false (hartRespond h q comm 2 data (updHart h (fun x => { x with queue := rest }) (pass dt c))) := by
  simp [evHartResponse, hon, hreq, hq]

/-- The response to a poll by command 1 of an identified device fills the entry's record. -/
theorem evHartResponse_poll (hon : hartOn (pass dt c) h = true) (hreq : (hch (pass dt c) h).reqNow = false)
    (hp : polled (pass dt c) h (hch (pass dt c) h).poll = true) (hid : (hrec (pass dt c) h (hch (pass dt c) h).poll).idDue = false)
    (hcmd : cfg (pass dt c) (0x3400 + h) ((hch (pass dt c) h).poll + 1) 30 29 = 0) :
    evHartResponse dt h dev comm data c = hartNext h false (updHrec h (hch (pass dt c) h).poll (fun r =>
      { hartFill 1 dev comm (mTime (pass dt c)) data r with idDue := (hrec (pass dt c) h (hch (pass dt c) h).poll).failed }) (pass dt c)) := by
  simp [evHartResponse, hon, hreq, hp, hid, hcmd]

/-- A poll without response is sent again while RETRIES allows. -/
theorem evHartNoResponse_repeats (hon : hartOn (pass dt c) h = true) (hreq : (hch (pass dt c) h).reqNow = false)
    (hp : polled (pass dt c) h (hch (pass dt c) h).poll = true)
    (hn : (hch (pass dt c) h).tries + 1 ≤ cfg (pass dt c) (0x3400 + h) ((hch (pass dt c) h).poll + 1) 28 27) :
    evHartNoResponse dt h c
      = hartSendNow h (updHart h (fun x => { x with tries := (hch (pass dt c) h).tries + 1 }) (bump (0x0F0 + h) (pass dt c))) := by
  unfold evHartNoResponse
  generalize pass dt c = d at hon hreq hp hn ⊢
  simp [hon, hreq, polled_bump, hp, cfg_bump, hn]

/-- Then the entry is marked as failed, and that is recorded. -/
theorem evHartNoResponse_fails (hon : hartOn (pass dt c) h = true) (hreq : (hch (pass dt c) h).reqNow = false)
    (hp : polled (pass dt c) h (hch (pass dt c) h).poll = true)
    (hn : cfg (pass dt c) (0x3400 + h) ((hch (pass dt c) h).poll + 1) 28 27 ≤ (hch (pass dt c) h).tries) :
    evHartNoResponse dt h c = hartNext h false (record 0x0630 (0x0900 + h) []
      (updHrec h (hch (pass dt c) h).poll (fun r => { r with failed := true }) (bump (0x0F0 + h) (pass dt c)))) := by
  unfold evHartNoResponse
  generalize pass dt c = d at hon hreq hp hn ⊢
  simp [hon, hreq, polled_bump, hp, cfg_bump, hn.not_gt]

end

/-- What neither the channel nor the recorder and the sessions hold, the response to a request leaves. -/
theorem request_keeps {β : Type} {g : Chip → β} (hcore : ∀ c, g c.core = g c) {h : Nat} (hupd : ∀ f c, g (updHart h f c) = g c) {q : HReq}
    {rc st : Nat} {data : List Byte} (f : HChan → HChan) (c : Chip) :
    g (hartNext h false (hartRespond h q rc st data (updHart h f c))) = g c := by
  rw [hartNext_keeps hcore hupd, hartRespond_keeps hcore hupd, hupd]

/-- A good frame of command 1 fills the record with its value, its unit and the stamp (R246). -/
theorem hartFill_one {d : List Byte} (hlen : 5 ≤ d.length) (dev comm now : Nat) (r : HRec) :
    (hartFill 1 dev comm now d r).vals.head? = some (beNat ((d.drop 1).take 4)) ∧ (hartFill 1 dev comm now d r).units % 256 = (d.getD 0 0).toNat
      ∧ (hartFill 1 dev comm now d r).ts = now ∧ (hartFill 1 dev comm now d r).dev = dev ∧ (hartFill 1 dev comm now d r).comm = comm
      ∧ (hartFill 1 dev comm now d r).good = true ∧ (hartFill 1 dev comm now d r).failed = false := by
  have hu : (d.getD 0 0).toNat < 256 := (d.getD 0 0).isLt
  have hunit : (r.units / 256 * 256 + (d.getD 0 0).toNat) % 256 = (d.getD 0 0).toNat := by omega
  simpa [hartFill, hlen] using hunit

/-- Settles O42: each row by its equation, and what the end of its transaction leaves by `hch_hartNext`. -/
theorem hartRows : Obligations.HartRows := by
  refine ⟨fun dt h dev comm data e cmd => ⟨?offResponse, ?offMissing, ?offBurst⟩,
    fun dt h dev comm data s q rest => ?request, fun dt h dev comm data s => ?poll, fun dt h s => ?missing,
    fun dt h e cmd dev comm data => ?burst⟩
  case offResponse => exact takes_of_lift (fun _ => rfl) fun _ hoff => evHartResponse_off hoff
  case offMissing => exact takes_of_lift (fun _ => rfl) fun _ hoff => evHartNoResponse_off hoff
  case offBurst => exact takes_of_lift (fun _ => rfl) fun _ hoff => evHartBurstFrame_off hoff
  case request =>
    intro c hon hreq hq
    refine does_of_lift (f := evHartResponse dt h dev comm data) rfl ?_
    rw [evHartResponse_request hon hreq hq]
    have hresp := hch_hartRespond h q comm 2 data (updHart h (fun x => { x with queue := rest }) c)
    rw [hch_updHart_self] at hresp
    obtain ⟨hrecs, hring, hlen, hnow⟩ := HChan.fields_of_anon hresp
    obtain ⟨req, e, hn⟩ := hch_hartNext h false (hartRespond h q comm 2 data (updHart h (fun x => { x with queue := rest }) c))
    rw [hn]
    refine ⟨hring, hlen, ?_, rfl, hrecs, ?_, ?_, ?_⟩
    · rw [if_pos (hnow.trans hreq)]
      rfl
    · exact request_keeps (g := fun c => c.io.ai) (fun _ => rfl) (fun _ _ => rfl) _ c
    · exact request_keeps (g := fun c => c.io.ao) (fun _ => rfl) (fun _ _ => rfl) _ c
    · exact request_keeps (g := fun c => c.mem) (fun _ => rfl) (fun _ _ => rfl) _ c
  case poll =>
    intro c e hon hreq hp hid hcmd hlen
    refine does_of_lift (f := evHartResponse dt h dev comm data) rfl ?_
    rw [evHartResponse_poll hon hreq hp hid hcmd, hrec_hartNext, hrec_updHrec_self, ring_hartNext, ring_updHrec]
    obtain ⟨hval, hunit, hts, hdev, hcomm, hgood, hfailed⟩ := hartFill_one hlen dev comm (mTime c) (hrec c h e)
    refine ⟨hval, hunit, hts, hdev, hcomm, hgood, hfailed, tries_hartNext _ _ _, rfl, ?_, fun u hu => hrec_updHrec_ne _ c hu⟩
    exact hartNext_keeps (g := fun c => c.mem) (fun _ => rfl) (fun _ _ => rfl) false _
  case missing =>
    intro c e hon hreq hp
    refine ⟨fun hn => does_of_lift (f := evHartNoResponse dt h) rfl ?_, fun hn => does_of_lift (f := evHartNoResponse dt h) rfl ?_⟩
    · rw [evHartNoResponse_repeats hon hreq hp hn, hch_hartSendNow, hch_updHart_self, hch_bump, thy_hartSendNow]
      exact ⟨rfl, rfl, bump_thy _ _⟩
    · rw [evHartNoResponse_fails hon hreq hp hn, hrec_hartNext, (keeps_record _ _ _).hrec, hrec_updHrec_self, (keeps_bump _).hrec]
      exact ⟨rfl, rfl, rfl, tries_hartNext _ _ _⟩
  case burst =>
    exact takes_of_lift (f := evHartBurstFrame dt h e cmd dev comm data) (fun _ => rfl) fun _ ⟨hon, hen, hb⟩ => evHartBurstFrame_fills hon hen hb

end Sys2Proof.Machine
end

section
/-! Digital inputs (R254, R256, R257, R260): what one sample makes of an input, and what the loss and the return of a group's supply leave. -/
namespace Sys2Proof.Machine

open Sys2Proof Sys2Proof.Safety

/-- In a loop that comes to an element once, what holds before it may change there, and what it brings about stays. -/
theorem forAll_once {α : Type} {P Q : Chip → Prop} {f : α → Chip → Chip} {a : α} (hbefore : ∀ x ≠ a, ∀ c, P c → P (f x c))
    (hat : ∀ c, P c → Q (f a c)) (hafter : ∀ x ≠ a, ∀ c, Q c → Q (f x c)) {l : List α} (hl : l.Nodup) (ha : a ∈ l) {c : Chip}
    (h : P c) : Q (forAll l f c) := by
  induction l generalizing c with
  | nil => exact absurd ha List.not_mem_nil
  | cons x r ih =>
    obtain ⟨hx, hr⟩ := List.nodup_cons.1 hl
    by_cases hxa : x = a
    · subst hxa
      exact forAll_inv (fun y hy => hafter y fun e => hx (e ▸ hy)) (hat c h)
    · exact ih hr ((List.mem_cons.1 ha).resolve_left (Ne.symm hxa)) (hbefore x hxa c h)

/-! ### An input after a change of it -/

@[simp] theorem div_updDi_self (ch : Nat) (f : Di → Di) (c : Chip) : div (updDi ch f c) ch = f (div c ch) := by simp [div, updDi]

theorem div_updDi_ne {ch u : Nat} (f : Di → Di) (c : Chip) (h : u ≠ ch) : div (updDi ch f c) u = div c u := by
  simp [div, updDi, Map.getD_upd_ne _ _ _ _ _ _ h]

/-! ### The filter (R254) and the comparator test (R260) -/

/-- The integrator goes one step towards the raw level, and the stamp of the end that it leaves is taken. -/
def Di.integrated (n : Nat) (s : Bool) (d : Di) : Di :=
  if s then { d with tUp := if d.c = 0 then d.lastUp else d.tUp, c := if d.c < n then d.c + 1 else d.c }
  else { d with tDn := if d.c = n then d.lastDn else d.tDn, c := d.c - 1 }

/-- The filtered state follows the integrator at its two ends. -/
def Di.settled (n : Nat) (d : Di) : Di :=
  if d.c = n ∧ d.y = false then { d with y := true, tsRise := d.tUp }
  else if d.c = 0 ∧ d.y = true then { d with y := false, tsFall := d.tDn }
  else d

theorem diFilter_eq (n : Nat) (s : Bool) (d : Di) : diFilter n s d = (d.integrated n s).settled n := rfl

section
variable (n : Nat) (s : Bool) (d : Di)

theorem Di.integrated_c {n : Nat} {d : Di} (h : d.c ≤ n) : (d.integrated n s).c = if s then Nat.min (d.c + 1) n else d.c - 1 := by
  cases s
  · rfl
  · have hstep : (if d.c < n then d.c + 1 else d.c) = min (d.c + 1) n := by
      split_ifs <;> omega
    exact hstep

theorem Di.integrated_tUp : (d.integrated n s).tUp = if s = true ∧ d.c = 0 then d.lastUp else d.tUp := by
  cases s <;> simp [Di.integrated]

theorem Di.integrated_tDn : (d.integrated n s).tDn = if s = false ∧ d.c = n then d.lastDn else d.tDn := by
  cases s <;> simp [Di.integrated]

/-- The integrator's step leaves all but itself and the two stamps. -/
theorem Di.integrated_frame : ∃ c up dn, d.integrated n s = { d with c := c, tUp := up, tDn := dn } := by
  cases s
  · exact ⟨_, _, _, rfl⟩
  · exact ⟨_, _, _, rfl⟩

theorem Di.integrated_rest :
    (d.integrated n s).y = d.y ∧ (d.integrated n s).tsRise = d.tsRise ∧ (d.integrated n s).tsFall = d.tsFall := by
  obtain ⟨c, up, dn, h⟩ := d.integrated_frame n s
  rw [h]
  exact ⟨rfl, rfl, rfl⟩

/-- The filtered state is high at the upper end, low at the lower one, and stays in between. -/
theorem Di.settled_y {n : Nat} (hn : 1 ≤ n) : (d.settled n).y = true ↔ d.c = n ∨ (d.y = true ∧ d.c ≠ 0) := by
  unfold Di.settled
  split_ifs with hup hdn
  · simp [hup]
  · obtain ⟨hc, -⟩ := hdn
    have hn0 : 0 ≠ n := by omega
    simp [hc, hn0]
  · cases hy : d.y <;> simp_all

theorem Di.settled_tsRise : (d.settled n).tsRise = if d.y = false ∧ (d.settled n).y = true then d.tUp else d.tsRise := by
  unfold Di.settled
  split_ifs <;> simp_all

theorem Di.settled_tsFall : (d.settled n).tsFall = if d.y = true ∧ (d.settled n).y = false then d.tDn else d.tsFall := by
  unfold Di.settled
  split_ifs <;> simp_all

/-- The filtered state and its two stamps apart, settling leaves the input. -/
theorem Di.settled_frame : ∃ y rise fall, d.settled n = { d with y := y, tsRise := rise, tsFall := fall } := by
  unfold Di.settled
  split_ifs
  · exact ⟨_, _, _, rfl⟩
  · exact ⟨_, _, _, rfl⟩
  · exact ⟨_, _, _, rfl⟩

/-- A failed test sets IN_FAULT; the tenth passed one in a row clears it. -/
theorem diTest_fault (failed : Bool) : (diTest failed d).fault = (failed || (d.fault && decide (d.passes < 9))) := by
  unfold diTest
  cases failed
  · cases hf : d.fault
    · simp [hf]
    · by_cases hp : d.passes < 9
      · simp [hp, hp.not_ge]
      · simp [hp, Nat.le_of_not_lt hp]
  · simp

theorem diTest_frame (failed : Bool) : ∃ fault passes, diTest failed d = { d with fault := fault, passes := passes } := by
  unfold diTest
  split_ifs
  · exact ⟨_, _, rfl⟩
  · exact ⟨_, _, rfl⟩
  · exact ⟨_, _, rfl⟩
  · exact ⟨_, _, rfl⟩

end

/-! ### One sample of an input (R254, R256, R257) -/

/-- An edge is counted where its direction is, and the first one since the capture is caught under PCATCH. -/
def Di.counted (edge rises falls catches : Bool) (b : Di) : Di :=
  { b with
    count := if edge && (if b.y then rises else falls) then (b.count + 1) % 2 ^ 32 else b.count
    caught := if edge && catches then some (b.caught.getD b.y) else b.caught }

/-- An input after one sample, filtered, tested and counted as the channel is configured. -/
def Di.sampled (c : Chip) (ch : Nat) (raw failed : Bool) (a : Di) : Di :=
  let b := diTest failed (diFilter (cfg c (0x3100 + ch) 1 15 6) raw a)
  b.counted (a.y != b.y) (bit (cfg c (0x3100 + ch) 1 3 2) 0) (bit (cfg c (0x3100 + ch) 1 3 2) 1) (cfgb c (0x3100 + ch) 1 1)

/-- CNT_MODE counts rising edges by its first bit and falling ones by its second (R256). -/
theorem bit_cfg_pair (c : Chip) (w : Nat) :
    bit (cfg c w 1 3 2) 0 = decide (cfg c w 1 2 2 = 1) ∧ bit (cfg c w 1 3 2) 1 = decide (cfg c w 1 3 3 = 1) := by
  unfold cfg setFld
  generalize setWord c.sets.main w 1 = x
  constructor
  · have h : x / 2 ^ 2 % 2 ^ 2 / 2 ^ 0 % 2 = x / 2 ^ 2 % 2 ^ 1 := by omega
    exact congrArg (· == 1) h
  · have h : x / 2 ^ 2 % 2 ^ 2 / 2 ^ 1 % 2 = x / 2 ^ 3 % 2 ^ 1 := by omega
    exact congrArg (· == 1) h

theorem counts_iff (c : Chip) (w : Nat) (edge y : Bool) :
    (edge && (if y then bit (cfg c w 1 3 2) 0 else bit (cfg c w 1 3 2) 1)) = true
      ↔ edge = true ∧ ((y = true ∧ cfg c w 1 2 2 = 1) ∨ (y = false ∧ cfg c w 1 3 3 = 1)) := by
  obtain ⟨hrise, hfall⟩ := bit_cfg_pair c w
  rw [hrise, hfall]
  cases y <;> simp

section
variable (c : Chip) (ch : Nat) (raw failed : Bool) (a : Di)

/-- The integrator and its stamps are those of the filter's first half, the filtered state and its stamps those of the second. -/
theorem Di.sampled_filter :
    let e := a.integrated (cfg c (0x3100 + ch) 1 15 6) raw; let f := e.settled (cfg c (0x3100 + ch) 1 15 6); let b := a.sampled c ch raw failed
    b.c = e.c ∧ b.tUp = e.tUp ∧ b.tDn = e.tDn ∧ b.y = f.y ∧ b.tsRise = f.tsRise ∧ b.tsFall = f.tsFall := by
  unfold Di.sampled
  rw [diFilter_eq]
  dsimp only
  generalize a.integrated (cfg c (0x3100 + ch) 1 15 6) raw = e
  obtain ⟨y, rise, fall, hset⟩ := e.settled_frame (cfg c (0x3100 + ch) 1 15 6)
  obtain ⟨fault, passes, htest⟩ := diTest_frame (e.settled (cfg c (0x3100 + ch) 1 15 6)) failed
  rw [htest, hset]
  exact ⟨rfl, rfl, rfl, rfl, rfl, rfl⟩

/-- The filtered state goes high where the integrator reaches the upper end, and low where it reaches 0. -/
theorem Di.sampled_y {c : Chip} {ch : Nat} (hn : 1 ≤ cfg c (0x3100 + ch) 1 15 6) :
    let b := a.sampled c ch raw failed
    b.y = true ↔ b.c = cfg c (0x3100 + ch) 1 15 6 ∨ (a.y = true ∧ b.c ≠ 0) := by
  obtain ⟨hc, -, -, hy, -⟩ := a.sampled_filter c ch raw failed
  obtain ⟨hay, -⟩ := a.integrated_rest (cfg c (0x3100 + ch) 1 15 6) raw
  dsimp only
  rw [hy, hc, Di.settled_y _ hn, hay]

/-- Each edge takes the stamp of the raw change that last left the other end. -/
theorem Di.sampled_stamps :
    let b := a.sampled c ch raw failed
    b.tsRise = (if a.y = false ∧ b.y = true then b.tUp else a.tsRise)
      ∧ b.tsFall = (if a.y = true ∧ b.y = false then b.tDn else a.tsFall) := by
  obtain ⟨-, hup, hdn, hy, hrise, hfall⟩ := a.sampled_filter c ch raw failed
  obtain ⟨hay, harise, hafall⟩ := a.integrated_rest (cfg c (0x3100 + ch) 1 15 6) raw
  dsimp only
  rw [hrise, hfall, hy, hup, hdn, Di.settled_tsRise, Di.settled_tsFall, hay, harise, hafall]
  exact ⟨rfl, rfl⟩

/-- An edge counts by its direction, and is caught under PCATCH; the comparator test judges the input as it was. -/
theorem Di.sampled_counts :
    let b := a.sampled c ch raw failed; let edge := a.y != b.y
    b.count = (if edge && (if b.y then bit (cfg c (0x3100 + ch) 1 3 2) 0 else bit (cfg c (0x3100 + ch) 1 3 2) 1) then (a.count + 1) % 2 ^ 32
        else a.count)
      ∧ b.caught = (if edge && cfgb c (0x3100 + ch) 1 1 then some (a.caught.getD b.y) else a.caught)
      ∧ b.fault = (failed || (a.fault && decide (a.passes < 9))) := by
  have hfault := diTest_fault (diFilter (cfg c (0x3100 + ch) 1 15 6) raw a) failed
  unfold Di.sampled
  dsimp only
  obtain ⟨n, up, dn, hint⟩ := a.integrated_frame (cfg c (0x3100 + ch) 1 15 6) raw
  obtain ⟨y, rise, fall, hset⟩ := (a.integrated (cfg c (0x3100 + ch) 1 15 6) raw).settled_frame (cfg c (0x3100 + ch) 1 15 6)
  obtain ⟨fault, passes, htest⟩ := diTest_frame (diFilter (cfg c (0x3100 + ch) 1 15 6) raw a) failed
  rw [htest, diFilter_eq, hset, hint] at hfault ⊢
  exact ⟨rfl, rfl, hfault⟩

end

theorem Di.sampled_c {c : Chip} {ch : Nat} {raw failed : Bool} {a : Di} (h : a.c ≤ cfg c (0x3100 + ch) 1 15 6) :
    (a.sampled c ch raw failed).c = if raw then Nat.min (a.c + 1) (cfg c (0x3100 + ch) 1 15 6) else a.c - 1 := by
  obtain ⟨hc, -⟩ := Di.sampled_filter c ch raw failed a
  rw [hc, Di.integrated_c _ h]

/-- What a sample reads of the block is the configuration alone. -/
theorem Di.sampled_congr {c c' : Chip} (h : c'.sets.main = c.sets.main) (ch : Nat) (raw failed : Bool) (a : Di) :
    a.sampled c' ch raw failed = a.sampled c ch raw failed := by
  simp only [Di.sampled, cfg, cfgb, h]

/-- A sample passes over an input that is disabled or without supply. -/
def diPassed (c : Chip) (ch : Nat) : Bool := !diEn c ch || diDown c (ch / 8) = 101

theorem diChannel_of_passed {c : Chip} {ch : Nat} (h : diPassed c ch = true) (raw failed : Bool) : diChannel raw failed ch c = c := if_pos h

section
variable {β : Type} {g : Chip → β} (hcore : ∀ c, g c.core = g c)
include hcore

/-- A sample is put into its input; beyond that it is counted and recorded. -/
theorem diChannel_of_judged {c : Chip} {ch : Nat} (h : diPassed c ch = false) (raw failed : Bool) :
    g (diChannel raw failed ch c) = g (updDi ch (fun a => a.sampled c ch raw failed) c) := by
  have hrow : diChannel raw failed ch c = _ := if_neg (by rw [← diPassed, h]; decide)
  rw [hrow]
  dsimp only
  rw [(Keeps.when _ (keeps_record _ _ _)).reads hcore, (Keeps.when _ (keeps_bump _)).reads hcore]
  rfl

/-- What an input and the recorder do not hold, its sample leaves. -/
theorem diChannel_keeps {ch : Nat} (hupd : ∀ f c, g (updDi ch f c) = g c) (raw failed : Bool) (c : Chip) :
    g (diChannel raw failed ch c) = g c := by
  cases h : diPassed c ch
  · rw [diChannel_of_judged hcore h, hupd]
  · rw [diChannel_of_passed h]

/-- What no input and neither the recorder nor the groups' supplies hold, a sample of all inputs leaves. -/
theorem evDiSample_keeps (hupd : ∀ ch f c, g (updDi ch f c) = g c) (hdown : ∀ m c, g { c with io := { c.io with diDown := m } } = g c)
    (dt : Nat) (raw : BitVec 32) (edges : List Edge) (bad : BitVec 32) (c : Chip) : g (evDiSample dt raw edges bad c) = g (pass dt c) := by
  unfold evDiSample
  dsimp only
  rw [hdown, forAll_keeps g _ _ (fun ch c => diChannel_keeps hcore (hupd ch) _ _ c), forAll_keeps g edges _ (fun _ _ => hupd _ _ _)]

end

/-- The other inputs are left by a sample of one, and so is all that decides how it is judged. -/
theorem diChannel_ne {ch u : Nat} (h : u ≠ ch) (raw failed : Bool) (c : Chip) : div (diChannel raw failed ch c) u = div c u :=
  diChannel_keeps (g := fun c => div c u) (fun _ => rfl) (fun f c => div_updDi_ne f c h) raw failed c

theorem diChannel_config (ch : Nat) (raw failed : Bool) (c : Chip) :
    (diChannel raw failed ch c).sets.main = c.sets.main ∧ (diChannel raw failed ch c).io.diDown = c.io.diDown :=
  ⟨diChannel_keeps (g := fun c => c.sets.main) (fun _ => rfl) (fun _ _ => rfl) raw failed c,
    diChannel_keeps (g := fun c => c.io.diDown) (fun _ => rfl) (fun _ _ => rfl) raw failed c⟩

theorem diPassed_congr {c c' : Chip} (hm : c'.sets.main = c.sets.main) (hd : c'.io.diDown = c.io.diDown) (ch : Nat) :
    diPassed c' ch = diPassed c ch := by
  rw [diPassed, diEn, cfgb, diDown, hm, hd, diPassed, diEn, cfgb, diDown]

/-- The inputs one after another. -/
def diChannels (raw bad : BitVec 32) (c : Chip) : Chip := forAll (List.range 32) (fun ch => diChannel (raw.getLsbD ch) (bad.getLsbD ch) ch) c

/-- Each input is sampled once, as it was before. -/
theorem div_diChannels {c : Chip} {ch : Nat} (hch : ch < 32) (h : diPassed c ch = false) (raw bad : BitVec 32) :
    div (diChannels raw bad c) ch = (div c ch).sampled c ch (raw.getLsbD ch) (bad.getLsbD ch) := by
  refine forAll_once (a := ch) (P := fun c' => c'.sets.main = c.sets.main ∧ c'.io.diDown = c.io.diDown ∧ div c' ch = div c ch)
    (Q := fun c' => div c' ch = (div c ch).sampled c ch (raw.getLsbD ch) (bad.getLsbD ch)) (fun u hu c' hP => ?before) (fun c' hP => ?own)
    (fun u hu c' hQ => ?after) List.nodup_range (List.mem_range.2 hch) ⟨rfl, rfl, rfl⟩
  case before =>
    obtain ⟨hm, hd, hv⟩ := hP
    obtain ⟨hm', hd'⟩ := diChannel_config u (raw.getLsbD u) (bad.getLsbD u) c'
    exact ⟨hm'.trans hm, hd'.trans hd, (diChannel_ne hu.symm _ _ c').trans hv⟩
  case own =>
    obtain ⟨hm, hd, hv⟩ := hP
    have hjudged : diPassed c' ch = false := (diPassed_congr hm hd ch).trans h
    rw [diChannel_of_judged (g := fun c => div c ch) (fun _ => rfl) hjudged, div_updDi_self, hv, Di.sampled_congr hm]
  case after => exact (diChannel_ne hu.symm _ _ c').trans hQ

/-- An input that is passed over stays as it is. -/
theorem div_diChannels_of_passed {c : Chip} {ch : Nat} (h : diPassed c ch = true) (raw bad : BitVec 32) :
    div (diChannels raw bad c) ch = div c ch := by
  refine (forAll_inv (P := fun c' => diPassed c' ch = true ∧ div c' ch = div c ch) (fun u _ c' hP => ?_) ⟨h, rfl⟩).2
  obtain ⟨hp, hv⟩ := hP
  obtain ⟨hm, hd⟩ := diChannel_config u (raw.getLsbD u) (bad.getLsbD u) c'
  refine ⟨(diPassed_congr hm hd ch).trans hp, ?_⟩
  by_cases hu : u = ch
  · subst hu
    rw [diChannel_of_passed hp, hv]
  · rw [diChannel_ne (Ne.symm hu), hv]

/-- A change of raw level leaves its instant with the input. -/
def Edge.applied (e : Edge) (c : Chip) : Chip := updDi e.c (fun d => if e.high then { d with lastUp := e.t } else { d with lastDn := e.t }) c

theorem div_evDiSample (dt : Nat) (raw : BitVec 32) (edges : List Edge) (bad : BitVec 32) (c : Chip) :
    div (evDiSample dt raw edges bad c) = div (diChannels raw bad (forAll edges Edge.applied (pass dt c))) := rfl

/-! ### The supply of a group (R254, R256, R260) -/

/-- An input as its group powers up. -/
def Di.powered (d : Di) : Di :=
  { d with c := 0, y := false, tUp := 0, tDn := 0, tsRise := 0, tsFall := 0, count := 0, caught := none, fault := false, passes := 0 }

/-- A group whose supply returns has 100 samples to filter and starts its inputs from zero. -/
def diPowered (g : Nat) (c : Chip) : Chip :=
  forAll (List.range 8) (fun i => updDi (8 * g + i) Di.powered) { c with io := { c.io with diDown := Map.put c.io.diDown g 100 } }

theorem evDiGroupSupplyRestored_powers {dt g : Nat} {c : Chip} (h : diDown (pass dt c) g = 101) :
    evDiGroupSupplyRestored dt g c = diPowered g (pass dt c) := if_neg (by rw [h]; decide)

theorem evDiGroupSupplyLost_records {dt g : Nat} {c : Chip} (h : diDown (pass dt c) g ≠ 101) : evDiGroupSupplyLost dt g c
    = record 0x0640 (0x0A00 + 8 * g) [] { pass dt c with io := { (pass dt c).io with diDown := Map.put (pass dt c).io.diDown g 101 } } :=
  if_neg h

/-- What the inputs do not hold, the loop over them leaves. -/
theorem diPowered_keeps {β : Type} {f : Chip → β} (hupd : ∀ ch h c, f (updDi ch h c) = f c) (g : Nat) (c : Chip) :
    f (diPowered g c) = f { c with io := { c.io with diDown := Map.put c.io.diDown g 100 } } :=
  forAll_keeps f _ _ (fun _ _ => hupd _ _ _) _

theorem div_diPowered {g ch : Nat} (h : ch / 8 = g) (c : Chip) : div (diPowered g c) ch = (div c ch).powered := by
  have hch : 8 * g + ch % 8 = ch := by omega
  refine forAll_once (a := ch % 8) (P := fun c' => div c' ch = div c ch) (Q := fun c' => div c' ch = (div c ch).powered)
    (fun i hi c' hP => ?before) (fun c' hP => ?own) (fun i hi c' hQ => ?after) List.nodup_range
    (List.mem_range.2 (Nat.mod_lt _ (by decide))) rfl
  case before => rw [div_updDi_ne _ _ (by omega), hP]
  case own => rw [hch, div_updDi_self, hP]
  case after => rw [div_updDi_ne _ _ (by omega), hQ]

theorem div_diPowered_ne {g ch : Nat} (h : ch / 8 ≠ g) (c : Chip) : div (diPowered g c) ch = div c ch := by
  refine forAll_inv (P := fun c' => div c' ch = div c ch) (fun i hi c' hc' => ?_) rfl
  have hi : i < 8 := List.mem_range.1 hi
  rw [div_updDi_ne _ _ (by omega), hc']

/-! ### The rows -/

theorem div_pass (dt : Nat) (c : Chip) : div (pass dt c) = div c := by funext ch; rw [div, pass_io, div]

theorem diDown_pass (dt : Nat) (c : Chip) : diDown (pass dt c) = diDown c := by funext g; rw [diDown, pass_io, diDown]

theorem diEn_pass (dt : Nat) (c : Chip) : diEn (pass dt c) = diEn c := by funext ch; rw [diEn, cfgb, pass_sets, diEn, cfgb]

/-- Settles O39: a sample by the two halves of its filter and what it counts, the supply of a group by its two equations. -/
theorem digitalInputRows : Obligations.DigitalInputRows := by
  refine ⟨fun dt raw bad s ch hch => ?sample, fun dt raw bad s ch hpass => ?passed, fun dt e s => ?edge, fun dt g => ?lost,
    fun dt g s hdown => ?restored⟩
  case sample =>
    intro c a w n s1 hen hdown hn hc
    have hjudged : diPassed c ch = false := by simp [diPassed, hen, hdown]
    refine does_of_lift (f := evDiSample dt raw [] bad) rfl ?_
    rw [div_evDiSample, forAll_nil, div_diChannels hch hjudged]
    obtain ⟨-, hup, hdn, -⟩ := a.sampled_filter c ch s1 (bad.getLsbD ch)
    obtain ⟨hrise, hfall⟩ := a.sampled_stamps c ch s1 (bad.getLsbD ch)
    obtain ⟨hcount, hcaught, hfault⟩ := a.sampled_counts c ch s1 (bad.getLsbD ch)
    refine ⟨Di.sampled_c hc, hup.trans (Di.integrated_tUp _ _ _), hdn.trans (Di.integrated_tDn _ _ _), Di.sampled_y _ _ _ hn, hrise, hfall,
      ?count, fun hedge hp => ?caught, fun hedge => ?steady, fun hp => ?uncaught, fun hbad => ?failed, fun hgood => ?tested, ?_, ?_, ?_, ?_, ?_⟩
    case count => exact hcount.trans (if_congr (counts_iff c w _ _) rfl rfl)
    case caught => rw [hcaught, if_pos (by rw [hp, Bool.and_true]; exact hedge)]
    case steady => exact hcaught.trans (if_neg fun h => Bool.false_ne_true (hedge.symm.trans (Bool.and_eq_true_iff.1 h).1))
    case uncaught => rw [hcaught, if_neg (by rw [hp, Bool.and_false]; decide)]
    case failed => rw [hfault, hbad, Bool.true_or]
    case tested => rw [hfault, hgood, Bool.false_or]
    · exact evDiSample_keeps (g := fun c => c.io.ai) (fun _ => rfl) (fun _ _ _ => rfl) (fun _ _ => rfl) dt raw [] bad s.chip
    · exact evDiSample_keeps (g := fun c => c.io.ao) (fun _ => rfl) (fun _ _ _ => rfl) (fun _ _ => rfl) dt raw [] bad s.chip
    · exact evDiSample_keeps (g := fun c => c.mem) (fun _ => rfl) (fun _ _ _ => rfl) (fun _ _ => rfl) dt raw [] bad s.chip
    · exact evDiSample_keeps (g := fun c => c.tasks) (fun _ => rfl) (fun _ _ _ => rfl) (fun _ _ => rfl) dt raw [] bad s.chip
    · exact evDiSample_keeps (g := fun c => c.tt) (fun _ => rfl) (fun _ _ _ => rfl) (fun _ _ => rfl) dt raw [] bad s.chip
  case passed =>
    have h : diPassed (pass dt s.chip) ch = true := by
      rcases hpass with h | h <;> simp [diPassed, diEn_pass, diDown_pass, h]
    refine does_of_lift (f := evDiSample dt raw [] bad) rfl ?_
    rw [div_evDiSample, forAll_nil, div_diChannels_of_passed h, div_pass]
  case edge =>
    refine does_of_lift (f := evDiSample dt 0 [e] 0) rfl ?_
    have hen : diEn (Edge.applied e (pass dt s.chip)) = diEn s.chip := diEn_pass dt s.chip
    have hkept : diEn s.chip e.c = false → div (evDiSample dt 0 [e] 0 s.chip) e.c = div (Edge.applied e (pass dt s.chip)) e.c := fun h => by
      rw [div_evDiSample, forAll_cons, forAll_nil, div_diChannels_of_passed]
      simp [diPassed, hen, h]
    refine ⟨fun hhigh hoff => ?_, fun hlow hoff => ?_⟩
    · rw [hkept hoff]
      simp [Edge.applied, hhigh]
    · rw [hkept hoff]
      simp [Edge.applied, hlow]
  case lost => exact takes_of_lift (fun _ => rfl) fun _ h => evDiGroupSupplyLost_records h
  case restored =>
    have hdown' : diDown (pass dt s.chip) g = 101 := by rw [diDown_pass, hdown]
    refine does_of_lift (f := evDiGroupSupplyRestored dt g) rfl ?_
    rw [evDiGroupSupplyRestored_powers hdown']
    refine ⟨?_, fun ch hch => ?_, fun ch hch => ?_, ?_, ?_⟩
    · rw [diPowered_keeps (f := diDown) (fun _ _ _ => rfl)]
      exact Map.getD_put_self _ _ _ _
    · rw [div_diPowered hch]
      exact ⟨rfl, rfl, rfl, rfl, rfl⟩
    · rw [div_diPowered_ne hch, div_pass]
    · rw [diPowered_keeps (f := fun c => c.mem) (fun _ _ _ => rfl)]
      exact pass_mem dt s.chip
    · rw [diPowered_keeps (f := fun c => c.io.ao) (fun _ _ _ => rfl)]
      exact congrArg (fun io => io.ao) (pass_io dt s.chip)

end Sys2Proof.Machine
end

section
/-! Digital outputs (R260, R262, R265, R266, R268, R269, R270): what one readback sample makes of an output, an overload and its retry, the
off-pulse, a load window, the watchdog of a group, and the record of its current. -/
namespace Sys2Proof.Machine

open Sys2Proof Sys2Proof.Safety

/-! ### What records and completions leave of an output -/

/-- A digital output with another learning under way. -/
def Do.learning (l : Option (Nat × Option Nat × Nat × Nat × Nat)) (d : Do) : Do := { d with learn := l }

/-- A digital output without the session that its learning names. -/
def Do.anon (d : Do) : Do := d.learning none

/-- Outputs that are the same without their learning differ in it alone. -/
theorem Do.eq_of_anon {d e : Do} (h : d.anon = e.anon) : ∃ l, d = e.learning l :=
  ⟨d.learn, by rw [show d = d.anon.learning d.learn from rfl, h]; rfl⟩

theorem anon_core (ch : Nat) (c : Chip) : (dov c.core ch).anon = (dov c ch).anon := by rw [dov_core]; rfl

/-- Records, events to sessions and completions keep an output but for the session that its learning names. -/
theorem Keeps.dov {f : Chip → Chip} (hf : Keeps f) (c : Chip) (ch : Nat) : (dov (f c) ch).anon = (dov c ch).anon :=
  hf.reads (g := fun c => (Machine.dov c ch).anon) (anon_core ch) c

theorem dov_pass (dt : Nat) (c : Chip) : dov (pass dt c) = dov c := by funext ch; rw [Machine.dov, pass_io, Machine.dov]

/-! ### The current of a group (R270) -/

/-- Settles O41: the row records alone. -/
theorem groupCurrentIsRecorded : Obligations.GroupCurrentIsRecorded := by
  refine fun dt g => ⟨takes_of_lift (f := evDoGroupCurrent dt g) (fun _ => rfl) fun _ _ => rfl, fun s => ?_⟩
  have hrec : Keeps (record 0x0656 (0x0A20 + 8 * g) []) := keeps_record _ _ _
  refine does_of_lift (f := evDoGroupCurrent dt g) rfl ?_
  unfold evDoGroupCurrent
  rw [hrec.reads (g := fun c => c.io.ai) (fun _ => rfl), hrec.reads (g := fun c => c.io.ao) (fun _ => rfl),
    hrec.reads (g := fun c => c.io.di) (fun _ => rfl), hrec.tasks, hrec.reads (g := fun c => c.mem) (fun _ => rfl),
    hrec.reads (g := fun c => c.tt) (fun _ => rfl), hrec.reads (g := fun c => c.sup.mstate) (fun _ => rfl)]
  refine ⟨by simp, by simp, by simp, by simp, by simp, by simp, by simp, fun ch => ?_⟩
  obtain ⟨l, h⟩ := Do.eq_of_anon (hrec.dov (pass dt s.chip) ch)
  rw [h, dov_pass]
  exact ⟨rfl, rfl, rfl⟩

/-! ### One readback sample (R260, R262, R266) -/

/-- Readback and current as sampled. -/
def Do.read (rb : Bool) (ma : Nat) (d : Do) : Do := { d with rb := rb, ma := Nat.min ma 1500 }

/-- The time on without limiting goes on, and after 100 ms of it an overload clears. -/
def Do.timed (now : Nat) (lim : Bool) (d : Do) : Do :=
  let since := if d.closed && !lim then some (d.onSince.getD now) else none
  let clean := d.ovl && d.closed && (match since with | some t => decide (t + 100000000 ≤ now) | none => false)
  { d with onSince := since, ovl := d.ovl && !clean, offSeen := d.offSeen && !clean }

/-- A sample while commanded on counts towards SW_FAULT or its end. -/
def Do.judgedOn (fd : Nat) (rb lim : Bool) (d : Do) : Do :=
  let n := if !rb && fd = 0 && !lim && d.closed then d.cnt + 1 else 0
  let k := if rb then d.clr + 1 else 0
  let set := !d.swFault && decide (10 ≤ n) && decide (fd < 2)
  let clr := d.swFault && decide (10 ≤ k) && decide (fd < 2)
  { d with cnt := Nat.min n 10, clr := Nat.min k 10, swFault := if set then true else if clr then false else d.swFault }

/-- A sample while commanded off counts towards EXT_HIGH or its end. -/
def Do.judgedOff (shared rb : Bool) (d : Do) : Do :=
  let n := if rb then d.cnt + 1 else 0
  let k := if !rb then d.clr + 1 else 0
  let set := !d.extHigh && decide (10 ≤ n) && !shared
  let clr := d.extHigh && decide (10 ≤ k)
  { d with cnt := Nat.min n 10, clr := Nat.min k 10, extHigh := if set then true else if clr then false else d.extHigh }

/-- Blanking, an off-pulse and a group without supply keep the readback from being judged. -/
def Do.blanked (now fd : Nat) (d : Do) : Bool := decide (now < d.blankTo) || d.pulse || fd = 3

/-- An enabled output after a sample. -/
def Do.judged (now fd : Nat) (shared rb lim : Bool) (d : Do) : Do :=
  if d.blanked now fd then { d with cnt := 0, clr := 0 } else if d.cmd then d.judgedOn fd rb lim else d.judgedOff shared rb

/-- An output after one readback sample. -/
def Do.sampled (c : Chip) (ch : Nat) (rb lim : Bool) (ma : Nat) (d : Do) : Do :=
  if doEn c ch then
    ((d.read rb ma).timed c.time.clock lim).judged c.time.clock (fdState c (ch / 8)) (cfgb c (0x3140 + ch) 1 13) rb lim
  else d.read rb ma

/-- A change of an output to a value is any change that makes this value of it. -/
theorem updDo_eq {ch : Nat} {f : Do → Do} {c : Chip} {d : Do} (h : f (dov c ch) = d) : updDo ch (fun _ => d) c = updDo ch f c := by
  rw [updDo, updDo, h]

/-- A sample is put into its output, and a condition that it sets is recorded. -/
theorem doSample_eq (rb lim : Bool) (ma ch : Nat) (c : Chip) :
    ∃ p r, doSample rb lim ma ch c = when p (record r (0x0A20 + ch) []) (updDo ch (fun d => d.sampled c ch rb lim ma) c) := by
  cases hen : doEn c ch with
  | false =>
    have hs : (fun d : Do => d.sampled c ch rb lim ma) = Do.read rb ma := funext fun d => if_neg (by rw [hen]; decide)
    rw [hs]
    exact ⟨false, 0, if_pos (by rw [hen]; rfl)⟩
  | true =>
    have hs : (fun d : Do => d.sampled c ch rb lim ma) = fun d => ((d.read rb ma).timed c.time.clock lim).judged c.time.clock
      (fdState c (ch / 8)) (cfgb c (0x3140 + ch) 1 13) rb lim := funext fun d => if_pos hen
    rw [hs]
    have hrow : ¬(!doEn c ch) = true := by rw [hen]; decide
    cases hb : (dov c ch).blanked c.time.clock (fdState c (ch / 8)) with
    | true =>
      refine ⟨false, 0, ?_⟩
      rw [when_false]
      refine (if_neg hrow).trans ((if_pos hb).trans (updDo_eq ?_))
      exact if_pos hb
    | false =>
      have hbl : ¬(dov c ch).blanked c.time.clock (fdState c (ch / 8)) = true := by rw [hb]; decide
      cases hcmd : (dov c ch).cmd with
      | true =>
        refine ⟨_, 0x0652, (if_neg hrow).trans ((if_neg hbl).trans ((if_pos hcmd).trans (congrArg (when _ _) (updDo_eq ?_))))⟩
        exact (if_neg hbl).trans (if_pos hcmd)
      | false =>
        have hoff : ¬(dov c ch).cmd = true := by rw [hcmd]; decide
        refine ⟨_, 0x0651, (if_neg hrow).trans ((if_neg hbl).trans ((if_neg hoff).trans (congrArg (when _ _) (updDo_eq ?_))))⟩
        exact (if_neg hbl).trans (if_neg hoff)

/-! ### What a sample leaves and what it judges -/

section
variable (c : Chip) (ch : Nat) (rb lim : Bool) (ma : Nat) (d : Do)

theorem Do.judged_frame (now fd : Nat) (shared : Bool) :
    ∃ n k sw ext, d.judged now fd shared rb lim = { d with cnt := n, clr := k, swFault := sw, extHigh := ext } := by
  unfold Do.judged
  split
  · exact ⟨_, _, _, _, rfl⟩
  · split
    · exact ⟨_, _, _, _, rfl⟩
    · exact ⟨_, _, _, _, rfl⟩

/-- A sample keeps command and switch. -/
theorem Do.sampled_outputs :
    let e := d.sampled c ch rb lim ma
    e.rb = rb ∧ e.ma = Nat.min ma 1500 ∧ e.cmd = d.cmd ∧ e.closed = d.closed ∧ e.committed = d.committed := by
  unfold Do.sampled
  split
  · obtain ⟨n, k, sw, ext, h⟩ := ((d.read rb ma).timed c.time.clock lim).judged_frame rb lim c.time.clock (fdState c (ch / 8))
      (cfgb c (0x3140 + ch) 1 13)
    rw [h]
    exact ⟨rfl, rfl, rfl, rfl, rfl⟩
  · exact ⟨rfl, rfl, rfl, rfl, rfl⟩

/-- An overload is timed at enabled outputs alone. -/
theorem Do.sampled_ovl : (d.sampled c ch rb lim ma).ovl = if doEn c ch then (d.timed c.time.clock lim).ovl else d.ovl := by
  unfold Do.sampled
  split
  · obtain ⟨n, k, sw, ext, h⟩ := ((d.read rb ma).timed c.time.clock lim).judged_frame rb lim c.time.clock (fdState c (ch / 8))
      (cfgb c (0x3140 + ch) 1 13)
    rw [h]
    rfl
  · rfl

theorem Do.judged_learn (now fd : Nat) (shared : Bool) (l : Option (Nat × Option Nat × Nat × Nat × Nat)) :
    (d.learning l).judged now fd shared rb lim = (d.judged now fd shared rb lim).learning l := by
  unfold Do.judged
  rw [apply_ite (Do.learning l), apply_ite (Do.learning l)]
  rfl

/-- What an output has learned does not enter into a sample. -/
theorem Do.sampled_learn (l : Option (Nat × Option Nat × Nat × Nat × Nat)) :
    (d.learning l).sampled c ch rb lim ma = (d.sampled c ch rb lim ma).learning l := by
  unfold Do.sampled
  rw [apply_ite (Do.learning l), ← Do.judged_learn]
  rfl

end

/-- A sample reads of the block its configuration, its clock and the supplies of the groups. -/
theorem Do.sampled_congr {c c' : Chip} (hm : c'.sets.main = c.sets.main) (ht : c'.time.clock = c.time.clock) (hfd : c'.io.fd = c.io.fd)
    (ch : Nat) (rb lim : Bool) (ma : Nat) (d : Do) : d.sampled c' ch rb lim ma = d.sampled c ch rb lim ma := by
  have hcfg : cfgb c' = cfgb c := by funext ix sub i; rw [cfgb, hm, cfgb]
  rw [Do.sampled, doEn, hcfg, ht, fdState, hfd]
  rfl

section
variable {now : Nat} {d : Do}

theorem Do.timed_ovl_limited (now : Nat) (d : Do) : (d.timed now true).ovl = d.ovl := by simp [Do.timed]

theorem Do.timed_ovl_of_clear (lim : Bool) (h : d.ovl = false) : (d.timed now lim).ovl = false := by simp [Do.timed, h]

/-- 100 ms on without limiting clear an overload. -/
theorem Do.timed_ovl_clears {t : Nat} (hc : d.closed = true) (ht : d.onSince = some t) (hlate : t + 100000000 ≤ now) :
    (d.timed now false).ovl = false := by
  simp [Do.timed, hc, ht, hlate]

/-- The tenth low sample of a closed switch sets SW_FAULT. -/
theorem Do.judgedOn_sets (hc : d.closed = true) (hn : 9 ≤ d.cnt) : (d.judgedOn 0 false false).swFault = true := by
  cases hs : d.swFault <;> simp [Do.judgedOn, hc, hn, hs]

theorem Do.judgedOn_of_few (fd : Nat) {rb : Bool} (lim : Bool) (hs : d.swFault = false) (hn : d.cnt < 9 ∨ rb = true) :
    (d.judgedOn fd rb lim).swFault = false := by
  have hten : ¬10 ≤ (if !rb && fd = 0 && !lim && d.closed then d.cnt + 1 else 0) := by
    rcases hn with hn | rfl
    · split <;> omega
    · simp
  simp only [Do.judgedOn, hs, decide_eq_false hten, Bool.and_false, Bool.false_and, Bool.false_eq_true, if_false]

/-- The tenth high sample clears it. -/
theorem Do.judgedOn_clears {fd : Nat} (lim : Bool) (hfd : fd < 2) (hk : 9 ≤ d.clr) : (d.judgedOn fd true lim).swFault = false := by
  cases hs : d.swFault <;> simp [Do.judgedOn, hk, hs, hfd]

/-- The tenth high sample of a terminal that is not shared sets EXT_HIGH. -/
theorem Do.judgedOff_sets (hn : 9 ≤ d.cnt) : (d.judgedOff false true).extHigh = true := by
  cases hs : d.extHigh <;> simp [Do.judgedOff, hn, hs]

theorem Do.judgedOff_shared (rb : Bool) (h : d.extHigh = false) : (d.judgedOff true rb).extHigh = false := by simp [Do.judgedOff, h]

end

section
variable {c : Chip} {ch : Nat} {d : Do}

theorem Do.blanked_eq_false {now fd : Nat} (hb : d.blankTo ≤ now) (hp : d.pulse = false) (hfd : fd ≠ 3) : d.blanked now fd = false := by
  simp [Do.blanked, hb, hp, hfd]

/-- While commanded on, SW_FAULT follows the samples. -/
theorem Do.sampled_swFault (rb lim : Bool) (ma : Nat) (hen : doEn c ch = true)
    (hb : d.blanked c.time.clock (fdState c (ch / 8)) = false) (hcmd : d.cmd = true) :
    (d.sampled c ch rb lim ma).swFault = (d.judgedOn (fdState c (ch / 8)) rb lim).swFault := by
  have hb' : ((d.read rb ma).timed c.time.clock lim).blanked c.time.clock (fdState c (ch / 8)) = false := hb
  have hcmd' : ((d.read rb ma).timed c.time.clock lim).cmd = true := hcmd
  rw [Do.sampled, if_pos hen, Do.judged, hb', if_neg Bool.false_ne_true, if_pos hcmd']
  rfl

/-- While commanded off, EXT_HIGH does. -/
theorem Do.sampled_extHigh (rb lim : Bool) (ma : Nat) (hen : doEn c ch = true)
    (hb : d.blanked c.time.clock (fdState c (ch / 8)) = false) (hcmd : d.cmd = false) :
    (d.sampled c ch rb lim ma).extHigh = (d.judgedOff (cfgb c (0x3140 + ch) 1 13) rb).extHigh := by
  have hb' : ((d.read rb ma).timed c.time.clock lim).blanked c.time.clock (fdState c (ch / 8)) = false := hb
  have hcmd' : ((d.read rb ma).timed c.time.clock lim).cmd = false := hcmd
  rw [Do.sampled, if_pos hen, Do.judged, hb', if_neg Bool.false_ne_true, hcmd', if_neg Bool.false_ne_true]
  rfl

/-- A shared terminal is never found high from outside. -/
theorem Do.sampled_extHigh_shared (rb lim : Bool) (ma : Nat) (hshared : cfgb c (0x3140 + ch) 1 13 = true) (h : d.extHigh = false) :
    (d.sampled c ch rb lim ma).extHigh = false := by
  unfold Do.sampled Do.judged
  split
  · split
    · exact h
    · split
      · exact h
      · rw [hshared]
        exact Do.judgedOff_shared rb h
  · exact h

end

/-! ### The loop over the outputs -/

/-- What changes of an output and records keep, its sample keeps. -/
theorem doSample_keeps {β : Type} {g : Chip → β} (hcore : ∀ c, g c.core = g c) {ch : Nat} (hupd : ∀ f c, g (updDo ch f c) = g c)
    (rb lim : Bool) (ma : Nat) (c : Chip) : g (doSample rb lim ma ch c) = g c := by
  obtain ⟨p, r, h⟩ := doSample_eq rb lim ma ch c
  rw [h, (Keeps.when _ (keeps_record _ _ _)).reads hcore, hupd]

theorem evDoReadbackSample_keeps {β : Type} {g : Chip → β} (hcore : ∀ c, g c.core = g c) (hupd : ∀ ch f c, g (updDo ch f c) = g c)
    (dt : Nat) (rb lim : BitVec 24) (ma : List Nat) (c : Chip) : g (evDoReadbackSample dt rb lim ma c) = g (pass dt c) :=
  forAll_keeps g _ _ (fun ch c => doSample_keeps hcore (hupd ch) _ _ _ c) _

/-- Each output is sampled once, as it was before; records may end a learning. -/
theorem dov_evDoReadbackSample {ch : Nat} (hch : ch < 24) (dt : Nat) (rb lim : BitVec 24) (ma : List Nat) (c : Chip) :
    ∃ st l, dov (evDoReadbackSample dt rb lim ma c) ch =
      Do.learning l { (dov (pass dt c) ch).sampled (pass dt c) ch (rb.getLsbD ch) (lim.getLsbD ch) (ma.getD ch 0) with status := st } := by
  unfold evDoReadbackSample
  generalize pass dt c = c
  refine forAll_once (a := ch)
    (P := fun c' => (c'.sets.main = c.sets.main ∧ c'.time.clock = c.time.clock ∧ c'.io.fd = c.io.fd) ∧ (dov c' ch).anon = (dov c ch).anon)
    (Q := fun c' => ∃ st l, dov c' ch =
      Do.learning l { (dov c ch).sampled c ch (rb.getLsbD ch) (lim.getLsbD ch) (ma.getD ch 0) with status := st })
    (fun u hu c' hP => ?before) (fun c' hP => ?own) (fun u hu c' hQ => ?after) List.nodup_range (List.mem_range.2 hch) ⟨⟨rfl, rfl, rfl⟩, rfl⟩
  case before =>
    obtain ⟨⟨hm, ht, hfd⟩, hd⟩ := hP
    refine ⟨⟨?_, ?_, ?_⟩, ?_⟩
    · rw [doSample_keeps (g := fun c => c.sets.main) (fun _ => rfl) (fun _ _ => rfl), hm]
    · rw [doSample_keeps (g := fun c => c.time.clock) (fun _ => rfl) (fun _ _ => rfl), ht]
    · rw [doSample_keeps (g := fun c => c.io.fd) (fun _ => rfl) (fun _ _ => rfl), hfd]
    · rw [doSample_keeps (g := fun c => (dov c ch).anon) (anon_core ch) (fun f c => by rw [dov_updDo_ne f c hu.symm]), hd]
  case own =>
    obtain ⟨⟨hm, ht, hfd⟩, hd⟩ := hP
    obtain ⟨l, hd⟩ := Do.eq_of_anon hd
    obtain ⟨p, r, h⟩ := doSample_eq (rb.getLsbD ch) (lim.getLsbD ch) (ma.getD ch 0) ch c'
    obtain ⟨l', hd'⟩ := Do.eq_of_anon ((Keeps.when p (keeps_record r (0x0A20 + ch) [])).dov
      (updDo ch (fun d => d.sampled c' ch (rb.getLsbD ch) (lim.getLsbD ch) (ma.getD ch 0)) c') ch)
    rw [dov_updDo_self, hd, Do.sampled_congr hm ht hfd, Do.sampled_learn] at hd'
    rw [h]
    exact ⟨_, _, hd'⟩
  case after =>
    obtain ⟨st, l, hQ⟩ := hQ
    obtain ⟨l', h⟩ := Do.eq_of_anon (doSample_keeps (g := fun c => (dov c ch).anon) (anon_core ch)
      (fun f c => by rw [dov_updDo_ne f c hu.symm]) (rb.getLsbD u) (lim.getLsbD u) (ma.getD u 0) c')
    rw [hQ] at h
    exact ⟨st, l', h⟩

/-! ### An overload (R266) -/

/-- An overload at a closed switch opens it, and is counted and recorded. -/
theorem evDoOverload_opens {dt ch : Nat} {c : Chip} (hen : doEn (pass dt c) ch = true) (hc : (dov (pass dt c) ch).closed = true) :
    evDoOverload dt ch c = record 0x0650 (0x0A20 + ch) [] (bump (0x158 + ch) (updDo ch (fun d =>
      { d with closed := false, ovl := true, onSince := none, offSeen := false, latched := ovlLatched (endPeriod ch (pass dt c)) ch })
      (endPeriod ch (pass dt c)))) :=
  if_neg (by rw [hen, hc]; decide)

/-- What changes of the output and records keep, an overload keeps. -/
theorem evDoOverload_keeps {β : Type} {g : Chip → β} (hcore : ∀ c, g c.core = g c) {ch : Nat} (hupd : ∀ f c, g (updDo ch f c) = g c)
    (dt : Nat) (c : Chip) : g (evDoOverload dt ch c) = g (pass dt c) := by
  unfold evDoOverload
  dsimp only
  split
  · rfl
  · rw [(keeps_record _ _ _).reads hcore, (keeps_bump _).reads hcore, hupd, endPeriod_keeps hcore fun f c _ => hupd f c]

/-- What the end of an on-period has learned leaves the configuration. -/
theorem endPeriod_main (ch : Nat) (c : Chip) : (endPeriod ch c).sets.main = c.sets.main :=
  endPeriod_keeps (g := fun c => c.sets.main) (fun _ => rfl) (fun _ _ _ => rfl) c

theorem dov_evDoOverload {dt ch : Nat} {c : Chip} (hen : doEn (pass dt c) ch = true) (hc : (dov (pass dt c) ch).closed = true) :
    let d := dov (evDoOverload dt ch c) ch
    d.closed = false ∧ d.ovl = true ∧ d.latched = cfgb (pass dt c) (0x3140 + ch) 1 12 ∧ d.cmd = (dov (pass dt c) ch).cmd := by
  rw [evDoOverload_opens hen hc]
  generalize pass dt c = c at hen hc ⊢
  obtain ⟨hcmd, -, -⟩ := Do.outputs_of_switch (switch_endPeriod ch c)
  obtain ⟨l, h⟩ := Do.eq_of_anon ((keeps_record 0x0650 (0x0A20 + ch) []).dov (bump (0x158 + ch) (updDo ch (fun d =>
    { d with closed := false, ovl := true, onSince := none, offSeen := false, latched := ovlLatched (endPeriod ch c) ch })
    (endPeriod ch c))) ch)
  rw [dov_bump, dov_updDo_self] at h
  rw [h]
  refine ⟨rfl, rfl, ?_, hcmd⟩
  rw [cfgb, ← endPeriod_main ch c]
  rfl

/-- A retry closes an unlatched overload's switch again while the output is commanded on. -/
theorem evDoOverloadRetry_closes {dt ch : Nat} {c : Chip} (hen : doEn (pass dt c) ch = true) (ho : (dov (pass dt c) ch).ovl = true)
    (hcmd : (dov (pass dt c) ch).cmd = true) (hc : (dov (pass dt c) ch).closed = false) (hl : ovlLatched (pass dt c) ch = false)
    (hfd : fdState (pass dt c) (ch / 8) ≠ 3) : evDoOverloadRetry dt ch c = updDo ch (fun d =>
      { d with closed := true, onSince := some (pass dt c).time.clock, onAt := (pass dt c).time.clock }) (pass dt c) :=
  if_neg (by rw [hen, ho, hcmd, hc, hl, decide_eq_false hfd]; decide)

/-! ### The off-pulse (R268) -/

/-- The off-pulse of the output whose turn it is opens the switch a quarter of a tick after the boundary. -/
theorem evOffPulseStart_opens {dt ch : Nat} {c : Chip} (htest : cfgb (pass dt c) (0x3140 + ch) 1 15 = true)
    (hen : doEn (pass dt c) ch = true) (hcmd : (dov (pass dt c) ch).cmd = true) (hc : (dov (pass dt c) ch).closed = true)
    (hfd : fdState (pass dt c) (ch / 8) < 2) (hp : opTicks (pass dt c) (ch / 8) ≠ 0)
    (hturn : (pass dt c).tt.tn % opTicks (pass dt c) (ch / 8) = ch) :
    evOffPulseStart dt ch c = updDo ch (fun d => { d with pulse := true, closed := false })
      (pass (bNs (pass dt c) (pass dt c).tt.tn + tTick (pass dt c) * 250 - (pass dt c).time.clock) (pass dt c)) :=
  if_neg (by rw [htest, hen, hcmd, hc, decide_eq_false hfd.not_ge, decide_eq_false hp, hturn, bne_self_eq_false]; decide)

/-- An output whose off-pulse ends, with the readback judged unless the supply sags. -/
def Do.pulsed (now : Nat) (judges rb : Bool) (d : Do) : Do :=
  { d with pulse := false, closed := true, stuck := if judges then rb else d.stuck, blankTo := Nat.max d.blankTo now }

theorem evOffPulseEnd_keeps {β : Type} {g : Chip → β} (hcore : ∀ c, g c.core = g c) {dt ch : Nat} (rb : Bool) {c : Chip}
    (hp : (dov (pass dt c) ch).pulse = true) : g (evOffPulseEnd dt ch rb c)
      = g (updDo ch (Do.pulsed (pass dt c).time.clock (fdState (pass dt c) (ch / 8) < 2) rb) (pass dt c)) := by
  have hrow : evOffPulseEnd dt ch rb c = _ := if_neg (by rw [hp]; decide)
  rw [hrow]
  exact (Keeps.when _ (keeps_record _ _ _)).reads hcore _

/-! ### The load windows (R260, R269) -/

/-- A window out of the band, or back in it, counts towards the change of LOAD_DEV. -/
def Do.windowed (ma : Nat) (d : Do) : Do :=
  let n := if (decide (ma < d.lo) || decide (d.hi < ma)) != d.loadDev then d.devCnt + 1 else 0
  { d with devCnt := if 3 ≤ n then 0 else n, loadDev := if 3 ≤ n then !d.loadDev else d.loadDev }

theorem evDoLoadWindow_keeps {β : Type} {g : Chip → β} (hcore : ∀ c, g c.core = g c) {dt ch : Nat} (ma : Nat) {c : Chip}
    (hen : doEn (pass dt c) ch = true) (hsig : cfgb (pass dt c) (0x3140 + ch) 1 14 = true) (hc : (dov (pass dt c) ch).closed = true)
    (hon : (dov (pass dt c) ch).onAt + 60000000 ≤ (pass dt c).time.clock) (hl : (dov (pass dt c) ch).learn = none)
    (hhi : (dov (pass dt c) ch).hi ≠ 0) : g (evDoLoadWindow dt ch ma c) = g (updDo ch (Do.windowed ma) (pass dt c)) := by
  have hrow : evDoLoadWindow dt ch ma c = _ := if_neg (by rw [hen, hsig, hc, decide_eq_false hon.not_gt]; decide)
  rw [hrow, hl, if_neg (by decide), if_neg hhi]
  exact (Keeps.when _ (keeps_record _ _ _)).reads hcore _

section
variable {ma : Nat} {d : Do}

/-- A window that agrees with LOAD_DEV starts the count anew. -/
theorem Do.windowed_agrees (h : (ma < d.lo ∨ d.hi < ma) ↔ d.loadDev = true) :
    (d.windowed ma).loadDev = d.loadDev ∧ (d.windowed ma).devCnt = 0 := by
  have hout : (decide (ma < d.lo) || decide (d.hi < ma)) = d.loadDev := by
    rw [Bool.eq_iff_iff, Bool.or_eq_true, decide_eq_true_eq, decide_eq_true_eq]
    exact h
  simp [Do.windowed, hout]

/-- The third one in a row that does not changes it. -/
theorem Do.windowed_differs (h : ¬((ma < d.lo ∨ d.hi < ma) ↔ d.loadDev = true)) :
    (d.windowed ma).loadDev = (if 2 ≤ d.devCnt then !d.loadDev else d.loadDev)
      ∧ (d.windowed ma).devCnt = if 2 ≤ d.devCnt then 0 else d.devCnt + 1 := by
  have hout : ((decide (ma < d.lo) || decide (d.hi < ma)) != d.loadDev) = true := by
    rw [bne_iff_ne, ne_eq, Bool.eq_iff_iff, Bool.or_eq_true, decide_eq_true_eq, decide_eq_true_eq]
    exact h
  simp [Do.windowed, hout]

end

/-! ### The watchdog of a group (R265) -/

/-- An enabled output goes to WD_SAFE, unless it is there. -/
def wdChannel (ch : Nat) (c : Chip) : Chip :=
  if !doEn c ch || (dov c ch).wd then c
  else updDo ch (fun d => { d with wd := true })
    (if cfg c (0x3140 + ch) 1 3 2 = 2 then c else reachDo ch (cfg c (0x3140 + ch) 1 3 2 == 1) c)

theorem doWdSafe_eq (g : Nat) (c : Chip) : doWdSafe g c = forAll (List.range 8) (fun i => wdChannel (8 * g + i)) c := rfl

section
variable {β : Type} {g : Chip → β} (hcore : ∀ c, g c.core = g c)
include hcore

theorem wdChannel_keeps {ch : Nat} (hupd : ∀ f c, g (updDo ch f c) = g c) (c : Chip) : g (wdChannel ch c) = g c := by
  unfold wdChannel
  split
  · rfl
  · rw [hupd]
    split
    · rfl
    · rw [reachDo_keeps hcore hupd]

theorem doWdSafe_keeps (hupd : ∀ ch f c, g (updDo ch f c) = g c) (n : Nat) (c : Chip) : g (doWdSafe n c) = g c := by
  rw [doWdSafe_eq]
  exact forAll_keeps g _ _ (fun _ _ => wdChannel_keeps hcore (hupd _) _) c

end

theorem wdChannel_ne {ch u : Nat} (h : u ≠ ch) (c : Chip) : (dov (wdChannel ch c) u).anon = (dov c u).anon :=
  wdChannel_keeps (g := fun c => (dov c u).anon) (anon_core u) (fun f c => by rw [dov_updDo_ne f c h]) c

theorem wdChannel_main (ch : Nat) (c : Chip) : (wdChannel ch c).sets.main = c.sets.main :=
  wdChannel_keeps (g := fun c => c.sets.main) (fun _ => rfl) (fun _ _ => rfl) c

/-- What WD_SAFE makes of an output: off, on, or as it is. -/
def WentSafe (safe : Nat) (d e : Do) : Prop :=
  e.wd = true ∧ (safe = 0 → e.closed = false ∧ e.cmd = false) ∧ (safe = 1 → e.cmd = true) ∧ (safe = 2 → e.closed = d.closed ∧ e.cmd = d.cmd)

theorem wdChannel_wentSafe {ch : Nat} {c : Chip} (hen : doEn c ch = true) (hwd : (dov c ch).wd = false) :
    WentSafe (cfg c (0x3140 + ch) 1 3 2) (dov c ch) (dov (wdChannel ch c) ch) := by
  rw [wdChannel, if_neg (by rw [hen, hwd]; decide), dov_updDo_self]
  refine ⟨rfl, fun h => ?off, fun h => ?on, fun h => ?kept⟩
  case off =>
    rw [h]
    obtain ⟨hcmd, hclosed, -⟩ := reachDo_off ch c
    exact ⟨hclosed, hcmd⟩
  case on =>
    rw [h]
    exact cmd_reachDo ch true c
  case kept =>
    rw [if_pos h]
    exact ⟨rfl, rfl⟩

/-- Each enabled output of the group goes there, as it was before. -/
theorem doWdSafe_wentSafe {g ch : Nat} {c : Chip} (hg : ch / 8 = g) (hen : doEn c ch = true) (hwd : (dov c ch).wd = false) :
    WentSafe (cfg c (0x3140 + ch) 1 3 2) (dov c ch) (dov (doWdSafe g c) ch) := by
  have hch : 8 * g + ch % 8 = ch := by omega
  rw [doWdSafe_eq]
  refine forAll_once (a := ch % 8) (P := fun c' => c'.sets.main = c.sets.main ∧ (dov c' ch).anon = (dov c ch).anon)
    (Q := fun c' => WentSafe (cfg c (0x3140 + ch) 1 3 2) (dov c ch) (dov c' ch)) (fun i hi c' hP => ?before) (fun c' hP => ?own)
    (fun i hi c' hQ => ?after) List.nodup_range (List.mem_range.2 (Nat.mod_lt _ (by decide))) ⟨rfl, rfl⟩
  case before =>
    obtain ⟨hm, hd⟩ := hP
    exact ⟨(wdChannel_main _ c').trans hm, (wdChannel_ne (by omega) c').trans hd⟩
  case own =>
    obtain ⟨hm, hd⟩ := hP
    obtain ⟨l, hd⟩ := Do.eq_of_anon hd
    have hen' : doEn c' ch = true := by rw [doEn, cfgb, hm]; exact hen
    have hwd' : (dov c' ch).wd = false := by rw [hd]; exact hwd
    have h := wdChannel_wentSafe hen' hwd'
    rw [cfg, hm, hd] at h
    rw [hch]
    exact h
  case after =>
    obtain ⟨l, h⟩ := Do.eq_of_anon (wdChannel_ne (u := ch) (ch := 8 * g + i) (by omega) c')
    rw [h]
    exact hQ

/-- The outputs of the other groups stay as they are. -/
theorem doWdSafe_ne {g ch : Nat} (h : ch / 8 ≠ g) (c : Chip) : (dov (doWdSafe g c) ch).anon = (dov c ch).anon := by
  rw [doWdSafe_eq]
  refine forAll_inv (P := fun c' => (dov c' ch).anon = (dov c ch).anon) (fun i hi c' hc' => ?_) rfl
  have hi : i < 8 := List.mem_range.1 hi
  exact (wdChannel_ne (by omega) c').trans hc'

section
variable {dt g : Nat} {c : Chip}

/-- A refresh in time leaves the group. -/
theorem evDoWatchdogExpired_early
    (h : (pass dt c).time.clock < Map.getD (pass dt c).io.refresh (2 + g) 0 + cfg (pass dt c) 0x3181 (g + 1) 31 0 * 1000) :
    evDoWatchdogExpired dt g c = pass dt c := if_pos (by rw [decide_eq_true h, Bool.or_true])

theorem evDoWatchdogExpired_late
    (h : Map.getD (pass dt c).io.refresh (2 + g) 0 + cfg (pass dt c) 0x3181 (g + 1) 31 0 * 1000 ≤ (pass dt c).time.clock)
    (hfd : fdState (pass dt c) g ≠ 3) : evDoWatchdogExpired dt g c = doWdSafe g (pass dt c) :=
  if_neg (by rw [decide_eq_false hfd, decide_eq_false h.not_gt]; decide)

end

/-! ### The rows -/

/-- Settles O40: a sample by what it makes of each output, overload, retry and off-pulse by their equations, a window by `Do.windowed`, and the
watchdog by its loop over the group. -/
theorem digitalOutputRows : Obligations.DigitalOutputRows := by
  refine ⟨fun dt rb lim ma s ch hch => ?sample, fun dt ch s => ?overload, fun dt ch => ?retry, fun dt ch => ?pulse, fun dt ch rb s => ?pulseEnd,
    fun dt ch ma s => ?window, fun dt g s => ⟨fun hearly => ?early, fun hlate hfd => ?late⟩⟩
  case sample =>
    intro c d g
    refine does_of_lift (f := evDoReadbackSample dt rb lim ma) rfl ?_
    obtain ⟨st, l, h⟩ := dov_evDoReadbackSample hch dt rb lim ma s.chip
    rw [h]
    obtain ⟨hrb, hma, hcmd, hclosed, hcommitted⟩ := d.sampled_outputs c ch (rb.getLsbD ch) (lim.getLsbD ch) (ma.getD ch 0)
    have hovl := d.sampled_ovl c ch (rb.getLsbD ch) (lim.getLsbD ch) (ma.getD ch 0)
    refine ⟨hrb, hma, hcmd, hclosed, hcommitted, fun hseen hon hc hlow hfree hg hn => ?faulty, fun hseen hon hclear hn => ?few,
      fun hseen hon hhigh hg hk => ?good, fun hseen hoff hown hhigh hn => ?high, fun hshared hclear => ?shared,
      fun hen ho hc hfree hsince => ?recovered, fun hclear => ?clear, fun hlim => ?limited, ?ao, ?di, ?mem⟩
    case faulty =>
      obtain ⟨hen, hb, hp, hg3⟩ := hseen
      refine (Do.sampled_swFault _ _ _ hen (Do.blanked_eq_false hb hp hg3) hon).trans ?_
      rw [hlow, hfree, show fdState c (ch / 8) = 0 from hg]
      exact Do.judgedOn_sets hc hn
    case few =>
      obtain ⟨hen, hb, hp, hg3⟩ := hseen
      exact (Do.sampled_swFault _ _ _ hen (Do.blanked_eq_false hb hp hg3) hon).trans (Do.judgedOn_of_few _ _ hclear hn)
    case good =>
      obtain ⟨hen, hb, hp, hg3⟩ := hseen
      refine (Do.sampled_swFault _ _ _ hen (Do.blanked_eq_false hb hp hg3) hon).trans ?_
      rw [hhigh]
      exact Do.judgedOn_clears _ hg hk
    case high =>
      obtain ⟨hen, hb, hp, hg3⟩ := hseen
      refine (Do.sampled_extHigh _ _ _ hen (Do.blanked_eq_false hb hp hg3) hoff).trans ?_
      rw [hhigh, hown]
      exact Do.judgedOff_sets hn
    case shared => exact Do.sampled_extHigh_shared _ _ _ hshared hclear
    case recovered =>
      obtain ⟨t, ht, hlate⟩ := hsince
      refine hovl.trans ?_
      rw [if_pos hen, hfree]
      exact Do.timed_ovl_clears hc ht hlate
    case clear =>
      refine hovl.trans ?_
      split
      · exact Do.timed_ovl_of_clear _ hclear
      · exact hclear
    case limited =>
      refine hovl.trans ?_
      rw [hlim, Do.timed_ovl_limited, ite_self]
    case ao => exact evDoReadbackSample_keeps (g := fun c => c.io.ao) (fun _ => rfl) (fun _ _ _ => rfl) dt rb lim ma s.chip
    case di => exact evDoReadbackSample_keeps (g := fun c => c.io.di) (fun _ => rfl) (fun _ _ _ => rfl) dt rb lim ma s.chip
    case mem => exact evDoReadbackSample_keeps (g := fun c => c.mem) (fun _ => rfl) (fun _ _ _ => rfl) dt rb lim ma s.chip
  case overload =>
    intro c hen hc
    refine does_of_lift (f := evDoOverload dt ch) rfl ?_
    obtain ⟨hclosed, hovl, hlatched, hcmd⟩ := dov_evDoOverload hen hc
    refine ⟨hclosed, hovl, hlatched, hcmd, ?_, fun u hu => ?_⟩
    · exact evDoOverload_keeps (g := fun c => c.mem) (fun _ => rfl) (fun _ _ => rfl) dt s.chip
    · exact evDoOverload_keeps (g := fun c => (dov c u).closed) (fun c => by rw [dov_core]) (fun f c => by rw [dov_updDo_ne f c hu]) dt
        s.chip
  case retry =>
    exact takes_of_lift (fun _ => rfl) fun _ ⟨hen, ho, hcmd, hc, hl, hfd⟩ => evDoOverloadRetry_closes hen ho hcmd hc hl hfd
  case pulse =>
    exact takes_of_lift (fun _ => rfl) fun _ ⟨htest, hen, hcmd, hc, hfd, hp, hturn⟩ => evOffPulseStart_opens htest hen hcmd hc hfd hp hturn
  case pulseEnd =>
    intro c hp
    refine does_of_lift (f := evOffPulseEnd dt ch rb) rfl ?_
    obtain ⟨l, h⟩ := Do.eq_of_anon (evOffPulseEnd_keeps (g := fun c => (dov c ch).anon) (anon_core ch) rb hp)
    rw [dov_updDo_self] at h
    rw [h]
    refine ⟨rfl, rfl, fun hfd => if_pos (decide_eq_true hfd), fun hfd => if_neg ?_, ?_, fun u hu => ⟨?_, ?_⟩⟩
    · rw [decide_eq_false hfd.not_gt]
      decide
    · exact evOffPulseEnd_keeps (g := fun c => c.mem) (fun _ => rfl) rb hp
    · rw [evOffPulseEnd_keeps (g := fun c => (dov c u).closed) (fun c => by rw [dov_core]) rb hp, dov_updDo_ne _ _ hu]
    · rw [evOffPulseEnd_keeps (g := fun c => (dov c u).stuck) (fun c => by rw [dov_core]) rb hp, dov_updDo_ne _ _ hu]
  case window =>
    intro c d hen hsig hc hon hl hhi
    refine does_of_lift (f := evDoLoadWindow dt ch ma) rfl ?_
    obtain ⟨l, h⟩ := Do.eq_of_anon (evDoLoadWindow_keeps (g := fun c => (dov c ch).anon) (anon_core ch) ma hen hsig hc hon hl hhi)
    rw [dov_updDo_self] at h
    rw [h]
    refine ⟨fun hagrees => Do.windowed_agrees hagrees, fun hdiffers hthird => ?third, fun hdiffers hfew => ?few, hc, rfl, rfl, rfl⟩
    case third =>
      obtain ⟨hdev, hcnt⟩ := Do.windowed_differs hdiffers
      exact ⟨hdev.trans (if_pos hthird), hcnt.trans (if_pos hthird)⟩
    case few =>
      obtain ⟨hdev, hcnt⟩ := Do.windowed_differs hdiffers
      exact ⟨hdev.trans (if_neg hfew.not_ge), hcnt.trans (if_neg hfew.not_ge)⟩
  case early => exact goes_of_lift (f := evDoWatchdogExpired dt g) rfl (evDoWatchdogExpired_early hearly)
  case late =>
    refine does_of_lift (f := evDoWatchdogExpired dt g) rfl ?_
    rw [evDoWatchdogExpired_late hlate hfd]
    refine ⟨fun ch _ hch hen hwd => doWdSafe_wentSafe hch hen hwd, fun ch hch => ?_, ?_, ?_⟩
    · obtain ⟨l, h⟩ := Do.eq_of_anon (doWdSafe_ne hch (pass dt s.chip))
      rw [h]
      exact ⟨rfl, rfl⟩
    · exact doWdSafe_keeps (g := fun c => c.io.ao) (fun _ => rfl) (fun _ _ _ => rfl) g _
    · exact doWdSafe_keeps (g := fun c => c.mem) (fun _ => rfl) (fun _ _ _ => rfl) g _

end Sys2Proof.Machine
end

section
/-! The logic supply (R478): what the loss and the return of one of its two inputs leave. -/
namespace Sys2Proof.Machine

open Sys2Proof Sys2Proof.Safety

/-- A logic input holds. -/
def Health.holds (h : Health) : Port → Bool
  | .a => h.laOk
  | .b => h.lbOk

/-- A logic input is found to hold or not, at a voltage. -/
def Health.logicInput (h : Health) (ok : Bool) (mv : Nat) : Port → Health
  | .a => { h with laOk := ok, vlA := Nat.min mv 65535 }
  | .b => { h with lbOk := ok, vlB := Nat.min mv 65535 }

section
variable {dt mv : Nat} (p : Port) {c : Chip}

theorem evLogicInputLost_records (ha : (pass dt c).hlth.laOk = true) (hb : (pass dt c).hlth.lbOk = true) (hmv : mv < 18000)
    (hpf : (pass dt c).sup.powerFail = none) : evLogicInputLost dt p mv c
      = bump 0x1DE (record 0x0E41 0 [] { pass dt c with hlth := (pass dt c).hlth.logicInput false mv p }) := by
  unfold evLogicInputLost
  generalize pass dt c = c at *
  rw [if_neg (by simp [ha, hb, hpf, hmv])]
  cases p <;> rfl

theorem evLogicInputRestored_records (hlost : (pass dt c).hlth.holds p = false) (hmv : 18000 ≤ mv) (hoff : (pass dt c).sup.mstate ≠ .off) :
    evLogicInputRestored dt p mv c
      = bump 0x1DE (record 0x0E42 0 [] { pass dt c with hlth := (pass dt c).hlth.logicInput true mv p }) := by
  unfold evLogicInputRestored
  generalize pass dt c = c at *
  cases p <;> rw [Health.holds] at hlost <;> exact if_neg (by simpa [hlost, hoff] using hmv)

end

/-- Settles O31: the loss is recorded while both inputs hold, the return while the input is lost, for either input alike. -/
theorem logicInputLossAndReturn : Obligations.LogicInputLossAndReturn := by
  unfold Obligations.LogicInputLossAndReturn
  have lost : ∀ dt (p : Port) mv, Takes (.logicInputLost dt p mv) dt
      (fun c => c.hlth.laOk = true ∧ c.hlth.lbOk = true ∧ mv < 18000 ∧ c.sup.powerFail = none)
      (fun c => bump 0x1DE (record 0x0E41 0 [] { c with hlth := c.hlth.logicInput false mv p })) := fun dt p mv =>
    takes_of_lift (fun _ => rfl) fun _ ⟨ha, hb, hmv, hpf⟩ => evLogicInputLost_records p ha hb hmv hpf
  have restored : ∀ dt (p : Port) mv, Takes (.logicInputRestored dt p mv) dt
      (fun c => c.hlth.holds p = false ∧ 18000 ≤ mv ∧ c.sup.mstate ≠ .off)
      (fun c => bump 0x1DE (record 0x0E42 0 [] { c with hlth := c.hlth.logicInput true mv p })) := fun dt p mv =>
    takes_of_lift (fun _ => rfl) fun _ ⟨hlost, hmv, hoff⟩ => evLogicInputRestored_records p hlost hmv hoff
  exact ⟨fun dt => lost dt .a, fun dt => lost dt .b, fun dt => restored dt .a, fun dt => restored dt .b⟩

end Sys2Proof.Machine
end

section
/-! A step is the front command on the queue's rest; a command leaves the queue and, but for BOUNDARY, the latched block. -/
namespace Sys2Proof.Machine

open Sys2Proof Sys2Proof.Safety

/-- The outcome is no refusal, and a next state keeps the queue of `s` and, where `keep` holds, its latched block. -/
def GoesOn (keep : Prop) (s : State) (o : Host.Outcome State Fault Refusal) : Prop :=
  (∀ t, o = .next t → t.pending = s.pending ∧ (keep → t.snap = s.snap)) ∧ ∀ r, o ≠ .refused r

theorem goesOn_lift (keep : Prop) (f : Chip → Chip) (s : State) : GoesOn keep s (lift f s) :=
  ⟨fun _ h => by injection h with h; subst h; exact ⟨rfl, fun _ => rfl⟩, fun _ => nofun⟩

theorem goesOn_boundary (dt : Nat) (busy : List (Nat × Nat)) (s : State) :
    GoesOn (∀ dt' ds, Instr.boundary dt busy ≠ .boundary dt' ds) s (exec (.boundary dt busy) s) :=
  ⟨fun _ h => by injection h with h; subst h; exact ⟨rfl, fun hb => absurd rfl (hb dt busy)⟩, fun _ => nofun⟩

theorem goesOn_runBlock (keep : Prop) (sg : Sig) (body : Body) (b : Blk) (s : State) : GoesOn keep s (runBlock sg body b s) := by
  cases h : sg.good b with
  | true => rw [runBlock_good sg body b s h]; exact goesOn_lift keep _ s
  | false => rw [runBlock_bad sg body b s h]; exact ⟨fun _ => nofun, fun _ => nofun⟩

/-- Every row but BOUNDARY and the block rows is the lift of a change of the block. -/
theorem lift_of_block_none {i : Instr} (hblock : i.block = none) (hb : ∀ dt ds, i ≠ .boundary dt ds) (s : State) :
    ∃ f, exec i s = lift f s := by
  cases i <;> cases hblock
  case boundary dt ds => exact absurd rfl (hb dt ds)
  all_goals exact ⟨_, rfl⟩

/-- Every command goes on or faults, with the queue as it finds it. -/
theorem exec_goesOn (i : Instr) (s : State) : GoesOn (∀ dt ds, i ≠ .boundary dt ds) s (exec i s) := by
  by_cases hb : ∀ dt ds, i ≠ .boundary dt ds
  case neg =>
    push Not at hb
    obtain ⟨dt, busy, rfl⟩ := hb
    exact goesOn_boundary dt busy s
  case pos =>
    cases hblock : i.block with
    | none =>
      obtain ⟨f, h⟩ := lift_of_block_none hblock hb s
      rw [h]
      exact goesOn_lift _ f s
    | some x =>
      obtain ⟨body, h, -⟩ := block_row (sg := x.1) (b := x.2) hblock
      rw [h]
      exact goesOn_runBlock _ _ body _ s

/-- Settles O58: by the cases of a row, BOUNDARY, a block row, or the lift of a change of the block. -/
theorem stepRunsTheFrontCommand : Obligations.StepRunsTheFrontCommand :=
  ⟨fun _ _ _ => rfl, fun s h => by rw [step, h], fun i s => (exec_goesOn i s).1, fun i s => (exec_goesOn i s).2⟩

end Sys2Proof.Machine
end

section
/-! A flush that runs when the module leaves RUN runs to its end (R74, R514), also where the module leaves RUN for its temperature or for a
tie-break test that it fails. -/
namespace Sys2Proof.Machine

open Sys2Proof Sys2Proof.Safety

/-- A module in RUN whose job of task 1, of class C, has ended, with a write of byte 1 to global memory address 0 in its journal. -/
def flushing : Chip :=
  { sup := { mstate := .run }, tt := { tn := 10, ticking := true }, sets := { main := { words := [(0x2101 * 256 + 1, 2)] } }
    tasks := [(1, { st := .running, job := some { done := true, journal := [(false, 0, [1])] } })] }

/-- The flushing module, T_DIE at 125 °C since the instant 0. -/
def flushingHot : State := { chip := { flushing with hlth := { critAt := some 0 }, time := { clock := 10 ^ 9 } } }

/-- The flushing module as PAIR_A in DISAGREE. -/
def flushingMember : State := { chip := { flushing with sup := { mstate := .run, role := .pairA }, pair := { st := .paired, disagree := true } } }

theorem flushingHot_flushes : Mem.rd (evThermalSample 0 125 0 0 flushingHot.chip).mem.glb 0 = 1 := by decide +kernel

theorem flushingMember_flushes : Mem.rd (evTiebreakSelftestDone 0 false false flushingMember.chip).mem.glb 0 = 1 := by decide +kernel

/-- A row that has written global memory does not leave it blank. -/
theorem glb_ne_nil_of_rd {i : Instr} {f : Chip → Chip} {s : State} {c : Chip} (hrow : exec i s = lift f s)
    (hw : Mem.rd (f s.chip).mem.glb 0 = 1) (h : Goes i s c) : c.mem.glb ≠ [] := fun hglb => by
  rw [← goes_lift_eq hrow h, hglb] at hw
  exact absurd hw (by decide)

/-- Refutes O33: it leaves global memory as it was, but the trip at stage 4 lets the flush of an ended job run to its end (R74, R514). -/
theorem not_thermalStages : ¬ Obligations.ThermalStages := by
  intro h
  obtain ⟨c, hgoes, -, -, -, -, -, -, -, -, -, -, -, -, -, -, hglb, -⟩ := h 0 125 0 0 flushingHot (by decide) (by decide)
  exact glb_ne_nil_of_rd (f := evThermalSample 0 125 0 0) rfl flushingHot_flushes hgoes (hglb.trans (by rw [pass_mem]; rfl))

/-- Refutes O47: its clause of a failed tie-break test leaves global memory as it was, but FAULT lets the flush of an ended job run to its
end (R74, R514). -/
theorem not_pairRows : ¬ Obligations.PairRows := by
  intro h
  obtain ⟨-, -, -, -, -, -, -, htest, -⟩ := h
  obtain ⟨⟨c, hgoes, -, hglb, -⟩, -⟩ := htest 0 false flushingMember (by decide) rfl rfl
  exact glb_ne_nil_of_rd (f := evTiebreakSelftestDone 0 false false) rfl flushingMember_flushes hgoes hglb

end Sys2Proof.Machine
end

section
/-! How a command is refused (R411 to R413): the checks that a command without a payload makes, and the answer to the first that fails. -/
namespace Sys2Proof.Machine

open Sys2Proof Sys2Proof.Safety

/-- A command of an open session that comes to a refusal is refused. -/
theorem goes_refused {cmd : Nat} {run : Session → List Byte → Chip → Done} {i : Instr} {q : Req} {s : State} {p : Peer} {n : No}
    (hrow : exec i s = lift (serve cmd run q) s) (ho : (sess s.chip q.sess).st = .open) (hp : (sess s.chip q.sess).peer = some p)
    (hr : run (sess s.chip q.sess) q.payload (taken q p s) = .error n) : Goes i s (refuse cmd q.sess q.tag n (taken q p s)) := by
  have hs : sess (pass q.dt s.chip) q.sess = sess s.chip q.sess := by unfold sess; rw [pass_mbx]
  unfold taken at hr
  rw [Goes, hrow, lift_eq]
  unfold serve
  simp only [hs, ho, hp, hr]
  rfl

/-- A command that a session sends before it is confirmed, other than its confirmation, is refused with REASON 5. -/
theorem goes_opening {cmd : Nat} {run : Session → List Byte → Chip → Done} {i : Instr} {q : Req} {s : State} {p : Peer}
    (hrow : exec i s = lift (serve cmd run q) s) (ho : (sess s.chip q.sess).st = .opening) (hp : (sess s.chip q.sess).peer = some p)
    (hcmd : cmd ≠ 0x0102) : Goes i s (refuse cmd q.sess q.tag (.refused 5) (taken q p s)) := by
  have hs : sess (pass q.dt s.chip) q.sess = sess s.chip q.sess := by unfold sess; rw [pass_mbx]
  rw [Goes, hrow, lift_eq]
  unfold serve
  simp only [hs, ho, hp, hcmd, and_self, if_true, ne_eq, not_false_eq_true]
  rfl

/-! ### The checks of a command without a payload -/

/-- The command has no payload and needs a role; its checks are made in the order of R411. -/
def Checked (cmd need : Nat) (run : Session → List Byte → Chip → Done) : Prop :=
  ∃ rest : Session → List Byte → Chip → Done, ∀ ss p c, run ss p c = (do form p 0 []; role need ss; gate cmd c; rest ss p c)

section
variable {cmd need : Nat} {run : Session → List Byte → Chip → Done} (h : Checked cmd need run) {ss : Session} {p : List Byte} {c : Chip}
include h

theorem Checked.malformed (hp : p ≠ []) : run ss p c = .error (.malformed 1 8) := by
  obtain ⟨rest, h⟩ := h
  rw [h, form, if_pos (by simpa using hp)]
  rfl

theorem Checked.denied (hp : p = []) (hc : ss.ceil < need) : run ss p c = .error (.denied need 0x0104) := by
  obtain ⟨rest, h⟩ := h
  rw [h, form_nil hp, role, if_pos hc]
  rfl

theorem Checked.locked (hp : p = []) (hc : need ≤ ss.ceil) (hr : ss.role < need) : run ss p c = .error (.locked need) := by
  obtain ⟨rest, h⟩ := h
  rw [h, form_nil hp, role, if_neg (by omega), if_pos hr]
  rfl

theorem Checked.refused (hp : p = []) (hc : need ≤ ss.ceil) (hr : need ≤ ss.role) (hg : bit (cmdStates cmd) c.sup.mstate.code = false) :
    run ss p c = .error (.refused 0) := by
  obtain ⟨rest, h⟩ := h
  rw [h, form_nil hp, role, if_neg (by omega), if_neg (by omega), gate, check, hg]
  rfl

end

/-- `mk` is the row of a command without a payload, with its code and role (R427, R428). -/
def BareRow (cmd need : Nat) (mk : Req → Instr) : Prop :=
  (cmd, need, mk) ∈ [(0x0201, 0, Instr.stateGet), (0x0203, 1, Instr.stop), (0x0204, 3, Instr.serviceEnter), (0x0205, 3, Instr.serviceExit),
    (0x0206, 3, Instr.reset), (0x0305, 2, Instr.throwCancel), (0x0306, 2, Instr.sidingClear)]

/-- Each of these rows is served with those checks, and asks for no redundancy role. -/
theorem checked_of_bareRow {cmd need : Nat} {mk : Req → Instr} (h : BareRow cmd need mk) (q : Req) :
    cmdRoles cmd = 31 ∧ ∃ run, (∀ s, exec (mk q) s = lift (serve cmd run q) s) ∧ Checked cmd need run := by
  simp only [BareRow, List.mem_cons, List.not_mem_nil, or_false, Prod.mk.injEq] at h
  rcases h with ⟨rfl, rfl, rfl⟩ | ⟨rfl, rfl, rfl⟩ | ⟨rfl, rfl, rfl⟩ | ⟨rfl, rfl, rfl⟩ | ⟨rfl, rfl, rfl⟩ | ⟨rfl, rfl, rfl⟩ | ⟨rfl, rfl, rfl⟩ <;>
    exact ⟨rfl, _, fun _ => rfl, _, fun _ _ _ => rfl⟩

/-- Settles O51: the first check that fails decides the answer. -/
theorem commandRefusals : Obligations.CommandRefusals := by
  unfold Obligations.CommandRefusals
  refine ⟨fun i cmd q s hreq => ⟨fun hclosed => ?closed, fun p ho hp hcmd => ?opening⟩, fun cmd need mk q s p hrow ho hp => ?checks⟩
  case closed =>
    obtain ⟨run, hrow⟩ := request_exec i cmd q s hreq
    rw [Goes, hrow]
    exact serve_closed hclosed
  case opening =>
    obtain ⟨run, hrow⟩ := request_exec i cmd q s hreq
    exact goes_opening hrow ho hp hcmd
  case checks =>
    obtain ⟨hroles, run, hrow, hrun⟩ := checked_of_bareRow hrow q
    have refused : ∀ n, run (sess s.chip q.sess) q.payload (taken q p s) = .error n →
      Goes (mk q) s (refuse cmd q.sess q.tag n (taken q p s)) := fun n hr => goes_refused (hrow s) ho hp hr
    refine ⟨fun hpay => refused _ (hrun.malformed hpay), fun hpay hc => ?denied, fun hpay hc hr => ?locked, fun hpay hc hr hst => ?state⟩
    case denied =>
      have h := refused _ (hrun.denied hpay hc)
      simp only [refuse, sess_taken, hc, if_true] at h
      exact h
    case locked =>
      have h := refused _ (hrun.locked hpay hc hr)
      simp only [refuse, sess_taken, Nat.not_lt.2 hc, if_false, hp] at h
      exact h
    case state =>
      have h := refused _ (hrun.refused hpay hc hr (by rw [taken_sup]; exact hst))
      simp only [refuse, refusedPayload, hroles] at h
      exact h

end Sys2Proof.Machine
end

section
/-! What the display engine leaves of the rest of the block (R370 to R390): everything but the panels and what MRAM holds for them. -/
namespace Sys2Proof.Machine

open Sys2Proof Sys2Proof.Safety

/-- The block without the recorder and the sessions, the display engine and what MRAM holds for it. -/
def Chip.undisplayed (c : Chip) : Chip :=
  { c.core with
    disp := {}
    mem := { c.core.mem with ledgerMirror := [], dispJournalValid := false, dispSerial := [], dispTStop := 0, dispEntries := [] } }

/-- A change of the panels, of what MRAM holds for them, of the recorder and of the sessions alone. -/
def Draws (f : Chip → Chip) : Prop := ∀ c, (f c).undisplayed = c.undisplayed

theorem Draws.reads {β : Type} {g : Chip → β} (hg : ∀ c, g c.undisplayed = g c) {f : Chip → Chip} (hf : Draws f) (c : Chip) : g (f c) = g c := by
  rw [← hg, hf, hg]

theorem Keeps.draws {f : Chip → Chip} (hf : Keeps f) : Draws f := fun c => by rw [Chip.undisplayed, hf, Chip.undisplayed]

theorem Draws.comp {f g : Chip → Chip} (hf : Draws f) (hg : Draws g) : Draws (fun c => g (f c)) := fun c => by rw [hg, hf]

theorem Draws.when {f : Chip → Chip} (p : Bool) (hf : Draws f) : Draws (when p f) := fun c => when_keeps Chip.undisplayed p f c (hf c)

theorem Draws.forAll {α : Type} (l : List α) {f : α → Chip → Chip} (hf : ∀ a, Draws (f a)) : Draws (forAll l f) :=
  forAll_keeps Chip.undisplayed l f hf

theorem draws_record (code src : Nat) (ws : List Nat) : Draws (record code src ws) := (keeps_record code src ws).draws

theorem draws_bump (n : Nat) : Draws (bump n) := (keeps_bump n).draws

theorem draws_updPanel (p : Nat) (f : Panel → Panel) : Draws (updPanel p f) := fun _ => rfl

theorem draws_refreshPanels : Draws refreshPanels := Draws.forAll _ fun _ _ => rfl

theorem undisplayed_disp (d : Disp) (c : Chip) : Chip.undisplayed { c with disp := d } = c.undisplayed := rfl

theorem draws_endRegions : Draws endRegions := fun _ => rfl

theorem draws_ledgerAdd (p tile : Nat) (v : Int) : Draws (ledgerAdd p tile v) := fun c => by
  unfold ledgerAdd
  exact (draws_record _ _ _).when _ _

theorem draws_stopLines (p n : Nat) (charge : Bool) : Draws (stopLines p n charge) := fun c => by
  unfold stopLines
  dsimp only
  rw [(keeps_bumpBy _ _).draws, undisplayed_disp, draws_updPanel]
  refine Draws.when _ (f := forAll _ _) (Draws.forAll _ fun y c => Draws.forAll _ (fun tc c => ?_) c) c
  split
  · rfl
  · exact draws_ledgerAdd _ _ _ c

theorem draws_enqueue (r : Region) : Draws (enqueue r) := fun c => by
  unfold enqueue
  split <;> rfl

theorem draws_renderField (p no : Nat) (force : Bool) : Draws (renderField p no force) := fun c => by
  unfold renderField
  split
  · rfl
  · split
    · rfl
    · exact (draws_enqueue _).when _ _

theorem draws_renderAll (p : Nat) : Draws (renderAll p) := fun c => Draws.forAll _ (fun no => draws_renderField p no true) c

theorem draws_allUnknown (p : Nat) : Draws (allUnknown p) := fun _ => rfl

theorem draws_redrive (p : Nat) (rs : List Region) (ys : List Nat) : Draws (redrive p rs ys) := fun _ => rfl

theorem draws_advance (p : Nat) : Draws (advance p) := fun c => by
  unfold advance
  dsimp only
  rw [draws_updPanel]
  refine when_keeps Chip.undisplayed _ _ _ ?_
  rw [draws_bump]
  rfl

theorem draws_compFrame (p : Nat) : Draws (compFrame p) := fun c => by
  unfold compFrame
  dsimp only
  split
  · rfl
  · split
    · rw [draws_updPanel, draws_bump]
      exact Draws.forAll _ (fun t c => draws_ledgerAdd _ _ _ c) c
    · split
      · split <;> rfl
      · split
        · exact draws_bump _ c
        · exact draws_record _ _ _ _

theorem draws_startLine (p y : Nat) : Draws (startLine p y) := fun c => by
  unfold startLine
  split
  · rfl
  · dsimp only
    generalize (if ((panel c p).line y).journal = true then _ else _) = act
    split
    · rfl
    · rw [draws_bump, draws_updPanel]

theorem draws_startRegions (fuel : Nat) : Draws (startRegions fuel) := by
  induction fuel with
  | zero => exact fun _ => rfl
  | succ k ih =>
    intro c
    unfold startRegions
    split
    · rfl
    · split
      · rfl
      · exact ih _

theorem draws_frameStep : Draws frameStep := fun c => by
  unfold frameStep
  dsimp only
  rw [draws_startRegions, draws_endRegions]
  rw [when_keeps Chip.undisplayed _ _ _ (undisplayed_disp _ _)]
  have hstep : ∀ c, (forAll [0, 1] compFrame (forAll [0, 1] advance c)).undisplayed = c.undisplayed := fun c =>
    (Draws.forAll _ draws_compFrame _).trans (Draws.forAll _ draws_advance c)
  split
  · rw [Draws.forAll _ fun e : Nat × Nat => draws_startLine e.1 e.2]
    exact hstep c
  · exact hstep c

theorem draws_identify (i : PanelId) : Draws (identify i) := fun c => by
  unfold identify
  dsimp only
  split
  · exact draws_record _ _ _ _
  · refine (Draws.when _ (fun c => ?_) _).trans (draws_record _ _ _ _)
    exact draws_record _ _ _ _

theorem undisplayed_dispMem (d : Disp) (v : Bool) (sn : List Nat) (t : Nat) (es : List (Nat × Nat × Nat × Nat × Nat × Nat)) (c : Chip) :
    Chip.undisplayed { c with disp := d, mem := { c.mem with dispJournalValid := v, dispSerial := sn, dispTStop := t, dispEntries := es } } =
      c.undisplayed := rfl

theorem draws_displayPowerFail : Draws displayPowerFail := fun c => by
  unfold displayPowerFail
  split
  · rfl
  · dsimp only
    rw [draws_refreshPanels, undisplayed_dispMem]
    refine ((draws_record _ _ _).when _ _).trans ?_
    rw [Draws.forAll _ fun _ => draws_updPanel _ _, Draws.forAll _ fun _ => draws_updPanel _ _, Draws.forAll _ fun p => draws_stopLines p 1 true]

end Sys2Proof.Machine
end

section
/-! The power-fail sequence (R479, R480): what the warning stops, and what the end of the sequence leaves. -/
namespace Sys2Proof.Machine

open Sys2Proof Sys2Proof.Safety

/-! ### The jobs at the warning -/

/-- What the warning makes of a task: it has its job or none, and what is staged stays. -/
structure JobStops (k k' : Task) : Prop where
  job : k'.job = none ∨ k'.job = k.job
  staged : k'.staged = k.staged

theorem JobStops.refl (k : Task) : JobStops k k := ⟨.inr rfl, rfl⟩

theorem JobStops.trans {k l m : Task} (h : JobStops k l) (h' : JobStops l m) : JobStops k m := by
  refine ⟨?_, h'.staged.trans h.staged⟩
  rcases h'.job with hn | hs
  · exact .inl hn
  · exact h.job.imp hs.trans hs.trans

/-- One task at the warning: its job stops unless its last block has ended. -/
def stopJob (t : Nat) (c : Chip) : Chip :=
  match (task c t).job with
  | some j => if j.done then c else updTask t (fun k => { k with st := .halted, job := none }) c
  | none => c

theorem stopJobs_eq (c : Chip) : stopJobs c = forAll (usedTasks c) stopJob c := rfl

theorem stopJob_stops (t u : Nat) (c : Chip) : JobStops (task c u) (task (stopJob t c) u) := by
  unfold stopJob
  split
  · split
    · exact .refl _
    · by_cases hu : u = t
      · subst hu
        rw [updTask_self]
        exact ⟨.inl rfl, rfl⟩
      · rw [updTask_ne _ _ _ _ hu]
        exact .refl _
  · exact .refl _

/-- A job that is left has ended. -/
def JobEnded (t : Nat) (c : Chip) : Prop := ∀ j, (task c t).job = some j → j.done = true

theorem stopJob_ended (t : Nat) (c : Chip) : JobEnded t (stopJob t c) := by
  unfold stopJob
  split
  · rename_i j hj
    split
    · exact fun k hk => by rw [hj] at hk; injection hk with hk; rwa [← hk]
    · exact fun k hk => by rw [updTask_self] at hk; exact nomatch hk
  · rename_i hj
    exact fun k hk => by rw [hj] at hk; exact nomatch hk

theorem stopJobs_stops (u : Nat) (c : Chip) : JobStops (task c u) (task (stopJobs c) u) :=
  forAll_inv (P := fun c' => JobStops (task c u) (task c' u)) (fun t _ c' h => h.trans (stopJob_stops t u c')) (.refl _)

theorem stopJobs_ended {t : Nat} {c : Chip} (ht : t ∈ usedTasks c) : JobEnded t (stopJobs c) :=
  forAll_attains (stopJob_ended t) (fun u c h j hj => h j <| by
    rcases (stopJob_stops u t c).job with hn | hs
    · rw [hn] at hj
      exact nomatch hj
    · rwa [← hs]) ht c

theorem stopJobs_keeps {β : Type} {g : Chip → β} (htask : ∀ t f c, g (updTask t f c) = g c) (c : Chip) : g (stopJobs c) = g c :=
  forAll_keeps g _ stopJob (fun t c => by
    unfold stopJob
    split
    · split
      · rfl
      · exact htask _ _ _
    · rfl) c

/-! ### What the sequence does besides -/

section
variable {β : Type} {g : Chip → β} (hcore : ∀ c, g c.core = g c)
include hcore

theorem cancelSage_keeps (hslots : ∀ m c, g { c with slots := m } = g c) (c : Chip) : g (cancelSage c) = g c :=
  forAll_keeps g _ _ (fun _ c => ((keeps_sageDone _ _ _ _).reads hcore _).trans (hslots _ c)) c

theorem safeCommit_keeps (hao : ∀ ch f c, g (updAo ch f c) = g c) (hdo : ∀ ch f c, g (updDo ch f c) = g c) (c : Chip) :
    g (safeCommit c) = g c := by
  unfold safeCommit
  rw [forAll_keeps g _ _ fun ch c => pushDo_keeps hcore (hdo ch) _ c]
  exact forAll_keeps g _ _ (fun ch c => hao ch _ c) c

end

theorem keeps_tripFrames : Keeps tripFrames := fun c => by
  unfold tripFrames
  split
  · rfl
  · exact Keeps.forAll _ (fun _ c => (keeps_bump _ _).trans ((keeps_netSend _ _).trans (keeps_emit _ _))) c

theorem named_dropThrow (c : Chip) : (dropThrow c).sets.named = false := by
  unfold dropThrow
  split
  · rfl
  · rename_i h
    simpa using h

theorem attempt_dropThrow (c : Chip) : (dropThrow c).sets.attempt = (c.sets.attempt && !c.sets.named) := by
  unfold dropThrow
  split <;> rename_i h <;> simp [h, unnameThrow]

/-! ### The warning -/

/-- The record of the warning, before anything stops. -/
def warned (c : Chip) : Chip :=
  bump 0x1DB (recordF 48 0x0E40 0 [] c.time.clock 0 true { c with sup := { c.sup with powerFail := some c.time.clock } })

/-- The announcement, the saved instances and the display, after jobs, Sage and the throw have stopped. -/
def warnedRest (c : Chip) : Chip :=
  let c := when (isPair c) (emit (.announce false)) c
  displayPowerFail (when (inRun c) saveInsts c)

theorem evPowerFailWarning_eq {dt : Nat} {c : Chip} (hon : c.sup.mstate ≠ .off) (hpf : c.sup.powerFail = none) :
    evPowerFailWarning dt c = warnedRest (dropThrow (cancelSage (stopJobs (warned (pass dt c))))) := by
  unfold evPowerFailWarning
  rw [if_neg (by simp [hon, hpf])]
  rfl

theorem warned_reads {β : Type} {g : Chip → β} (hcore : ∀ c, g c.core = g c) (c : Chip) :
    g (warned c) = g { c with sup := { c.sup with powerFail := some c.time.clock } } := by
  unfold warned
  rw [(keeps_bump _).reads hcore, (keeps_recordF _ _ _ _ _ _ _).reads hcore]

theorem warnedRest_reads {β : Type} {g : Chip → β} (hd : ∀ c, g c.undisplayed = g c) (hsave : ∀ c, g (saveInsts c) = g c) (c : Chip) :
    g (warnedRest c) = g c := by
  unfold warnedRest
  dsimp only
  rw [draws_displayPowerFail.reads hd, when_keeps g _ _ _ (hsave _), ((keeps_emit _).draws.when _).reads hd]

/-- What the sequence of the warning leaves of the module's state, the main set and memory. -/
def Chip.warnKept (c : Chip) : Option Nat × MState × ConfigSet × Mem × Mem :=
  (c.sup.powerFail, c.sup.mstate, c.sets.main, c.mem.glb, c.mem.ret)

theorem warnKept_dropThrow (c : Chip) : (dropThrow c).warnKept = c.warnKept := by
  unfold dropThrow
  split <;> rfl

theorem tasks_dropThrow (c : Chip) : (dropThrow c).tasks = c.tasks := by
  unfold dropThrow
  split <;> rfl

theorem warnKept_evPowerFailWarning {dt : Nat} {c : Chip} (hon : c.sup.mstate ≠ .off) (hpf : c.sup.powerFail = none) :
    (evPowerFailWarning dt c).warnKept = (some (pass dt c).time.clock, c.sup.mstate, c.sets.main, c.mem.glb, c.mem.ret) := by
  rw [evPowerFailWarning_eq hon hpf, warnedRest_reads (g := Chip.warnKept) (fun _ => rfl) (fun _ => rfl), warnKept_dropThrow,
    cancelSage_keeps (g := Chip.warnKept) (fun _ => rfl) (fun _ _ => rfl), stopJobs_keeps (g := Chip.warnKept) (fun _ _ _ => rfl),
    warned_reads (g := Chip.warnKept) (fun _ => rfl)]
  simp [Chip.warnKept]

/-- No task has more than its job when the jobs stop. -/
theorem tasks_evPowerFailWarning {dt : Nat} {c : Chip} (hon : c.sup.mstate ≠ .off) (hpf : c.sup.powerFail = none) :
    (evPowerFailWarning dt c).tasks = (stopJobs (warned (pass dt c))).tasks := by
  rw [evPowerFailWarning_eq hon hpf, warnedRest_reads (g := Chip.tasks) (fun _ => rfl) (fun _ => rfl), tasks_dropThrow,
    cancelSage_keeps (g := Chip.tasks) (fun _ => rfl) (fun _ _ => rfl)]

theorem tasks_warned (dt : Nat) (c : Chip) : (warned (pass dt c)).tasks = c.tasks := by
  rw [warned_reads (g := Chip.tasks) (fun _ => rfl)]
  simp

theorem usedTasks_warned (dt : Nat) (c : Chip) : usedTasks (warned (pass dt c)) = usedTasks c := by
  rw [warned_reads (g := usedTasks) (fun _ => rfl)]
  unfold usedTasks taskCls cfg
  dsimp only
  rw [pass_sets]

theorem sets_evPowerFailWarning {dt : Nat} {c : Chip} (hon : c.sup.mstate ≠ .off) (hpf : c.sup.powerFail = none) :
    (evPowerFailWarning dt c).sets.named = false ∧ (evPowerFailWarning dt c).sets.attempt = (c.sets.attempt && !c.sets.named) := by
  have hsets : ∀ {β : Type} (g : Sets → β), (∀ s, g { s with origin := none } = g s) →
      g (cancelSage (stopJobs (warned (pass dt c)))).sets = g c.sets := fun g hg => by
    rw [cancelSage_keeps (g := fun c => g c.sets) (fun _ => hg _) (fun _ _ => rfl), stopJobs_keeps (g := fun c => g c.sets) (fun _ _ _ => rfl),
      warned_reads (g := fun c => g c.sets) (fun _ => hg _), pass_sets]
  rw [evPowerFailWarning_eq hon hpf, warnedRest_reads (g := fun c => c.sets.named) (fun _ => rfl) (fun _ => rfl),
    warnedRest_reads (g := fun c => c.sets.attempt) (fun _ => rfl) (fun _ => rfl), attempt_dropThrow,
    hsets (fun s => s.attempt) (fun _ => rfl), hsets (fun s => s.named) (fun _ => rfl)]
  exact ⟨named_dropThrow _, rfl⟩

/-! ### The end of the sequence -/

/-- What the end of the sequence leaves: memory, the time engine and the live parameters (log entry 46). -/
def Chip.lasting (c : Chip) : Memories × TimeEng × Map Nat := (c.mem, c.time, c.sets.live)

theorem lasting_saveAtFail (c : Chip) : (saveAtFail c).lasting =
    ({ c.mem with savedClock := c.time.clock, savedFreq := c.time.learned, savedTcxo := some c.time.tcxo }, c.time, c.sets.live) := by
  unfold saveAtFail
  dsimp only
  refine (forAll_keeps Chip.lasting _ _ (fun e c => ?_) _).trans rfl
  exact (keeps_recordF _ _ _ _ _ _ _).reads (g := Chip.lasting) (fun _ => rfl) _

theorem mem_powerDown_saveAtFail (c : Chip) : (powerDown (saveAtFail c)).mem =
    { c.mem with glb := [], savedClock := c.time.clock, savedFreq := c.time.learned, savedTcxo := some c.time.tcxo } := by
  have h := lasting_saveAtFail c
  simp only [Chip.lasting, Prod.mk.injEq] at h
  exact congrArg (fun m : Memories => { m with glb := [] }) h.1

theorem clock_powerDown_saveAtFail (c : Chip) : (powerDown (saveAtFail c)).time.clock = c.time.clock :=
  congrArg (fun l => l.2.1.clock) (lasting_saveAtFail c)

theorem live_powerDown_saveAtFail (c : Chip) : (powerDown (saveAtFail c)).sets.live = c.sets.live :=
  congrArg (fun l => l.2.2) (lasting_saveAtFail c)

/-- Everything before the save: `w` after the warning at `t` the safe values and the trip frame go out, and `k` later the state is saved. -/
def failCommitted (w k t : Nat) (c : Chip) : Chip :=
  let c := pass (t + w - c.time.clock) c
  let c := forAll (usedTasks c) (fun t => updTask t (fun k => { k with st := .halted, job := none, staged := [] })) c
  let c := safeCommit { c with sup := { c.sup with loopVals := [] } }
  let c := when (c.sup.role == .solo) tripFrames c
  pass k { c with sup := { c.sup with refreshOff := true } }

theorem evPowerFailSafeCommit_eq {dt t : Nat} {c : Chip} (hpf : c.sup.powerFail = some t) :
    evPowerFailSafeCommit dt c = powerDown (saveAtFail (failCommitted 10000000 2500000 t (pass dt c))) := by
  unfold evPowerFailSafeCommit
  dsimp only
  rw [pass_sup, hpf]
  rfl

theorem lasting_pass (dt : Nat) (c : Chip) : (pass dt c).lasting = (c.mem, { c.time with clock := c.time.clock + dt }, c.sets.live) := by
  rw [Chip.lasting, pass_mem, pass_time, pass_sets]

theorem lasting_failCommitted (w k t : Nat) (c : Chip) :
    (failCommitted w k t c).lasting = (c.mem, { c.time with clock := Nat.max c.time.clock (t + w) + k }, c.sets.live) := by
  have hearly : ∀ d : Chip, d.lasting = (pass (t + w - c.time.clock) c).lasting →
      (pass k d).lasting = (c.mem, { c.time with clock := Nat.max c.time.clock (t + w) + k }, c.sets.live) := fun d hd => by
    rw [lasting_pass] at hd
    simp only [Chip.lasting, Prod.mk.injEq] at hd
    obtain ⟨hmem, htime, hlive⟩ := hd
    have hmax : max c.time.clock (t + w) = c.time.clock + (t + w - c.time.clock) := by omega
    rw [lasting_pass, hmem, htime, hlive, ← hmax]
  refine hearly _ ?_
  refine ((keeps_tripFrames.when _).reads (g := Chip.lasting) (fun _ => rfl) _).trans ?_
  rw [safeCommit_keeps (g := Chip.lasting) (fun _ => rfl) (fun _ _ _ => rfl) (fun _ _ _ => rfl)]
  exact forAll_keeps Chip.lasting _ _ (fun t c => (rfl : (updTask t _ c).lasting = c.lasting)) _

/-- Settles O34: jobs, Sage and the throw stop at the warning, which touches no memory a program sees; the end of the sequence saves the
time and loses what the domains held. -/
theorem powerFailSequence : Obligations.PowerFailSequence := by
  unfold Obligations.PowerFailSequence
  refine ⟨fun dt s hon hpf => ?warning, fun dt s hpf => ?unwarned, fun dt s t hpf => ?commit⟩
  case warning =>
    refine does_of_lift (f := evPowerFailWarning dt) rfl ?_
    have hkept := warnKept_evPowerFailWarning (dt := dt) hon hpf
    simp only [Chip.warnKept, Prod.mk.injEq] at hkept
    obtain ⟨hfail, hstate, hmain, hglb, hret⟩ := hkept
    obtain ⟨hnamed, hattempt⟩ := sets_evPowerFailWarning (dt := dt) hon hpf
    have htask : ∀ t, task (evPowerFailWarning dt s.chip) t = task (stopJobs (warned (pass dt s.chip))) t := fun t => by
      rw [task, task, tasks_evPowerFailWarning hon hpf]
    have hstops : ∀ t, JobStops (task s.chip t) (task (evPowerFailWarning dt s.chip) t) := fun t => by
      have h := stopJobs_stops t (warned (pass dt s.chip))
      rwa [← htask, task, tasks_warned] at h
    refine ⟨hfail, hstate, fun t ht j hj => ⟨?_, ?_⟩, fun t => (hstops t).staged, hnamed, hattempt, hmain, hglb, hret⟩
    · rw [← usedTasks_warned dt] at ht
      exact stopJobs_ended ht j (by rw [← htask, hj])
    · rcases (hstops t).job with hn | hs
      · rw [hn] at hj
        exact nomatch hj
      · rw [← hs, hj]
  case unwarned =>
    refine goes_of_lift (f := evPowerFailSafeCommit dt) rfl ?_
    unfold evPowerFailSafeCommit
    dsimp only
    rw [pass_sup, hpf]
  case commit =>
    refine does_of_lift (f := evPowerFailSafeCommit dt) rfl ?_
    rw [evPowerFailSafeCommit_eq hpf]
    have hlast := lasting_failCommitted 10000000 2500000 t (pass dt s.chip)
    simp only [Chip.lasting, Prod.mk.injEq, pass_mem, pass_sets] at hlast
    obtain ⟨hmem, htime, hlive⟩ := hlast
    rw [mem_powerDown_saveAtFail, clock_powerDown_saveAtFail, live_powerDown_saveAtFail, hmem, htime, hlive, pass_time]
    exact ⟨rfl, rfl, rfl, rfl, rfl, rfl, rfl, rfl, rfl, rfl, rfl, rfl, rfl, rfl⟩

end Sys2Proof.Machine
end

section
/-! The station network (R300, R306 to R315, R341): the frames of a tick, which replies enter an exchange, and how an exchange is judged. -/
namespace Sys2Proof.Machine

open Sys2Proof Sys2Proof.Safety

/-! ### A station after a change of one -/

@[simp] theorem station_updStation_self (st : Nat) (f : Station → Station) (c : Chip) : station (updStation st f c) st = f (station c st) := by
  simp [station, updStation]

theorem station_updStation_ne {st u : Nat} (f : Station → Station) (c : Chip) (h : u ≠ st) : station (updStation st f c) u = station c u := by
  simp [station, updStation, Map.getD_upd_ne _ _ _ _ _ _ h]

theorem station_bump (n : Nat) (c : Chip) : station (bump n c) = station c := by
  funext st
  rw [station, bump_net, station]

theorem Keeps.station {f : Chip → Chip} (hf : Keeps f) (c : Chip) : station (f c) = station c := hf.reads (g := Machine.station) (fun _ => rfl) c

/-! ### OUT frames -/

/-- The OUT frame of a station. -/
def outOf (c : Chip) (st : Nat) : Out :=
  .zsl st c.tt.tn (b01 (c.sup.mstate == .trip) + 2 * zslRole c) (cfg c (0x5100 + st) 5 31 0) (outBlock c st (!inRun c))
    (outDigest (outBlock c st (!inRun c)))

theorem out_outFrame (st : Nat) (c : Chip) : (outFrame st c).out = outOf c st :: c.out := by
  unfold outFrame
  rw [bump_out, netSend_out]
  rfl

/-- What a station's own values and counters leave, its OUT frame leaves. -/
theorem outFrame_keeps {β : Type} {g : Chip → β} {st : Nat} (hcore : ∀ c, g c.core = g c) (hst : ∀ x c, g (updStation st (fun y => { y with outDig := x }) c) = g c)
    (c : Chip) : g (outFrame st c) = g c := by
  unfold outFrame
  rw [(keeps_bump _).reads hcore, (keeps_netSend _).reads hcore]
  exact (hst _ _).trans ((keeps_emit _).reads hcore c)

theorem outOf_outFrame (st : Nat) (c : Chip) : outOf (outFrame st c) = outOf c := outFrame_keeps (g := outOf) (fun _ => rfl) (fun _ _ => rfl) c

theorem out_outFrames (l : List Nat) (c : Chip) : (forAll l outFrame c).out = (l.map (outOf c)).reverse ++ c.out := by
  induction l generalizing c with
  | nil => rfl
  | cons st r ih => rw [forAll_cons, ih, outOf_outFrame, out_outFrame, List.map_cons, List.reverse_cons, List.append_assoc]; rfl

/-- A station's values on the wire side that its OUT frame leaves. -/
theorem station_outFrames (l : List Nat) (u : Nat) (c : Chip) :
    ((station (forAll l outFrame c) u).st, (station (forAll l outFrame c) u).last) = ((station c u).st, (station c u).last) := by
  refine forAll_keeps (fun c => ((station c u).st, (station c u).last)) l outFrame (fun st c => ?_) c
  refine outFrame_keeps (g := fun c => ((station c u).st, (station c u).last)) (fun _ => rfl) (fun x c => ?_) c
  by_cases h : u = st
  · subst h
    rw [station_updStation_self]
  · rw [station_updStation_ne _ _ h]

theorem outFrames_keeps {β : Type} {g : Chip → β} (hcore : ∀ c, g c.core = g c) (hst : ∀ st f c, g (updStation st f c) = g c) (l : List Nat)
    (c : Chip) : g (forAll l outFrame c) = g c :=
  forAll_keeps g l outFrame (fun st c => outFrame_keeps hcore (fun _ c => hst st _ c) c) c

/-- The OUT frames of the tick, once the block waited for their instant. -/
theorem evZslOutTransmit_sends {dt : Nat} {c : Chip} (h : sendsOut (pass dt c) = true) :
    evZslOutTransmit dt c = updNet (fun n => { n with outTn := some (pass dt c).tt.tn })
      (forAll (enabledStations (pass dt c).sets.main) outFrame
        (pass (bNs (pass dt c) (pass dt c).tt.tn + cfg (pass dt c) 0x2000 2 31 0 * 1000 - (pass dt c).time.clock) (pass dt c))) := by
  unfold evZslOutTransmit
  generalize pass dt c = c at *
  rw [if_neg (by simp [h])]
  simp only [pass_tt, pass_sets]

theorem outOf_pass (dt : Nat) (c : Chip) : outOf (pass dt c) = outOf c := by
  have hreads : ∀ c : Chip, outOf c = outOf { c with time := {}, cnt := {} } := fun _ => rfl
  rw [hreads, hreads c]
  congr 1
  simp

theorem station_pass (dt : Nat) (c : Chip) : station (pass dt c) = station c := by
  funext st
  rw [station, pass_net, station]

theorem io_outFrame (st : Nat) (c : Chip) : (outFrame st c).io = c.io := by
  unfold outFrame
  rw [bump_io, netSend_io]
  rfl

/-! ### IN frames -/

/-- A frame whose number its source has already used is counted and goes no further. -/
theorem dedup_duplicate {p : Port} {src seq hi t : Nat} {win : List Nat} {c : Chip} (hsrc : Map.find c.net.sources src = some (hi, win, t))
    (hnear : (hi + 65536 - seq) % 65536 < 64) (hwin : seq ∈ win) : dedup p src seq c = (false, bump (0x194 + p.idx)
      (updNet (fun n => { n with sources := Map.put n.sources src (hi, win, c.time.clock), dups := (n.dups + 1) % 2 ^ 32 }) c)) := by
  have hdup : ∀ now, dupStep (hi, win, t) seq now = (true, (hi, win, now)) := fun now => by
    unfold dupStep
    dsimp only
    rw [if_pos hnear, if_pos (by simpa using hwin)]
  unfold dedup
  rw [hsrc]
  dsimp only
  rw [hdup]
  rfl

/-- The first frame of a source goes on. -/
theorem dedup_first {p : Port} {src seq : Nat} {c : Chip} (hsrc : Map.find c.net.sources src = none) (hroom : c.net.sources.length < 256) :
    dedup p src seq c = (true, updNet (fun n => { n with sources := Map.put n.sources src (seq, [seq], c.time.clock) }) c) := by
  unfold dedup
  rw [hsrc]
  exact if_neg hroom.not_ge

/-- What a port hears is all that changes before the discard. -/
theorem heard_eq (heard : Bool) (p : Port) (z : ZIn) (c : Chip) :
    ∃ a b, when heard (hearPort p z) c = updNet (fun n => { n with heardA := a, heardB := b }) c := by
  have hsame : c = updNet (fun n => { n with heardA := c.net.heardA, heardB := c.net.heardB }) c := rfl
  cases heard
  · exact ⟨_, _, hsame⟩
  · rw [when_true, hearPort]
    cases inHeader c z && inDigest z && z.tn == c.tt.tn && z.configId == cfg c (0x5100 + z.station) 5 31 0
    · exact ⟨_, _, hsame⟩
    · cases p <;> exact ⟨_, _, rfl⟩

/-- A frame taken enters the exchange of its station alone. -/
theorem takeIn_keeps {β : Type} {g : Chip → β} {z : ZIn} (hcore : ∀ c, g c.core = g c) (hst : ∀ f c, g (updStation z.station f c) = g c)
    (hecho : ∀ t c, g (updNet (fun n => { n with partnerEcho := t }) c) = g c) (c : Chip) : g (takeIn z c) = g c := by
  unfold takeIn
  dsimp only
  split
  · rfl
  · rw [((keeps_record _ _ _).when _).reads hcore, when_keeps g _ _ _ (hecho _ _), hst]

theorem station_takeIn (z : ZIn) {c : Chip} (h : (station c z.station).now = none) : station (takeIn z c) z.station =
    { station c z.station with now := some z, echoRole := bits z.flags 3 2, safe := bit z.flags 0, echoDig := z.echoDig, lastTn := z.tn } := by
  unfold takeIn
  dsimp only
  rw [if_neg (by simp [h]), ((keeps_record _ _ _).when _).station,
    when_keeps (fun c => station c z.station) _ _ _ (rfl : station (updNet _ _) z.station = _), station_updStation_self]

theorem checkConfig_keeps {β : Type} {g : Chip → β} {z : ZIn} (hcore : ∀ c, g c.core = g c)
    (hst : ∀ f c, g (updStation z.station f c) = g c) (c : Chip) : g (checkConfig z c) = g c := by
  unfold checkConfig
  dsimp only
  rw [((keeps_record _ _ _).when _).reads hcore, hst]

/-- The CONFIG_ID check changes the mismatch flag of the frame's station, and records it. -/
theorem station_checkConfig (z : ZIn) (c : Chip) (u : Nat) : ∃ b, station (checkConfig z c) u = { station c u with mismatch := b } := by
  unfold checkConfig
  dsimp only
  rw [((keeps_record _ _ _).when _).station]
  by_cases h : u = z.station
  · subst h
    exact ⟨_, station_updStation_self _ _ _⟩
  · exact ⟨_, station_updStation_ne _ _ h⟩

section
variable {z : ZIn} {c : Chip} (hhead : inHeader c z = true) (htn : z.tn = c.tt.tn) (hid : z.configId = cfg c (0x5100 + z.station) 5 31 0)
  (hpair : isPair c = false)
include hhead htn hid hpair

/-- Outside a pair, what a frame with a good header comes to. -/
theorem inFrame_eq : inFrame z c = (let d := checkConfig z c
    let late := decide (bNs c c.tt.tn + cfg c 0x2000 3 31 0 * 1000 < c.time.clock)
    let d := when late (fun d => bump 0x19D (record 0x0831 (0x0C00 + z.station) [] d)) d
    let d := when (!inDigest z) (record 0x0834 (0x0C00 + z.station) []) d
    when (!late && inDigest z) (takeIn z) d) := by
  have hreads : ∀ {β : Type} (g : Chip → β), (∀ c, g c.core = g c) → (∀ f c, g (updStation z.station f c) = g c) →
      g (checkConfig z c) = g c := fun g hcore hst => checkConfig_keeps hcore hst c
  unfold inFrame cutNs
  rw [if_neg (by simp [hhead, htn])]
  dsimp only
  rw [hreads isPair (fun _ => rfl) (fun _ _ => rfl), hpair, hreads cfg (fun _ => rfl) (fun _ _ => rfl), beq_iff_eq.2 hid]
  simp only [Bool.false_and, when_false, Bool.true_and,]
  rw [hreads isPair (fun _ => rfl) (fun _ _ => rfl), hpair, hreads cfg (fun _ => rfl) (fun _ _ => rfl), hreads bNs (fun _ => rfl) (fun _ _ => rfl),
    hreads (fun c => c.tt) (fun _ => rfl) (fun _ _ => rfl), hreads (fun c => c.time) (fun _ => rfl) (fun _ _ => rfl)]
  rfl

/-- A frame in time with its digest is taken. -/
theorem inFrame_good (hdig : z.digest = crc32c z.block) (htime : c.time.clock ≤ bNs c c.tt.tn + cfg c 0x2000 3 31 0 * 1000) :
    inFrame z c = takeIn z (checkConfig z c) := by
  rw [inFrame_eq hhead htn hid hpair]
  simp [inDigest, hdig, htime.not_gt]

/-- A frame that is late or whose digest is wrong leaves the exchange of every station. -/
theorem inFrame_bad (hbad : z.digest ≠ crc32c z.block ∨ bNs c c.tt.tn + cfg c 0x2000 3 31 0 * 1000 < c.time.clock) (u : Nat) :
    ∃ b, station (inFrame z c) u = { station c u with mismatch := b } := by
  obtain ⟨b, hb⟩ := station_checkConfig z c u
  refine ⟨b, ?_⟩
  rw [inFrame_eq hhead htn hid hpair]
  dsimp only
  have hnot : (!decide (bNs c c.tt.tn + cfg c 0x2000 3 31 0 * 1000 < c.time.clock) && inDigest z) = false := by
    rcases hbad with h | h <;> simp [inDigest, h]
  rw [hnot, when_false, ((keeps_record _ _ _).when _).station, Keeps.station (((keeps_record _ _ _).comp (keeps_bump _)).when _), hb]

end

/-- A frame that its station sent goes from the port through the discard into the exchange. -/
theorem evZslInFrame_first {dt : Nat} {p : Port} {src seq : Nat} {z : ZIn} {c d : Chip} (hd : bump (0x190 + p.idx) (pass dt c) = d)
    (hsrc : Map.find d.net.sources src = none) (hroom : d.net.sources.length < 256) (hmac : src = stationMac d.sets.main z.station) :
    ∃ a b, evZslInFrame dt p src seq z c = inFrame z (updNet (fun n => { n with
      heardA := a, heardB := b, sources := Map.put n.sources src (seq, [seq], d.time.clock) }) d) := by
  obtain ⟨a, b, h⟩ := heard_eq (srcOk d src z) p z d
  refine ⟨a, b, ?_⟩
  unfold evZslInFrame
  rw [hd]
  dsimp only
  rw [h, dedup_first (c := updNet (fun n => { n with heardA := a, heardB := b }) d) hsrc hroom]
  exact if_pos (by simp only [srcOk, Bool.true_and, beq_iff_eq]; exact hmac)

/-- A duplicate is counted, and the exchange is as before. -/
theorem evZslInFrame_duplicate {dt : Nat} {p : Port} {src seq hi t : Nat} {win : List Nat} {z : ZIn} {c d : Chip}
    (hd : bump (0x190 + p.idx) (pass dt c) = d) (hsrc : Map.find d.net.sources src = some (hi, win, t))
    (hnear : (hi + 65536 - seq) % 65536 < 64) (hwin : seq ∈ win) :
    ∃ a b, evZslInFrame dt p src seq z c = bump (0x194 + p.idx) (updNet (fun n => { n with
      heardA := a, heardB := b, sources := Map.put n.sources src (hi, win, d.time.clock), dups := (n.dups + 1) % 2 ^ 32 }) d) := by
  obtain ⟨a, b, h⟩ := heard_eq (srcOk d src z) p z d
  refine ⟨a, b, ?_⟩
  unfold evZslInFrame
  rw [hd]
  dsimp only
  rw [h, dedup_duplicate (c := updNet (fun n => { n with heardA := a, heardB := b }) d) hsrc hnear hwin]
  rfl

/-! ### The cut-off -/

theorem raiseBound_keeps {β : Type} {g : Chip → β} (hevt : ∀ b t c, g (raiseEvt b t c) = g c) (v : Bool) (b t : Nat) (c : Chip) :
    g (raiseBound v b t c) = g c := when_keeps g _ _ c (hevt b t c)

section
variable {β : Type} {g : Chip → β} {st : Nat} (hcore : ∀ c, g c.core = g c) (hst : ∀ f c, g (updStation st f c) = g c)
include hcore hst

theorem goodExchange_keeps (z : ZIn) (c : Chip) : g (goodExchange st z c) = g c := by
  have hb : g (bump 0x19B c) = g c := (keeps_bump _).reads hcore c
  unfold goodExchange
  dsimp only
  split
  · exact hb
  · rw [hst, hb]
  · rw [((keeps_record _ _ _).when _).reads hcore, hst, hb]
  · rw [hst, hb]

variable (hevt : ∀ b t c, g (raiseEvt b t c) = g c)
include hevt

theorem dropout_keeps (c : Chip) : g (dropout st c) = g c := by
  unfold dropout
  dsimp only
  rw [raiseBound_keeps hevt, (keeps_bump _).reads hcore, (keeps_record _ _ _).reads hcore, hst]

theorem missedExchange_keeps (c : Chip) : g (missedExchange st c) = g c := by
  unfold missedExchange
  dsimp only
  split
  · rfl
  · rw [when_keeps g _ _ _ (dropout_keeps hcore hst hevt _), (keeps_bump _).reads hcore, hst]

/-- What changes of its own station, events and records keep, the judgement of a station keeps. -/
theorem judge_keeps (c : Chip) : g (judge st c) = g c := by
  unfold judge
  split
  · exact goodExchange_keeps hcore hst _ c
  · exact missedExchange_keeps hcore hst hevt c

end

theorem judgeLan_keeps {β : Type} {g : Chip → β} (hcore : ∀ c, g c.core = g c)
    (hlan : ∀ qa qb la lb c, g (updNet (fun n => { n with quietA := qa, quietB := qb, lanA := la, lanB := lb, heardA := false, heardB := false }) c) = g c)
    (c : Chip) : g (judgeLan c) = g c := by
  unfold judgeLan
  dsimp only
  rw [((keeps_record _ _ _).when _).reads hcore, ((keeps_record _ _ _).when _).reads hcore, ((keeps_record _ _ _).when _).reads hcore,
    ((keeps_record _ _ _).when _).reads hcore, hlan]

theorem station_raiseEvt (b t : Nat) (c : Chip) : station (raiseEvt b t c) = station c := by
  funext u
  rw [station, raiseEvt_net, station]

theorem cfg_raiseEvt (b t : Nat) (c : Chip) : cfg (raiseEvt b t c) = cfg c := by
  funext ix sub hi lo
  rw [cfg, raiseEvt_sets, cfg]

theorem station_judge_ne {st u : Nat} (h : u ≠ st) (c : Chip) : station (judge st c) u = station c u :=
  judge_keeps (g := fun c => station c u) (fun _ => rfl) (fun f c => station_updStation_ne f c h)
    (fun b t c => congrFun (station_raiseEvt b t c) u) c

/-- A station that takes part in dropout counting. -/
def Station.counts (x : Station) : Prop := x.st = .ok ∨ x.st = .missed

/-- What a reply in the exchange makes of a station. -/
structure Replied (z : ZIn) (x : Station) : Prop where
  ok : x.st = .ok
  miss : x.miss = 0
  last : x.last = some z.block
  own : x.useSub = false

/-- What a missing reply makes of a station whose limit is `lim`. -/
structure Unanswered (lim : Nat) (x y : Station) : Prop where
  good : y.good = 0
  total : y.missTotal = (x.missTotal + 1) % 2 ^ 32
  last : y.last = x.last
  below : x.miss + 1 < lim → y.st = .missed ∧ y.useSub = x.useSub
  out : lim ≤ x.miss + 1 → y.st = .substitute ∧ y.useSub = true ∧ y.dropouts = (x.dropouts + 1) % 2 ^ 32

theorem station_judge_replied {st : Nat} {z : ZIn} {c : Chip} (hnow : (station c st).now = some z) (hcounts : (station c st).counts) :
    Replied z (station (judge st c) st) := by
  have h : station (judge st c) st = { station c st with st := .ok, useSub := false, last := some z.block, good := sat8 (station c st).good, miss := 0 } := by
    unfold judge
    rw [hnow]
    dsimp only
    unfold goodExchange
    dsimp only
    rcases hcounts with h | h <;> rw [h] <;> dsimp only <;> rw [station_updStation_self, station_bump]
  rw [h]
  exact ⟨rfl, rfl, rfl, rfl⟩

theorem station_dropout (st : Nat) (c : Chip) : station (dropout st c) st =
    { station c st with st := .substitute, useSub := true, dropouts := ((station c st).dropouts + 1) % 2 ^ 32 } := by
  unfold dropout
  dsimp only
  rw [raiseBound_keeps (g := station) station_raiseEvt, station_bump, (keeps_record _ _ _).station, station_updStation_self]

theorem station_judge_unanswered {st : Nat} {c : Chip} (hnow : (station c st).now = none) (hcounts : (station c st).counts) :
    Unanswered (cfg c (0x5100 + st) 1 15 8) (station c st) (station (judge st c) st) := by
  have hstate : (if (station c st).st = .ok then .missed else (station c st).st) = StaSt.missed := by
    rcases hcounts with h | h <;> simp [h]
  have hin : ((station c st).st == .ok || (station c st).st == .missed) = true := by
    rcases hcounts with h | h <;> simp [h]
  have hout : ¬((station c st).st = .disabled ∨ (station c st).st = .transition) := by
    rcases hcounts with h | h <;> simp [h]
  unfold judge
  rw [hnow]
  dsimp only
  unfold missedExchange
  dsimp only
  rw [if_neg hout, hin, Bool.true_and]
  have hcfg : ∀ f, cfg (bump 0x19C (updStation st f c)) = cfg c := fun f => (cfg_bump _ _).trans rfl
  rw [hcfg]
  by_cases hlim : cfg c (0x5100 + st) 1 15 8 ≤ (station c st).miss + 1
  · rw [decide_eq_true hlim, when_true, station_dropout, station_bump, station_updStation_self]
    exact ⟨rfl, rfl, rfl, fun h => absurd hlim h.not_ge, fun _ => ⟨rfl, rfl, rfl⟩⟩
  · rw [decide_eq_false hlim, when_false, station_bump, station_updStation_self]
    exact ⟨rfl, rfl, rfl, fun _ => ⟨hstate, rfl⟩, fun h => absurd h hlim⟩

/-- The cut-off judges the exchanges once the block waited for its instant. -/
theorem evZslCutoff_judges {dt : Nat} {c : Chip} (hb : hasBoundaries (pass dt c) = true) (ht : (pass dt c).tt.ticking = true)
    (hcut : (pass dt c).net.cutTn ≠ some (pass dt c).tt.tn) : ∃ w n, evZslCutoff dt c =
      judgeLan (forAll (enabledStations (pass dt c).sets.main) judge
        (updNet (fun m => { m with cutTn := some (pass dt c).tt.tn, goodTicks := n }) (pass w (pass dt c)))) := by
  unfold evZslCutoff
  generalize pass dt c = c at *
  rw [if_neg (by simp [hb, ht, hcut])]
  dsimp only
  rw [pass_tt, pass_sets]
  exact ⟨_, _, rfl⟩

theorem nodup_enabledStations (cs : ConfigSet) : (enabledStations cs).Nodup := List.Nodup.filter _ List.nodup_range

/-- In the loop over the stations each is judged once. -/
theorem station_judged {st : Nat} {l : List Nat} {P : Station → Prop} {c : Chip} (hl : l.Nodup) (hst : st ∈ l)
    (hat : ∀ d, station d st = station c st → cfg d = cfg c → P (station (judge st d) st)) : P (station (forAll l judge c) st) :=
  forAll_once (P := fun d => station d st = station c st ∧ cfg d = cfg c) (Q := fun d => P (station d st))
    (fun u hu d h => ⟨(station_judge_ne hu.symm d).trans h.1,
      (judge_keeps (g := cfg) (fun _ => rfl) (fun _ _ => rfl) cfg_raiseEvt d).trans h.2⟩)
    (fun d h => hat d h.1 h.2) (fun u hu d h => by rwa [station_judge_ne hu.symm d]) hl hst ⟨rfl, rfl⟩

theorem station_unjudged {st : Nat} {l : List Nat} {c : Chip} (hst : st ∉ l) : station (forAll l judge c) st = station c st :=
  forAll_inv (P := fun d => station d st = station c st)
    (fun _ hu d h => (station_judge_ne (ne_of_mem_of_not_mem hu hst).symm d).trans h) rfl

theorem station_judgeLan (c : Chip) : station (judgeLan c) = station c :=
  judgeLan_keeps (g := station) (fun _ => rfl) (fun _ _ _ _ _ => rfl) c

theorem judgeAll_keeps {β : Type} {g : Chip → β} (hcore : ∀ c, g c.core = g c) (hst : ∀ st f c, g (updStation st f c) = g c)
    (hevt : ∀ b t c, g (raiseEvt b t c) = g c)
    (hlan : ∀ qa qb la lb c, g (updNet (fun n => { n with quietA := qa, quietB := qb, lanA := la, lanB := lb, heardA := false, heardB := false }) c) = g c)
    (l : List Nat) (c : Chip) : g (judgeLan (forAll l judge c)) = g c :=
  (judgeLan_keeps hcore hlan _).trans (forAll_keeps g l judge (fun st c => judge_keeps hcore (hst st) hevt c) c)

/-- Settles O44: a reply is taken after the checks of its port, source and header; the cut-off judges each station once, and its judgement
reads and changes that station alone. -/
theorem stationExchangeRows : Obligations.StationExchangeRows := by
  unfold Obligations.StationExchangeRows
  refine ⟨fun dt => ?silent, fun dt s => ?sends, fun dt p src seq z s => ⟨fun hi win t hsrc hnear hwin => ?duplicate,
    fun hsrc hroom hmac hhead htn hid hpair => ⟨fun hdig htime hnow => ?good, fun hbad => ?bad⟩⟩, fun dt s => ⟨fun h => ?idle, fun hb ht hcut => ?cutoff⟩,
    fun dt l z => ?forward⟩
  case silent =>
    refine takes_of_lift (f := evZslOutTransmit dt) (fun _ => rfl) fun c h => ?_
    unfold evZslOutTransmit
    exact if_pos (by simp [h])
  case sends =>
    intro c hs
    refine does_of_lift (f := evZslOutTransmit dt) rfl ?_
    rw [evZslOutTransmit_sends hs]
    generalize hw : bNs c c.tt.tn + cfg c 0x2000 2 31 0 * 1000 = w
    have hkeeps : ∀ {β : Type} (g : Chip → β), (∀ c, g c.core = g c) → (∀ st f c, g (updStation st f c) = g c) →
        g (forAll (enabledStations c.sets.main) outFrame (pass (w - c.time.clock) c)) = g (pass (w - c.time.clock) c) :=
      fun g hcore hst => outFrames_keeps hcore hst _ _
    refine ⟨?_, rfl, ?_, ?_, ?_, ?_, ?_, fun st => ?_⟩
    · refine (out_outFrames _ _).trans ?_
      rw [outOf_pass, pass_out]
      rfl
    · refine (hkeeps (fun c => c.time.clock) (fun _ => rfl) fun _ _ _ => rfl).trans ?_
      have hmax : max c.time.clock w = c.time.clock + (w - c.time.clock) := by omega
      exact (pass_clock _ _).trans hmax.symm
    · exact (hkeeps (fun c => c.mem) (fun _ => rfl) fun _ _ _ => rfl).trans (pass_mem _ _)
    · exact (hkeeps (fun c => c.tasks) (fun _ => rfl) fun _ _ _ => rfl).trans (pass_tasks _ _)
    · exact (forAll_keeps (fun c => c.io) _ outFrame io_outFrame _).trans (pass_io _ _)
    · exact (hkeeps (fun c => c.tt) (fun _ => rfl) fun _ _ _ => rfl).trans (pass_tt _ _)
    · have h := station_outFrames (enabledStations c.sets.main) st (pass (w - c.time.clock) c)
      rw [station_pass, Prod.mk.injEq] at h
      exact h
  case duplicate =>
    refine does_of_lift (f := evZslInFrame dt p src seq z) rfl ?_
    obtain ⟨a, b, h⟩ := evZslInFrame_duplicate (dt := dt) (z := z) rfl hsrc hnear hwin
    rw [h, bump_net, bump_mem, bump_io]
    exact ⟨rfl, rfl, rfl, rfl⟩
  case good =>
    refine does_of_lift (f := evZslInFrame dt p src seq z) rfl ?_
    obtain ⟨a, b, h⟩ := evZslInFrame_first (dt := dt) rfl hsrc hroom hmac
    rw [h]
    generalize bump (0x190 + p.idx) (pass dt s.chip) = d at *
    rw [inFrame_good (c := updNet _ d) hhead htn hid hpair hdig htime]
    have hkeeps : ∀ {β : Type} (g : Chip → β), (∀ c, g c.core = g c) → (∀ f c, g (updStation z.station f c) = g c) →
        (∀ t c, g (updNet (fun n => { n with partnerEcho := t }) c) = g c) → ∀ c, g (takeIn z (checkConfig z c)) = g c :=
      fun g hcore hst hecho c => (takeIn_keeps hcore hst hecho _).trans (checkConfig_keeps hcore hst c)
    obtain ⟨m, hm⟩ := station_checkConfig z (updNet (fun n => { n with
      heardA := a, heardB := b, sources := Map.put n.sources src (seq, [seq], d.time.clock) }) d) z.station
    have hown := station_takeIn z (c := checkConfig z _) ((congrArg Station.now hm).trans hnow)
    refine ⟨congrArg Station.now hown, congrArg Station.echoDig hown, ?_, ?_, fun u hu => ?_, ?_, ?_⟩
    · exact (congrArg Station.st hown).trans (congrArg Station.st hm : (station (checkConfig z _) z.station).st = _)
    · rw [hkeeps (fun c => c.net.sources) (fun _ => rfl) (fun _ _ => rfl) fun _ _ => rfl]
      exact Map.find_put_self _ _ _
    · exact hkeeps (fun c => station c u) (fun _ => rfl) (fun f c => station_updStation_ne f c hu) (fun _ _ => rfl) _
    · exact hkeeps (fun c => c.mem) (fun _ => rfl) (fun _ _ => rfl) (fun _ _ => rfl) _
    · exact hkeeps (fun c => c.io.ao) (fun _ => rfl) (fun _ _ => rfl) (fun _ _ => rfl) _
  case bad =>
    refine does_of_lift (f := evZslInFrame dt p src seq z) rfl fun u => ?_
    obtain ⟨a, b, h⟩ := evZslInFrame_first (dt := dt) rfl hsrc hroom hmac
    rw [h]
    obtain ⟨m, hm⟩ := inFrame_bad (c := updNet _ (bump (0x190 + p.idx) (pass dt s.chip))) hhead htn hid hpair hbad u
    rw [hm]
    exact ⟨rfl, rfl⟩
  case idle =>
    refine goes_of_lift (f := evZslCutoff dt) rfl ?_
    unfold evZslCutoff
    generalize pass dt s.chip = c at *
    refine if_pos ?_
    rcases h with h | h | h <;> simp [h]
  case cutoff =>
    refine does_of_lift (f := evZslCutoff dt) rfl ?_
    obtain ⟨w, n, h⟩ := evZslCutoff_judges hb ht hcut
    rw [h]
    generalize pass dt s.chip = c at *
    have hkept : ∀ d : Chip, (judgeLan (forAll (enabledStations c.sets.main) judge d)).net.cutTn = d.net.cutTn
        ∧ (judgeLan (forAll (enabledStations c.sets.main) judge d)).mem = d.mem
        ∧ (judgeLan (forAll (enabledStations c.sets.main) judge d)).io.ao = d.io.ao := fun d =>
      ⟨judgeAll_keeps (g := fun c => c.net.cutTn) (fun _ => rfl) (fun _ _ _ => rfl) (fun _ _ _ => congrArg Net.cutTn (raiseEvt_net _ _ _))
          (fun _ _ _ _ _ => rfl) _ d,
        judgeAll_keeps (g := fun c => c.mem) (fun _ => rfl) (fun _ _ _ => rfl) raiseEvt_mem (fun _ _ _ _ _ => rfl) _ d,
        judgeAll_keeps (g := fun c => c.io.ao) (fun _ => rfl) (fun _ _ _ => rfl) (fun _ _ _ => congrArg Field.ao (raiseEvt_io _ _ _))
          (fun _ _ _ _ _ => rfl) _ d⟩
    obtain ⟨hcutTn, hmem, hao⟩ := hkept (updNet (fun m => { m with cutTn := some c.tt.tn, goodTicks := n }) (pass w c))
    have hown : station (updNet (fun m => { m with cutTn := some c.tt.tn, goodTicks := n }) (pass w c)) = station c := station_pass w c
    have hcfg : cfg (updNet (fun m => { m with cutTn := some c.tt.tn, goodTicks := n }) (pass w c)) = cfg c := cfg_pass w c
    rw [station_judgeLan]
    refine ⟨hcutTn, hmem.trans (pass_mem _ _), hao.trans (congrArg _ (pass_io _ _)), fun st z hst hnow hcounts => ?_, fun st hst hnow hcounts => ?_,
      fun st hst => (station_unjudged hst).trans (congrFun hown st)⟩
    · obtain ⟨hok, hmiss, hlast, hsub⟩ := station_judged (P := Replied z) (nodup_enabledStations _) hst fun d hd _ =>
        station_judge_replied (hd.trans (congrFun hown st) ▸ hnow) (hd.trans (congrFun hown st) ▸ hcounts)
      exact ⟨hok, hmiss, hlast, hsub⟩
    · obtain ⟨hgood, htotal, hlast, hbelow, hout⟩ := station_judged
        (P := Unanswered (cfg c (0x5100 + st) 1 15 8) (station c st)) (nodup_enabledStations _) hst fun d hd hdc => by
          rw [hown] at hd
          rw [← hcfg, ← hdc, ← hd]
          exact station_judge_unanswered (hd ▸ hnow) (hd ▸ hcounts)
      exact ⟨hgood, htotal, hlast, hbelow, hout⟩
  case forward =>
    refine takes_of_lift (f := evZslInForward dt l z true) (fun _ => rfl) fun c ⟨hpair, hst, hhead, hdig, htn, hid, htime⟩ => ?_
    unfold evZslInForward
    generalize pass dt c = c at *
    exact if_pos (by simp [inDigest, hpair, hst, hhead, hdig, htn, hid, htime])

end Sys2Proof.Machine
end

section
/-! The time engine (R318, R319, R325, R326, R329 to R331, R334, R517): offsets and delays, the servo's transitions, the messages of a
port. -/
namespace Sys2Proof.Machine

open Sys2Proof Sys2Proof.Safety

/-! ### A message that reaches the time engine -/

/-- The module has its supply, and no stamp of an own message is still due. -/
def Still (c : Chip) : Prop := c.sup.mstate ≠ .off ∧ c.time.portA.stampDue = none ∧ c.time.portB.stampDue = none

theorem stampArrives_of_none {p : Port} {c : Chip} (h : (ptpPort c p).stampDue = none) : stampArrives p c = c := by
  unfold stampArrives
  dsimp only
  rw [h]

theorem reach_still {dt : Nat} {f : Chip → Chip} {c : Chip} (h : Still (pass dt c)) : reach dt f c = f (pass dt c) := by
  obtain ⟨hon, ha, hb⟩ := h
  unfold reach stampsArrive
  dsimp only
  rw [if_neg hon, stampArrives_of_none (p := .a) ha, stampArrives_of_none (p := .b) hb]

theorem reach_off {dt : Nat} {f : Chip → Chip} {c : Chip} (h : (pass dt c).sup.mstate = .off) : reach dt f c = pass dt c := if_pos h

section
variable {i : Instr} {dt : Nat} {f : Chip → Chip} (hrow : ∀ s, exec i s = lift (reach dt f) s)
include hrow

theorem takes_reach_off : Takes i dt (fun c => c.sup.mstate = .off) id := takes_of_lift hrow fun _ h => reach_off h

theorem takes_reach {pre : Chip → Prop} {eff : Chip → Chip} (hstill : ∀ c, pre c → Still c) (h : ∀ c, pre c → f c = eff c) :
    Takes i dt pre eff := takes_of_lift hrow fun _ hpre => (reach_still (hstill _ hpre)).trans (h _ hpre)

theorem does_reach {s : State} {P : Chip → Prop} (hstill : Still (pass dt s.chip)) (h : P (f (pass dt s.chip))) : Does i s P :=
  does_of_lift (hrow s) (by rwa [reach_still hstill])

end

/-! ### What a stamp leaves -/

/-- The time engine without its timestamp rings. -/
def Chip.ringless (c : Chip) : TimeEng := { c.time with rings := [] }

/-- What the recorder, the sessions and the rings do not hold, a stamp leaves. -/
theorem stamp_reads {β : Type} {g : Chip → β} (hcore : ∀ c, g c.core = g c) (hrings : ∀ (m : TimeEng → Map (List TsEntry)) c, g (updTime (fun t => { t with rings := m t }) c) = g c)
    (p : Port) (rx : Bool) (ts mtype seq srcId : Nat) (oneStep : Bool) (c : Chip) : g (stamp p rx ts mtype seq srcId oneStep c) = g c := by
  unfold stamp tsDropped
  rw [((keeps_record _ _ _).when _).reads hcore, (keeps_exportRing _ _).reads hcore]
  exact hrings (fun t : TimeEng => Map.upd t.rings _ [] _) c

/-! ### The ports -/

/-- State of a port without a master. -/
def aloneSt (c : Chip) (p : Port) : PortSt :=
  if linkOf c p then (if c.time.servo = .grandmaster then .master else .listening) else .faulty

/-- Without a master on either port, both listen, or send as grandmaster. -/
theorem electPorts_alone {c : Chip} (ha : c.time.portA.gm = none) (hb : c.time.portB.gm = none) : electPorts c =
    updTime (fun t => { t with
      master := false, portA := { t.portA with st := aloneSt c .a }, portB := { t.portB with st := aloneSt c .b } }) c := by
  unfold electPorts
  dsimp only
  rw [ha, hb]
  simp only [Option.isSome_none, Bool.false_and, when_false, Bool.or_false]
  rfl

theorem electPorts_alone_keeps {c : Chip} {x y : PtpPort} (ha : c.time.portA = { x with gm := none }) (hb : c.time.portB = { y with gm := none }) :
    (electPorts c).time.servo = c.time.servo ∧ (electPorts c).time.freq = c.time.freq ∧ (electPorts c).time.clock = c.time.clock
      ∧ (electPorts c).mem = c.mem ∧ (electPorts c).time.portA.gm = none ∧ (electPorts c).time.portB.gm = none := by
  have hgmA : c.time.portA.gm = none := by rw [ha]
  have hgmB : c.time.portB.gm = none := by rw [hb]
  rw [electPorts_alone hgmA hgmB]
  exact ⟨rfl, rfl, rfl, rfl, hgmA, hgmB⟩

/-! ### The servo -/

theorem Keeps.time {f : Chip → Chip} (hf : Keeps f) (c : Chip) : (f c).time = c.time := hf.reads (g := fun c => c.time) (fun _ => rfl) c

theorem time_updTime (f : TimeEng → TimeEng) (c : Chip) : (updTime f c).time = f c.time := rfl

@[simp] theorem servo_setServo (v : Servo) (c : Chip) : (setServo v c).time.servo = v := rfl

theorem learned_setServo (v : Servo) (c : Chip) : (setServo v c).time.learned = c.time.learned := by
  unfold setServo updTime
  dsimp only
  split <;> split <;> rfl

theorem time_enterHoldover (code : Nat) (c : Chip) :
    (enterHoldover code c).time = { (setServo .holdover c).time with freq := (setServo .holdover c).time.learned } := by
  unfold enterHoldover
  rw [(keeps_record _ _ _).time, ((keeps_bump _).when _).time]
  rfl

theorem time_enterLocked (slew : Bool) (c : Chip) :
    (enterLocked slew c).time = { (setServo .locked c).time with slewing := slew, diverged := false } := (keeps_record _ _ _).time _

theorem time_enterUnlocked (c : Chip) : (enterUnlocked c).time = { (setServo .unlocked c).time with diverged := false } :=
  (keeps_record _ _ _).time _

/-- What a transition of the servo leaves: memory, the tasks, the ports, the offset, and the clock, which is not stepped. -/
def Chip.steered (c : Chip) : Memories × Map Task × PtpPort × PtpPort × Int × Nat × Nat :=
  (c.mem, c.tasks, c.time.portA, c.time.portB, c.time.offset, c.time.clock, c.time.steps)

theorem steered_core (c : Chip) : c.core.steered = c.steered := rfl

theorem steered_diverged (v : Bool) (c : Chip) : (updTime (fun t => { t with diverged := v }) c).steered = c.steered := rfl

theorem steered_setServo (v : Servo) (c : Chip) : (setServo v c).steered = c.steered := by
  unfold setServo updTime
  dsimp only [Chip.steered]
  split <;> split <;> rfl

theorem steered_enterHoldover (code : Nat) (c : Chip) : (enterHoldover code c).steered = c.steered := by
  unfold enterHoldover
  dsimp only
  rw [(keeps_record _ _ _).reads steered_core, ((keeps_bump _).when _).reads steered_core]
  exact steered_setServo .holdover c

theorem steered_enterLocked (slew : Bool) (c : Chip) : (enterLocked slew c).steered = c.steered :=
  ((keeps_record _ _ _).reads steered_core _).trans (steered_setServo .locked c)

theorem steered_enterUnlocked (c : Chip) : (enterUnlocked c).steered = c.steered :=
  ((keeps_record _ _ _).reads steered_core _).trans (steered_setServo .unlocked c)

theorem steered_followAgain (o : Int) (c : Chip) : (followAgain o c).steered = c.steered := by
  unfold followAgain
  split
  · split
    · exact steered_enterLocked true c
    · split
      · rfl
      · exact (steered_diverged true _).trans (steered_enterHoldover _ c)
  · split
    · exact steered_enterLocked true c
    · exact steered_enterUnlocked c

/-- A servo that is not UNLOCKED takes the offset and steps nothing. -/
theorem steered_servoStep {c : Chip} (o : Int) (h : c.time.servo ≠ .unlocked) :
    (servoStep o c).steered = (updTime (fun t => { t with offset := satOffset o }) c).steered := by
  unfold servoStep
  dsimp only
  split
  case h_1 hu => exact absurd hu h
  case h_2 =>
    split
    · exact steered_enterUnlocked _
    · refine (apply_ite Chip.steered _ _ _).trans ?_
      rw [steered_enterLocked, ite_self]
      rfl
  case h_3 =>
    split
    · exact (steered_diverged true _).trans (steered_enterHoldover _ _)
    · split
      · exact steered_enterUnlocked _
      · rfl
  case h_4 => exact steered_followAgain _ _
  case h_5 => exact steered_followAgain _ _

/-- The servo takes the offset first; what decides its transition is as before. -/
theorem exists_offset (o : Int) (c : Chip) : ∃ d, updTime (fun t => { t with offset := satOffset o }) c = d ∧ d.time.servo = c.time.servo
    ∧ d.time.firstOff = c.time.firstOff ∧ d.time.clock = c.time.clock ∧ heldState d = heldState c ∧ cfg d = cfg c :=
  ⟨_, rfl, rfl, rfl, rfl, rfl, rfl⟩

section
variable {o : Int} {c : Chip}

/-- An UNLOCKED servo takes the offset. -/
theorem servoStep_waits (hu : c.time.servo = .unlocked) (hw : heldState c = true ∨ c.time.firstOff = false) :
    servoStep o c = updTime (fun t => { t with offset := satOffset o }) c := by
  obtain ⟨d, hd, hservo, hfirst, hclock, hheld, hcfg⟩ := exists_offset o c
  unfold servoStep
  dsimp only
  rw [hd, hservo, hu, hheld, hfirst]
  exact if_pos (by rcases hw with h | h <;> simp [h])

/-- It steps the clock at the first offset. -/
theorem servoStep_steps (hu : c.time.servo = .unlocked) (hh : heldState c = false) (hf : c.time.firstOff = true) : servoStep o c =
    setServo .locking (stepClock ((c.time.clock : Int) - o).toNat (updTime (fun t => { t with offset := satOffset o }) c)) := by
  obtain ⟨d, hd, hservo, hfirst, hclock, hheld, hcfg⟩ := exists_offset o c
  unfold servoStep
  dsimp only
  rw [hd, hservo, hu, hheld, hfirst, hclock]
  exact if_neg (by simp [hh, hf])

/-- A LOCKED servo whose offset is beyond the step threshold unlocks in STOP. -/
theorem servo_servoStep_far (hl : c.time.servo = .locked) (hh : heldState c = false) (hfar : cfg c 0x5202 2 31 0 * 1000 < o.natAbs) :
    (servoStep o c).time.servo = .unlocked := by
  obtain ⟨d, hd, hservo, hfirst, hclock, hheld, hcfg⟩ := exists_offset o c
  unfold servoStep
  dsimp only
  rw [hd, hservo, hl, hheld, hcfg]
  dsimp only
  rw [if_neg (by simp [hh]), if_pos (by simp [hh, hfar]), time_enterUnlocked]
  rfl

/-- Within the threshold it stays LOCKED. -/
theorem servo_servoStep_near (hl : c.time.servo = .locked) (hh : heldState c = false) (hnear : ¬cfg c 0x5202 2 31 0 * 1000 < o.natAbs) :
    (servoStep o c).time.servo = .locked := by
  obtain ⟨d, hd, hservo, hfirst, hclock, hheld, hcfg⟩ := exists_offset o c
  unfold servoStep
  dsimp only
  rw [hd, hservo, hl, hheld, hcfg]
  dsimp only
  rw [if_neg (by simp [hh]), if_neg (by simp [hnear])]
  exact hservo.trans hl

/-- In RUN it goes over to HOLDOVER beyond the limit. -/
theorem servoStep_diverges (hl : c.time.servo = .locked) (hh : heldState c = true) (hfar : cfg c 0x5202 4 31 0 * 1000 < o.natAbs) :
    (servoStep o c).time.servo = .holdover ∧ (servoStep o c).time.diverged = true := by
  obtain ⟨d, hd, hservo, hfirst, hclock, hheld, hcfg⟩ := exists_offset o c
  unfold servoStep
  dsimp only
  rw [hd, hservo, hl, hheld, hcfg]
  dsimp only
  rw [if_pos (by simp [hh, hfar]), time_updTime, time_enterHoldover, servo_setServo]
  exact ⟨rfl, rfl⟩

theorem servo_servoStep_within (hl : c.time.servo = .locked) (hh : heldState c = true) (hnear : o.natAbs ≤ cfg c 0x5202 4 31 0 * 1000) :
    (servoStep o c).time.servo = .locked := by
  obtain ⟨d, hd, hservo, hfirst, hclock, hheld, hcfg⟩ := exists_offset o c
  unfold servoStep
  dsimp only
  rw [hd, hservo, hl, hheld, hcfg]
  dsimp only
  rw [if_neg (by simp [hnear]), if_neg (by simp [hh])]
  exact hservo.trans hl

/-- The block whose clock has been set. -/
def clockSet (n : Nat) (c : Chip) : Chip :=
  let c := updTime (fun t => { t with clock := n, steps := (t.steps + 1) % 2 ^ 32, firstOff := false }) c
  if c.sup.mstate = .stop then { c with tt := { c.tt with rederive := true } } else c

theorem stepClock_eq (n : Nat) (c : Chip) : stepClock n c = bump 0x1A1 (record 0x0823 0 (w64 c.time.clock ++ w64 n) (clockSet n c)) := rfl

theorem time_clockSet (n : Nat) (c : Chip) :
    (clockSet n c).time = { c.time with clock := n, steps := (c.time.steps + 1) % 2 ^ 32, firstOff := false } := by
  unfold clockSet
  dsimp only
  split <;> rfl

theorem mem_clockSet (n : Nat) (c : Chip) : (clockSet n c).mem = c.mem ∧ (clockSet n c).tasks = c.tasks := by
  unfold clockSet
  dsimp only
  split <;> exact ⟨rfl, rfl⟩

/-- The clock after a step. -/
theorem time_stepClock (n : Nat) (c : Chip) :
    (stepClock n c).time = { c.time with clock := n, steps := (c.time.steps + 1) % 2 ^ 32, firstOff := false } := by
  rw [stepClock_eq, (keeps_bump _).time, (keeps_record _ _ _).time, time_clockSet]

theorem mem_stepClock (n : Nat) (c : Chip) : (stepClock n c).mem = c.mem ∧ (stepClock n c).tasks = c.tasks := by
  rw [stepClock_eq, (keeps_bump _).tasks, (keeps_record _ _ _).tasks, (keeps_bump _).reads (g := fun c => c.mem) fun _ => rfl,
    (keeps_record _ _ _).reads (g := fun c => c.mem) fun _ => rfl]
  exact mem_clockSet n c

/-- Whatever the servo does, the offset is taken, and memory, the tasks and the ports are as before. -/
theorem servoStep_keeps (o : Int) (c : Chip) : (servoStep o c).time.offset = satOffset o ∧ (servoStep o c).mem = c.mem
    ∧ (servoStep o c).tasks = c.tasks ∧ (servoStep o c).time.portA = c.time.portA ∧ (servoStep o c).time.portB = c.time.portB := by
  by_cases hu : c.time.servo = .unlocked
  · by_cases hw : heldState c = true ∨ c.time.firstOff = false
    · rw [servoStep_waits hu hw]
      exact ⟨rfl, rfl, rfl, rfl, rfl⟩
    · rw [not_or, Bool.not_eq_true, Bool.not_eq_false] at hw
      rw [servoStep_steps hu hw.1 hw.2]
      have hset : ∀ d : Chip, (setServo .locking d).steered = d.steered := steered_setServo .locking
      simp only [Chip.steered, Prod.mk.injEq] at hset
      obtain ⟨hmem, htasks, hA, hB, hoff, -⟩ := hset (stepClock ((c.time.clock : Int) - o).toNat (updTime (fun t => { t with offset := satOffset o }) c))
      rw [hmem, htasks, hA, hB, hoff, time_stepClock, (mem_stepClock _ _).1, (mem_stepClock _ _).2]
      exact ⟨rfl, rfl, rfl, rfl, rfl⟩
  · have h := steered_servoStep o hu
    simp only [Chip.steered, Prod.mk.injEq] at h
    obtain ⟨hmem, htasks, hA, hB, hoff, -⟩ := h
    exact ⟨hoff, hmem, htasks, hA, hB⟩

end

/-! ### An offset measured -/

/-- The measurement of a Sync on the SLAVE port with a path delay. -/
theorem evPtpSync_measures {dt : Nat} {p : Port} {t1 t2 q r d : Nat} {o : Bool} {c : Chip} (hstill : Still (pass dt c))
    (hst : (ptpPort (pass dt c) p).st = .slave) (hd : (ptpPort (pass dt c) p).delay = some d) : evPtpSync dt p t1 t2 q r o c =
      servoStep ((t2 : Int) - t1 - d - signed 32 (cfg (pass dt c) 0x5203 (1 + p.idx) 31 0)) (bump 0x1A0 (stamp p true t2 0 q r o (pass dt c))) := by
  unfold evPtpSync
  rw [reach_still hstill]
  generalize pass dt c = c at *
  have hport : ptpPort (stamp p true t2 0 q r o c) p = ptpPort c p :=
    stamp_reads (g := fun c => ptpPort c p) (fun _ => rfl) (fun m c => by cases p <;> rfl) _ _ _ _ _ _ _ c
  have hcfg : cfg (bump 0x1A0 (stamp p true t2 0 q r o c)) = cfg c :=
    (cfg_bump _ _).trans (stamp_reads (g := cfg) (fun _ => rfl) (fun _ _ => rfl) _ _ _ _ _ _ _ c)
  dsimp only
  rw [hport, hst, hd, hcfg]
  exact if_neg (by decide)

/-- The block as an offset measurement finds it is the block before the message but for the stamp's ring and the recorder. -/
theorem measured_reads {β : Type} {g : Chip → β} (hcore : ∀ c, g c.core = g c)
    (hrings : ∀ (m : TimeEng → Map (List TsEntry)) c, g (updTime (fun t => { t with rings := m t }) c) = g c) (p : Port) (ts q r : Nat) (o : Bool)
    (c : Chip) : g (bump 0x1A0 (stamp p true ts 0 q r o c)) = g c :=
  ((keeps_bump _).reads hcore _).trans (stamp_reads hcore hrings _ _ _ _ _ _ _ c)

/-! ### The master and the passive port -/

/-- The block once no master is heard any more. -/
def masterless (c : Chip) : Chip :=
  updTime (fun t => { t with diverged := false }) (updPtp .a (fun x => { x with gm := none }) (updPtp .b (fun x => { x with gm := none }) c))

theorem steered_masterless (c : Chip) : (masterless c).mem = c.mem ∧ (masterless c).time.clock = c.time.clock
    ∧ (masterless c).time.learned = c.time.learned ∧ (masterless c).time.servo = c.time.servo ∧ (masterless c).time.portA.gm = none
    ∧ (masterless c).time.portB.gm = none := ⟨rfl, rfl, rfl, rfl, rfl, rfl⟩

/-- The block in HOLDOVER as the correction learned holds it. -/
theorem enterHoldover_keeps (code : Nat) (c : Chip) : (enterHoldover code c).time.servo = .holdover
    ∧ (enterHoldover code c).time.freq = c.time.learned ∧ (enterHoldover code c).time.clock = c.time.clock
    ∧ (enterHoldover code c).time.portA = c.time.portA ∧ (enterHoldover code c).time.portB = c.time.portB
    ∧ (enterHoldover code c).mem = c.mem := by
  have h := steered_enterHoldover code c
  simp only [Chip.steered, Prod.mk.injEq] at h
  obtain ⟨hmem, -, hA, hB, -, hclock, -⟩ := h
  refine ⟨?_, ?_, hclock, hA, hB, hmem⟩
  · rw [time_enterHoldover, servo_setServo]
  · rw [time_enterHoldover]
    exact learned_setServo _ c

section
variable {dt : Nat} {c : Chip} (hstill : Still (pass dt c))
include hstill

/-- A LOCKED servo that hears no master any more holds over. -/
theorem evPtpAnnounceTimeout_locked (hl : (pass dt c).time.servo = .locked) :
    evPtpAnnounceTimeout dt c = electPorts (enterHoldover 0x0820 (masterless (pass dt c))) := by
  unfold evPtpAnnounceTimeout
  rw [reach_still hstill]
  change electPorts (match (masterless (pass dt c)).time.servo with | .locked => _ | .grandmaster => _ | _ => _) = _
  rw [show (masterless (pass dt c)).time.servo = .locked from hl]
  rfl

/-- One in HOLDOVER that may be grandmaster becomes it. -/
theorem evPtpAnnounceTimeout_holdover (hh : (pass dt c).time.servo = .holdover) (hm : mayMaster (pass dt c) = true) :
    evPtpAnnounceTimeout dt c = electPorts (record 0x0828 0 [] (updTime (fun t => { t with gmId := (pass dt c).sup.serial, freq := t.learned })
      (setServo .grandmaster (masterless (pass dt c))))) := by
  unfold evPtpAnnounceTimeout
  rw [reach_still hstill]
  change electPorts (match (masterless (pass dt c)).time.servo with | .locked => _ | .grandmaster => _ | _ => _) = _
  rw [show (masterless (pass dt c)).time.servo = .holdover from hh]
  exact congrArg electPorts (if_pos hm)

end

/-- Settles O46: each message that reaches the time engine of a module without stamps due does what its row says; the servo steps the clock
in UNLOCKED alone. -/
theorem timeEngineRows : Obligations.TimeEngineRows := by
  unfold Obligations.TimeEngineRows
  refine ⟨fun dt p a b q r d e o g i hi => ?off, fun dt p t1 t2 q r o s hstill hst hdelay => ?sync, fun dt p t1 t2 t3 t4 => ?exchange,
    fun dt p => ⟨?e2e, ?p2p, ?master, ?noMaster⟩, fun dt p q r t => ⟨?pdelay, ?delay⟩, fun dt p g => ⟨?worse, ?first⟩,
    fun dt s hstill => ⟨fun hl => ⟨?announceLocked, ?syncLocked⟩, fun hh hm => ?grandmaster, fun hl => ?notLocked⟩,
    fun dt s hstill ha hb => ?swap, fun dt => ⟨?long, ?longDone⟩, fun dt p => ⟨?missing, ?notMissing⟩, fun dt => ⟨?save, ?noSave⟩⟩
  case off =>
    simp only [List.mem_cons, List.not_mem_nil, or_false] at hi
    rcases hi with rfl | rfl | rfl | rfl | rfl | rfl | rfl | rfl | rfl | rfl <;> exact takes_reach_off fun _ => rfl
  case sync =>
    refine does_of_lift (f := evPtpSync dt p t1 t2 q r o) rfl ?_
    obtain ⟨d, hd⟩ := Option.ne_none_iff_exists'.1 hdelay
    rw [evPtpSync_measures hstill hst hd, hd, Option.getD_some]
    generalize pass dt s.chip = c at *
    generalize ((t2 : Int) - t1 - d - signed 32 (cfg c 0x5203 (1 + p.idx) 31 0)) = off
    have hring := measured_reads (g := Chip.ringless) (fun _ => rfl) (fun _ _ => rfl) p t2 q r o c
    have hcfg := measured_reads (g := cfg) (fun _ => rfl) (fun _ _ => rfl) p t2 q r o c
    have hheld := measured_reads (g := heldState) (fun _ => rfl) (fun _ _ => rfl) p t2 q r o c
    have hmem := measured_reads (g := fun c => c.mem) (fun _ => rfl) (fun _ _ => rfl) p t2 q r o c
    have htasks := measured_reads (g := fun c => c.tasks) (fun _ => rfl) (fun _ _ => rfl) p t2 q r o c
    generalize bump 0x1A0 (stamp p true t2 0 q r o c) = e at *
    have hservo : e.time.servo = c.time.servo := (congrArg TimeEng.servo hring :)
    have hclock : e.time.clock = c.time.clock := (congrArg TimeEng.clock hring :)
    have hsteps : e.time.steps = c.time.steps := (congrArg TimeEng.steps hring :)
    obtain ⟨hoff, hmem', htasks', hA, hB⟩ := servoStep_keeps off e
    refine ⟨hoff, hmem'.trans hmem, htasks'.trans htasks, hA.trans (congrArg TimeEng.portA hring :), hB.trans (congrArg TimeEng.portB hring :),
      fun hu hh hf => ?_, fun hu => ?_, fun hl hh hfar => ?_, fun hl hh hnear => ?_, fun hl hh hfar => ?_, fun hl hh hnear => ?_⟩
    · rw [servoStep_steps (hservo.trans hu) (hheld.trans hh) ((congrArg TimeEng.firstOff hring :).trans hf)]
      have hset := steered_setServo .locking (stepClock ((e.time.clock : Int) - off).toNat (updTime (fun t => { t with offset := satOffset off }) e))
      simp only [Chip.steered, Prod.mk.injEq] at hset
      obtain ⟨-, -, -, -, -, hclock', hsteps'⟩ := hset
      rw [hclock', hsteps', time_stepClock, servo_setServo, ← hclock, ← hsteps]
      exact ⟨rfl, rfl, rfl⟩
    · have h := steered_servoStep off (hservo ▸ hu)
      simp only [Chip.steered, Prod.mk.injEq] at h
      obtain ⟨-, -, -, -, -, hclock', hsteps'⟩ := h
      exact ⟨hclock'.trans hclock, hsteps'.trans hsteps⟩
    · exact servo_servoStep_far (hservo.trans hl) (hheld.trans hh) (by rwa [hcfg])
    · exact servo_servoStep_near (hservo.trans hl) (hheld.trans hh) (by rwa [hcfg])
    · exact servoStep_diverges (hservo.trans hl) (hheld.trans hh) (by rwa [hcfg])
    · exact servo_servoStep_within (hservo.trans hl) (hheld.trans hh) (by rwa [hcfg])
  case exchange => exact takes_reach (fun _ => rfl) (fun _ h => h) fun _ _ => rfl
  case e2e =>
    refine takes_reach (fun _ => rfl) (fun _ h => h.1) fun c ⟨_, hmech, hst⟩ => ?_
    dsimp only
    rw [hmech, hst]
    rfl
  case p2p =>
    refine takes_reach (fun _ => rfl) (fun _ h => h.1) fun c ⟨_, hmech, hlink, hst⟩ => ?_
    dsimp only
    rw [hmech, if_pos rfl, if_pos (by simp [hlink, hst])]
  case master =>
    refine takes_reach (fun _ => rfl) (fun _ h => h.1) fun c ⟨_, hst⟩ => if_neg (by simp [hst])
  case noMaster =>
    refine takes_reach (fun _ => rfl) (fun _ h => h.1) fun c ⟨_, hst⟩ => if_pos (by simp [hst])
  case pdelay =>
    refine takes_reach (fun _ => rfl) (fun _ h => h.1) fun c ⟨_, hmech, hst⟩ => if_pos ?_
    rw [stamp_reads (g := p2p) (fun _ => rfl) (fun _ _ => rfl),
      stamp_reads (g := fun c => ptpPort c p) (fun _ => rfl) (fun m c => by cases p <;> rfl), hmech, hst]
    rfl
  case delay =>
    refine takes_reach (fun _ => rfl) (fun _ h => h.1) fun c ⟨_, hmech, hst⟩ => if_pos ?_
    rw [stamp_reads (g := p2p) (fun _ => rfl) (fun _ _ => rfl),
      stamp_reads (g := fun c => ptpPort c p) (fun _ => rfl) (fun m c => by cases p <;> rfl), hmech, hst]
    rfl
  case worse =>
    exact takes_reach (fun _ => rfl) (fun _ h => h.1) fun c ⟨_, hmay, hworse⟩ => if_pos (by simp [hmay, hworse])
  case first =>
    refine takes_reach (fun _ => rfl) (fun _ h => h.1) fun c ⟨_, hmay, hgm⟩ => (if_neg (by simp [hmay])).trans ?_
    dsimp only
    rw [hgm]
    rfl
  case announceLocked =>
    refine does_of_lift (f := evPtpAnnounceTimeout dt) rfl ?_
    rw [evPtpAnnounceTimeout_locked hstill hl]
    obtain ⟨hservo, hfreq, hclock, hA, hB, hmem⟩ := enterHoldover_keeps 0x0820 (masterless (pass dt s.chip))
    obtain ⟨hservo', hfreq', hclock', hmem', hgmA, hgmB⟩ := electPorts_alone_keeps hA hB
    exact ⟨hservo'.trans hservo, hfreq'.trans hfreq, hclock'.trans hclock, hgmA, hgmB, hmem'.trans hmem⟩
  case syncLocked =>
    refine does_reach (f := fun c => if c.time.servo = .locked then enterHoldover 0x0820 c else c) (fun _ => rfl) hstill ?_
    obtain ⟨hservo, hfreq, hclock, -, -, hmem⟩ := enterHoldover_keeps 0x0820 (pass dt s.chip)
    rw [if_pos hl]
    exact ⟨hservo, hfreq, hclock, hmem⟩
  case grandmaster =>
    refine does_of_lift (f := evPtpAnnounceTimeout dt) rfl ?_
    rw [evPtpAnnounceTimeout_holdover hstill hh hm]
    have hset := steered_setServo .grandmaster (masterless (pass dt s.chip))
    simp only [Chip.steered, Prod.mk.injEq] at hset
    obtain ⟨-, -, hA, hB, -, hclock, -⟩ := hset
    have hservo := servo_setServo .grandmaster (masterless (pass dt s.chip))
    generalize setServo .grandmaster (masterless (pass dt s.chip)) = d at *
    have htime := (keeps_record 0x0828 0 []).time (updTime (fun t => { t with gmId := (pass dt s.chip).sup.serial, freq := t.learned }) d)
    rw [time_updTime] at htime
    generalize record 0x0828 0 [] (updTime (fun t => { t with gmId := (pass dt s.chip).sup.serial, freq := t.learned }) d) = r at *
    rw [electPorts_alone (by rw [htime, hA]; rfl) (by rw [htime, hB]; rfl), time_updTime, htime]
    exact ⟨hservo, hclock, rfl⟩
  case notLocked =>
    refine goes_of_lift (f := evPtpSyncTimeout dt) rfl ((reach_still hstill).trans (if_neg hl))
  case swap =>
    refine does_of_lift (f := evPtpPortChanged dt) rfl ?_
    unfold evPtpPortChanged
    rw [reach_still hstill]
    generalize pass dt s.chip = c at *
    dsimp only
    rw [if_pos ⟨ha, hb⟩, (keeps_record _ _ _).time, (keeps_record _ _ _).reads (g := fun c => c.mem) fun _ => rfl]
    exact ⟨rfl, rfl, rfl, rfl, rfl⟩
  case long =>
    exact takes_of_lift (f := evHoldoverLong dt) (fun _ => rfl) fun c ⟨hh, hd, ht⟩ => if_pos ⟨hh, by rw [hd]; rfl, ht⟩
  case longDone =>
    exact takes_of_lift (f := evHoldoverLong dt) (fun _ => rfl) fun c hd => if_neg fun h => by
      rw [hd] at h
      exact absurd h.2.1 (by decide)
  case missing =>
    exact takes_of_lift (f := evPtpTsMissing dt p) (fun _ => rfl) fun c h => if_pos (Option.isSome_iff_ne_none.2 h)
  case notMissing =>
    exact takes_of_lift (f := evPtpTsMissing dt p) (fun _ => rfl) fun c h => if_neg (by rw [h]; decide)
  case save => exact takes_of_lift (f := evFreqCorrectionSave dt) (fun _ => rfl) fun c h => if_pos h
  case noSave => exact takes_of_lift (f := evFreqCorrectionSave dt) (fun _ => rfl) fun c h => if_neg h

end Sys2Proof.Machine
end

section
/-! CAN channels (R280, R283 to R289, R292 to R294): reception into an object, the choice of a buffer, the ends of a transmission, errors
and bus-off. -/
namespace Sys2Proof.Machine

open Sys2Proof Sys2Proof.Safety

/-! ### A channel and its buffers -/

/-- A channel without its transmit buffers. -/
def CanCh.rest (h : CanCh) : CanCh := { h with tx := [] }

/-- A transmit buffer without the host requests that wait for its end. -/
def TxBuf.anon (b : TxBuf) : TxBuf := { b with host := [] }

/-- A channel without its transmit buffers. -/
def chan (c : Chip) (ch : Nat) : CanCh := (canCh c ch).rest

/-- A transmit buffer without the host requests that wait for its end. -/
def buf (c : Chip) (ch bf : Nat) : TxBuf := (txBuf c ch bf).anon

theorem canCh_core (c : Chip) (ch : Nat) : canCh c.core ch = { canCh c ch with tx := Map.mapV (canCh c ch).tx (fun _ b => b.anon) } :=
  Map.getD_mapV c.can (fun _ h => { h with tx := Map.mapV h.tx (fun _ b => b.anon) }) ch rfl

theorem chan_core (c : Chip) : chan c.core = chan c := by
  funext ch
  rw [chan, canCh_core]
  rfl

theorem buf_core (c : Chip) : buf c.core = buf c := by
  funext ch bf
  rw [buf, txBuf, canCh_core]
  exact (congrArg TxBuf.anon (Map.getD_mapV (canCh c ch).tx (fun _ b => b.anon) bf rfl)).trans rfl

theorem canBusy_core (c : Chip) : canBusy c.core = canBusy c := by
  funext ch
  rw [canBusy, canCh_core, canBusy]
  simp only [Map.mapV, List.find?_map, Option.map_map]
  rfl

theorem Keeps.chan {f : Chip → Chip} (hf : Keeps f) (c : Chip) : chan (f c) = chan c := hf.reads (g := Machine.chan) chan_core c

theorem Keeps.buf {f : Chip → Chip} (hf : Keeps f) (c : Chip) : buf (f c) = buf c := hf.reads (g := Machine.buf) buf_core c

theorem Keeps.canBusy {f : Chip → Chip} (hf : Keeps f) (c : Chip) : canBusy (f c) = canBusy c := hf.reads (g := Machine.canBusy) canBusy_core c

@[simp] theorem canCh_updCan_self (ch : Nat) (f : CanCh → CanCh) (c : Chip) : canCh (updCan ch f c) ch = f (canCh c ch) := by
  simp [canCh, updCan]

theorem canCh_updCan_ne {ch k : Nat} (f : CanCh → CanCh) (c : Chip) (h : k ≠ ch) : canCh (updCan ch f c) k = canCh c k := by
  simp [canCh, updCan, Map.getD_upd_ne _ _ _ _ _ _ h]

/-- A change of a channel that leaves its buffers leaves every buffer. -/
theorem buf_updCan {ch : Nat} {f : CanCh → CanCh} (hf : ∀ h, (f h).tx = h.tx) (c : Chip) : buf (updCan ch f c) = buf c := by
  funext k bf
  rw [buf, txBuf, buf, txBuf]
  by_cases h : k = ch
  · subst h
    rw [canCh_updCan_self, hf]
  · rw [canCh_updCan_ne _ _ h]

theorem canBusy_updCan {ch : Nat} {f : CanCh → CanCh} (hf : ∀ h, (f h).tx = h.tx) (c : Chip) : canBusy (updCan ch f c) ch = canBusy c ch := by
  rw [canBusy, canCh_updCan_self, hf, canBusy]

theorem chan_updTx (ch bf : Nat) (f : TxBuf → TxBuf) (c : Chip) : chan (updTx ch bf f c) = chan c := by
  funext k
  rw [chan, chan, updTx]
  by_cases h : k = ch
  · subst h
    rw [canCh_updCan_self]
    rfl
  · rw [canCh_updCan_ne _ _ h]

@[simp] theorem txBuf_updTx_self (ch bf : Nat) (f : TxBuf → TxBuf) (c : Chip) : txBuf (updTx ch bf f c) ch bf = f (txBuf c ch bf) := by
  simp [txBuf, updTx]

theorem txBuf_updTx_ne {ch bf u : Nat} (f : TxBuf → TxBuf) (c : Chip) (h : u ≠ bf) : txBuf (updTx ch bf f c) ch u = txBuf c ch u := by
  simp [txBuf, updTx, Map.getD_upd_ne _ _ _ _ _ _ h]

theorem buf_updTx_self (ch bf : Nat) {f : TxBuf → TxBuf} (hf : ∀ b, (f b).anon = f b.anon) (c : Chip) :
    buf (updTx ch bf f c) ch bf = f (buf c ch bf) := by
  rw [buf, txBuf_updTx_self, hf, buf]

theorem buf_updTx_ne {ch bf u : Nat} (f : TxBuf → TxBuf) (c : Chip) (h : u ≠ bf) : buf (updTx ch bf f c) ch u = buf c ch u := by
  rw [buf, txBuf_updTx_ne f c h, buf]

/-! ### The ends of a request -/

/-- A buffer as the end of its request with a status leaves it. -/
def TxBuf.ended (st flags : Nat) (b : TxBuf) : TxBuf :=
  { b with st := st, flags := b.flags ||| flags, frame := none, busy := false, abort := false, retry := false }

theorem canHostDone_eq (ch bf : Nat) (c : Chip) : ∃ k, Keeps k ∧ canHostDone ch bf c = k (updTx ch bf TxBuf.anon c) :=
  ⟨_, Keeps.forAll _ fun _ => keeps_complete _ _ _ _ _, rfl⟩

/-- A request ends in its buffer; what waits for it is told. -/
theorem canFinal_eq (ch bf st flags : Nat) (c : Chip) : ∃ k, Keeps k ∧ canFinal ch bf st flags c =
    k (updTx ch bf TxBuf.anon (updTx ch bf (TxBuf.ended st flags) c)) := canHostDone_eq ch bf _

section
variable (ch bf st flags : Nat) (c : Chip)

theorem chan_canFinal : chan (canFinal ch bf st flags c) = chan c := by
  obtain ⟨k, hk, h⟩ := canFinal_eq ch bf st flags c
  rw [h, hk.chan, chan_updTx, chan_updTx]

theorem buf_canFinal_self : buf (canFinal ch bf st flags c) ch bf = (buf c ch bf).ended st flags := by
  obtain ⟨k, hk, h⟩ := canFinal_eq ch bf st flags c
  rw [h, hk.buf, buf_updTx_self ch bf (f := TxBuf.anon) (fun _ => rfl), buf_updTx_self ch bf (f := TxBuf.ended st flags) (fun _ => rfl)]
  rfl

theorem buf_canFinal_ne {u : Nat} (hu : u ≠ bf) : buf (canFinal ch bf st flags c) ch u = buf c ch u := by
  obtain ⟨k, hk, h⟩ := canFinal_eq ch bf st flags c
  rw [h, hk.buf, buf_updTx_ne _ _ hu, buf_updTx_ne _ _ hu]

end

/-! ### What does not lie in the channels -/

section
variable {β : Type} {g : Chip → β} (hcore : ∀ c, g c.core = g c) (hcan : ∀ m c, g { c with can := m } = g c)
include hcore hcan

theorem canFinal_keeps (ch bf st flags : Nat) (c : Chip) : g (canFinal ch bf st flags c) = g c := by
  obtain ⟨k, hk, h⟩ := canFinal_eq ch bf st flags c
  rw [h, hk.reads hcore, updTx, updCan, hcan, updTx, updCan, hcan]

theorem canState_keeps (ch : Nat) (c : Chip) : g (canState ch c) = g c := by
  unfold canState
  dsimp only
  split
  · rfl
  · split
    · exact ((keeps_record _ _ _).reads hcore _).trans (hcan _ c)
    · split
      · exact ((keeps_record _ _ _).reads hcore _).trans (hcan _ c)
      · exact hcan _ c

theorem canViol_keeps (ch cls : Nat) (id : Option Nat) (c : Chip) : g (canViol ch cls id c) = g c :=
  ((keeps_record _ _ _).reads hcore _).trans (hcan _ c)

theorem canRetry_keeps (ch bf : Nat) (c : Chip) : g (canRetry ch bf c) = g c := by
  unfold canRetry
  split
  · exact canFinal_keeps hcore hcan ch bf 4 0 c
  · exact hcan _ c

theorem canBusOff_keeps (hevt : ∀ b t c, g (raiseEvt b t c) = g c) (ch : Nat) (c : Chip) : g (canBusOff ch c) = g c := by
  unfold canBusOff raiseBound
  dsimp only
  rw [when_keeps g _ _ _ (hevt _ _ _), (keeps_record _ _ _).reads hcore, updCan, hcan]
  exact forAll_keeps g _ _ (fun b c => (canFinal_keeps hcore hcan _ _ _ _ _).trans (hcan _ c)) c

end

/-! ### The state of a channel -/

theorem canLive_live (c : Chip) (ch : Nat) (h : CanCh) : (canLive c ch h).live = true := by
  unfold canLive
  split
  · rfl
  · split <;> rfl

/-- A channel on the bus stays on it. -/
theorem canState_eq {ch : Nat} {c : Chip} (h : (canCh c ch).st.live = true) :
    ∃ n k, CanSt.live n = true ∧ Keeps k ∧ canState ch c = k (updCan ch (fun h => { h with st := n }) c) := by
  refine ⟨canLive c ch (canCh c ch), ?_⟩
  unfold canState
  dsimp only
  rw [if_neg (by rw [h]; decide)]
  split
  · exact ⟨_, canLive_live _ _ _, keeps_record _ _ _, rfl⟩
  · split
    · exact ⟨_, canLive_live _ _ _, keeps_record _ _ _, rfl⟩
    · exact ⟨id, canLive_live _ _ _, keeps_id, rfl⟩

theorem canState_of_not_live {ch : Nat} {c : Chip} (h : (canCh c ch).st.live = false) : canState ch c = c := by
  unfold canState
  dsimp only
  rw [h]
  rfl

theorem chan_canState (ch : Nat) (c : Chip) : ∃ n : CanSt, ((canCh c ch).st.live = true → n.live = true)
    ∧ chan (canState ch c) ch = { chan c ch with st := n } ∧ ∀ k, k ≠ ch → chan (canState ch c) k = chan c k := by
  cases h : (canCh c ch).st.live with
  | false =>
    rw [canState_of_not_live h]
    exact ⟨(chan c ch).st, nofun, rfl, fun _ _ => rfl⟩
  | true =>
    obtain ⟨n, k, hn, hk, heq⟩ := canState_eq h
    refine ⟨n, fun _ => hn, ?_, fun u hu => ?_⟩
    · rw [heq, hk.chan, chan, canCh_updCan_self]
      rfl
    · rw [heq, hk.chan, chan, canCh_updCan_ne _ _ hu, chan]

theorem buf_canState (ch : Nat) (c : Chip) : buf (canState ch c) = buf c := by
  cases h : (canCh c ch).st.live with
  | false => rw [canState_of_not_live h]
  | true =>
    obtain ⟨n, k, -, hk, heq⟩ := canState_eq h
    rw [heq, hk.buf]
    exact buf_updCan (f := fun h => { h with st := n }) (fun _ => rfl) c

/-- A channel whose settings are not due for a change is as it was. -/
theorem canSettle_of_not_due {ch : Nat} {c : Chip} (h : (chan c ch).setDue = false) : canSettle ch c = c := by
  have hdue : (canCh c ch).setDue = false := h
  rw [canSettle, hdue]
  rfl

/-! ### The choice of a buffer (R283) -/

/-- Of two entries the one with the lower key, the earlier one where the keys are equal. -/
def lower {α : Type} (key : α → Nat) (m : Option α) (b : α) : Option α :=
  match m with
  | none => some b
  | some a => if key b < key a then some b else some a

/-- The entry chosen from a list has the lowest key. -/
theorem foldl_lower {α : Type} (key : α → Nat) (l : List α) {m : Option α} {r : α} (h : l.foldl (lower key) m = some r) :
    (r ∈ l ∨ m = some r) ∧ (∀ x ∈ l, key r ≤ key x) ∧ ∀ x, m = some x → key r ≤ key x := by
  induction l generalizing m with
  | nil => exact ⟨.inr h, nofun, fun x hx => by rw [List.foldl_nil, hx] at h; injection h with h; rw [h]⟩
  | cons b t ih =>
    obtain ⟨hmem, hall, hfrom⟩ := ih h
    cases m with
    | none =>
      have hb : key r ≤ key b := hfrom b rfl
      refine ⟨.inl ?_, fun x hx => ?_, nofun⟩
      · rcases hmem with h | h
        · exact .tail _ h
        · injection h with h
          exact h ▸ .head _
      · rcases List.mem_cons.1 hx with rfl | hx
        · exact hb
        · exact hall x hx
    | some a =>
      have hstep : lower key (some a) b = if key b < key a then some b else some a := rfl
      by_cases hlt : key b < key a
      · rw [if_pos hlt] at hstep
        have hb : key r ≤ key b := hfrom b hstep
        refine ⟨.inl ?_, fun x hx => ?_, fun x hx => ?_⟩
        · rcases hmem with h | h
          · exact .tail _ h
          · rw [hstep] at h
            injection h with h
            exact h ▸ .head _
        · rcases List.mem_cons.1 hx with rfl | hx
          · exact hb
          · exact hall x hx
        · injection hx with hx
          exact hx ▸ hb.trans hlt.le
      · rw [if_neg hlt] at hstep
        have ha : key r ≤ key a := hfrom a hstep
        refine ⟨?_, fun x hx => ?_, fun x hx => ?_⟩
        · rcases hmem with h | h
          · exact .inl (.tail _ h)
          · exact .inr (hstep ▸ h)
        · rcases List.mem_cons.1 hx with rfl | hx
          · exact ha.trans (not_lt.1 hlt)
          · exact hall x hx
        · injection hx with hx
          exact hx ▸ ha

/-- Key under which a buffer wins arbitration. -/
def TxBuf.key (b : TxBuf) : Nat := (b.frame.map arbKey).getD 0

theorem canChoose_eq {c : Chip} {ch : Nat} (h : cfgb c (0x4000 + ch) 1 6 = false) : canChoose c ch =
    (((canCh c ch).tx.filter (fun b => b.2.st == 2 && b.2.frame.isSome)).foldl (lower fun b => b.2.key) none).map (·.1) := by
  unfold canChoose
  dsimp only
  rw [h, if_neg (by decide)]
  congr 2
  funext m b
  cases m with
  | none => rfl
  | some a =>
    obtain ⟨ka, ⟨_, _, _, fa, _, _, _, _, _, _⟩⟩ := a
    obtain ⟨kb, ⟨_, _, _, fb, _, _, _, _, _, _⟩⟩ := b
    cases fa <;> cases fb <;> rfl

/-! ### Bus-off (R294) -/

/-- A buffer that is pending has an entry. -/
theorem mem_tx_of_pending {c : Chip} {ch bf : Nat} (h : (txBuf c ch bf).st = 1 ∨ (txBuf c ch bf).st = 2) : (bf, txBuf c ch bf) ∈ (canCh c ch).tx := by
  have hfind : ∀ m : Map TxBuf, (Map.getD m bf {}).st = 1 ∨ (Map.getD m bf {}).st = 2 → (bf, Map.getD m bf {}) ∈ m := fun m => by
    induction m with
    | nil => exact fun h => absurd h (by rw [Map.getD, Map.find]; decide)
    | cons x r ih =>
      obtain ⟨j, b⟩ := x
      intro h
      by_cases hj : j = bf
      · simp [Map.getD, Map.find, hj]
      · simp only [Map.getD, Map.find, if_neg hj] at h ⊢
        exact .tail _ (ih h)
  exact hfind _ h

/-- The end of one pending request at bus-off. -/
def dropRequest (ch : Nat) (b : Nat × TxBuf) (c : Chip) : Chip := canFinal ch b.1 5 0 (updTx ch b.1 (fun x => { x with held := none }) c)

/-- Bus-off: the pending requests end, the channel leaves the bus, and the change is told. -/
theorem canBusOff_eq (ch : Nat) (c : Chip) : ∃ rec, Keeps rec ∧ canBusOff ch c =
    (let d := forAll ((canCh c ch).tx.filter (fun b => b.2.st == 1 || b.2.st == 2)) (dropRequest ch) c
     let d := rec (updCan ch (fun h => { h with st := if cfgb d (0x4000 + ch) 1 7 then .busOff else .recovering, busoffs := (h.busoffs + 1) % 2 ^ 32 }) d)
     raiseBound (cfgb d (0x4000 + ch) 1 16) 2 (cfg d (0x4000 + ch) 1 15 8) d) := ⟨_, keeps_record _ _ _, rfl⟩

theorem chan_dropRequest (ch : Nat) (b : Nat × TxBuf) (c : Chip) : chan (dropRequest ch b c) = chan c :=
  (chan_canFinal _ _ _ _ _).trans (chan_updTx _ _ _ _)

theorem st_dropRequest_self (ch : Nat) (b : Nat × TxBuf) (c : Chip) : (buf (dropRequest ch b c) ch b.1).st = 5 := by
  rw [dropRequest, buf_canFinal_self]
  rfl

theorem st_dropRequest (ch : Nat) (b : Nat × TxBuf) (c : Chip) (u : Nat) (h : (buf c ch u).st = 5) : (buf (dropRequest ch b c) ch u).st = 5 := by
  by_cases hu : u = b.1
  · rw [hu, st_dropRequest_self]
  · rw [dropRequest, buf_canFinal_ne _ _ _ _ _ hu, buf_updTx_ne _ _ hu, h]

theorem raiseBound_chan (v : Bool) (b t : Nat) (c : Chip) : chan (raiseBound v b t c) = chan c :=
  when_keeps chan _ _ _ (congrArg (fun m => fun ch => (Map.getD m ch ({} : CanCh)).rest) (raiseEvt_can b t c))

theorem raiseBound_buf (v : Bool) (b t : Nat) (c : Chip) : buf (raiseBound v b t c) = buf c :=
  when_keeps buf _ _ _ (congrArg (fun m => fun ch bf => (Map.getD (Map.getD m ch ({} : CanCh)).tx bf ({} : TxBuf)).anon) (raiseEvt_can b t c))

theorem chan_canBusOff (ch : Nat) (c : Chip) : chan (canBusOff ch c) ch =
    { chan c ch with st := if cfgb c (0x4000 + ch) 1 7 then .busOff else .recovering, busoffs := ((chan c ch).busoffs + 1) % 2 ^ 32 } := by
  obtain ⟨r, hr, h⟩ := canBusOff_eq ch c
  rw [h]
  dsimp only
  generalize (canCh c ch).tx.filter (fun b => b.2.st == 1 || b.2.st == 2) = l
  have hloop := congrFun (forAll_keeps chan l (dropRequest ch) (chan_dropRequest ch) c) ch
  have hcfg := forAll_keeps cfgb l (dropRequest ch)
    (fun _ _ => (canFinal_keeps (g := cfgb) (fun _ => rfl) (fun _ _ => rfl) _ _ _ _ _).trans rfl) c
  generalize forAll l (dropRequest ch) c = d at *
  rw [raiseBound_chan, hr.chan, chan, canCh_updCan_self, ← hloop, hcfg]
  rfl

/-- Every request that was pending has ended. -/
theorem st_canBusOff {ch u : Nat} {c : Chip} (hu : (txBuf c ch u).st = 1 ∨ (txBuf c ch u).st = 2) : (buf (canBusOff ch c) ch u).st = 5 := by
  obtain ⟨r, hr, h⟩ := canBusOff_eq ch c
  rw [h]
  dsimp only
  have hmem : (u, txBuf c ch u) ∈ (canCh c ch).tx.filter (fun b => b.2.st == 1 || b.2.st == 2) :=
    List.mem_filter.2 ⟨mem_tx_of_pending hu, by simpa using hu⟩
  have hloop := forAll_attains (P := fun c => (buf c ch u).st = 5) (a := (u, txBuf c ch u)) (st_dropRequest_self ch _)
    (fun b c h => st_dropRequest ch b c u h) hmem c
  generalize forAll _ (dropRequest ch) c = d at *
  rw [raiseBound_buf, hr.buf, buf_updCan]
  · exact hloop
  · exact fun _ => rfl

/-! ### A frame that is lost, and a violation -/

theorem chan_canRetry (ch bf : Nat) (c : Chip) : chan (canRetry ch bf c) = chan c := by
  unfold canRetry
  split
  · exact chan_canFinal _ _ _ _ _
  · exact chan_updTx _ _ _ _

theorem chan_canViol (ch cls : Nat) (id : Option Nat) (c : Chip) : chan (canViol ch cls id c) ch =
    { chan c ch with viol := Map.upd (chan c ch).viol cls 0 (fun n => (n + 1) % 2 ^ 32) } := by
  unfold canViol
  dsimp only
  rw [(keeps_record _ _ _).chan, chan, canCh_updCan_self]
  rfl

theorem buf_canViol (ch cls : Nat) (id : Option Nat) (c : Chip) : buf (canViol ch cls id c) = buf c := by
  unfold canViol
  dsimp only
  rw [(keeps_record _ _ _).buf]
  exact buf_updCan (by exact fun _ => rfl) c

theorem canBusy_canViol (ch cls : Nat) (id : Option Nat) (c : Chip) : canBusy (canViol ch cls id c) ch = canBusy c ch := by
  unfold canViol
  dsimp only
  rw [(keeps_record _ _ _).canBusy]
  exact canBusy_updCan (by exact fun _ => rfl) c

/-! ### Reception (R288, R289) -/

/-- A frame stored in an object goes into the slot of the parity of its sequence number. -/
theorem canStore_slot (f : CanFrame) (ts : Nat) (o : CanObj) :
    (canStore f ts o).seq = (o.seq + 1) % 65536 ∧ (canStore f ts o).isNew = true
      ∧ canCopy (canStore f ts o) = some { frame := f, seq := (canStore f ts o).seq, ts := ts }
      ∧ ((canStore f ts o).seq % 2 = 0 → (canStore f ts o).slot1 = o.slot1)
      ∧ ((canStore f ts o).seq % 2 = 1 → (canStore f ts o).slot0 = o.slot0) ∧ (canStore f ts o).cap = o.cap := by
  unfold canStore canCopy
  dsimp only
  generalize (o.seq + 1) % 65536 = n
  by_cases h : n % 2 = 0
  · rw [if_pos h]
    exact ⟨rfl, rfl, if_pos h, fun _ => rfl, fun h1 => absurd (h.symm.trans h1) (by decide), rfl⟩
  · rw [if_neg h]
    exact ⟨rfl, rfl, if_neg h, fun h0 => absurd h0 h, fun _ => rfl, rfl⟩

/-- A channel that has heard a frame, with its receive error count. -/
def heardFrame (ch r : Nat) (c : Chip) : Chip := canState ch (updCan ch (fun h => { h with recCnt := r }) c)

theorem chan_heardFrame (ch r : Nat) (c : Chip) : (∃ n : CanSt, chan (heardFrame ch r c) ch = { chan c ch with recCnt := r, st := n })
    ∧ ∀ k, k ≠ ch → chan (heardFrame ch r c) k = chan c k := by
  obtain ⟨n, -, hown, hother⟩ := chan_canState ch (updCan ch (fun h => { h with recCnt := r }) c)
  refine ⟨⟨n, ?_⟩, fun k hk => ?_⟩
  · rw [heardFrame, hown, chan, canCh_updCan_self]
    rfl
  · rw [heardFrame, hother k hk, chan, canCh_updCan_ne _ _ hk, chan]

theorem heardFrame_keeps {β : Type} {g : Chip → β} (hcore : ∀ c, g c.core = g c) (hcan : ∀ m c, g { c with can := m } = g c) (ch r : Nat)
    (c : Chip) : g (heardFrame ch r c) = g c := (canState_keeps hcore hcan ch _).trans (hcan _ c)

/-- The frame stored in an object of a channel that has heard it. -/
def storedFrame (ch o : Nat) (x : CanObj) (c : Chip) : Chip :=
  bump (0x171 + 8 * ch) (updCan ch (fun h => { h with objs := Map.put h.objs o x }) c)

theorem chan_storedFrame (ch o : Nat) (x : CanObj) (c : Chip) :
    chan (storedFrame ch o x c) ch = { chan c ch with objs := Map.put (chan c ch).objs o x }
      ∧ ∀ k, k ≠ ch → chan (storedFrame ch o x c) k = chan c k := by
  unfold storedFrame
  rw [(keeps_bump _).chan]
  refine ⟨?_, fun k hk => ?_⟩
  · rw [chan, canCh_updCan_self]
    rfl
  · rw [chan, canCh_updCan_ne _ _ hk, chan]

/-- A data frame that an object's filter takes is stored there, where its rate has no limit. -/
theorem evCanFrameReceived_stores {dt ch age o : Nat} {f : CanFrame} {c d : Chip} (hd : pass dt c = d) (hlive : (canCh d ch).st.live = true)
    (hrec : (canCh d ch).recCnt < 128) (hrtr : f.rtr = false)
    (hhit : (List.range 128).find? (fun o => canMatch (setWord d.sets.main (objIx ch o) 1) (setWord d.sets.main (objIx ch o) 2) false f) = some o)
    (hlim : cfg d (objIx ch o) 3 15 0 = 0) : evCanFrameReceived dt ch age f c =
      storedFrame ch o (canStore f (d.time.clock - age) (Map.getD (canCh d ch).objs o {})) (heardFrame ch ((canCh d ch).recCnt - 1) d) := by
  have hkeeps : ∀ {β : Type} (g : Chip → β), (∀ c, g c.core = g c) → (∀ m c, g { c with can := m } = g c) →
      g (canState ch (updCan ch (fun h => { h with recCnt := (canCh d ch).recCnt - 1 }) d)) = g d :=
    fun g hcore hcan => heardFrame_keeps hcore hcan ch _ d
  obtain ⟨⟨n, hown⟩, -⟩ := chan_heardFrame ch ((canCh d ch).recCnt - 1) d
  have hobjs : (canCh (heardFrame ch ((canCh d ch).recCnt - 1) d) ch).objs = (canCh d ch).objs := (congrArg CanCh.objs hown :)
  rw [← hobjs]
  unfold evCanFrameReceived
  rw [hd]
  dsimp only
  rw [hlive, if_neg (by decide), if_neg hrec.not_ge, hkeeps (fun c => c.sets.main) (fun _ => rfl) (fun _ _ => rfl)]
  simp only [hrtr, Bool.not_false, Bool.true_and, hhit]
  rw [hkeeps cfg (fun _ => rfl) (fun _ _ => rfl), hlim, if_pos rfl]
  exact if_pos rfl

/-! ### A frame sent or lost (R285 to R287) -/

theorem chan_bump (n : Nat) (c : Chip) : chan (bump n c) = chan c := (keeps_bump n).chan c

theorem buf_bump (n : Nat) (c : Chip) : buf (bump n c) = buf c := (keeps_bump n).buf c

section
variable {dt ch bf : Nat} {c d : Chip} (hd : pass dt c = d) (hbusy : canBusy d ch = some bf) (hdue : (chan d ch).setDue = false)
include hd hbusy hdue

/-- A frame sent ends its buffer's request; without a request held nothing else happens. -/
theorem evCanFrameSent_ends (hheld : (buf d ch bf).held = none) : ∃ e, chan e ch = { chan d ch with tec := (chan d ch).tec - 1, st := (chan e ch).st }
    ∧ buf e = buf d ∧ e.mem = d.mem
    ∧ evCanFrameSent dt ch none c = updTx ch bf (fun b => { b with held := none }) (bump (0x170 + 8 * ch)
        (canFinal ch bf (if (txBuf d ch bf).abort then 0x83 else 3) (b01 (txBuf d ch bf).abort) e)) := by
  obtain ⟨n, -, hst, -⟩ := chan_canState ch (updCan ch (fun h => { h with tec := h.tec - 1 }) d)
  have hbuf : buf (canState ch (updCan ch (fun h => { h with tec := h.tec - 1 }) d)) = buf d :=
    (buf_canState ch _).trans (buf_updCan (f := fun h => { h with tec := h.tec - 1 }) (fun _ => rfl) d)
  have hmem : (canState ch (updCan ch (fun h => { h with tec := h.tec - 1 }) d)).mem = d.mem :=
    (canState_keeps (g := fun c => c.mem) (fun _ => rfl) (fun _ _ => rfl) ch _).trans rfl
  have hown : chan (updCan ch (fun h => { h with tec := h.tec - 1 }) d) ch = { chan d ch with tec := (chan d ch).tec - 1 } := by
    rw [chan, canCh_updCan_self]
    rfl
  rw [hown] at hst
  refine ⟨canState ch (updCan ch (fun h => { h with tec := h.tec - 1 }) d), ?_, hbuf, hmem, ?_⟩
  · rw [hst]
  generalize he : canState ch (updCan ch (fun h => { h with tec := h.tec - 1 }) d) = e at *
  have hnone : (txBuf e ch bf).held = none := (congrArg TxBuf.held (congrFun (congrFun hbuf ch) bf)).trans hheld
  unfold evCanFrameSent
  rw [hd]
  dsimp only
  rw [hbusy]
  dsimp only
  rw [he, hnone]
  have hraise : ∀ x, canRaiseHeld ch bf (updTx ch bf (fun b => { b with held := none }) x) = updTx ch bf (fun b => { b with held := none }) x := fun x => by
    rw [canRaiseHeld, txBuf_updTx_self]
  rw [hraise, canSettle_of_not_due]
  rw [chan_updTx, chan_bump, chan_canFinal, hst]
  exact hdue

/-- What the row leaves: the buffer's request has ended, the others and the rest of the channel are as before. -/
theorem evCanFrameSent_leaves (hheld : (buf d ch bf).held = none) : ∃ e, evCanFrameSent dt ch none c = e
    ∧ buf e ch bf = { (buf d ch bf).ended (if (txBuf d ch bf).abort then 0x83 else 3) (b01 (txBuf d ch bf).abort) with held := none }
    ∧ (∀ u, u ≠ bf → buf e ch u = buf d ch u) ∧ (chan e ch).tec = (chan d ch).tec - 1 ∧ e.mem = d.mem := by
  obtain ⟨e, hchan, hbuf, hmem, hrow⟩ := evCanFrameSent_ends hd hbusy hdue hheld
  refine ⟨_, hrow, ?_, fun u hu => ?_, ?_, ?_⟩
  · rw [buf_updTx_self ch bf (f := fun b => { b with held := none }) fun _ => rfl, buf_bump, buf_canFinal_self, hbuf]
  · rw [buf_updTx_ne _ _ hu, buf_bump, buf_canFinal_ne _ _ _ _ _ hu, hbuf]
  · rw [chan_updTx, chan_bump, chan_canFinal, hchan]
  · refine ((keeps_bump _).reads (g := fun c => c.mem) (fun _ => rfl) _).trans ?_
    exact (canFinal_keeps (g := fun c => c.mem) (fun _ => rfl) (fun _ _ => rfl) _ _ _ _ e).trans hmem

/-- A lost arbitration. -/
theorem evCanArbitrationLost_retries : evCanArbitrationLost dt ch c = bump (0x172 + 8 * ch) (canRetry ch bf d) := by
  unfold evCanArbitrationLost
  rw [hd]
  dsimp only
  rw [hbusy]
  exact canSettle_of_not_due (by rwa [chan_bump, chan_canRetry])

end

/-- An abort that is pending ends the request of a frame that did not get through; without one it is tried again. -/
theorem buf_canRetry {ch bf : Nat} {c : Chip} : (buf (canRetry ch bf c) ch bf).busy = false
    ∧ ((buf c ch bf).abort = true → (buf (canRetry ch bf c) ch bf).st = 4 ∧ (buf (canRetry ch bf c) ch bf).frame = none)
    ∧ ((buf c ch bf).abort = false → (buf (canRetry ch bf c) ch bf).st = (buf c ch bf).st
      ∧ (buf (canRetry ch bf c) ch bf).frame = (buf c ch bf).frame ∧ (buf (canRetry ch bf c) ch bf).retry = true) := by
  unfold canRetry
  by_cases h : (txBuf c ch bf).abort = true
  · rw [if_pos h, buf_canFinal_self]
    exact ⟨rfl, fun _ => ⟨rfl, rfl⟩, fun h' => absurd (h.symm.trans h') (by decide)⟩
  · rw [if_neg h, buf_updTx_self ch bf (f := fun b => { b with busy := false, retry := true }) fun _ => rfl]
    exact ⟨rfl, fun h' => absurd h' h, fun _ => ⟨rfl, rfl, rfl⟩⟩

/-! ### Bus errors (R293) -/

/-- The counters of a channel after a bus error, and the count of the violation. -/
def violated (ch cls : Nat) (id : Option Nat) (a b : Nat) (c : Chip) : Chip :=
  canViol ch (cls + 1) id (updCan ch (fun h => { h with tec := Nat.min 255 ((canCh c ch).tec + a), recCnt := Nat.min 255 (h.recCnt + b) }) c)

theorem chan_violated (ch cls : Nat) (id : Option Nat) (a b : Nat) (c : Chip) : chan (violated ch cls id a b c) ch =
    { chan c ch with
      tec := Nat.min 255 ((canCh c ch).tec + a), recCnt := Nat.min 255 ((canCh c ch).recCnt + b)
      viol := Map.upd (chan c ch).viol (cls + 1) 0 (fun n => (n + 1) % 2 ^ 32) } := by
  rw [violated, chan_canViol, chan, canCh_updCan_self]
  rfl

theorem buf_violated (ch cls : Nat) (id : Option Nat) (a b : Nat) (c : Chip) : buf (violated ch cls id a b c) = buf c := by
  rw [violated, buf_canViol]
  exact buf_updCan (by exact fun _ => rfl) c

theorem violated_keeps {β : Type} {g : Chip → β} (hcore : ∀ c, g c.core = g c) (hcan : ∀ m c, g { c with can := m } = g c) (ch cls : Nat)
    (id : Option Nat) (a b : Nat) (c : Chip) : g (violated ch cls id a b c) = g c := (canViol_keeps hcore hcan _ _ _ _).trans (hcan _ c)

/-- A bus error while no frame is in progress. -/
theorem evCanBusError_counts {dt ch cls : Nat} {id : Option Nat} {a b : Nat} {c d : Chip} (hd : pass dt c = d)
    (hlive : (canCh d ch).st.live = true) (hdue : (canCh d ch).setDue = false) (hbusy : canBusy d ch = none) : evCanBusError dt ch cls id a b c =
      if 256 ≤ (canCh d ch).tec + a then canBusOff ch (violated ch cls id a b d) else canState ch (violated ch cls id a b d) := by
  have hnone : canBusy (violated ch cls id a b d) ch = none := by
    rw [violated, canBusy_canViol]
    exact (canBusy_updCan (by exact fun _ => rfl) d).trans hbusy
  have hown : (chan (violated ch cls id a b d) ch).setDue = false := by
    rw [chan_violated]
    exact hdue
  unfold evCanBusError
  unfold violated at hnone
  rw [hd]
  dsimp only
  rw [hlive, if_neg (by decide), hnone]
  change canSettle ch (if _ then canBusOff ch (violated ch cls id a b d) else canState ch (violated ch cls id a b d)) = _
  refine canSettle_of_not_due ?_
  split
  · rw [chan_canBusOff]
    exact hown
  · obtain ⟨n, -, hst, -⟩ := chan_canState ch (violated ch cls id a b d)
    rw [hst]
    exact hown

section
variable {dt ch cls : Nat} {id : Option Nat} {a b : Nat} {c d : Chip} (hd : pass dt c = d) (hlive : (canCh d ch).st.live = true)
  (hdue : (canCh d ch).setDue = false) (hbusy : canBusy d ch = none)
include hd hlive hdue hbusy

/-- A channel with 256 transmit errors or more leaves the bus. -/
theorem evCanBusError_off (hoff : 256 ≤ (canCh d ch).tec + a) : ∃ e, evCanBusError dt ch cls id a b c = e
    ∧ chan e ch = { chan (violated ch cls id a b d) ch with
        st := if cfgb d (0x4000 + ch) 1 7 then .busOff else .recovering, busoffs := ((chan d ch).busoffs + 1) % 2 ^ 32 }
    ∧ (∀ u, (buf d ch u).st = 1 ∨ (buf d ch u).st = 2 → (buf e ch u).st = 5) ∧ e.mem = d.mem ∧ e.io.ao = d.io.ao := by
  refine ⟨_, (evCanBusError_counts hd hlive hdue hbusy).trans (if_pos hoff), ?_, fun u hu => st_canBusOff ?_, ?_, ?_⟩
  · have hcfg := violated_keeps (g := cfgb) (fun _ => rfl) (fun _ _ => rfl) ch cls id a b d
    have hold : (chan (violated ch cls id a b d) ch).busoffs = (chan d ch).busoffs := (congrArg CanCh.busoffs (chan_violated ch cls id a b d) :)
    rw [chan_canBusOff, hcfg, hold]
  · rwa [← congrFun (congrFun (buf_violated ch cls id a b d) ch) u] at hu
  · exact (canBusOff_keeps (g := fun c => c.mem) (fun _ => rfl) (fun _ _ => rfl) raiseEvt_mem ch _).trans
      (violated_keeps (g := fun c => c.mem) (fun _ => rfl) (fun _ _ => rfl) ch cls id a b d)
  · exact (canBusOff_keeps (g := fun c => c.io.ao) (fun _ => rfl) (fun _ _ => rfl)
      (fun _ _ _ => congrArg Field.ao (raiseEvt_io _ _ _)) ch _).trans
      (violated_keeps (g := fun c => c.io.ao) (fun _ => rfl) (fun _ _ => rfl) ch cls id a b d)

/-- Below that it stays on the bus. -/
theorem evCanBusError_on (hon : ¬256 ≤ (canCh d ch).tec + a) : ∃ e, ∃ n : CanSt, evCanBusError dt ch cls id a b c = e ∧ n.live = true
    ∧ chan e ch = { chan (violated ch cls id a b d) ch with st := n } ∧ (∀ u, buf e ch u = buf d ch u) ∧ e.mem = d.mem ∧ e.io.ao = d.io.ao := by
  obtain ⟨n, hn, hown, -⟩ := chan_canState ch (violated ch cls id a b d)
  have hst : (canCh (violated ch cls id a b d) ch).st = (canCh d ch).st := (congrArg CanCh.st (chan_violated ch cls id a b d) :)
  refine ⟨_, n, (evCanBusError_counts hd hlive hdue hbusy).trans (if_neg hon), hn (by rwa [hst]), hown, fun u => ?_, ?_, ?_⟩
  · rw [buf_canState, buf_violated]
  · exact (canState_keeps (g := fun c => c.mem) (fun _ => rfl) (fun _ _ => rfl) ch _).trans
      (violated_keeps (g := fun c => c.mem) (fun _ => rfl) (fun _ _ => rfl) ch cls id a b d)
  · exact (canState_keeps (g := fun c => c.io.ao) (fun _ => rfl) (fun _ _ => rfl) ch _).trans
      (violated_keeps (g := fun c => c.io.ao) (fun _ => rfl) (fun _ _ => rfl) ch cls id a b d)

end

/-- The counters of a channel after a bus error. -/
theorem counts_violated (ch cls : Nat) (id : Option Nat) (a b : Nat) (c : Chip) :
    (chan (violated ch cls id a b c) ch).tec = Nat.min 255 ((canCh c ch).tec + a)
      ∧ (chan (violated ch cls id a b c) ch).recCnt = Nat.min 255 ((canCh c ch).recCnt + b)
      ∧ Map.getD (chan (violated ch cls id a b c) ch).viol (cls + 1) 0 = (Map.getD (canCh c ch).viol (cls + 1) 0 + 1) % 2 ^ 32
      ∧ (chan (violated ch cls id a b c) ch).busoffs = (canCh c ch).busoffs := by
  have hviol : Map.getD (Map.upd (chan c ch).viol (cls + 1) 0 fun n => (n + 1) % 2 ^ 32) (cls + 1) 0 = _ := Map.getD_upd_self _ _ _ _
  rw [chan_violated]
  exact ⟨rfl, rfl, hviol, rfl⟩

/-- Settles O43: a record or a completion leaves a channel but for the host requests of its buffers, so each row is read off the change
it makes of its channel and buffer. -/
theorem canRows : Obligations.CanRows := by
  unfold Obligations.CanRows
  refine ⟨fun dt ch age f s o hlive hrec hrtr hhit hlim => ?received, fun c ch bf hsched hchoose => ?choice, fun dt ch bf f => ?arbitration,
    fun dt ch s bf hbusy hheld hdue => ?sent, fun dt ch s bf hbusy hdue => ?lost, fun dt ch k id a b s hlive hdue hbusy => ?error,
    fun dt ch => ?recovery, fun dt ch s hst => ?integrated⟩
  case received =>
    refine does_of_lift (f := evCanFrameReceived dt ch age f) rfl ?_
    rw [evCanFrameReceived_stores rfl hlive hrec hrtr hhit hlim]
    generalize pass dt s.chip = d at *
    obtain ⟨⟨n, hown⟩, hother⟩ := chan_heardFrame ch ((canCh d ch).recCnt - 1) d
    have hmem : (heardFrame ch ((canCh d ch).recCnt - 1) d).mem = d.mem := heardFrame_keeps (g := fun c => c.mem) (fun _ => rfl) (fun _ _ => rfl) _ _ d
    have hao : (heardFrame ch ((canCh d ch).recCnt - 1) d).io.ao = d.io.ao :=
      heardFrame_keeps (g := fun c => c.io.ao) (fun _ => rfl) (fun _ _ => rfl) _ _ d
    have htt : (heardFrame ch ((canCh d ch).recCnt - 1) d).tt = d.tt := heardFrame_keeps (g := fun c => c.tt) (fun _ => rfl) (fun _ _ => rfl) _ _ d
    generalize heardFrame ch ((canCh d ch).recCnt - 1) d = e at *
    generalize hx : canStore f (d.time.clock - age) (Map.getD (canCh d ch).objs o {}) = x
    obtain ⟨hself, hne⟩ := chan_storedFrame ch o x e
    rw [hown] at hself
    have hobjs : (canCh (storedFrame ch o x e) ch).objs = Map.put (canCh d ch).objs o x := (congrArg CanCh.objs hself :)
    have hkeeps : ∀ {β : Type} (g : Chip → β), (∀ c, g c.core = g c) → (∀ m c, g { c with can := m } = g c) → g (storedFrame ch o x e) = g e :=
      fun g hcore hcan => ((keeps_bump _).reads hcore _).trans (hcan _ e)
    rw [hobjs, Map.getD_put_self, ← hx]
    obtain ⟨hseq, hnew, hcopy, heven, hodd, hcap⟩ := canStore_slot f (d.time.clock - age) (Map.getD (canCh d ch).objs o {})
    refine ⟨hseq, hnew, hcopy, heven, hodd, hcap, ?_, ?_, fun u hu => Map.getD_put_ne _ _ _ _ _ hu, fun k hk => ?_, ?_, ?_, ?_⟩
    · exact hx ▸ (congrArg CanCh.recCnt hself :)
    · exact hx ▸ (congrArg CanCh.tec hself :)
    · have h := (hne k hk).trans (hother k hk)
      exact hx ▸ ⟨(congrArg CanCh.objs h :), (congrArg CanCh.tec h :)⟩
    · exact hx ▸ (hkeeps (fun c => c.mem) (fun _ => rfl) fun _ _ => rfl).trans hmem
    · exact hx ▸ (hkeeps (fun c => c.io.ao) (fun _ => rfl) fun _ _ => rfl).trans hao
    · exact hx ▸ (hkeeps (fun c => c.tt) (fun _ => rfl) fun _ _ => rfl).trans htt
  case choice =>
    rw [canChoose_eq hsched, Option.map_eq_some_iff] at hchoose
    obtain ⟨⟨_, b⟩, hfold, rfl⟩ := hchoose
    obtain ⟨hmem, hall, -⟩ := foldl_lower (fun b : Nat × TxBuf => b.2.key) _ hfold
    obtain ⟨hin, hpend⟩ := List.mem_filter.1 (hmem.resolve_right nofun)
    simp only [Bool.and_eq_true, beq_iff_eq, Option.isSome_iff_exists] at hpend
    obtain ⟨hst, f, hf⟩ := hpend
    refine ⟨b, f, hin, hst, hf, fun k d g hd hdst hg => ?_⟩
    have hle := hall (k, d) (List.mem_filter.2 ⟨hd, by simp [hdst, hg]⟩)
    simpa [TxBuf.key, hf, hg] using hle
  case arbitration =>
    refine takes_of_lift (f := evCanArbitration dt ch) (fun _ => rfl) fun c ⟨hmay, hchoose, hframe, hretry⟩ => ?_
    unfold evCanArbitration
    generalize pass dt c = c at *
    dsimp only
    rw [hmay, hchoose]
    dsimp only
    rw [hretry, hframe, if_neg (by decide)]
    have hst : (canCh (updTx ch bf (fun b => { b with busy := true, retry := false }) c) ch).st = (canCh c ch).st :=
      (congrArg CanCh.st (congrFun (chan_updTx ch bf (fun b => { b with busy := true, retry := false }) c) ch) :)
    rw [when_false, hst]
    rfl
  case sent =>
    refine does_of_lift (f := evCanFrameSent dt ch none) rfl ?_
    obtain ⟨e, hrow, hown, hother, htec, hmem⟩ := evCanFrameSent_leaves rfl hbusy hdue hheld
    rw [hrow]
    exact ⟨(congrArg TxBuf.st hown :), (congrArg TxBuf.busy hown :), (congrArg TxBuf.frame hown :), (congrArg TxBuf.tag hown :), htec,
      fun u hu => ⟨(congrArg TxBuf.st (hother u hu) :), (congrArg TxBuf.frame (hother u hu) :)⟩, hmem⟩
  case lost =>
    refine does_of_lift (f := evCanArbitrationLost dt ch) rfl ?_
    rw [evCanArbitrationLost_retries rfl hbusy hdue]
    generalize pass dt s.chip = d at *
    obtain ⟨hidle, habort, hagain⟩ := buf_canRetry (ch := ch) (bf := bf) (c := d)
    have hbuf := congrFun (congrFun (buf_bump (0x172 + 8 * ch) (canRetry ch bf d)) ch) bf
    have hchan := congrFun ((chan_bump (0x172 + 8 * ch) (canRetry ch bf d)).trans (chan_canRetry ch bf d)) ch
    have hmem := ((keeps_bump (0x172 + 8 * ch)).reads (g := fun c => c.mem) (fun _ => rfl) (canRetry ch bf d)).trans
      (canRetry_keeps (g := fun c => c.mem) (fun _ => rfl) (fun _ _ => rfl) ch bf d)
    rw [← hbuf] at hidle habort hagain
    generalize bump (0x172 + 8 * ch) (canRetry ch bf d) = e at *
    exact ⟨hidle, habort, hagain, (congrArg CanCh.tec hchan :), hmem⟩
  case error =>
    refine does_of_lift (f := evCanBusError dt ch k id a b) rfl ?_
    obtain ⟨htec, hrec, hviol, hoffs⟩ := counts_violated ch k id a b (pass dt s.chip)
    by_cases hoff : 256 ≤ (canCh (pass dt s.chip) ch).tec + a
    · obtain ⟨e, hrow, hown, hpend, hmem, hao⟩ := evCanBusError_off (cls := k) (id := id) (b := b) rfl hlive hdue hbusy hoff
      rw [hrow]
      generalize chan (violated ch k id a b (pass dt s.chip)) ch = v at *
      exact ⟨(congrArg CanCh.tec hown :).trans htec, (congrArg CanCh.recCnt hown :).trans hrec,
        (congrArg (fun h => Map.getD (CanCh.viol h) (k + 1) 0) hown :).trans hviol,
        fun _ => ⟨(congrArg CanCh.st hown :), (congrArg CanCh.busoffs hown :), hpend⟩, fun h => absurd hoff h.not_ge, hmem, hao⟩
    · obtain ⟨e, n, hrow, hn, hown, hbuf, hmem, hao⟩ := evCanBusError_on (cls := k) (id := id) (b := b) rfl hlive hdue hbusy hoff
      rw [hrow]
      generalize chan (violated ch k id a b (pass dt s.chip)) ch = v at *
      exact ⟨(congrArg CanCh.tec hown :).trans htec, (congrArg CanCh.recCnt hown :).trans hrec,
        (congrArg (fun h => Map.getD (CanCh.viol h) (k + 1) 0) hown :).trans hviol, fun h => absurd h hoff,
        fun _ => ⟨(congrArg (fun h => CanSt.live (CanCh.st h)) hown :).trans hn, (congrArg CanCh.busoffs hown :).trans hoffs,
          fun u => (congrArg TxBuf.st (hbuf u) :)⟩, hmem, hao⟩
  case recovery => exact takes_of_lift (f := evCanRecoveryDone dt ch) (fun _ => rfl) fun c h => if_pos h
  case integrated =>
    refine does_of_lift (f := evCanIntegrated dt ch) rfl ?_
    have hpass : canCh (pass dt s.chip) = canCh s.chip := by
      funext k
      rw [canCh, pass_can, canCh]
    unfold evCanIntegrated
    dsimp only
    rw [hpass, if_pos hst, canCh_updCan_self, hpass]
    exact ⟨canLive_live _ _ _, rfl, pass_mem _ _, pass_thy _ _⟩

end Sys2Proof.Machine
end

section
/-! The display engine (R370 to R392): frames, temperature, compensation, rails and panels. -/
namespace Sys2Proof.Machine

open Sys2Proof Sys2Proof.Safety

/-! ### A panel after a change of one -/

@[simp] theorem panel_updPanel_self (p : Nat) (f : Panel → Panel) (c : Chip) : panel (updPanel p f c) p = f (panel c p) := by
  simp [panel, updPanel]

theorem panel_updPanel_ne {p q : Nat} (f : Panel → Panel) (c : Chip) (h : q ≠ p) : panel (updPanel p f c) q = panel c q := by
  simp [panel, updPanel, Map.getD_upd_ne _ _ _ _ _ _ h]

theorem Keeps.panel {f : Chip → Chip} (hf : Keeps f) (c : Chip) : panel (f c) = panel c := hf.reads (g := Machine.panel) (fun _ => rfl) c

theorem Keeps.disp {f : Chip → Chip} (hf : Keeps f) (c : Chip) : (f c).disp = c.disp := hf.reads (g := fun c => c.disp) (fun _ => rfl) c

theorem panel_pass (dt : Nat) (c : Chip) : panel (pass dt c) = panel c := by
  funext p
  rw [panel, pass_disp, panel]

/-- A panel without STATE and the instant since which it is quiet. -/
def Panel.settled (x : Panel) : Panel := { x with st := .off, quietAt := 0 }

theorem Panel.lines_of_settled {x z : Panel} (h : x.settled = z.settled) : x.lines = z.lines := (congrArg Panel.lines h :)

theorem Panel.present_of_settled {x z : Panel} (h : x.settled = z.settled) : x.present = z.present := (congrArg Panel.present h :)

theorem Panel.identified_of_settled {x z : Panel} (h : x.settled = z.settled) : x.identified = z.identified := (congrArg Panel.identified h :)

theorem Panel.shown_of_settled {x z : Panel} (h : x.settled = z.settled) : x.shown = z.shown := (congrArg Panel.shown h :)

/-- What STATE and the quiet instants of the panels do not hold, bringing them up to date leaves. -/
theorem refreshPanels_keeps {β : Type} {g : Chip → β} (h : ∀ p f c, (∀ x, Panel.settled (f x) = x.settled) → g (updPanel p f c) = g c) (c : Chip) :
    g (refreshPanels c) = g c := by
  unfold refreshPanels
  refine forAll_keeps g [0, 1] _ (fun p c => ?_) c
  exact h p _ c (by exact fun _ => rfl)

theorem settled_updPanel {p : Nat} {f : Panel → Panel} (hf : ∀ x, (f x).settled = x.settled) (c : Chip) (q : Nat) :
    (panel (updPanel p f c) q).settled = (panel c q).settled := by
  by_cases h : q = p
  · subst h
    rw [panel_updPanel_self, hf]
  · rw [panel_updPanel_ne _ _ h]

theorem settled_refreshPanels (c : Chip) (p : Nat) : (panel (refreshPanels c) p).settled = (panel c p).settled :=
  refreshPanels_keeps (g := fun c => (panel c p).settled) (fun _ _ c hf => settled_updPanel hf c p) c

/-! ### Lines and pixels -/

@[simp] theorem line_setLine_self (x : Panel) (y : Nat) (f : Ln → Ln) : (x.setLine y f).line y = f (x.line y) := by
  simp [Panel.line, Panel.setLine]

theorem line_setLine_ne {y z : Nat} (x : Panel) (f : Ln → Ln) (h : z ≠ y) : (x.setLine y f).line z = x.line z := by
  simp [Panel.line, Panel.setLine, Map.getD_upd_ne _ _ _ _ _ _ h]

theorem pix_put_self (m : Map Nat) (i y v : Nat) : pix (Map.put m (pixKey i y) v) i y = v := Map.getD_put_self _ _ _ _

theorem pix_put_ne {m : Map Nat} {k i y v : Nat} (h : pixKey i y ≠ k) : pix (Map.put m k v) i y = pix m i y := Map.getD_put_ne _ _ _ _ _ h

/-- Pixels of different lines have different keys. -/
theorem pixKey_ne {i j y z : Nat} (hi : i < 65536) (hj : j < 65536) (h : z ≠ y) : pixKey i z ≠ pixKey j y := by
  unfold pixKey
  omega

/-- Pixels of one line are written one after the other. -/
def writeLine (w y : Nat) (v : Nat → Nat) (m : Map Nat) : Map Nat := (List.range w).foldl (fun m i => Map.put m (pixKey i y) (v i)) m

theorem pix_writeLine {w i y : Nat} (v : Nat → Nat) (m : Map Nat) (h : i < w) : pix (writeLine w y v m) i y = v i := by
  unfold writeLine
  induction w with
  | zero => exact absurd h (Nat.not_lt_zero _)
  | succ n ih =>
    rw [List.range_succ, List.foldl_append]
    by_cases hi : i = n
    · subst hi
      exact pix_put_self _ _ _ _
    · refine (pix_put_ne ?_).trans (ih (by omega))
      unfold pixKey
      omega

theorem pix_writeLine_ne {w i y z : Nat} (v : Nat → Nat) (m : Map Nat) (hw : w ≤ 65536) (hi : i < 65536) (h : z ≠ y) :
    pix (writeLine w y v m) i z = pix m i z := by
  unfold writeLine
  refine List.foldlRecOn (motive := fun n => pix n i z = pix m i z) _ _ rfl fun n hn j hj => (pix_put_ne ?_).trans hn
  exact pixKey_ne hi ((List.mem_range.1 hj).trans_le hw) h

theorem copyLine_eq (w y : Nat) (src dst : Map Nat) : copyLine w y src dst = writeLine w y (fun i => pix src i y) dst := rfl

/-! ### The view of a line -/

/-- Pixels of a line in a pixel memory. -/
def pixels (w y : Nat) (m : Map Nat) : List Nat := (List.range w).map (fun i => pix m i y)

theorem pixels_writeLine_ne {w y z : Nat} (v : Nat → Nat) (m : Map Nat) (hw : w ≤ 65536) (h : z ≠ y) :
    pixels w z (writeLine w y v m) = pixels w z m :=
  List.map_congr_left fun _ hi => pix_writeLine_ne v m hw ((List.mem_range.1 hi).trans_le hw) h

theorem pixels_copyLine (w y : Nat) (src dst : Map Nat) : pixels w y (copyLine w y src dst) = pixels w y src :=
  List.map_congr_left fun _ hi => pix_writeLine _ _ (List.mem_range.1 hi)

theorem pix_of_pixels {w y i : Nat} {m n : Map Nat} (h : pixels w y m = pixels w y n) (hi : i < w) : pix m i y = pix n i y :=
  List.map_inj_left.1 h i (List.mem_range.2 hi)

/-- A line as a frame sees it: phase, length, UNKNOWN and refresh, its displayed and its active pixels, and the panel's compensation. -/
structure LineView where
  phase : Nat
  len : Nat
  unknown : Bool
  refresh : Bool
  shown : List Nat
  active : List Nat
  comp : Option Comp

/-- The view of a line. -/
def Panel.view (w y : Nat) (x : Panel) : LineView :=
  { phase := (x.line y).phase, len := (x.line y).len, unknown := (x.line y).unknown, refresh := (x.line y).refresh
    shown := pixels w y x.shown, active := pixels w y x.active, comp := x.comp }

theorem view_setLine_ne {w y z : Nat} (x : Panel) (f : Ln → Ln) (h : z ≠ y) : (x.setLine y f).view w z = x.view w z := by
  have hl := line_setLine_ne x f h
  rw [Panel.view, hl]
  rfl

theorem view_setStart (w y z : Nat) (b : Bool) (x : Panel) : (x.setLine y fun l => { l with start := b }).view w z = x.view w z := by
  by_cases h : z = y
  · subst h
    rw [Panel.view, line_setLine_self]
    rfl
  · exact view_setLine_ne x _ h

/-- The displayed memory at the end of a line's waveform. -/
def ended (w y : Nat) (x : Panel) : Panel :=
  (if (x.line y).refresh then x else { x with shown := copyLine w y x.active x.shown }).setLine y
    fun l => { l with len := 0, phase := 0, unknown := l.unknown && l.refresh, refresh := false }

/-- The end of a waveform leaves the line at rest, and may start it again. -/
theorem endLine_eq (w y : Nat) (x : Panel) : endLine w y x = ended w y x ∨ endLine w y x = (ended w y x).setLine y fun l => { l with start := true } := by
  have h : ∃ q : Bool, endLine w y x = if q then (ended w y x).setLine y (fun l => { l with start := true }) else ended w y x := ⟨_, rfl⟩
  obtain ⟨q, h⟩ := h
  cases q
  · exact .inl h
  · exact .inr h

theorem view_endLine (w y z : Nat) (x : Panel) : (endLine w y x).view w z = (ended w y x).view w z := by
  rcases endLine_eq w y x with h | h <;> rw [h]
  exact view_setStart w y z true _

/-- The end of one line's waveform leaves the other lines. -/
theorem view_endLine_ne {w y z : Nat} (x : Panel) (hw : w ≤ 65536) (h : z ≠ y) : (endLine w y x).view w z = x.view w z := by
  rw [view_endLine, ended, view_setLine_ne _ _ h]
  split
  · rfl
  · simp only [Panel.view, copyLine_eq, pixels_writeLine_ne _ _ hw h, Panel.line]

/-- The end of an update's waveform displays the active pixels. -/
theorem view_endLine_self (w y : Nat) {x : Panel} (h : (x.view w y).refresh = false) : (endLine w y x).view w y =
    { x.view w y with phase := 0, len := 0, unknown := false, shown := (x.view w y).active } := by
  have hr : (x.line y).refresh = false := h
  have hself : ∀ m : Map Nat, ({ x with shown := m } : Panel).line y = x.line y := fun _ => rfl
  rw [view_endLine, ended, if_neg (by rw [hr]; decide), Panel.view, line_setLine_self, hself, hr, Bool.and_false]
  exact congrArg (fun m => ({ phase := 0, len := 0, unknown := false, refresh := false, shown := m, active := pixels w y x.active, comp := x.comp } : LineView))
    (pixels_copyLine w y x.active x.shown) |>.trans (by rw [Panel.view, hr])

/-- A line driven or not, in a loop over different lines it is reached once. -/
theorem foldl_once {β γ : Type} {g : β → γ} {f : β → Nat → β} {y : Nat} (hne : ∀ x z, z ≠ y → g (f x z) = g x) {l : List Nat} (hl : l.Nodup)
    (hy : y ∈ l) (x : β) : ∃ x', g x' = g x ∧ g (l.foldl f x) = g (f x' y) := by
  have hrest : ∀ (r : List Nat), y ∉ r → ∀ x, g (r.foldl f x) = g x := fun r hr x =>
    List.foldlRecOn (motive := fun x' => g x' = g x) r f rfl fun x' hx z hz => (hne x' z (ne_of_mem_of_not_mem hz hr)).trans hx
  induction l generalizing x with
  | nil => exact absurd hy List.not_mem_nil
  | cons z r ih =>
    obtain ⟨hz, hr⟩ := List.nodup_cons.1 hl
    by_cases h : z = y
    · subst h
      exact ⟨x, rfl, hrest r hz _⟩
    · obtain ⟨x', hx, hfold⟩ := ih hr ((List.mem_cons.1 hy).resolve_left (Ne.symm h)) (f x z)
      exact ⟨x', hx.trans (hne x z h), hfold⟩

/-! ### One frame -/

/-- One frame of a driven line. -/
def frameLine (w y : Nat) (x : Panel) : Panel :=
  if (x.line y).phase + 1 < (x.line y).len then x.setLine y (fun l => { l with phase := l.phase + 1 }) else endLine w y x

theorem view_frameLine_ne {w y z : Nat} (x : Panel) (hw : w ≤ 65536) (h : z ≠ y) : (frameLine w y x).view w z = x.view w z := by
  unfold frameLine
  split
  · exact view_setLine_ne x _ h
  · exact view_endLine_ne x hw h

/-- The view of a driven line after a frame. -/
def LineView.advanced (v : LineView) : LineView :=
  if v.phase + 1 < v.len then { v with phase := v.phase + 1 } else { v with phase := 0, len := 0, unknown := false, shown := v.active }

theorem view_frameLine_self (w y : Nat) {x : Panel} (h : (x.view w y).refresh = false) : (frameLine w y x).view w y = (x.view w y).advanced := by
  have hphase : (x.view w y).phase = (x.line y).phase := rfl
  have hlen : (x.view w y).len = (x.line y).len := rfl
  unfold frameLine LineView.advanced
  rw [hphase, hlen]
  split
  · rw [Panel.view, line_setLine_self]
    rfl
  · rw [view_endLine_self w y h]

/-- Lines of a panel that a frame advances. -/
theorem mem_driven {x : Panel} {y : Nat} (h : (x.line y).len ≠ 0) : y ∈ (x.lines.filter (fun e => e.2.len != 0)).map (·.1) := by
  have hfind : ∀ m : Map Ln, (Map.getD m y {}).len ≠ 0 → (y, Map.getD m y {}) ∈ m := fun m => by
    induction m with
    | nil => exact fun h => absurd rfl h
    | cons e r ih =>
      obtain ⟨j, l⟩ := e
      intro h
      by_cases hj : j = y
      · simp [Map.getD, Map.find, hj]
      · simp only [Map.getD, Map.find, if_neg hj] at h ⊢
        exact .tail _ (ih h)
  exact List.mem_map.2 ⟨_, List.mem_filter.2 ⟨hfind _ h, by simpa [Panel.line] using h⟩, rfl⟩

theorem panel_advance_ne {p q : Nat} (c : Chip) (h : q ≠ p) : panel (advance p c) q = panel c q := by
  unfold advance
  dsimp only
  rw [panel_updPanel_ne _ _ h, when_keeps (fun c => panel c q) _ _ _ ?_]
  · rfl
  · rw [(keeps_bump _).panel]
    rfl

/-- The panel after one of its frames. -/
theorem panel_advance (p : Nat) (c : Chip) : panel (advance p c) p =
    (((panel c p).lines.filter (fun e => e.2.len != 0)).map (·.1)).foldl (fun x y => frameLine (panelW c p) y x) (panel c p) := by
  unfold advance
  dsimp only
  rw [panel_updPanel_self, when_keeps (fun c => panel c p) _ _ _ ?_]
  · rfl
  · rw [(keeps_bump _).panel]
    rfl

theorem panel_ledgerAdd_ne {p q : Nat} (tile : Nat) (v : Int) (c : Chip) (h : q ≠ p) : panel (ledgerAdd p tile v c) q = panel c q := by
  unfold ledgerAdd
  dsimp only
  rw [((keeps_record _ _ _).when _).panel]
  exact panel_updPanel_ne _ _ h

/-- A compensation in progress touches its own panel alone. -/
theorem panel_compFrame_ne {p q : Nat} (c : Chip) (h : q ≠ p) : panel (compFrame p c) q = panel c q := by
  unfold compFrame
  dsimp only
  split
  · rfl
  · split
    · rw [panel_updPanel_ne _ _ h, (keeps_bump _).panel]
      exact forAll_keeps (fun c => panel c q) _ _ (fun t c => panel_ledgerAdd_ne _ _ c h) c
    · split
      · split <;> exact panel_updPanel_ne _ _ h
      · split
        · rw [(keeps_bump _).panel]
        · rw [(keeps_record _ _ _).panel]
          exact panel_updPanel_ne _ _ h

theorem compFrame_of_none {p : Nat} {c : Chip} (h : (panel c p).comp = none) : compFrame p c = c := by
  unfold compFrame
  dsimp only
  rw [h]

/-- A panel with a line's target taken into the active copy. -/
def withTarget (w y : Nat) (v : Nat → Nat) (b : Nat) (x : Panel) : Panel :=
  ({ x with active := writeLine w y v x.active } : Panel).setLine y (fun l => { l with start := false, phase := 0, band := b })

/-- The start of a line takes its target, and ends at once where nothing is to be driven. -/
theorem startLine_eq (p y : Nat) (c : Chip) : startLine p y c = c ∨ ∃ v b,
    startLine p y c = updPanel p (fun _ => endLine (panelW c p) y (withTarget (panelW c p) y v b (panel c p))) c
      ∨ ∃ n, startLine p y c = bump (0x1BA + p) (updPanel p (fun _ =>
        (withTarget (panelW c p) y v b (panel c p)).setLine y (fun l => { l with len := n })) c) := by
  unfold startLine
  split
  · exact .inl rfl
  · rename_i wt _
    refine .inr ?_
    dsimp only
    have hact : ∃ v, (if ((panel c p).line y).journal then
        (List.range (panelW c p)).foldl (fun m i => Map.put m (pixKey i y) (cfg c (0x7400 + p) 1 12 9)) (panel c p).active
      else copyLine (panelW c p) y (panel c p).frame (panel c p).active) = writeLine (panelW c p) y v (panel c p).active := by
      cases ((panel c p).line y).journal
      · exact ⟨_, rfl⟩
      · exact ⟨fun _ => _, rfl⟩
    obtain ⟨v, hv⟩ := hact
    rw [hv]
    refine ⟨v, bandOf wt (panel c p).temp, ?_⟩
    split
    · exact .inl rfl
    · exact .inr ⟨_, rfl⟩

/-- The start of a line leaves the other lines. -/
theorem view_startLine_ne {p y z : Nat} (c : Chip) (hw : panelW c p ≤ 65536) (h : z ≠ y) :
    (panel (startLine p y c) p).view (panelW c p) z = (panel c p).view (panelW c p) z := by
  have htarget : ∀ v b, (withTarget (panelW c p) y v b (panel c p)).view (panelW c p) z = (panel c p).view (panelW c p) z := fun v b => by
    rw [withTarget, view_setLine_ne _ _ h]
    simp only [Panel.view, pixels_writeLine_ne _ _ hw h, Panel.line]
  rcases startLine_eq p y c with he | ⟨v, b, he | ⟨n, he⟩⟩
  · rw [he]
  · rw [he, panel_updPanel_self, view_endLine_ne _ hw h, htarget]
  · rw [he, (keeps_bump _).panel, panel_updPanel_self, view_setLine_ne _ _ h, htarget]

theorem panel_startLine_ne {p q : Nat} (y : Nat) (c : Chip) (h : q ≠ p) : panel (startLine p y c) q = panel c q := by
  rcases startLine_eq p y c with he | ⟨v, b, he | ⟨n, he⟩⟩
  · rw [he]
  · rw [he, panel_updPanel_ne _ _ h]
  · rw [he, (keeps_bump _).panel, panel_updPanel_ne _ _ h]

/-- Regions that start mark lines alone. -/
theorem view_startRegions (fuel p w z : Nat) (c : Chip) : (panel (startRegions fuel c) p).view w z = (panel c p).view w z := by
  induction fuel generalizing c with
  | zero => rfl
  | succ k ih =>
    unfold startRegions
    split
    · rfl
    · split
      · rfl
      · rename_i r _
        dsimp only
        refine (ih _).trans ?_
        by_cases hp : p = r.panel
        · subst hp
          rw [panel_updPanel_self]
          refine List.foldlRecOn (motive := fun x => Panel.view w z x = (panel c r.panel).view w z) _ _ rfl fun x hx y _ => ?_
          split
          · exact (view_setStart w y z true x).trans hx
          · exact hx
        · rw [panel_updPanel_ne _ _ hp]
          rfl

/-! ### DISPLAY_FRAME -/

theorem panelW_of_draws {f : Chip → Chip} (hf : Draws f) (c : Chip) (p : Nat) : panelW (f c) p = panelW c p :=
  hf.reads (g := fun c => panelW c p) (fun _ => rfl) c

theorem panelW_le (c : Chip) (p : Nat) : panelW c p ≤ 65536 := (Nat.mod_lt _ (by decide)).le

/-- A line starts only where none is driven. -/
theorem len_of_starting {c : Chip} {p y : Nat} (hn : ((panel c p).lines.map (·.1)).Nodup) (h : y ∈ starting c p) : ((panel c p).line y).len = 0 := by
  have hfind : ∀ (m : Map Ln) l, (m.map (·.1)).Nodup → (y, l) ∈ m → Map.getD m y {} = l := fun m l => by
    induction m with
    | nil => exact fun _ h => absurd h List.not_mem_nil
    | cons e r ih =>
      obtain ⟨j, k⟩ := e
      intro hm h
      obtain ⟨hj, hr⟩ := List.nodup_cons.1 hm
      rcases List.mem_cons.1 h with h | h
      · injection h with hy hl
        simp [Map.getD, Map.find, hy, hl]
      · have hne : j ≠ y := fun e => hj (e ▸ List.mem_map.2 ⟨_, h, rfl⟩)
        simpa [Map.getD, Map.find, hne] using ih hr h
  unfold starting at h
  dsimp only at h
  split at h
  · obtain ⟨⟨z, l⟩, hmem, rfl⟩ := List.mem_map.1 h
    obtain ⟨hin, hcond⟩ := List.mem_filter.1 hmem
    rw [Panel.line, hfind _ l hn hin]
    simp only [Bool.and_eq_true, beq_iff_eq] at hcond
    exact hcond.1.1.2
  · exact absurd h List.not_mem_nil

/-- A driven line of a panel without compensation advances by one frame; nothing else of the frame touches it. -/
theorem view_frameStep {c : Chip} {p y : Nat} (hp : p < 2) (hcomp : (panel c p).comp = none) (hn : ((panel c p).lines.map (·.1)).Nodup)
    (hlen : ((panel c p).line y).len ≠ 0) (hr : ((panel c p).line y).refresh = false) :
    (panel (frameStep c) p).view (panelW c p) y = ((panel c p).view (panelW c p) y).advanced := by
  have hadvance : (panel (forAll [0, 1] advance c) p).view (panelW c p) y = ((panel c p).view (panelW c p) y).advanced := by
    have hown : ∀ d : Chip, panel d p = panel c p → panelW d p = panelW c p →
        (panel (advance p d) p).view (panelW c p) y = ((panel c p).view (panelW c p) y).advanced := fun d hd hwd => by
      rw [panel_advance, hd, hwd]
      obtain ⟨x, hx, hfold⟩ := foldl_once (g := Panel.view (panelW c p) y) (f := fun x z => frameLine (panelW c p) z x) (y := y)
        (fun x z hz => view_frameLine_ne x (panelW_le c p) hz.symm) (hn.sublist (List.Sublist.map _ List.filter_sublist)) (mem_driven hlen) (panel c p)
      rw [hfold, view_frameLine_self _ _ (by rw [hx]; exact hr), hx]
    simp only [forAll_cons, forAll_nil]
    rcases show p = 0 ∨ p = 1 by omega with rfl | rfl
    · rw [panel_advance_ne _ (by decide)]
      exact hown c rfl rfl
    · exact hown _ (panel_advance_ne c (by decide)) (panelW_of_draws (draws_advance 0) c 1)
  have hcompFrame : ∀ d : Chip, (panel d p).comp = none → panel (forAll [0, 1] compFrame d) p = panel d p := fun d hd => by
    simp only [forAll_cons, forAll_nil]
    rcases show p = 0 ∨ p = 1 by omega with rfl | rfl
    · rw [panel_compFrame_ne _ (by decide), compFrame_of_none hd]
    · rw [compFrame_of_none (by rwa [panel_compFrame_ne _ (by decide)]), panel_compFrame_ne _ (by decide)]
  have hstart : ∀ l d, panelW d p = panelW c p → (∀ e ∈ l, e ≠ (p, y)) →
      (panel (forAll l (fun e => startLine e.1 e.2) d) p).view (panelW c p) y = (panel d p).view (panelW c p) y := fun l d hwd hl =>
    (forAll_inv (P := fun d' => (panel d' p).view (panelW c p) y = (panel d p).view (panelW c p) y ∧ panelW d' p = panelW c p)
      (fun e he d' hd' => by
        refine ⟨?_, (panelW_of_draws (draws_startLine e.1 e.2) d' p).trans hd'.2⟩
        obtain ⟨q, z⟩ := e
        dsimp only
        by_cases hq : p = q
        · subst hq
          rw [← hd'.2, view_startLine_ne d' (panelW_le d' p) fun hz => hl _ he (by rw [hz]), hd'.2]
          exact hd'.1
        · rw [panel_startLine_ne z d' hq]
          exact hd'.1) ⟨rfl, hwd⟩).1
  have hstill : (panel (forAll [0, 1] advance c) p).comp = none := by
    refine (congrArg LineView.comp hadvance : (panel (forAll [0, 1] advance c) p).comp = _).trans (Eq.trans ?_ hcomp)
    unfold LineView.advanced
    split <;> rfl
  have hwidth : panelW (forAll [0, 1] compFrame (forAll [0, 1] advance c)) p = panelW c p :=
    (panelW_of_draws (fun d => Draws.forAll _ draws_compFrame d) _ p).trans (panelW_of_draws (fun d => Draws.forAll _ draws_advance d) c p)
  have hst : ∀ e ∈ [0, 1].flatMap (fun p => (starting c p).map (fun y => (p, y))), e ≠ (p, y) := fun e he heq => by
    simp only [List.mem_flatMap, List.mem_map] at he
    obtain ⟨q, -, z, hz, rfl⟩ := he
    injection heq with hq hzy
    subst hq hzy
    exact hlen (len_of_starting hn hz)
  unfold frameStep
  dsimp only
  rw [view_startRegions, show ∀ d : Chip, panel (endRegions d) = panel d from fun _ => rfl, when_keeps panel _ _ _ rfl]
  rw [← hadvance, ← hcompFrame _ hstill]
  split
  · exact hstart _ _ hwidth hst
  · rfl

/-- Bringing STATE up to date leaves every line. -/
theorem view_refreshPanels (c : Chip) (p w y : Nat) : (panel (refreshPanels c) p).view w y = (panel c p).view w y :=
  (congrArg (Panel.view w y) (settled_refreshPanels c p) :)

/-! ### Lines that stop (R383, R386) -/

/-- A line after its drive has stopped. -/
def Ln.stopped (l : Ln) : Ln := if l.len != 0 then { l with len := 0, phase := 0, unknown := true, refresh := false } else l

theorem map_stopped (m : Map Ln) :
    m.map (fun e => if e.2.len != 0 then (e.1, { e.2 with len := 0, phase := 0, unknown := true, refresh := false }) else e) =
      Map.mapV m (fun _ l => l.stopped) :=
  List.map_congr_left fun e _ => by
    unfold Ln.stopped
    dsimp only
    split <;> rfl

/-- A panel whose `k` driven lines have stopped. -/
def Panel.stop (k : Nat) (x : Panel) : Panel :=
  { x with interrupts := (x.interrupts + k) % 2 ^ 32, lines := Map.mapV x.lines (fun _ l => l.stopped), comp := none }

/-- The drive of a panel stops. -/
def stopDrive (p k : Nat) (c : Chip) : Chip :=
  let c := updPanel p (Panel.stop k) c
  { c with disp := { c.disp with started := c.disp.started.filter (fun r => r.panel != p), waveAt := c.time.clock } }

/-- The tiles of the driven lines are charged with the phases applied, `n` more than are complete. -/
def chargeLines (p n : Nat) (c : Chip) : Chip :=
  forAll (drivenLines c p) (fun y d =>
    forAll (List.range ((panelW d p) / 8)) (fun tc d =>
      let sum := (List.range 8).foldl (fun a i => a + ((pixPhases (Map.getD c.sets.main.waves p {}) (panel c p) (tc * 8 + i) y).take
        (((panel c p).line y).phase + n)).sum) (0 : Int)
      if sum = 0 then d else ledgerAdd p (y / 8 * 256 + tc) sum d) d) c

/-- The charge of the ledger comes before the lines stop. -/
theorem stopLines_eq (p n : Nat) (charge : Bool) (c : Chip) : stopLines p n charge c =
    bumpBy (0x1BC + p) (drivenLines c p).length (stopDrive p (drivenLines c p).length (when charge (chargeLines p n) c)) := by
  unfold stopLines
  simp only [map_stopped]
  cases charge <;> rfl

section
variable {β : Type} {g : Chip → β} {p : Nat} (hcore : ∀ c, g c.core = g c)
include hcore

theorem ledgerAdd_keeps (hupd : ∀ (m : Panel → Map Int) c, g (updPanel p (fun x => { x with ledger := m x }) c) = g c)
    (hmem : ∀ m c, g { c with mem := { c.mem with ledgerMirror := m } } = g c) (tile : Nat) (v : Int) (c : Chip) : g (ledgerAdd p tile v c) = g c := by
  unfold ledgerAdd
  dsimp only
  rw [((keeps_record _ _ _).when _).reads hcore]
  exact (hmem _ _).trans (hupd (fun x => Map.put x.ledger tile _) c)

theorem chargeLines_keeps (hupd : ∀ (m : Panel → Map Int) c, g (updPanel p (fun x => { x with ledger := m x }) c) = g c)
    (hmem : ∀ m c, g { c with mem := { c.mem with ledgerMirror := m } } = g c) (n : Nat) (c : Chip) : g (chargeLines p n c) = g c := by
  unfold chargeLines
  refine forAll_keeps g _ _ (fun y d => forAll_keeps g _ _ (fun tc d => ?_) d) c
  dsimp only
  split
  · rfl
  · exact ledgerAdd_keeps hcore hupd hmem _ _ d

/-- The lines stop in a block that the charge of the ledger has left. -/
theorem stopLines_reads (hupd : ∀ (m : Panel → Map Int) c, g (updPanel p (fun x => { x with ledger := m x }) c) = g c)
    (hmem : ∀ m c, g { c with mem := { c.mem with ledgerMirror := m } } = g c) (n : Nat) (charge : Bool) (c : Chip) :
    ∃ d k, g d = g c ∧ g (stopLines p n charge c) = g (stopDrive p k d) :=
  ⟨when charge (chargeLines p n) c, (drivenLines c p).length, when_keeps g _ _ _ (chargeLines_keeps hcore hupd hmem n c), by
    rw [stopLines_eq, (keeps_bumpBy _ _).reads hcore]⟩

/-- What lies outside the panel and the regions started, the stop of its lines leaves. -/
theorem stopLines_keeps (hupd : ∀ f c, g (updPanel p f c) = g c) (hmem : ∀ m c, g { c with mem := { c.mem with ledgerMirror := m } } = g c)
    (hdisp : ∀ s t c, g { c with disp := { c.disp with started := s, waveAt := t } } = g c) (n : Nat) (charge : Bool) (c : Chip) :
    g (stopLines p n charge c) = g c := by
  obtain ⟨d, k, hd, h⟩ := stopLines_reads hcore (fun _ _ => hupd _ _) hmem n charge c
  rw [h, ← hd, stopDrive]
  exact (hdisp _ _ _).trans (hupd _ _)

end

/-- The lines of a panel that stop; its displayed pixels stay. -/
theorem panel_stopLines (p n : Nat) (charge : Bool) (c : Chip) : (panel (stopLines p n charge c) p).lines = Map.mapV (panel c p).lines (fun _ l => l.stopped)
    ∧ (panel (stopLines p n charge c) p).shown = (panel c p).shown := by
  obtain ⟨d, k, hd, h⟩ := stopLines_reads (g := fun c => ((panel c p).lines, (panel c p).shown)) (fun _ => rfl)
    (fun m c => by rw [panel_updPanel_self]) (fun _ _ => rfl) (p := p) n charge c
  simp only [Prod.mk.injEq] at hd h
  have hown : panel (stopDrive p k d) p = (panel d p).stop k := panel_updPanel_self _ _ _
  rw [hown] at h
  exact ⟨h.1.trans (congrArg (fun m => Map.mapV m fun _ l => Ln.stopped l) hd.1), h.2.trans hd.2⟩

theorem started_stopLines (p n : Nat) (charge : Bool) (c : Chip) :
    (stopLines p n charge c).disp.started = c.disp.started.filter (fun r => r.panel != p) := by
  obtain ⟨d, k, hd, h⟩ := stopLines_reads (g := fun c => c.disp.started) (fun _ => rfl) (fun _ _ => rfl) (fun _ _ => rfl) (p := p) n charge c
  exact h.trans (congrArg (List.filter fun r : Region => r.panel != p) hd)

theorem line_mapV_stopped (x : Panel) (y : Nat) : Map.getD (Map.mapV x.lines (fun _ l => l.stopped)) y {} = (x.line y).stopped :=
  Map.getD_mapV x.lines (fun _ l => l.stopped) y rfl

/-! ### A panel drawn anew (R390, R391) -/

/-- A panel without what a render changes. -/
def Panel.undrawn (x : Panel) : Panel := { x with frame := [], rendered := [] }

section
variable {β : Type} {g : Chip → β} {p : Nat} (hupd : ∀ f c, (∀ x, Panel.undrawn (f x) = x.undrawn) → g (updPanel p f c) = g c)
  (hqueue : ∀ r c, r.panel = p → g (enqueue r c) = g c)
include hupd hqueue

theorem renderField_keeps (no : Nat) (force : Bool) (c : Chip) : g (renderField p no force c) = g c := by
  unfold renderField
  split
  · rfl
  · split
    · rfl
    · refine (when_keeps g _ _ _ (hqueue _ _ rfl)).trans (hupd _ c ?_)
      exact fun _ => rfl

theorem renderAll_keeps (c : Chip) : g (renderAll p c) = g c := forAll_keeps g _ _ (fun no c => renderField_keeps hupd hqueue no true c) c

end

theorem enqueue_panel (r : Region) (c : Chip) : panel (enqueue r c) = panel c := by
  unfold enqueue
  split <;> rfl

theorem undrawn_renderAll (p : Nat) (c : Chip) : (panel (renderAll p c) p).undrawn = (panel c p).undrawn :=
  renderAll_keeps (g := fun c => (panel c p).undrawn) (fun f c hf => by rw [panel_updPanel_self, hf]) (fun r c _ => by rw [enqueue_panel]) c

theorem mem_enqueue (r : Region) (c : Chip) : (enqueue r c).mem = c.mem := by
  unfold enqueue
  split <;> rfl

theorem mem_renderAll (p : Nat) (c : Chip) : (renderAll p c).mem = c.mem :=
  renderAll_keeps (g := fun c => c.mem) (fun _ _ _ => rfl) (fun r c _ => mem_enqueue r c) c

/-! ### What concerns the other panel -/

/-- What STATE and the quiet instant of a panel are made of. -/
def aside (p : Nat) (c : Chip) : Panel × Bool × Bool × Bool × DomSt × Bool × Nat :=
  (panel c p, c.disp.queue.any (fun r => r.panel == p), c.disp.started.any (fun r => r.panel == p), c.disp.railDown, pd11 c, panelEn c p, c.time.clock)

/-- A panel with its STATE is made of these. -/
theorem panel_refreshPanels_zero {c d : Chip} (h : aside 0 c = aside 0 d) : panel (refreshPanels c) 0 = panel (refreshPanels d) 0 := by
  have hown : ∀ c : Chip, panel (refreshPanels c) 0 = { panel c 0 with
      st := panelState c 0 (panel c 0)
      quietAt := if c.disp.queue.any (fun r => r.panel == 0) || updating c 0 (panel c 0) then c.time.clock else (panel c 0).quietAt } := fun c => by
    unfold refreshPanels
    simp only [forAll_cons, forAll_nil]
    rw [panel_updPanel_ne _ _ (by decide), panel_updPanel_self]
  simp only [aside, Prod.mk.injEq] at h
  obtain ⟨hpanel, hqueue, hstarted, hdown, hdom, hen, hclock⟩ := h
  rw [hown, hown, hpanel]
  unfold panelState updating
  rw [hqueue, hstarted, hdown, hdom, hen, hclock]

theorem aside_updPanel_ne {p q : Nat} (f : Panel → Panel) (c : Chip) (h : q ≠ p) : aside q (updPanel p f c) = aside q c := by
  rw [aside, panel_updPanel_ne f c h]
  rfl

theorem any_filter_ne {p q : Nat} (l : List Region) (h : q ≠ p) : (l.filter (fun r => r.panel != p)).any (fun r => r.panel == q) = l.any (fun r => r.panel == q) := by
  rw [List.any_filter]
  congr 1
  funext r
  by_cases hr : r.panel = q
  · simp [hr, h]
  · simp [hr]

/-- Every line of the panel is UNKNOWN. -/
theorem panel_allUnknown (p : Nat) (c : Chip) : panel (allUnknown p c) = panel (updPanel p (fun x => { x with
    lines := (List.range (panelH c p)).map (fun y => (y, ({ unknown := true } : Ln))), comp := none }) c) := rfl

theorem aside_allUnknown_ne {p q : Nat} (c : Chip) (h : q ≠ p) : aside q (allUnknown p c) = aside q c := by
  have hpanel : panel (allUnknown p c) q = panel c q := by rw [panel_allUnknown, panel_updPanel_ne _ c h]
  rw [aside, hpanel]
  unfold allUnknown
  dsimp only
  rw [any_filter_ne _ h, any_filter_ne _ h]
  rfl

theorem aside_enqueue_ne {q : Nat} (r : Region) (c : Chip) (h : q ≠ r.panel) : aside q (enqueue r c) = aside q c := by
  have hany : (enqueue r c).disp.queue.any (fun x => x.panel == q) = c.disp.queue.any (fun x => x.panel == q) := by
    have hr : (r.panel == q) = false := beq_eq_false_iff_ne.2 h.symm
    unfold enqueue
    split
    · rfl
    · dsimp only
      split
      · rw [List.any_append, List.any_cons, hr, Bool.false_or, Bool.eq_iff_iff, Bool.or_eq_true]
        simp only [List.any_filter, List.any_eq_true, Bool.and_eq_true, beq_iff_eq, Bool.not_eq_true']
        constructor
        · rintro (⟨x, hx, -, hq⟩ | ⟨x, hx, -, hq⟩) <;> exact ⟨x, hx, hq⟩
        · rintro ⟨x, hx, hq⟩
          cases ha : x.alarm
          · exact .inr ⟨x, hx, ha, hq⟩
          · exact .inl ⟨x, hx, ha, hq⟩
      · rw [List.any_append, List.any_cons, hr, List.any_nil, Bool.or_false, Bool.or_false]
  rw [aside, enqueue_panel, hany]
  unfold enqueue
  split <;> rfl

/-! ### Panel 1 comes and goes (R386) -/

theorem identify_keeps {β : Type} {g : Chip → β} (hcore : ∀ c, g c.core = g c) (hupd : ∀ f c, g (updPanel 1 f c) = g c)
    (hmem : ∀ m c, g { c with mem := { c.mem with ledgerMirror := m } } = g c) (i : PanelId) (c : Chip) : g (identify i c) = g c := by
  unfold identify
  dsimp only
  split
  · rw [(keeps_record _ _ _).reads hcore, hupd]
  · refine (when_keeps g _ _ _ ?_).trans (((keeps_record _ _ _).reads hcore _).trans (hupd _ _))
    exact ((keeps_record _ _ _).reads hcore _).trans ((hupd _ _).trans (hmem _ _))

/-- A store that matches the panel identifies it. -/
theorem panel_identify_good {i : PanelId} {c : Chip} (hm : i.magicOk = true) (hcrc : i.crcOk = true) (hw : i.width = panelW c 1)
    (hh : i.height = panelH c 1) : panel (identify i c) 1 = { panel c 1 with
      present := true, identified := true, idFault := false, serial := i.serial
      ledger := if i.serial = (panel c 1).serial then (panel c 1).ledger else [] } := by
  have hupd : ∀ (f : Panel → Panel) m (d : Chip), panel (updPanel 1 f { d with mem := { d.mem with ledgerMirror := m } }) 1 = f (panel d 1) :=
    fun f m d => panel_updPanel_self _ _ _
  unfold identify
  dsimp only
  rw [if_neg (by simp [hm, hcrc, hw, hh])]
  by_cases hs : i.serial = (panel c 1).serial
  · rw [if_pos hs, show ((panel c 1).serial != i.serial) = false by simp [hs], when_false, (keeps_record _ _ _).panel, panel_updPanel_self]
  · rw [if_neg hs, show ((panel c 1).serial != i.serial) = true by simp [Ne.symm hs], when_true, (keeps_record _ _ _).panel, hupd,
      (keeps_record _ _ _).panel, panel_updPanel_self]

/-- One that cannot be read shows a faulty panel. -/
theorem panel_identify_bad {i : PanelId} {c : Chip} (h : (i.magicOk && i.crcOk && i.width == panelW c 1 && i.height == panelH c 1) = false) :
    panel (identify i c) 1 = { panel c 1 with present := true, identified := false, idFault := true } := by
  unfold identify
  dsimp only
  rw [h, if_pos (by decide), (keeps_record _ _ _).panel, panel_updPanel_self]

/-- The panel inserted. -/
theorem evPanelInserted_on {dt : Nat} {i : PanelId} {c : Chip} (h : pd11 (pass dt c) = .on) : ∃ b,
    evPanelInserted dt i c = refreshPanels (when b (renderAll 1) (identify i (allUnknown 1 (pass dt c)))) := by
  refine ⟨(panel (identify i (allUnknown 1 (pass dt c))) 1).identified, ?_⟩
  unfold evPanelInserted
  exact if_neg (by rw [h]; decide)

/-- Every line of a panel with lines that have to be recovered. -/
theorem getD_range_map {α : Type} (v d : α) {n y : Nat} (h : y < n) : Map.getD ((List.range n).map fun y => (y, v)) y d = v := by
  have hfind : ∀ l : List Nat, y ∈ l → Map.find (l.map fun y => (y, v)) y = some v := fun l => by
    induction l with
    | nil => exact fun h => absurd h List.not_mem_nil
    | cons j r ih =>
      intro hy
      by_cases hj : j = y
      · simp [Map.find, hj]
      · simpa [Map.find, hj] using ih ((List.mem_cons.1 hy).resolve_left (Ne.symm hj))
  rw [Map.getD, hfind _ (List.mem_range.2 h)]
  rfl

/-! ### Memory a program sees -/

/-- What the display leaves of memory, the tasks and the outputs. -/
def Chip.offscreen (c : Chip) : Mem × Mem × Map Task × Map Ao := (c.mem.glb, c.mem.ret, c.tasks, c.io.ao)

theorem offscreen_of_draws {f : Chip → Chip} (hf : Draws f) (c : Chip) : (f c).offscreen = c.offscreen := hf.reads (fun _ => rfl) c

/-! ### A rail fault (R383) -/

/-- A rail fault stops one panel, whose lines are to be driven again. -/
def railStop (rs : List Region) (q : Nat) (c : Chip) : Chip := redrive q rs (drivenLines c q) (stopLines q 0 true c)

theorem evRailFault_stops {dt : Nat} {c d : Chip} (hd : pass dt c = d) (hrails : d.disp.rails = true) (hon : pd11 d = .on) :
    evRailFault dt c = refreshPanels (record 0x0C20 0x0500 [] (let e := forAll [0, 1] (railStop d.disp.started) d
      { e with disp := { e.disp with rails := false, railDown := true, downAt := e.time.clock } })) := by
  unfold evRailFault railStop
  rw [hd]
  dsimp only
  rw [if_neg (by rw [hrails, hon]; decide)]

/-- Rails that fail again stay off. -/
theorem evRailRetry_fails {dt : Nat} {c d : Chip} (hd : pass dt c = d) (hdown : d.disp.railDown = true) (hstop : d.disp.stopping = false)
    (hat : d.disp.downAt + 10000000000 ≤ d.time.clock) :
    evRailRetry dt false c = record 0x0C20 0x0500 [] { d with disp := { d.disp with railFault := true, downAt := d.time.clock } } := by
  unfold evRailRetry
  rw [hd]
  dsimp only
  rw [if_neg (by simp [hdown, hstop, hat]), if_neg (by decide)]

theorem draws_railStop (rs : List Region) (q : Nat) : Draws (railStop rs q) := fun c => (draws_redrive q rs _ _).trans (draws_stopLines q 0 true c)

theorem panel_railStop (rs : List Region) (q : Nat) (c : Chip) : panel (railStop rs q c) = panel (stopLines q 0 true c) := by
  unfold railStop redrive
  rfl

theorem panel_stopLines_ne {p q : Nat} (n : Nat) (charge : Bool) (c : Chip) (h : p ≠ q) : panel (stopLines q n charge c) p = panel c p :=
  stopLines_keeps (g := fun c => panel c p) (fun _ => rfl) (fun f c => panel_updPanel_ne f c h) (fun _ _ => rfl) (fun _ _ _ => rfl) n charge c

theorem panel_railStop_ne {p q : Nat} (rs : List Region) (c : Chip) (h : p ≠ q) : panel (railStop rs q c) p = panel c p := by
  rw [panel_railStop, panel_stopLines_ne 0 true c h]

/-- Both panels' lines have stopped; their displayed pixels are as they were. -/
theorem panel_railStops (rs : List Region) (c : Chip) {p : Nat} (hp : p < 2) :
    (panel (forAll [0, 1] (railStop rs) c) p).lines = Map.mapV (panel c p).lines (fun _ l => l.stopped)
      ∧ (panel (forAll [0, 1] (railStop rs) c) p).shown = (panel c p).shown := by
  simp only [forAll_cons, forAll_nil]
  rcases show p = 0 ∨ p = 1 by omega with rfl | rfl
  · rw [panel_railStop_ne rs _ (by decide), panel_railStop]
    exact panel_stopLines 0 0 true c
  · rw [panel_railStop, ← panel_railStop_ne rs c (show 1 ≠ 0 by decide)]
    exact panel_stopLines 1 0 true (railStop rs 0 c)

theorem started_railStops (rs : List Region) (c : Chip) (h : ∀ r ∈ c.disp.started, r.panel < 2) : (forAll [0, 1] (railStop rs) c).disp.started = [] := by
  have hown : ∀ q d, (railStop rs q d).disp.started = d.disp.started.filter (fun r => r.panel != q) := fun q d => started_stopLines q 0 true d
  simp only [forAll_cons, forAll_nil]
  rw [hown, hown, List.filter_filter, List.filter_eq_nil_iff]
  intro r hr
  have hlt := h r hr
  simp only [Bool.and_eq_true, bne_iff_ne, ne_eq, not_and, not_not]
  omega

theorem clock_railStops (rs : List Region) (c : Chip) : (forAll [0, 1] (railStop rs) c).time.clock = c.time.clock :=
  (show Draws (forAll [0, 1] (railStop rs)) from fun d => Draws.forAll _ (draws_railStop rs) d).reads (g := fun c => c.time.clock) (fun _ => rfl) c

theorem stopped_of_driven {l : Ln} (h : l.len ≠ 0) : l.stopped.len = 0 ∧ l.stopped.unknown = true := by
  rw [Ln.stopped, if_pos (by simpa using h)]
  exact ⟨rfl, rfl⟩

theorem stopped_of_idle {l : Ln} (h : l.len = 0) : l.stopped = l := if_neg (by simp [h])

/-! ### The events -/

theorem draws_evPanelInserted {dt : Nat} {i : PanelId} {c : Chip} (h : pd11 (pass dt c) = .on) :
    (evPanelInserted dt i c).offscreen = (pass dt c).offscreen := by
  obtain ⟨b, hrow⟩ := evPanelInserted_on (i := i) h
  rw [hrow, offscreen_of_draws draws_refreshPanels, offscreen_of_draws ((draws_renderAll 1).when b), offscreen_of_draws (draws_identify i),
    offscreen_of_draws (draws_allUnknown 1)]

theorem disp_refreshPanels (c : Chip) : (refreshPanels c).disp.rails = c.disp.rails ∧ (refreshPanels c).disp.railDown = c.disp.railDown
    ∧ (refreshPanels c).disp.railAt = c.disp.railAt ∧ (refreshPanels c).disp.downAt = c.disp.downAt
    ∧ (refreshPanels c).disp.started = c.disp.started ∧ (refreshPanels c).mem = c.mem := by
  have h := refreshPanels_keeps (g := fun c => (c.disp.rails, c.disp.railDown, c.disp.railAt, c.disp.downAt, c.disp.started, c.mem))
    (fun _ _ _ _ => rfl) c
  simpa only [Prod.mk.injEq] using h

/-- A temperature lies outside the waveform table of a panel. -/
def outOfTable (c : Chip) (p : Nat) (t : Int) : Bool :=
  ((Map.find c.sets.main.waves p).map fun w => decide (t < w.tMin) || decide (w.tMax < t)).getD false

theorem evPanelTempRead_eq (dt p : Nat) (t : Int) (c : Chip) : ∃ k, Keeps k ∧ evPanelTempRead dt p t c =
    refreshPanels (k (updPanel p (fun x => { x with temp := t, tempHold := outOfTable (pass dt c) p t }) (pass dt c))) := by
  unfold evPanelTempRead outOfTable
  generalize pass dt c = c at *
  dsimp only
  cases Map.find c.sets.main.waves p with
  | none => exact ⟨_, (keeps_record _ _ _).when _, rfl⟩
  | some w => exact ⟨_, (keeps_record _ _ _).when _, rfl⟩

/-- Lines of a panel that has been recovered. -/
theorem line_mapV_unjournalled (x : Panel) (y : Nat) :
    Map.getD (Map.mapV x.lines (fun _ l => { l with journal := false })) y {} = { x.line y with journal := false } :=
  Map.getD_mapV x.lines (fun _ l => { l with journal := false }) y rfl

/-- A panel whose journalled lines have all been driven is recovered. -/
theorem evDispRecovered_ends {dt p : Nat} {c d : Chip} (hd : pass dt c = d) (hrec : (panel d p).recovery = true)
    (hall : ∀ e ∈ (panel d p).lines, e.2.journal = true → e.2.len = 0 ∧ e.2.start = false ∧ e.2.unknown = false) : ∃ e q,
    e = updPanel p (fun x => { x with recovery := false, lines := Map.mapV x.lines (fun _ l => { l with journal := false }) }) d
      ∧ q = !([0, 1].any (fun q => (panel e q).recovery))
      ∧ evDispRecovered dt p c = refreshPanels (renderAll p (record 0x0C11 (0x0E00 + p) []
        (when q (fun c => { c with mem := { c.mem with dispJournalValid := false } }) e))) := by
  refine ⟨_, _, rfl, rfl, ?_⟩
  have hnone : (panel d p).lines.any (fun e => e.2.journal && (e.2.len != 0 || e.2.start || e.2.unknown)) = false := by
    rw [List.any_eq_false]
    intro e he hj
    simp only [Bool.and_eq_true, Bool.or_eq_true] at hj
    obtain ⟨hlen, hstart, hunknown⟩ := hall e he hj.1
    rw [hlen, hstart, hunknown] at hj
    exact absurd hj.2 (by decide)
  unfold evDispRecovered
  rw [hd]
  dsimp only
  rw [if_neg (by rw [hrec, hnone]; decide)]

theorem draws_allUnknown_rails (p : Nat) (c : Chip) : (allUnknown p c).disp.rails = c.disp.rails := rfl

/-- Settles O49: a frame touches a driven line once; the events of temperature, rails and panels change their own panel. -/
theorem displayRows : Obligations.DisplayRows := by
  unfold Obligations.DisplayRows
  refine ⟨fun dt => ?idle, fun dt s p y hp hon hstop hdown hcomp hn hlen hr => ?frame, fun dt p t s => ?temp,
    fun dt p s => ⟨fun h => ?uncompensated, fun e he hthr hcomp hrec hupd hq hquiet hstart hstage hslots => ?compensated⟩,
    fun dt => ⟨?off, ?stay⟩, fun dt s hrails hon => ?fault, fun dt ok => ?noRetry, fun dt s hdown hstop hat => ⟨?retry, ?fails⟩,
    fun dt => ⟨?boost, ?boosted⟩, fun dt i s hon => ?inserted, fun dt s => ?removed, fun dt p s => ⟨fun h => ?healthy, fun hrec hall => ?recovered⟩⟩
  case idle =>
    refine takes_of_lift (f := evDisplayFrame dt) (fun _ => rfl) fun c h => ?_
    unfold evDisplayFrame
    generalize pass dt c = c at *
    rcases h with h | ⟨hs, hd⟩
    · exact if_pos (by simpa using h)
    · dsimp only
      rw [hs, hd]
      split <;> rfl
  case frame =>
    refine does_of_lift (f := evDisplayFrame dt) rfl ?_
    unfold evDisplayFrame
    generalize pass dt s.chip = c at *
    dsimp only
    rw [hon, hstop, hdown, if_neg (by decide), if_neg (by decide), if_neg (by decide)]
    have hview := (view_refreshPanels (frameStep c) p (panelW c p) y).trans (view_frameStep hp hcomp hn hlen hr)
    have hoff := (offscreen_of_draws draws_refreshPanels (frameStep c)).trans (offscreen_of_draws draws_frameStep c)
    generalize refreshPanels (frameStep c) = e at *
    simp only [Chip.offscreen, Prod.mk.injEq] at hoff
    obtain ⟨hglb, hret, htasks, hao⟩ := hoff
    refine ⟨fun hmore => ?_, fun hend => ?_, hglb, hret, htasks, hao⟩
    · rw [LineView.advanced, if_pos (by exact hmore)] at hview
      exact ⟨(congrArg LineView.phase hview :), (congrArg LineView.len hview :), fun i hi => pix_of_pixels (congrArg LineView.shown hview :) hi⟩
    · rw [LineView.advanced, if_neg (by exact hend.not_gt)] at hview
      exact ⟨(congrArg LineView.len hview :), (congrArg LineView.unknown hview :), fun i hi =>
        (List.map_inj_left.1 (congrArg LineView.shown hview :) i (List.mem_range.2 hi) :)⟩
  case temp =>
    refine does_of_lift (f := evPanelTempRead dt p t) rfl ?_
    obtain ⟨k, hk, hrow⟩ := evPanelTempRead_eq dt p t s.chip
    rw [hrow]
    obtain ⟨-, -, -, -, -, hmem⟩ := disp_refreshPanels (k (updPanel p (fun x => { x with temp := t, tempHold := outOfTable (pass dt s.chip) p t })
      (pass dt s.chip)))
    have hpanel := settled_refreshPanels (k (updPanel p (fun x => { x with temp := t, tempHold := outOfTable (pass dt s.chip) p t })
      (pass dt s.chip))) p
    rw [hk.panel, panel_updPanel_self, panel_pass] at hpanel
    generalize hr : refreshPanels _ = r at hpanel hmem ⊢
    refine ⟨(congrArg Panel.temp hpanel :), fun w hw => ?_, (congrArg Panel.lines hpanel :), (congrArg Panel.shown hpanel :), ?_⟩
    · rw [show (panel r p).tempHold = outOfTable (pass dt s.chip) p t from (congrArg Panel.tempHold hpanel :), outOfTable, pass_sets, hw]
      simp
    · exact hmem.trans ((hk.reads (g := fun c => c.mem) (fun _ => rfl) _).trans (pass_mem dt s.chip))
  case uncompensated =>
    refine goes_of_lift (f := evLedgerCompensation dt p) rfl ?_
    unfold evLedgerCompensation
    generalize pass dt s.chip = c at *
    refine if_pos ?_
    rcases h with h | h | h | h
    · have hnil : (panel c p).ledger.filter (fun e => decide (cfg c (0x7400 + p) 3 31 16 ≤ e.2.natAbs)) = [] := by
        rw [List.filter_eq_nil_iff]
        exact fun e he => by simpa using h e he
      rw [hnil]
      simp
    · simp [h]
    · simp [h]
    · simp [Option.isSome_iff_ne_none.2 h]
  case compensated =>
    refine does_of_lift (f := evLedgerCompensation dt p) rfl ?_
    unfold evLedgerCompensation
    generalize pass dt s.chip = c at *
    dsimp only
    generalize hrows : (((panel c p).ledger.filter (fun e => decide (cfg c (0x7400 + p) 3 31 16 ≤ e.2.natAbs))).map (fun e => e.1 / 256)).eraseDups = rows
    have hmem : e.1 / 256 ∈ rows := by
      rw [← hrows, List.mem_eraseDups]
      exact List.mem_map.2 ⟨e, List.mem_filter.2 ⟨he, by simpa using hthr⟩, rfl⟩
    have hne : rows.isEmpty = false := List.isEmpty_eq_false_iff.2 (List.ne_nil_of_mem hmem)
    have hq' : c.disp.queue.any (fun r => r.panel == p.val) = false := by
      rw [List.any_eq_false]
      exact fun r hr => by simpa using hq r hr
    rw [if_neg (by simp [hne, hcomp, hrec, hupd, hq', hquiet, hstart, hstage, hslots])]
    generalize hup : updPanel p (fun x => { x with comp := some { rows := rows } }) c = d
    have hpanel : (panel d p).comp = some { rows := rows } := by rw [← hup, panel_updPanel_self]
    have hdmem : d.mem = c.mem := by rw [← hup]; rfl
    have hon : ∀ q, (∀ x : Chip, (q x).disp.rails = true ∧ (q x).disp.panels = x.disp.panels ∧ (q x).mem = x.mem) →
        (when (!d.disp.rails) q d).disp.rails = true ∧ panel (when (!d.disp.rails) q d) = panel d ∧ (when (!d.disp.rails) q d).mem = d.mem :=
      fun q hq => by
        cases h : d.disp.rails with
        | false => exact ⟨(hq d).1, by unfold panel; rw [Bool.not_false, when_true, (hq d).2.1], (hq d).2.2⟩
        | true => exact ⟨h, rfl, rfl⟩
    obtain ⟨hr, hp, hm⟩ := hon (fun c => { c with disp := { c.disp with rails := true, railFault := false, railAt := c.time.clock } })
      fun _ => ⟨rfl, rfl, rfl⟩
    generalize when (!d.disp.rails) _ d = f at *
    obtain ⟨hr', -, -, -, -, hm'⟩ := disp_refreshPanels f
    have hsettled := settled_refreshPanels f p
    rw [hp] at hsettled
    exact ⟨⟨_, ((congrArg Panel.comp hsettled :) : (panel (refreshPanels f) p).comp = (panel d p).comp).trans hpanel, hmem, rfl, rfl⟩,
      hr'.trans hr, hm'.trans (hm.trans hdmem)⟩
  case off =>
    refine takes_of_lift (f := evRailIdleOff dt) (fun _ => rfl) fun c ⟨hrails, hidle, hcomp, hwave⟩ => if_pos ?_
    generalize pass dt c = c at *
    simp [hrails, hidle, hcomp 0 (by decide), hcomp 1 (by decide), hwave]
  case stay =>
    refine takes_of_lift (f := evRailIdleOff dt) (fun _ => rfl) fun c h => if_neg ?_
    generalize pass dt c = c at *
    rcases h with h | h
    · simp [h]
    · simp [h.not_ge]
  case fault =>
    refine does_of_lift (f := evRailFault dt) rfl ?_
    rw [evRailFault_stops rfl hrails hon]
    generalize pass dt s.chip = c at *
    have hstarted := started_railStops c.disp.started c
    have hclock := clock_railStops c.disp.started c
    have hpanels := fun p (hp : p < 2) => panel_railStops c.disp.started c hp
    have hmem : (forAll [0, 1] (railStop c.disp.started) c).offscreen = c.offscreen :=
      offscreen_of_draws (fun d => Draws.forAll _ (draws_railStop c.disp.started) d) c
    dsimp only
    generalize forAll [0, 1] (railStop c.disp.started) c = e at *
    rw [← hclock]
    generalize hf : ({ e with disp := { e.disp with rails := false, railDown := true, downAt := e.time.clock } } : Chip) = f
    have hfp : panel f = panel e := by rw [← hf]; rfl
    have hrec := keeps_record 0x0C20 0x0500 []
    have hdisp := hrec.disp f
    have hpanel := hrec.panel f
    have hmem' : (record 0x0C20 0x0500 [] f).mem = f.mem := hrec.reads (g := fun c => c.mem) (fun _ => rfl) f
    generalize record 0x0C20 0x0500 [] f = r at *
    obtain ⟨hr, hdown, -, hat, hst, hm⟩ := disp_refreshPanels r
    have hsettled := settled_refreshPanels r
    generalize refreshPanels r = t at *
    simp only [Chip.offscreen, Prod.mk.injEq] at hmem
    obtain ⟨hglb, hret, -, -⟩ := hmem
    subst hf
    refine ⟨hr.trans (congrArg Disp.rails hdisp), hdown.trans (congrArg Disp.railDown hdisp), hat.trans (congrArg Disp.downAt hdisp),
      fun h => hst.trans ((congrArg Disp.started hdisp).trans (hstarted h)), (congrArg Memories.glb (hm.trans hmem')).trans hglb,
      (congrArg Memories.ret (hm.trans hmem')).trans hret, fun p hp => ?_⟩
    obtain ⟨hlines, hshown⟩ := hpanels p hp
    have hown := hsettled p
    rw [hpanel, hfp] at hown
    have hline : ∀ y, (panel t p).line y = ((panel c p).line y).stopped := fun y => by
      have hl : (panel t p).lines = Map.mapV (panel c p).lines (fun _ l => l.stopped) := (Panel.lines_of_settled hown).trans hlines
      rw [Panel.line, hl, line_mapV_stopped]
    refine ⟨(Panel.shown_of_settled hown).trans hshown, fun y => ?_⟩
    rw [hline]
    exact ⟨stopped_of_driven, stopped_of_idle⟩
  case noRetry =>
    refine takes_of_lift (f := evRailRetry dt ok) (fun _ => rfl) fun c h => if_pos ?_
    generalize pass dt c = c at *
    rcases h with h | h
    · simp [h]
    · simp [h]
  case retry =>
    refine does_of_lift (f := evRailRetry dt true) rfl ?_
    unfold evRailRetry
    generalize pass dt s.chip = c at *
    dsimp only
    rw [if_neg (by simp [hdown, hstop, hat]), if_pos rfl]
    obtain ⟨hrails, hdown', hrailAt, -, -, hmem⟩ := disp_refreshPanels { c with disp := { c.disp with
      rails := true, railAt := c.time.clock, railDown := false, railFault := false, waveAt := c.time.clock } }
    exact ⟨hrails, hdown', hrailAt, hmem⟩
  case fails => exact goes_of_lift (f := evRailRetry dt false) rfl (evRailRetry_fails rfl hdown hstop hat)
  case boost => exact takes_of_lift (f := evBoostPhaseSwitched dt) (fun _ => rfl) fun c h => if_neg (by rw [h]; decide)
  case boosted => exact takes_of_lift (f := evBoostPhaseSwitched dt) (fun _ => rfl) fun c h => if_pos h
  case inserted =>
    refine does_of_lift (f := evPanelInserted dt i) rfl ?_
    have hoff := draws_evPanelInserted (i := i) hon
    obtain ⟨b, hrow⟩ := evPanelInserted_on (i := i) hon
    rw [hrow] at hoff ⊢
    generalize pass dt s.chip = c at *
    simp only [Chip.offscreen, Prod.mk.injEq] at hoff
    obtain ⟨hglb, hret, -, -⟩ := hoff
    have hother : aside 0 (when b (renderAll 1) (identify i (allUnknown 1 c))) = aside 0 c := by
      rw [when_keeps (aside 0) _ _ _ (renderAll_keeps (fun f c _ => aside_updPanel_ne f c (by decide)) (fun r c hr => aside_enqueue_ne r c (by rw [hr]; decide)) _),
        identify_keeps (g := aside 0) (fun _ => rfl) (fun f c => aside_updPanel_ne f c (by decide)) (fun _ _ => rfl), aside_allUnknown_ne c (by decide)]
    have hpanel : (panel (refreshPanels (when b (renderAll 1) (identify i (allUnknown 1 c)))) 1).undrawn.settled =
        (panel (identify i (allUnknown 1 c)) 1).undrawn.settled := by
      have hs := settled_refreshPanels (when b (renderAll 1) (identify i (allUnknown 1 c))) 1
      have hu := when_keeps (fun c => (panel c 1).undrawn) b _ _ (undrawn_renderAll 1 (identify i (allUnknown 1 c)))
      exact (congrArg Panel.undrawn hs :).trans (congrArg Panel.settled hu :)
    have hzero := panel_refreshPanels_zero hother
    generalize refreshPanels (when b (renderAll 1) (identify i (allUnknown 1 c))) = r at *
    have hfresh : panel (allUnknown 1 c) 1 = { panel c 1 with lines := (panel (allUnknown 1 c) 1).lines, comp := none } := by
      rw [panel_allUnknown, panel_updPanel_self]
    have hw : panelW (allUnknown 1 c) 1 = panelW c 1 := rfl
    have hh : panelH (allUnknown 1 c) 1 = panelH c 1 := rfl
    have hserial : (panel (allUnknown 1 c) 1).serial = (panel c 1).serial := by rw [hfresh]
    have hledger : (panel (allUnknown 1 c) 1).ledger = (panel c 1).ledger := by rw [hfresh]
    generalize allUnknown 1 c = u at *
    refine ⟨?_, fun hm hcrc hwd hht => ?_, fun hbad => ?_, hzero, hglb, hret⟩
    · by_cases hgood : (i.magicOk && i.crcOk && i.width == panelW u 1 && i.height == panelH u 1) = false
      · rw [panel_identify_bad hgood] at hpanel
        exact (congrArg Panel.present hpanel :)
      · simp only [Bool.not_eq_false, Bool.and_eq_true, beq_iff_eq] at hgood
        obtain ⟨⟨⟨hm, hcrc⟩, hwd⟩, hht⟩ := hgood
        rw [panel_identify_good hm hcrc hwd hht] at hpanel
        exact (congrArg Panel.present hpanel :)
    · rw [panel_identify_good hm hcrc (hwd.trans hw.symm) (hht.trans hh.symm), hserial, hledger] at hpanel
      refine ⟨(congrArg Panel.identified hpanel :), (congrArg Panel.idFault hpanel :), (congrArg Panel.serial hpanel :), fun hne => ?_, fun heq => ?_⟩
      · exact ((congrArg Panel.ledger hpanel :) : (panel r 1).ledger = _).trans (if_neg hne)
      · exact ((congrArg Panel.ledger hpanel :) : (panel r 1).ledger = _).trans (if_pos heq)
    · rw [panel_identify_bad (by rcases hbad with h | h <;> simp [h])] at hpanel
      exact ⟨(congrArg Panel.identified hpanel :), (congrArg Panel.idFault hpanel :)⟩
  case removed =>
    refine does_of_lift (f := evPanelRemoved dt) rfl ?_
    unfold evPanelRemoved
    dsimp only
    have hstop0 : panel (stopLines 1 0 true (pass dt s.chip)) 0 = panel s.chip 0 :=
      (panel_stopLines_ne 0 true _ (by decide)).trans (congrFun (panel_pass _ _) 0)
    have hrails : (stopLines 1 0 true (pass dt s.chip)).disp.rails = s.chip.disp.rails :=
      (stopLines_keeps (g := fun c => c.disp.rails) (fun _ => rfl) (fun _ _ => rfl) (fun _ _ => rfl) (fun _ _ _ => rfl) 0 true _).trans
        (congrArg Disp.rails (pass_disp _ _))
    have hheight : panelH (stopLines 1 0 true (pass dt s.chip)) 1 = panelH s.chip 1 := by
      refine ((draws_stopLines 1 0 true).reads (g := fun c => panelH c 1) (fun _ => rfl) _).trans ?_
      rw [panelH, cfg_pass, panelH]
    have hoff := (offscreen_of_draws (draws_stopLines 1 0 true) (pass dt s.chip))
    generalize stopLines 1 0 true (pass dt s.chip) = c at *
    have hgone : panel (allUnknown 1 c) 1 = { panel c 1 with
        lines := (List.range (panelH c 1)).map (fun y => (y, ({ unknown := true } : Ln))), comp := none } := by
      rw [panel_allUnknown, panel_updPanel_self]
    have hkeep : panel (allUnknown 1 c) 0 = panel c 0 := by rw [panel_allUnknown, panel_updPanel_ne _ _ (by decide)]
    have hrails' := draws_allUnknown_rails 1 c
    have hoff' := (offscreen_of_draws (draws_allUnknown 1) c).trans hoff
    generalize allUnknown 1 c = u at *
    generalize hv : updPanel 1 (fun x => { x with present := false, identified := false, idFault := false, recovery := false }) u = v
    have hv1 : panel v 1 = { panel u 1 with present := false, identified := false, idFault := false, recovery := false } := by
      rw [← hv, panel_updPanel_self]
    have hv0 : panel v 0 = panel u 0 := by rw [← hv, panel_updPanel_ne _ _ (by decide)]
    have hvrails : v.disp.rails = u.disp.rails := by rw [← hv]; rfl
    have hvoff : v.offscreen = u.offscreen := by rw [← hv]; rfl
    have hrec := keeps_record 0x0C02 0x0E01 []
    obtain ⟨hr, -, -, -, -, -⟩ := disp_refreshPanels (record 0x0C02 0x0E01 [] v)
    have hsettled := settled_refreshPanels (record 0x0C02 0x0E01 [] v)
    rw [hrec.panel] at hsettled
    rw [hrec.disp] at hr
    have hroff := (offscreen_of_draws draws_refreshPanels _).trans (offscreen_of_draws hrec.draws v)
    generalize refreshPanels (record 0x0C02 0x0E01 [] v) = r at *
    have hmem := hroff.trans (hvoff.trans hoff')
    simp only [Chip.offscreen, Prod.mk.injEq, pass_mem] at hmem
    obtain ⟨hglb, hret, -, -⟩ := hmem
    have h1 := hsettled 1
    have h0 := hsettled 0
    rw [hv1, hgone] at h1
    rw [hv0, hkeep, hstop0] at h0
    refine ⟨Panel.present_of_settled h1, Panel.identified_of_settled h1, fun y hy => ?_, Panel.lines_of_settled h0, Panel.shown_of_settled h0,
      hr.trans (hvrails.trans (hrails'.trans hrails)), hglb, hret⟩
    have hlines : (panel r 1).lines = (List.range (panelH c 1)).map fun y => (y, { unknown := true }) := Panel.lines_of_settled h1
    rw [Panel.line, hlines, getD_range_map _ _ (by rwa [hheight])]
    exact ⟨rfl, rfl⟩
  case healthy =>
    refine goes_of_lift (f := evDispRecovered dt p) rfl (if_pos ?_)
    simp only [h]
    rfl
  case recovered =>
    refine does_of_lift (f := evDispRecovered dt p) rfl ?_
    obtain ⟨e, q, he, hq, hrow⟩ := evDispRecovered_ends rfl hrec hall
    rw [hrow]
    generalize pass dt s.chip = c at *
    have hpanel : panel e p = { panel c p with
        recovery := false, lines := Map.mapV (panel c p).lines (fun _ l => { l with journal := false }) } := by rw [he, panel_updPanel_self]
    have hother : ∀ q, q ≠ p.val → panel e q = panel c q := fun q hq => by rw [he, panel_updPanel_ne _ _ hq]
    have heoff : e.offscreen = c.offscreen := by rw [he]; rfl
    generalize hf : when q (fun c => { c with mem := { c.mem with dispJournalValid := false } }) e = f
    have hfpanel : panel f = panel e := by rw [← hf]; exact when_keeps panel _ _ _ rfl
    have hfoff : f.offscreen = e.offscreen := by rw [← hf]; exact when_keeps Chip.offscreen _ _ _ rfl
    have hrec := keeps_record 0x0C11 (0x0E00 + p) []
    have hgpanel := hrec.panel f
    have hgmem : (record 0x0C11 (0x0E00 + p) [] f).mem = f.mem := hrec.reads (g := fun c => c.mem) (fun _ => rfl) f
    have hgoff := offscreen_of_draws hrec.draws f
    generalize record 0x0C11 (0x0E00 + p) [] f = g at *
    obtain ⟨-, -, -, -, -, hrmem⟩ := disp_refreshPanels (renderAll p g)
    have hs := (congrArg Panel.undrawn (settled_refreshPanels (renderAll p g) p) :).trans (congrArg Panel.settled (undrawn_renderAll p g) :)
    have hroff := (offscreen_of_draws draws_refreshPanels _).trans (offscreen_of_draws (draws_renderAll p) g)
    rw [mem_renderAll] at hrmem
    generalize refreshPanels (renderAll p g) = r at *
    have hmem := hroff.trans (hgoff.trans (hfoff.trans heoff))
    simp only [Chip.offscreen, Prod.mk.injEq] at hmem
    obtain ⟨hglb, hret, -, -⟩ := hmem
    have hown : (panel r p).settled.undrawn = (panel e p).settled.undrawn := hs.trans (by rw [hgpanel, hfpanel]; rfl)
    rw [hpanel] at hown
    refine ⟨(congrArg Panel.recovery hown :), fun y => ?_, hglb, hret, fun hnone => ?_⟩
    · rw [show (panel r p).line y = _ from ((congrArg (fun x => Panel.line x y) hown :) : (panel r p).line y = _).trans
        (line_mapV_unjournalled (panel c p) y)]
    · have hq' : q = true := by
        have hall' : ∀ k, k < 2 → (panel e k).recovery = false := fun k hk => by
          by_cases hkp : k = p.val
          · rw [hkp, hpanel]
          · rw [hother k hkp, hnone k hk hkp]
        rw [hq]
        simp [hall' 0 (by decide), hall' 1 (by decide)]
      rw [hrmem, hgmem, ← hf, hq']
      rfl

end Sys2Proof.Machine
end

section
/-! Start-up (R467 to R474): what the steps of the boot leave, the safe values that end it, the role that is taken, auto-run, the wraps of
counters and register writes. -/
namespace Sys2Proof.Machine

open Sys2Proof Sys2Proof.Safety

/-! ### Auto-run (R474) -/

/-- What holds for the module to enter RUN of itself. -/
def MayAutoRun (c : Chip) : Prop :=
  c.sup.mstate = .stop ∧ c.sup.autoWait.isSome = true ∧ live c 0x7800 1 0 0 ≠ 0 ∧ c.sup.role ≠ .reserve
    ∧ c.sup.conflict = false ∧ timeOk c = true

theorem evAutoRun_waits {dt : Nat} {c : Chip} (h : ¬MayAutoRun (pass dt c)) : evAutoRun dt c = pass dt c := by
  refine if_pos ?_
  generalize pass dt c = d at h
  by_contra hno
  simp only [Bool.or_eq_true, not_or, Bool.not_eq_true, bne_eq_false_iff_eq, Option.isNone_eq_false_iff, beq_eq_false_iff_ne,
    Bool.not_eq_false'] at hno
  obtain ⟨⟨⟨⟨⟨hst, hwait⟩, hlive⟩, hrole⟩, hconf⟩, htime⟩ := hno
  exact h ⟨hst, hwait, hlive, hrole, hconf, htime⟩

theorem evAutoRun_may {dt : Nat} {c d : Chip} (hd : pass dt c = d) (h : MayAutoRun d) :
    evAutoRun dt c = if d.sup.restart = 0 ∧ (isPair d && partnerRuns d) = false then { d with sup := { d.sup with autoWait := none } }
      else order (d.tt.tn + 1) (.enterRun (d.sup.restart == 2) 0) { d with sup := { d.sup with autoWait := none } } := by
  obtain ⟨hst, hwait, hlive, hrole, hconf, htime⟩ := h
  have hpair : isPair { d with sup := { d.sup with autoWait := none } } = isPair d := rfl
  have hruns : partnerRuns { d with sup := { d.sup with autoWait := none } } = partnerRuns d := rfl
  unfold evAutoRun
  rw [hd]
  dsimp only
  rw [if_neg (by simp [hst, Option.isNone_eq_false_iff.2 hwait, hlive, hrole, hconf, htime]), hpair, hruns]
  simp only [Bool.and_eq_true, Bool.not_eq_true', decide_eq_true_eq]

/-! ### Counters (R459) -/

theorem bumpBy_count (n k : Nat) (c : Chip) : Map.getD (bumpBy n k c).cnt.val n 0 = (Map.getD c.cnt.val n 0 + k) % 2 ^ 48 := by
  unfold bumpBy
  dsimp only
  split
  case isTrue h => exact (Map.getD_put_self _ _ _ _).trans (Nat.mod_eq_of_lt h).symm
  case isFalse => exact Map.getD_put_self _ _ _ _

theorem bumpBy_count_ne {n m : Nat} (k : Nat) (c : Chip) (h : m ≠ n) : Map.getD (bumpBy n k c).cnt.val m 0 = Map.getD c.cnt.val m 0 := by
  unfold bumpBy
  dsimp only
  split <;> exact Map.getD_put_ne _ _ _ _ _ h

theorem mem_wrapDue_bumpBy (n k : Nat) (c : Chip) :
    n ∈ (bumpBy n k c).cnt.wrapDue ↔ n ∈ c.cnt.wrapDue ∨ 2 ^ 48 ≤ Map.getD c.cnt.val n 0 + k := by
  unfold bumpBy
  dsimp only
  split
  case isTrue h => exact (or_iff_left h.not_ge).symm
  case isFalse h => exact ⟨fun _ => .inr (Nat.le_of_not_lt h), fun _ => List.mem_append_right _ (List.mem_singleton_self n)⟩

theorem mem_sticky_bumpBy (n k : Nat) (c : Chip) :
    n ∈ (bumpBy n k c).cnt.sticky ↔ n ∈ c.cnt.sticky ∨ 2 ^ 48 ≤ Map.getD c.cnt.val n 0 + k := by
  unfold bumpBy
  dsimp only
  split
  case isTrue h => exact (or_iff_left h.not_ge).symm
  case isFalse h =>
    refine ⟨fun _ => .inr (Nat.le_of_not_lt h), fun _ => ?_⟩
    dsimp only
    split
    case isTrue hin => exact List.contains_iff_mem.1 hin
    case isFalse => exact List.mem_cons_self

/-! ### Register writes (R438) -/

/-- A register write that R438 allows. -/
def RegisterAllowed (c : Chip) (ix sub v : Nat) : Prop :=
  (∃ w, paramAt ix sub = some w ∧ w.reservedSet v = false) ∧ writeOk c ix sub v = true ∧ ¬(c.sets.named = true ∧ ix = 0x2020 ∧ sub = 1)

theorem evParamRegisterWrite_allowed {dt ix sub v : Nat} {c : Chip} (h : RegisterAllowed (pass dt c) ix sub v) :
    evParamRegisterWrite dt ix sub v c = order ((pass dt c).tt.tn + 1) (.params [(ix * 256 + sub, v)]) (pass dt c) := by
  obtain ⟨⟨w, hw, hres⟩, hok, hnamed⟩ := h
  unfold evParamRegisterWrite
  generalize pass dt c = d at *
  dsimp only
  rw [hw]
  refine if_neg ?_
  simpa [hres, hok] using hnamed

theorem evParamRegisterWrite_refused {dt ix sub v : Nat} {c : Chip} (h : ¬RegisterAllowed (pass dt c) ix sub v) :
    evParamRegisterWrite dt ix sub v c = pass dt c := by
  unfold evParamRegisterWrite
  generalize pass dt c = d at *
  dsimp only
  refine if_pos ?_
  cases hw : paramAt ix sub with
  | none => rfl
  | some w =>
    by_contra hno
    simp only [Bool.or_eq_true, not_or, Bool.not_eq_true, Bool.not_eq_false', Bool.and_eq_true, beq_iff_eq] at hno
    exact h ⟨⟨w, hw, hno.1.1⟩, hno.1.2, fun ⟨hn, hix, hsub⟩ => hno.2 ⟨⟨hn, hix⟩, hsub⟩⟩

/-! ### What start-up stands on (R467): the state, the clock, the sets and memory, which most of its steps leave alone -/

/-- What the steps of start-up leave but for a few. -/
def Chip.stand (c : Chip) : MState × Bool × Nat × Servo × ConfigSet × Map Nat × Mem :=
  (c.sup.mstate, c.sup.serving, c.time.clock, c.time.servo, c.sets.main, c.sets.live, c.mem.glb)

/-- It, and retained memory with the copy of a rewrite. -/
def Chip.footing (c : Chip) := (c.stand, c.mem.restartCopy, c.mem.ret)

/-- The footing with the engines. -/
def Chip.rig (c : Chip) := (c.footing, c.hlth.ce, c.hlth.se)

theorem Draws.footing {f : Chip → Chip} (hf : Draws f) (c : Chip) : (f c).footing = c.footing := hf.reads (g := Chip.footing) (fun _ => rfl) c

theorem Draws.rig {f : Chip → Chip} (hf : Draws f) (c : Chip) : (f c).rig = c.rig := hf.reads (g := Chip.rig) (fun _ => rfl) c

theorem rig_record (code src : Nat) (ws : List Nat) (c : Chip) : (record code src ws c).rig = c.rig := (draws_record code src ws).rig c

theorem rig_startThyme (c : Chip) : (startThyme c).rig = c.rig := by
  unfold startThyme
  exact rig_record _ _ _ _

theorem rig_storedSide (c : Chip) : (storedSide c).rig = c.rig := by
  unfold storedSide
  split <;> rfl

theorem rig_startTime (c : Chip) :
    (startTime c).rig = { c with time := { c.time with clock := c.mem.savedClock, servo := .unlocked } }.rig := by
  unfold startTime
  rfl

theorem rig_powerDomains (c : Chip) : (powerDomains c).rig = c.rig := by
  have h := forAll_keeps Chip.rig (List.range 12) (fun d => setDom d (if domOff c.sets.main d then .offByMode else .on)) (fun _ _ => rfl) c
  unfold powerDomains
  dsimp only
  generalize forAll (List.range 12) _ c = e at *
  exact h

theorem rig_electPorts (c : Chip) : (electPorts c).rig = c.rig := by
  have hset : ∀ (p : Bool) (d : Chip), d.rig = c.rig → (when p (record 0x0824 0 []) d).rig = c.rig := fun p d hd =>
    (when_keeps Chip.rig p _ d (rig_record _ _ _ d)).trans hd
  unfold electPorts
  dsimp only
  split
  · exact hset _ _ rfl
  · exact hset _ _ rfl
  · exact hset _ _ rfl
  · split_ifs <;> exact hset _ _ rfl

theorem rig_startStations (c : Chip) : (startStations c).rig = c.rig := by
  unfold startStations
  refine forAll_keeps Chip.rig (enabledStations c.sets.main) _ ?_ c
  exact fun _ _ => rfl

theorem rig_startNet (c : Chip) : (startNet c).rig = c.rig := by
  have h := rig_electPorts c
  unfold startNet
  generalize electPorts c = d at *
  rw [← h]
  exact rig_startStations _

/-! ### The self-test (R470) -/

theorem rig_spareRow (pool unit addr : Nat) (c : Chip) : (spareRow pool unit addr c).rig = c.rig := by
  unfold spareRow
  dsimp only
  split
  · exact ((draws_bump _).rig _).trans (rig_record _ _ _ _)
  · exact rig_record _ _ _ c

/-- No engine has failed or stands aside for another. -/
def EnginesSound (c : Chip) : Prop :=
  (∀ n, (ceEng c n).st ≠ .failed ∧ (ceEng c n).subBy = none) ∧ ∀ e, (seEng c e).st ≠ .failed ∧ (seEng c e).subBy = none

theorem EnginesSound.of_engines {c d : Chip} (h : EnginesSound c) (hc : d.hlth.ce = c.hlth.ce) (hs : d.hlth.se = c.hlth.se) : EnginesSound d := by
  obtain ⟨hce, hse⟩ := h
  refine ⟨fun n => ?_, fun e => ?_⟩
  · rw [ceEng, hc]
    exact hce n
  · rw [seEng, hs]
    exact hse e

theorem getD_foldl_put {α : Type} (F : Nat → α) (d : α) (k : Nat) (l : List Nat) (m : Map α) :
    Map.getD (l.foldl (fun m n => Map.put m n (F n)) m) k d = if k ∈ l then F k else Map.getD m k d := by
  induction l generalizing m with
  | nil => rfl
  | cons n r ih =>
    rw [List.foldl_cons, ih]
    by_cases hr : k ∈ r
    · rw [if_pos hr, if_pos (List.mem_cons_of_mem n hr)]
    · rw [if_neg hr]
      by_cases hk : k = n
      · rw [hk, Map.getD_put_self, if_pos List.mem_cons_self]
      · rw [Map.getD_put_ne _ _ _ _ _ hk, if_neg (by simp [hk, hr])]

theorem placed_sound {m : Map Engine} {n : Nat} {st : EngSt} (h : (Map.getD m n {}).st ≠ .failed) (hst : st ≠ .failed) :
    (placed m n st).st ≠ .failed := by
  unfold placed
  dsimp only
  split
  · exact h
  · exact h
  · split
    · exact h
    · exact hst

theorem placeCe_sound (cs : ConfigSet) (n : Nat) : placeCe cs n ≠ .failed := by
  unfold placeCe
  split_ifs <;> decide

theorem placeSe_sound (cs : ConfigSet) (n : Nat) : placeSe cs n ≠ .failed := by
  unfold placeSe
  split_ifs <;> decide

theorem forAll_idle {α : Type} {f : α → Chip → Chip} {c : Chip} {l : List α} (h : ∀ a, f a c = c) : forAll l f c = c := by
  induction l with
  | nil => rfl
  | cons a r ih => rw [forAll_cons, h, ih]

/-- The places of the CEs in the main set. -/
def placedCes (c : Chip) : Map Engine :=
  (List.range 24).foldl (fun m n => Map.put m n (placed c.hlth.ce n (placeCe c.sets.main n))) c.hlth.ce

/-- The block with these CEs. -/
def withCes (m : Map Engine) (c : Chip) : Chip := { c with hlth := { c.hlth with ce := m } }

/-- A CE that is to be active and has failed is substituted. -/
def substFailedCe (n : Nat) (c : Chip) : Chip :=
  when (placeCe c.sets.main n == .active && (ceEng c n).st == .failed && (ceEng c n).subBy.isNone) (substCe n 0) c

theorem placeCes_eq (c : Chip) : placeCes c = forAll (List.range 24) substFailedCe (withCes (placedCes c) c) := rfl

theorem substFailedCe_of_sound {n : Nat} {c : Chip} (h : (ceEng c n).st ≠ .failed) : substFailedCe n c = c := by
  rw [substFailedCe, beq_eq_false_iff_ne.2 h, Bool.and_false, Bool.false_and, when_false]

theorem ceEng_withCes (m : Map Engine) (c : Chip) (n : Nat) : ceEng (withCes m c) n = Map.getD m n {} := rfl

theorem placedCes_sound {c : Chip} (h : ∀ n, (ceEng c n).st ≠ .failed) (n : Nat) : (Map.getD (placedCes c) n {}).st ≠ .failed := by
  rw [placedCes, getD_foldl_put fun n => placed c.hlth.ce n (placeCe c.sets.main n)]
  split
  · exact placed_sound (h n) (placeCe_sound _ n)
  · exact h n

/-- Where no CE has failed, none is substituted. -/
theorem placeCes_of_sound {c : Chip} (h : ∀ n, (ceEng c n).st ≠ .failed) : placeCes c = withCes (placedCes c) c := by
  rw [placeCes_eq]
  exact forAll_idle fun n => substFailedCe_of_sound (by rw [ceEng_withCes]; exact placedCes_sound h n)

/-- The places of the SEs in the main set. -/
def placedSes (c : Chip) : Map Engine :=
  (List.range 8).foldl (fun m n => Map.put m n (placed c.hlth.se n (placeSe c.sets.main n))) c.hlth.se

/-- The block with these SEs. -/
def withSes (m : Map Engine) (c : Chip) : Chip := { c with hlth := { c.hlth with se := m } }

theorem placeSes_eq (c : Chip) : placeSes c = withSes (placedSes c) c := rfl

theorem seEng_withSes (m : Map Engine) (c : Chip) (n : Nat) : seEng (withSes m c) n = Map.getD m n {} := rfl

/-- An SE that is to be active and has failed is substituted. -/
def substFailedSe (e : Nat) (c : Chip) : Chip :=
  when (placeSe c.sets.main e == .active && (seEng c e).st == .failed && (seEng c e).subBy.isNone) (substSe e 0) c

theorem substFailedSe_of_sound {e : Nat} {c : Chip} (h : (seEng c e).st ≠ .failed) : substFailedSe e c = c := by
  rw [substFailedSe, beq_eq_false_iff_ne.2 h, Bool.and_false, Bool.false_and, when_false]

theorem placedSes_sound {c : Chip} (h : ∀ e, (seEng c e).st ≠ .failed) (e : Nat) : (Map.getD (placedSes c) e {}).st ≠ .failed := by
  rw [placedSes, getD_foldl_put fun n => placed c.hlth.se n (placeSe c.sets.main n)]
  split
  · exact placed_sound (h e) (placeSe_sound _ e)
  · exact h e

/-- The engines with those that failed their test marked. -/
def markFailed (l : List Nat) (k : Nat) (m : Map Engine) : Map Engine :=
  (List.range k).foldl (fun m n => if l.contains n then Map.upd m n {} (fun e => { e with st := .failed }) else m) m

theorem markFailed_nil (k : Nat) (m : Map Engine) : markFailed [] k m = m := by
  unfold markFailed
  induction List.range k with
  | nil => rfl
  | cons n r ih => exact ih

theorem testEngines_eq (r : StartUp) (c : Chip) : testEngines r c = forAll (List.range 8) substFailedSe
    (placeSes (placeCes (withSes (markFailed r.seFail 8 c.hlth.se) (withCes (markFailed r.ceFail 24 c.hlth.ce) c)))) := rfl

theorem forAll_substFailedSe {c : Chip} (h : ∀ e, (seEng c e).st ≠ .failed) (l : List Nat) : forAll l substFailedSe c = c :=
  forAll_idle fun e => substFailedSe_of_sound (h e)

theorem withSes_withCes_self (c : Chip) : withSes c.hlth.se (withCes c.hlth.ce c) = c := rfl

theorem seEng_withCes (m : Map Engine) (c : Chip) (e : Nat) : seEng (withCes m c) e = seEng c e := rfl

theorem testEngines_of_pass {r : StartUp} (hce : r.ceFail = []) (hse : r.seFail = []) (c : Chip) :
    testEngines r c = forAll (List.range 8) substFailedSe (placeSes (placeCes c)) := by
  rw [testEngines_eq, hce, hse, markFailed_nil, markFailed_nil, withSes_withCes_self]

/-- Where no engine has failed, the test places the engines and substitutes none. -/
theorem testEngines_of_sound {r : StartUp} {c : Chip} (hce : r.ceFail = []) (hse : r.seFail = []) (h : EnginesSound c) :
    ∃ m m', testEngines r c = withSes m (withCes m' c) := by
  obtain ⟨hc, hs⟩ := h
  rw [testEngines_of_pass hce hse, placeCes_of_sound fun n => (hc n).1, placeSes_eq]
  generalize placedCes c = m
  have hsound := placedSes_sound (c := withCes m c) fun e => by rw [seEng_withCes]; exact (hs e).1
  refine ⟨placedSes (withCes m c), m, ?_⟩
  generalize withCes m c = d at *
  have hidle : ∀ e, (seEng (withSes (placedSes d) d) e).st ≠ .failed := fun e => by rw [seEng_withSes]; exact hsound e
  rw [forAll_substFailedSe hidle]

theorem footing_testEngines {r : StartUp} {c : Chip} (hce : r.ceFail = []) (hse : r.seFail = []) (h : EnginesSound c) :
    (testEngines r c).footing = c.footing := by
  obtain ⟨m, m', heq⟩ := testEngines_of_sound hce hse h
  rw [heq]
  rfl

theorem footing_record (code src : Nat) (ws : List Nat) (c : Chip) : (record code src ws c).footing = c.footing :=
  (draws_record code src ws).footing c

theorem footing_forAll {α : Type} (l : List α) {f : α → Chip → Chip} (h : ∀ a d, (f a d).footing = d.footing) (c : Chip) :
    (forAll l f c).footing = c.footing := forAll_keeps Chip.footing l f h c

theorem footing_updAi (ch : Nat) (f : Ai → Ai) (c : Chip) : (updAi ch f c).footing = c.footing := by
  unfold updAi
  dsimp only
  split
  · rfl
  · split
    · rw [((draws_record _ _ _).when _).footing, (draws_bump _).footing]
      rfl
    · split
      · rw [footing_record]
        rfl
      · split
        · rw [footing_record]
          rfl
        · rfl

theorem footing_updAo (ch : Nat) (f : Ao → Ao) (c : Chip) : (updAo ch f c).footing = c.footing := rfl

theorem footing_updDo (ch : Nat) (f : Do → Do) (c : Chip) : (updDo ch f c).footing = c.footing := rfl

theorem footing_io (i : Field) (c : Chip) : Chip.footing { c with io := i } = c.footing := rfl

theorem footing_refreshGroup (g : Nat) (c : Chip) : (refreshGroup g c).footing = c.footing := by
  unfold refreshGroup
  exact footing_forAll _ (fun _ => footing_updDo _ _) c

theorem footing_deadGroup (g : Nat) (c : Chip) : (deadGroup g c).footing = c.footing := by
  unfold deadGroup
  dsimp only
  have h := footing_record 0x0E04 (groupUnit g) [] c
  generalize record 0x0E04 (groupUnit g) [] c = d at *
  rw [← h]
  split
  · exact footing_forAll _ (fun _ => footing_updAi _ _) d
  · split
    · exact footing_forAll _ (fun _ => footing_updAo _ _) d
    · split
      · exact footing_io _ d
      · rw [footing_refreshGroup, footing_io]

theorem footing_measureHoldup (pct : Nat) (c : Chip) : (measureHoldup pct c).footing = c.footing := by
  unfold measureHoldup
  dsimp only
  rw [((draws_record _ _ _).when _).footing, ((draws_record _ _ _).when _).footing]
  rfl

theorem footing_failRails (c : Chip) : (failRails c).footing = c.footing := by
  unfold failRails
  split
  · exact footing_record _ _ _ _
  · rfl

/-- The findings of the self-test but for an oscillator's. -/
theorem selfTest_eq {r : StartUp} (htcxo : r.tcxoFail = none) (hfatal : r.fatal = false) (c : Chip) :
    selfTest r c = when r.railFail failRails (forAll (r.groupsDead.filter (fun g => decide (g < 12))) deadGroup
      (measureHoldup r.holdup (testEngines r (forAll r.rows (fun h => spareRow h.pool h.unit h.addr) c)))) := by
  unfold selfTest
  rw [htcxo, hfatal]
  rfl

/-- A self-test without a finding about oscillators and engines leaves the footing. -/
theorem footing_selfTest {r : StartUp} {c : Chip} (htcxo : r.tcxoFail = none) (hfatal : r.fatal = false) (hce : r.ceFail = []) (hse : r.seFail = [])
    (h : EnginesSound c) : (selfTest r c).footing = c.footing := by
  have hrows : (forAll r.rows (fun h => spareRow h.pool h.unit h.addr) c).rig = c.rig :=
    forAll_keeps Chip.rig r.rows _ (fun h c => rig_spareRow h.pool h.unit h.addr c) c
  rw [selfTest_eq htcxo hfatal]
  generalize forAll r.rows _ c = d at *
  rw [when_keeps Chip.footing _ _ _ (footing_failRails _), forAll_keeps Chip.footing _ deadGroup footing_deadGroup, footing_measureHoldup,
    footing_testEngines hce hse (h.of_engines (congrArg (fun r => r.2.1) hrows) (congrArg (fun r => r.2.2) hrows))]
  exact congrArg Prod.fst hrows

theorem mstate_setMState (m : MState) (cause : Nat) (c : Chip) : (setMState m cause c).sup.mstate = m := by
  unfold setMState
  rw [eventAll_sup_mstate]

theorem mstate_enterFault (c : Chip) : (enterFault c).sup.mstate = .fault := by
  unfold enterFault
  split
  case isTrue h => exact h
  case isFalse => rw [mstate_setMState]

/-- A fatal finding ends in FAULT. -/
theorem mstate_selfTest_of_fatal {r : StartUp} (h : r.fatal = true) (c : Chip) : (selfTest r c).sup.mstate = .fault := by
  unfold selfTest
  dsimp only
  rw [if_pos h, mstate_enterFault]

/-! ### The display, the field devices, the slots and the ledgers (R225, R244, R386, R390, R487) -/

theorem draws_findPanels (r : StartUp) : Draws (findPanels r) := fun c => by
  unfold findPanels
  dsimp only
  split
  · exact (draws_identify _ _).trans (draws_updPanel _ _ c)
  · exact (draws_updPanel _ _ _).trans (draws_updPanel _ _ c)

theorem draws_recoverPanel (p : Nat) : Draws (recoverPanel p) := fun c => by
  unfold recoverPanel
  dsimp only
  split
  · rfl
  · split
    · exact draws_record _ _ _ _
    · split
      · rfl
      · exact draws_updPanel _ _ c

theorem draws_startDisplay (r : StartUp) : Draws (startDisplay r) := fun c => by
  have h := Draws.forAll [0, 1] draws_allUnknown c
  unfold startDisplay
  dsimp only
  generalize forAll [0, 1] allUnknown c = d at *
  rw [← h]
  split
  · exact draws_refreshPanels d
  · rw [draws_refreshPanels, Draws.forAll _ draws_renderAll]
    refine Eq.trans (b := (forAll [0, 1] recoverPanel _).undisplayed) rfl ?_
    rw [Draws.forAll _ draws_recoverPanel, Draws.forAll _ fun p => draws_updPanel p _, draws_findPanels]

theorem footing_hartStart (h : Nat) (c : Chip) : (hartStart h c).footing = c.footing := by
  unfold hartStart
  split
  · exact ((keeps_hartSendNow h).draws.footing _).trans rfl
  · rfl

theorem footing_clearSlot (s : Nat) (c : Chip) : (clearSlot s c).footing = c.footing := by
  unfold clearSlot
  dsimp only
  split
  · rfl
  · exact ((keeps_sageDone _ _ _ _).draws.footing _).trans rfl

theorem footing_advise (c : Chip) : (advise c).footing = c.footing := by
  unfold advise
  refine footing_forAll _ (fun e d => ?_) c
  rw [(keeps_emit _).draws.footing, footing_record]
  rfl

theorem footing_finishClear (c : Chip) : (finishClear c).footing = c.footing := by
  unfold finishClear
  split
  · rfl
  · dsimp only
    split
    · rfl
    · exact ((keeps_recordF _ _ _ _ _ _ _).draws.footing _).trans rfl

theorem finishRewrite_of_none {c : Chip} (h : c.mem.restartCopy = none) : finishRewrite c = c := by
  unfold finishRewrite
  rw [h]

/-! ### The boot (R467 steps 2 to 5) -/

theorem stand_finishRewrite (c : Chip) : (finishRewrite c).stand = c.stand := by
  unfold finishRewrite
  split
  · rfl
  · rw [(keeps_record _ _ _).reads (g := Chip.stand) fun _ => rfl]
    unfold updDir
    split <;> rfl

/-- What the logic supply finds. -/
def supplied (r : StartUp) (c : Chip) : Chip :=
  { c with sup := { c.sup with heating := none }, hlth := { c.hlth with
    vlA := Nat.min r.vlA 65535, vlB := Nat.min r.vlB 65535, laOk := decide (18000 ≤ r.vlA), lbOk := decide (18000 ≤ r.vlB) } }

/-- The sets are found and the clock runs. -/
def bootSets (r : StartUp) (c : Chip) : Chip := startThyme (startTime (storedSide { c with sets := { c.sets with main := (storedMain r c).1 } }))

/-- The run of the heaters is recorded. -/
def heated (heat : Option Nat) (c : Chip) : Chip := match heat with | some s => record 0x0E08 0 [s] c | none => c

/-- The module is in SELFTEST. -/
def testing (cause : Nat) (c : Chip) : Chip := record 0x0E01 0 [cause] { c with sup := { c.sup with mstate := .selftest, serving := true, fromReset := false } }

/-- Steps 2 and 3. -/
def bootStart (r : StartUp) (heat : Option Nat) (c : Chip) : Chip :=
  when (!r.boot1Ok || !r.boot2Ok) (record 0x0E02 0x0300 []) (startNet (powerDomains
    (testing (if c.sup.fromReset then 2 else if r.cause = 0 then 0 else 1) (heated heat (bootSets r (supplied r c))))))

/-- The task contexts of a set. -/
def freshTasks (cs : ConfigSet) : Map Task :=
  (List.range 256).foldl (fun m t => let k := freshTask cs .halted t; if k.st = .empty then m else Map.put m t k) []

/-- The tasks, the slots and the ledgers. -/
def bootTasks (c : Chip) : Chip := advise (forAll (List.range 64) clearSlot { c with tasks := freshTasks c.sets.main })

/-- The display, the field devices, the recorder and retained memory. -/
def bootEngines (r : StartUp) (ok : Bool) (c : Chip) : Chip :=
  when (!ok) (record 0x0E05 0x0300 []) (finishClear (finishRewrite (forAll (List.range 32) hartStart (startDisplay r c))))

/-- The restart decided. -/
def decided (ok : Bool) (c : Chip) : Chip :=
  let x := if ok then powerUpRestart c else (0, c)
  { x.2 with sup := { x.2.sup with restart := x.1, roleWait := true } }

/-- Steps 2 to 5 with a copy of Maruth that is good. -/
def booted (r : StartUp) (heat : Option Nat) (c : Chip) : Chip :=
  let d := selfTest r (bootStart r heat c)
  if d.sup.mstate = .fault then d else decided (storedMain r (supplied r c)).2 (bootTasks (bootEngines r (storedMain r (supplied r c)).2 d))

theorem boot_eq (r : StartUp) (heat : Option Nat) (c : Chip) :
    boot r heat c = if !r.boot1Ok && !r.boot2Ok then bootFailed (supplied r c) else booted r heat c := by
  cases heat <;> rfl

/-! ### What the boot leaves -/

/-- The stored main set, in the slot that the selector word names. -/
def storedSet (c : Chip) : Option ConfigSet := if c.mem.selMain = 0 then c.mem.nand0 else c.mem.nand1

theorem storedMain_good {r : StartUp} {c : Chip} {cs : ConfigSet} (h : storedSet c = some cs) (hok : r.setOk = true) (hbad : setBad cs = none) :
    storedMain r c = (cs, true) := by
  unfold storedMain
  rw [storedSet] at h
  rw [h]
  dsimp only
  rw [hok, hbad]
  rfl

theorem storedMain_bad {r : StartUp} {c : Chip} (h : storedSet c = none ∨ r.setOk = false ∨ ∃ cs, storedSet c = some cs ∧ setBad cs ≠ none) :
    storedMain r c = ({}, false) := by
  unfold storedMain
  rw [storedSet] at h
  generalize (if c.mem.selMain = 0 then c.mem.nand0 else c.mem.nand1) = m at *
  cases m with
  | none => rfl
  | some cs =>
    refine if_neg ?_
    rcases h with h | h | ⟨cs', h, hbad⟩
    · exact nomatch h
    · simp [h]
    · injection h with h
      rw [h, Option.isNone_eq_false_iff.2 (Option.isSome_iff_ne_none.2 hbad), Bool.and_false]
      decide

theorem rig_bootSets (r : StartUp) (c : Chip) : (bootSets r c).rig = (((c.sup.mstate, c.sup.serving, c.mem.savedClock, .unlocked,
    (storedMain r c).1, c.sets.live, c.mem.glb), c.mem.restartCopy, c.mem.ret), c.hlth.ce, c.hlth.se) := by
  unfold bootSets
  have hside := rig_storedSide { c with sets := { c.sets with main := (storedMain r c).1 } }
  have hmem : (storedSide { c with sets := { c.sets with main := (storedMain r c).1 } }).mem = c.mem := by
    unfold storedSide
    split <;> rfl
  rw [rig_startThyme, rig_startTime]
  generalize storedSide { c with sets := { c.sets with main := (storedMain r c).1 } } = d at *
  simp only [Chip.rig, Chip.footing, Chip.stand, Prod.mk.injEq] at hside
  obtain ⟨⟨⟨hm, hserve, -, -, hmain, hlive, -⟩, -, -⟩, hce, hse⟩ := hside
  simp only [Chip.rig, Chip.footing, Chip.stand, hmem, hm, hserve, hmain, hlive, hce, hse]

theorem rig_heated (heat : Option Nat) (c : Chip) : (heated heat c).rig = c.rig := by
  cases heat with
  | none => rfl
  | some s => exact rig_record _ _ _ c

theorem rig_testing (cause : Nat) (c : Chip) :
    (testing cause c).rig = (((.selftest, true, c.time.clock, c.time.servo, c.sets.main, c.sets.live, c.mem.glb), c.mem.restartCopy, c.mem.ret),
      c.hlth.ce, c.hlth.se) := by
  unfold testing
  rw [rig_record]
  rfl

/-- Before its self-test the module stands on what memory holds. -/
theorem rig_bootStart (r : StartUp) (heat : Option Nat) (c : Chip) : (bootStart r heat c).rig = (((.selftest, true, c.mem.savedClock, .unlocked,
    (storedMain r c).1, c.sets.live, c.mem.glb), c.mem.restartCopy, c.mem.ret), c.hlth.ce, c.hlth.se) := by
  have h := (rig_heated heat _).trans (rig_bootSets r (supplied r c))
  unfold bootStart
  rw [((draws_record _ _ _).when _).rig, rig_startNet, rig_powerDomains, rig_testing]
  generalize heated heat (bootSets r (supplied r c)) = d at *
  simp only [Chip.rig, Chip.footing, Chip.stand, Prod.mk.injEq] at h
  obtain ⟨⟨⟨-, -, hclock, hservo, hmain, hlive, hglb⟩, hcopy, hret⟩, hce, hse⟩ := h
  rw [hclock, hservo, hmain, hlive, hglb, hcopy, hret, hce, hse]
  rfl

theorem footing_startDisplay_hart (r : StartUp) (c : Chip) : (forAll (List.range 32) hartStart (startDisplay r c)).footing = c.footing :=
  (footing_forAll _ footing_hartStart _).trans ((draws_startDisplay r).footing c)

theorem Draws.stand {f : Chip → Chip} (hf : Draws f) (c : Chip) : (f c).stand = c.stand := congrArg Prod.fst (hf.footing c)

theorem stand_finishClear (c : Chip) : (finishClear c).stand = c.stand := congrArg Prod.fst (footing_finishClear c)

theorem stand_bootEngines (r : StartUp) (ok : Bool) (c : Chip) : (bootEngines r ok c).stand = c.stand := by
  have hf := footing_startDisplay_hart r c
  unfold bootEngines
  generalize forAll (List.range 32) hartStart (startDisplay r c) = d at *
  rw [((draws_record _ _ _).when _).stand, stand_finishClear, stand_finishRewrite]
  exact congrArg Prod.fst hf

theorem footing_bootEngines {r : StartUp} {c : Chip} (h : c.mem.restartCopy = none) (ok : Bool) : (bootEngines r ok c).footing = c.footing := by
  have hf := footing_startDisplay_hart r c
  unfold bootEngines
  generalize forAll (List.range 32) hartStart (startDisplay r c) = d at *
  have hcopy : d.mem.restartCopy = none := (congrArg (fun x => x.2.1) hf).trans h
  rw [finishRewrite_of_none hcopy, ((draws_record _ _ _).when _).footing, footing_finishClear, hf]

theorem footing_bootTasks (c : Chip) : (bootTasks c).footing = c.footing := by
  unfold bootTasks
  rw [footing_advise, footing_forAll _ footing_clearSlot]
  rfl

theorem tasks_clearSlot (s : Nat) (c : Chip) : (clearSlot s c).tasks = c.tasks := by
  unfold clearSlot
  dsimp only
  split
  · rfl
  · rw [(keeps_sageDone _ _ _ _).reads (g := fun c => c.tasks) fun _ => rfl]
    rfl

theorem tasks_advise (c : Chip) : (advise c).tasks = c.tasks := by
  unfold advise
  refine forAll_keeps (fun c => c.tasks) _ _ (fun e d => ?_) c
  rw [(keeps_emit _).reads (g := fun c => c.tasks) fun _ => rfl, (keeps_record _ _ _).reads (g := fun c => c.tasks) fun _ => rfl]

theorem tasks_bootTasks (c : Chip) : (bootTasks c).tasks = freshTasks c.sets.main := by
  unfold bootTasks
  rw [tasks_advise, forAll_keeps (fun c => c.tasks) _ clearSlot tasks_clearSlot]

/-- A task context that nothing has started. -/
def Task.Unstarted (k : Task) : Prop := (k.st = .halted ∨ k.st = .empty) ∧ k.job = none

theorem freshTask_unstarted (cs : ConfigSet) (t : Nat) : (freshTask cs .halted t).Unstarted := by
  unfold freshTask
  split
  · exact ⟨.inr rfl, rfl⟩
  · exact ⟨.inl rfl, rfl⟩

theorem freshTasks_unstarted (cs : ConfigSet) (t : Nat) : (Map.getD (freshTasks cs) t {}).Unstarted := by
  have h : ∀ (l : List Nat) (m : Map Task), (Map.getD m t {}).Unstarted →
      (Map.getD (l.foldl (fun m t => let k := freshTask cs .halted t; if k.st = .empty then m else Map.put m t k) m) t {}).Unstarted := fun l => by
    induction l with
    | nil => exact fun _ hm => hm
    | cons u r ih =>
      refine fun m hm => ih _ ?_
      dsimp only
      split
      · exact hm
      · by_cases hu : t = u
        · rw [hu, Map.getD_put_self]
          exact freshTask_unstarted cs u
        · rwa [Map.getD_put_ne _ _ _ _ _ hu]
  exact h _ [] ⟨.inr rfl, rfl⟩

theorem powerUpRestart_keeps {β : Type} {g : Chip → β} (hcore : ∀ c, g c.core = g c)
    (hmis : ∀ b (c : Chip), g { c with sup := { c.sup with mismatch := b } } = g c) (c : Chip) : g (powerUpRestart c).2 = g c := by
  have hwarm : ∀ d, g (warmRefused d).2 = g d := fun d => by
    unfold warmRefused
    split
    · exact ((keeps_record _ _ _).reads hcore _).trans (hmis _ d)
    · split
      · exact (keeps_record _ _ _).reads hcore d
      · exact hmis _ d
  unfold powerUpRestart
  dsimp only
  rw [← hmis false c]
  generalize ({ c with sup := { c.sup with mismatch := false } } : Chip) = d
  split
  · rfl
  · split
    · exact (keeps_record _ _ _).reads hcore d
    · rw [← hwarm d]
      split <;> rename_i hw <;> rw [hw]

theorem powerUpRestart_cold {c : Chip} (h : live c 0x2010 1 1 0 = 1) : (powerUpRestart c).1 = 1 := by
  unfold powerUpRestart
  dsimp only
  rw [if_pos (by exact h)]

theorem decided_keeps {β : Type} {g : Chip → β} (hcore : ∀ c, g c.core = g c)
    (hsup : ∀ b k w (c : Chip), g { c with sup := { c.sup with mismatch := b, restart := k, roleWait := w } } = g c) (ok : Bool) (c : Chip) :
    g (decided ok c) = g c := by
  unfold decided
  cases ok with
  | false => exact hsup c.sup.mismatch 0 true c
  | true =>
    refine (hsup (powerUpRestart c).2.sup.mismatch (powerUpRestart c).1 true (powerUpRestart c).2).trans ?_
    exact powerUpRestart_keeps hcore (fun b d => hsup b d.sup.restart d.sup.roleWait d) c

theorem decided_roleWait (ok : Bool) (c : Chip) : (decided ok c).sup.roleWait = true := rfl

theorem decided_refused (c : Chip) : (decided false c).sup.restart = 0 := rfl

theorem decided_cold {c : Chip} (h : live c 0x2010 1 1 0 = 1) : (decided true c).sup.restart = 1 := powerUpRestart_cold h

/-- A boot without a finding goes to its end. -/
theorem booted_eq {r : StartUp} {heat : Option Nat} {c : Chip} (htcxo : r.tcxoFail = none) (hfatal : r.fatal = false) (hce : r.ceFail = [])
    (hse : r.seFail = []) (h : EnginesSound c) : ∃ e, booted r heat c = decided (storedMain r c).2 (bootTasks e)
      ∧ e.stand = (.selftest, true, c.mem.savedClock, .unlocked, (storedMain r c).1, c.sets.live, c.mem.glb)
      ∧ (c.mem.restartCopy = none → e.mem.ret = c.mem.ret) := by
  have hrig := rig_bootStart r heat c
  have hsound := h.of_engines (congrArg (fun x => x.2.1) hrig) (congrArg (fun x => x.2.2) hrig)
  have hfoot := (footing_selfTest htcxo hfatal hce hse hsound).trans (congrArg Prod.fst hrig)
  have hst : (selfTest r (bootStart r heat c)).sup.mstate = .selftest := congrArg (fun x => x.1.1) hfoot
  have heq : booted r heat c = decided (storedMain r c).2 (bootTasks (bootEngines r (storedMain r c).2 (selfTest r (bootStart r heat c)))) :=
    if_neg (by rw [hst]; decide)
  refine ⟨_, heq, ?_, fun hnone => ?_⟩
  · exact (stand_bootEngines _ _ _).trans (congrArg Prod.fst hfoot)
  · have hcopy : (selfTest r (bootStart r heat c)).mem.restartCopy = none := (congrArg (fun x => x.2.1) hfoot).trans hnone
    exact (congrArg (fun x => x.2.2) (footing_bootEngines hcopy _)).trans (congrArg (fun x => x.2.2) hfoot)

theorem booted_fatal {r : StartUp} (h : r.fatal = true) (heat : Option Nat) (c : Chip) : (booted r heat c).sup.mstate = .fault := by
  have hst := mstate_selfTest_of_fatal h (bootStart r heat c)
  unfold booted
  dsimp only
  rw [if_pos hst, hst]

/-! ### The safe values of the outputs (R34, R236, R263) -/

/-- The safe value of a current output is committed. -/
def safeAo (ch : Nat) (c : Chip) : Chip := pushAo ch ((loopVal c 1 ch).getD (aoSafe c ch)) c

/-- The safe value of a digital output is committed. -/
def safeDo (ch : Nat) (c : Chip) : Chip := pushDo ch (((loopVal c 0 ch).map (· != 0)).getD (doSafe c ch)) c

theorem safeCommit_eq (c : Chip) : safeCommit c = forAll (List.range 24) safeDo (forAll (List.range 8) safeAo c) := rfl

theorem loopVal_of_state {c : Chip} (h : c.sup.mstate ≠ .service) (kind ch : Nat) : loopVal c kind ch = none := if_neg h

theorem aoSafe_congr {c d : Chip} {ch : Nat} (hs : d.sets.main = c.sets.main) (ha : ao d ch = ao c ch) : aoSafe d ch = aoSafe c ch := by
  unfold aoSafe cfg cfgb
  rw [hs, ha]

theorem ao_safeDo (ch : Nat) (c : Chip) : ao (safeDo ch c) = ao c := by
  funext u
  rw [ao, safeDo, ao_pushDo, ao]

/-- Outside SERVICE every current output has its safe value. -/
theorem committed_ao_safeCommit {c : Chip} (hst : c.sup.mstate ≠ .service) {ch : Nat} (hch : ch < 8) :
    (ao (safeCommit c) ch).committed = Nat.min (aoSafe c ch) 44000 := by
  rw [safeCommit_eq, forAll_keeps ao _ safeDo ao_safeDo]
  refine forAll_once (P := fun d => d.sup = c.sup ∧ d.sets.main = c.sets.main ∧ ao d ch = ao c ch)
    (Q := fun d => (ao d ch).committed = Nat.min (aoSafe c ch) 44000) (f := safeAo) (fun x hx d hd => ?_) (fun d hd => ?_) (fun x hx d hd => ?_)
    List.nodup_range (List.mem_range.2 hch) ⟨rfl, rfl, rfl⟩
  · exact ⟨hd.1, hd.2.1, (ao_pushAo_ne _ d hx.symm).trans hd.2.2⟩
  · obtain ⟨hsup, hsets, hao⟩ := hd
    rw [safeAo, committed_pushAo, loopVal_of_state (by rwa [hsup]), Option.getD_none, aoSafe_congr hsets hao]
  · rw [safeAo, ao_pushAo_ne _ d hx.symm]
    exact hd

/-- What a digital output's safe value hangs on. -/
def Chip.safety (c : Chip) : MState × ConfigSet := (c.sup.mstate, c.sets.main)

theorem safety_safeDo (ch : Nat) (c : Chip) : (safeDo ch c).safety = c.safety :=
  pushDo_keeps (g := Chip.safety) (fun _ => rfl) (fun _ _ => rfl) _ c

/-- Outside SERVICE every digital output has its safe value. -/
theorem committed_dov_safeCommit {c : Chip} (hst : c.sup.mstate ≠ .service) {ch : Nat} (hch : ch < 24) :
    (dov (safeCommit c) ch).committed = doSafe c ch := by
  have hsafe : (forAll (List.range 8) safeAo c).safety = c.safety := forAll_keeps Chip.safety (List.range 8) safeAo (fun _ _ => rfl) c
  rw [safeCommit_eq]
  generalize forAll (List.range 8) safeAo c = e at *
  refine forAll_once (P := fun d => d.safety = c.safety) (Q := fun d => (dov d ch).committed = doSafe c ch) (f := safeDo)
    (fun x _ d hd => (safety_safeDo x d).trans hd) (fun d hd => ?_) (fun x hx d hd => ?_) List.nodup_range (List.mem_range.2 hch) hsafe
  · have hm : d.sup.mstate = c.sup.mstate := congrArg Prod.fst hd
    have hs : d.sets.main = c.sets.main := congrArg Prod.snd hd
    rw [safeDo, committed_pushDo, loopVal_of_state (by rwa [hm]), Option.map_none, Option.getD_none, doSafe, cfgb, hs]
    rfl
  · obtain ⟨-, -, hkept⟩ := Do.outputs_of_switch (switch_pushDo_ne (((loopVal d 0 x).map (· != 0)).getD (doSafe d x)) d hx.symm)
    exact hkept.trans hd

/-! ### The role (R473) -/

/-- The role, the state of the pair, the sets, memory and the outputs. -/
def Chip.posture (c : Chip) := (c.sup.role, c.sup.conflict, c.sup.roleWait, c.sup.restart, c.pair.st, c.pair.withdrawn, c.sets.main, c.sets.live,
  c.mem.glb, c.mem.ret, c.tasks)

theorem Keeps.posture {f : Chip → Chip} (hf : Keeps f) (c : Chip) : (f c).posture = c.posture := hf.reads (g := Chip.posture) (fun _ => rfl) c

/-- A role of CFG_ROLE that makes a pair. -/
def pairRole (cs : ConfigSet) : Bool := roleOf cs == .pairA || roleOf cs == .pairB

/-- The block with its role taken. -/
def roleTaken (h : Heard) (c : Chip) : Chip :=
  { c with
    sup := { c.sup with
      role := roleOf c.sets.main, conflict := pairRole c.sets.main && h.sameRole, roleWait := false
      restart := if pairRole c.sets.main && !(pairRole c.sets.main && h.sameRole) && h.hbState == some 4 then 0 else c.sup.restart }
    sets := { c.sets with roleDue := false }
    pair := { c.pair with
      st := if pairRole c.sets.main && h.sameRole then .none else (negotiated (roleOf c.sets.main) h).1
      withdrawn := !(pairRole c.sets.main && h.sameRole) && (negotiated (roleOf c.sets.main) h).2 } }

/-- The reserve is asked. -/
def reserveAsked (c : Chip) : Chip := updPair (fun p => { p with queryTn := none }) (sendQuery c)

theorem takeRole_eq (h : Heard) (c : Chip) : ∃ ask ws, takeRole h c =
    conflictNow (record 0x0E06 0x0600 ws (when ask reserveAsked (roleTaken h c))) := ⟨_, _, rfl⟩

theorem posture_reserveAsked (c : Chip) : (reserveAsked c).posture = c.posture := by
  have h : (sendQuery c).posture = c.posture := by
    unfold sendQuery sendBeacon
    rw [(keeps_bump _).posture, (keeps_netSend _).posture, (keeps_emit _).posture]
    rfl
  unfold reserveAsked
  generalize sendQuery c = d at *
  exact h

theorem ioAo_reserveAsked (c : Chip) : (reserveAsked c).io.ao = c.io.ao := by
  have h : (sendQuery c).io.ao = c.io.ao := by
    unfold sendQuery sendBeacon
    rw [(keeps_bump _).reads (g := fun c => c.io.ao) fun _ => rfl, (keeps_netSend _).reads (g := fun c => c.io.ao) fun _ => rfl]
    rfl
  unfold reserveAsked
  generalize sendQuery c = d at *
  exact h

/-- What the role's record and query leave, a role that is taken leaves. -/
theorem takeRole_keeps {β : Type} {g : Chip → β} (hcore : ∀ c, g c.core = g c) (hask : ∀ c, g (reserveAsked c) = g c) (h : Heard) (c : Chip) :
    g (takeRole h c) = g (roleTaken h c) := by
  obtain ⟨ask, ws, heq⟩ := takeRole_eq h c
  rw [heq]
  generalize roleTaken h c = d
  unfold conflictNow
  rw [when_keeps g _ _ _ ((keeps_record _ _ _).reads hcore _), (keeps_record _ _ _).reads hcore, when_keeps g _ _ _ (hask d)]

/-- The CAN channels start, and auto-run where it is set. -/
def channelsUp (c : Chip) : Chip :=
  forAll (List.range 4) canStart { c with sup := { c.sup with
    autoWait := if live c 0x7800 1 0 0 == 1 && c.sup.role != .reserve && !c.sup.conflict then some c.time.clock else none } }

theorem reachStop_eq (c : Chip) : reachStop c = safeCommit (setMState .stop 3 (channelsUp c)) := rfl

theorem channelsUp_reads {β : Type} {g : Chip → β} (hcan : ∀ ch f c, g (updCan ch f c) = g c) (c : Chip) : g (channelsUp c) = g { c with sup := { c.sup with
    autoWait := if live c 0x7800 1 0 0 == 1 && c.sup.role != .reserve && !c.sup.conflict then some c.time.clock else none } } :=
  forAll_keeps g (List.range 4) canStart (fun ch d => hcan ch _ d) _

theorem setMState_reads {β : Type} {g : Chip → β} (hcore : ∀ c, g c.core = g c) (m : MState) (cause : Nat) (c : Chip) :
    g (setMState m cause c) = g { c with sup := { c.sup with mstate := m } } := (keeps_eventAll _ _).reads hcore _

theorem mstate_reachStop (c : Chip) : (reachStop c).sup.mstate = .stop := by
  rw [reachStop_eq, safeCommit_keeps (g := fun c => c.sup.mstate) (fun _ => rfl) (fun _ _ _ => rfl) (fun _ _ _ => rfl), mstate_setMState]

theorem posture_reachStop (c : Chip) : (reachStop c).posture = c.posture := by
  rw [reachStop_eq, safeCommit_keeps (g := Chip.posture) (fun _ => rfl) (fun _ _ _ => rfl) (fun _ _ _ => rfl),
    setMState_reads (g := Chip.posture) fun _ => rfl]
  exact channelsUp_reads (g := Chip.posture) (fun _ _ _ => rfl) c

theorem autoWait_reachStop (c : Chip) : (reachStop c).sup.autoWait =
    if live c 0x7800 1 0 0 == 1 && c.sup.role != .reserve && !c.sup.conflict then some c.time.clock else none := by
  rw [reachStop_eq, safeCommit_keeps (g := fun c => c.sup.autoWait) (fun _ => rfl) (fun _ _ _ => rfl) (fun _ _ _ => rfl),
    setMState_reads (g := fun c => c.sup.autoWait) fun _ => rfl]
  exact channelsUp_reads (g := fun c => c.sup.autoWait) (fun _ _ _ => rfl) c

/-- The outputs and the set before the safe values are committed. -/
theorem outputs_beforeSafe (c : Chip) : (setMState .stop 3 (channelsUp c)).io.ao = c.io.ao
    ∧ (setMState .stop 3 (channelsUp c)).sets.main = c.sets.main := by
  have h := channelsUp_reads (g := fun c => (c.io.ao, c.sets.main)) (fun _ _ _ => rfl) c
  have hm := setMState_reads (g := fun c => (c.io.ao, c.sets.main)) (fun _ => rfl) .stop 3 (channelsUp c)
  generalize channelsUp c = d at *
  exact Prod.mk.inj (hm.trans h)

theorem committed_ao_reachStop (c : Chip) {ch : Nat} (hch : ch < 8) :
    (ao (reachStop c) ch).committed = Nat.min (aoSafe c ch) 44000 := by
  obtain ⟨hao, hmain⟩ := outputs_beforeSafe c
  have hst := mstate_setMState .stop 3 (channelsUp c)
  rw [reachStop_eq]
  generalize setMState .stop 3 (channelsUp c) = d at *
  rw [committed_ao_safeCommit (by rw [hst]; decide) hch, aoSafe_congr hmain (by rw [ao, hao, ao])]

theorem committed_dov_reachStop (c : Chip) {ch : Nat} (hch : ch < 24) : (dov (reachStop c) ch).committed = doSafe c ch := by
  obtain ⟨-, hmain⟩ := outputs_beforeSafe c
  have hst := mstate_setMState .stop 3 (channelsUp c)
  rw [reachStop_eq]
  generalize setMState .stop 3 (channelsUp c) = d at *
  rw [committed_dov_safeCommit (by rw [hst]; decide) hch, doSafe, cfgb, hmain, doSafe, cfgb]

/-! ### CFG_ROLE and what the negotiation hears -/

theorem pairRole_iff (cs : ConfigSet) : pairRole cs = true ↔ cfgRole cs = 1 ∨ cfgRole cs = 2 := by
  unfold pairRole roleOf
  split <;> simp_all

theorem roleOf_reserve_iff (cs : ConfigSet) : roleOf cs = .reserve ↔ cfgRole cs = 3 := by
  unfold roleOf
  split <;> simp_all

theorem roleOf_pairB_iff (cs : ConfigSet) : roleOf cs = .pairB ↔ cfgRole cs = 2 := by
  unfold roleOf
  split <;> simp_all

theorem roleOf_solo {cs : ConfigSet} (hp : ¬(cfgRole cs = 1 ∨ cfgRole cs = 2)) (hr : cfgRole cs ≠ 3) : roleOf cs = .solo := by
  unfold roleOf
  split <;> simp_all

theorem roleOf_of_pairRole {cs : ConfigSet} (h : pairRole cs = true) : roleOf cs = .pairA ∨ roleOf cs = .pairB := by
  simpa [pairRole] using h

section
variable {role : RRole} {h : Heard} (hp : role = .pairA ∨ role = .pairB)
include hp

/-- A partner's heartbeat leaves the state of the pair to the resynchronisation. -/
theorem negotiated_heartbeat (hh : h.hbState.isSome = true) : negotiated role h = (.none, false) := by
  obtain ⟨n, hn⟩ := Option.isSome_iff_exists.1 hh
  rcases hp with rfl | rfl <;> simp [negotiated, hn]

theorem negotiated_beacon (hh : h.hbState = none) {b : Nat} (hb : h.beaconState = some b) : negotiated role h = (.degraded, role == .pairB || b == 4) := by
  rcases hp with rfl | rfl <;> simp [negotiated, hh, hb]

theorem negotiated_silence (hh : h.hbState = none) (hb : h.beaconState = none) :
    negotiated role h = (if h.witnessOk then .alone else .degraded, false) := by
  rcases hp with rfl | rfl <;> simp [negotiated, hh, hb]

end

section
variable (h : Heard) (c : Chip)

theorem conflict_roleTaken : (roleTaken h c).sup.conflict = (pairRole c.sets.main && h.sameRole) := rfl

theorem restart_roleTaken : (roleTaken h c).sup.restart =
    if pairRole c.sets.main && !(pairRole c.sets.main && h.sameRole) && h.hbState == some 4 then 0 else c.sup.restart := rfl

theorem st_roleTaken : (roleTaken h c).pair.st = if pairRole c.sets.main && h.sameRole then .none else (negotiated (roleOf c.sets.main) h).1 := rfl

theorem withdrawn_roleTaken :
    (roleTaken h c).pair.withdrawn = (!(pairRole c.sets.main && h.sameRole) && (negotiated (roleOf c.sets.main) h).2) := rfl

end

theorem evRoleNegotiation_takes {dt : Nat} {h : Heard} {c : Chip} (hst : c.sup.mstate = .selftest) (hwait : c.sup.roleWait = true) :
    evRoleNegotiation dt h c = reachStop (takeRole h (pass dt c)) :=
  if_pos (by rw [pass_sup]; exact ⟨hst, hwait⟩)

/-- The role, the pair's state and the restart decision that the negotiation leaves. -/
theorem posture_negotiated (h : Heard) (c : Chip) : (reachStop (takeRole h c)).posture = (roleTaken h c).posture :=
  (posture_reachStop _).trans (takeRole_keeps (g := Chip.posture) (fun _ => rfl) posture_reserveAsked h c)

theorem Chip.posture_fields {c d : Chip} (h : c.posture = d.posture) : c.sup.role = d.sup.role ∧ c.sup.conflict = d.sup.conflict
    ∧ c.sup.roleWait = d.sup.roleWait ∧ c.sup.restart = d.sup.restart ∧ c.pair.st = d.pair.st ∧ c.pair.withdrawn = d.pair.withdrawn
    ∧ c.sets.main = d.sets.main ∧ c.sets.live = d.sets.live ∧ c.mem.glb = d.mem.glb ∧ c.mem.ret = d.mem.ret ∧ c.tasks = d.tasks := by
  simpa only [Chip.posture, Prod.mk.injEq] using h

theorem role_roleTaken (h : Heard) (c : Chip) : (roleTaken h c).sup.role = roleOf c.sets.main := rfl

theorem sets_roleTaken (h : Heard) (c : Chip) : (roleTaken h c).sets = { c.sets with roleDue := false } := rfl

theorem takeRole_fields (h : Heard) (c : Chip) :
    (takeRole h c).sup.role = roleOf c.sets.main ∧ (takeRole h c).sets.main = c.sets.main ∧ (takeRole h c).sets.live = c.sets.live := by
  obtain ⟨hrole, -, -, -, -, -, hmain, hlive, -⟩ := Chip.posture_fields (takeRole_keeps (g := Chip.posture) (fun _ => rfl) posture_reserveAsked h c)
  rw [hrole, hmain, hlive, role_roleTaken, sets_roleTaken]
  exact ⟨rfl, rfl, rfl⟩

theorem committed_ao_negotiated (h : Heard) (c : Chip) {ch : Nat} (hch : ch < 8) :
    (ao (reachStop (takeRole h c)) ch).committed = Nat.min (aoSafe c ch) 44000 := by
  have hao : (takeRole h c).io.ao = c.io.ao := takeRole_keeps (g := fun c => c.io.ao) (fun _ => rfl) ioAo_reserveAsked h c
  obtain ⟨-, hmain, -⟩ := takeRole_fields h c
  generalize takeRole h c = d at *
  rw [committed_ao_reachStop _ hch, aoSafe_congr hmain (by rw [ao, hao, ao])]

theorem committed_dov_negotiated (h : Heard) (c : Chip) {ch : Nat} (hch : ch < 24) : (dov (reachStop (takeRole h c)) ch).committed = doSafe c ch := by
  obtain ⟨-, hmain, -⟩ := takeRole_fields h c
  generalize takeRole h c = d at *
  rw [committed_dov_reachStop _ hch, doSafe, cfgb, hmain, doSafe, cfgb]

theorem live_congr {c d : Chip} (h : d.sets.live = c.sets.live) (ix sub hi lo : Nat) : live d ix sub hi lo = live c ix sub hi lo := by
  rw [live, liveWord, h, live, liveWord]

theorem autoWait_negotiated (h : Heard) (c : Chip) : (reachStop (takeRole h c)).sup.autoWait.isSome = true ↔
    live c 0x7800 1 0 0 = 1 ∧ cfgRole c.sets.main ≠ 3 ∧ (reachStop (takeRole h c)).sup.conflict = false := by
  obtain ⟨hrole, -, hlive⟩ := takeRole_fields h c
  obtain ⟨-, hconf, -⟩ := Chip.posture_fields (posture_reachStop (takeRole h c))
  have hsame : live (takeRole h c) 0x7800 1 0 0 = live c 0x7800 1 0 0 := live_congr hlive _ _ _ _
  rw [autoWait_reachStop, hconf, hsame, hrole, ne_eq, ← roleOf_reserve_iff]
  generalize live c 0x7800 1 0 0 = w
  generalize (takeRole h c).sup.conflict = b
  generalize (takeRole h c).time.clock = t
  split <;> simp_all

theorem evPowerUp_off {dt : Nat} {r : StartUp} {c d : Chip} (hd : pass dt c = d) (hcause : r.cause ≠ 1) (hoff : d.sup.mstate = .off)
    (hfail : d.sup.bootFail = false) (hheat : d.sup.heating = none) :
    evPowerUp dt r c = if r.heater && d.sup.orderCx then { d with sup := { d.sup with heating := some r } } else boot r none d := by
  have hmay : mayBoot r d = true := by simp [mayBoot, hoff, hfail, hheat]
  have hdown : ¬(r.cause = 1 ∧ d.sup.mstate ≠ .boot ∨ d.sup.bootFail = true) := by simp [hcause, hfail]
  unfold evPowerUp
  rw [hd]
  dsimp only
  rw [hmay, if_neg (by decide), if_neg hdown]

/-- A boot command comes to the boot. -/
theorem boots_of {i : Instr} {s : State} {r : StartUp}
    (h : (∃ dt, i = .powerUp dt r ∧ r.cause ≠ 1 ∧ s.chip.sup.mstate = .off ∧ s.chip.sup.bootFail = false ∧ s.chip.sup.heating = none
        ∧ (r.heater = false ∨ s.chip.sup.orderCx = false)) ∨ ∃ dt secs, i = .heaterRunEnd dt secs ∧ s.chip.sup.heating = some r) :
    ∃ dt heat, ∀ P : Chip → Prop, P (boot r heat (pass dt s.chip)) → Does i s P := by
  rcases h with ⟨dt, rfl, hcause, hoff, hfail, hheat, hcold⟩ | ⟨dt, secs, rfl, hheat⟩
  · have hrow : evPowerUp dt r s.chip = boot r none (pass dt s.chip) :=
      (evPowerUp_off rfl hcause (by rwa [pass_sup]) (by rwa [pass_sup]) (by rwa [pass_sup])).trans
        (if_neg (by rw [pass_sup]; rcases hcold with h | h <;> simp [h]))
    exact ⟨dt, none, fun P hP => does_of_lift (f := evPowerUp dt r) rfl (hrow ▸ hP)⟩
  · have hrow : evHeaterRunEnd dt secs s.chip = boot r (some secs) (pass dt s.chip) := by
      unfold evHeaterRunEnd
      dsimp only
      rw [pass_sup, hheat]
    exact ⟨dt, some secs, fun P hP => does_of_lift (f := evHeaterRunEnd dt secs) rfl (hrow ▸ hP)⟩

/-- What the boot ROM leaves where both copies of Maruth fail. -/
theorem bootFailed_fields (c : Chip) : (bootFailed c).sup.mstate = .boot ∧ (bootFailed c).sup.bootFail = true ∧ (bootFailed c).sup.serving = false
    ∧ (bootFailed c).mem = c.mem ∧ (bootFailed c).sets = c.sets ∧ (bootFailed c).out = c.out := ⟨rfl, rfl, rfl, rfl, rfl, rfl⟩

theorem footing_decided (ok : Bool) (e : Chip) : (decided ok (bootTasks e)).footing = e.footing :=
  (decided_keeps (g := Chip.footing) (fun _ => rfl) (fun _ _ _ _ => rfl) ok _).trans (footing_bootTasks e)

theorem tasks_decided (ok : Bool) (e : Chip) : (decided ok (bootTasks e)).tasks = freshTasks e.sets.main :=
  (decided_keeps (g := fun c => c.tasks) (fun _ => rfl) (fun _ _ _ _ => rfl) ok _).trans (tasks_bootTasks e)

theorem live_of_footing {c d : Chip} (h : d.footing = c.footing) : d.sets.live = c.sets.live := congrArg (fun p => p.1.2.2.2.2.2.1) h

theorem ret_of_footing {c d : Chip} (h : d.footing = c.footing) : d.mem.ret = c.mem.ret := congrArg (fun p => p.2.2) h

theorem restart_decided_cold {e : Chip} (h : live e 0x2010 1 1 0 = 1) : (decided true (bootTasks e)).sup.restart = 1 := by
  have hlive := live_congr (live_of_footing (footing_bootTasks e)) 0x2010 1 1 0
  generalize bootTasks e = d at *
  exact decided_cold (hlive.trans h)

theorem Chip.stand_fields {c : Chip} {m : MState} {b : Bool} {t : Nat} {v : Servo} {cs : ConfigSet} {l : Map Nat} {g : Mem}
    (h : c.stand = (m, b, t, v, cs, l, g)) : c.sup.mstate = m ∧ c.sup.serving = b ∧ c.time.clock = t ∧ c.time.servo = v ∧ c.sets.main = cs
      ∧ c.sets.live = l ∧ c.mem.glb = g := by
  simpa only [Chip.stand, Prod.mk.injEq] using h

/-- Settles O57: start-up by what each of its steps leaves, the negotiation by what a role that is taken leaves. -/
theorem startUpRows : Obligations.StartUpRows := by
  unfold Obligations.StartUpRows
  refine ⟨fun dt r => ?idle, fun dt r hheater => ?heater, fun i s r hi => ?boots, fun dt h s hst hwait => ?roles, fun dt h => ?settled,
    fun dt => ⟨?conflict, ?noConflict⟩, fun dt => ⟨?auto, ?autoLapsed, ?autoWaits⟩, fun dt => ⟨?late, ?notLate⟩, fun dt n => ⟨?wrapped, ?notWrapped⟩,
    fun k n c => ⟨bumpBy_count n k c, fun m hm => bumpBy_count_ne k c hm, mem_wrapDue_bumpBy n k c, mem_sticky_bumpBy n k c⟩,
    fun dt ix sub v => ⟨?allowed, ?refused⟩⟩
  case idle =>
    refine takes_of_lift (f := evPowerUp dt r) (fun _ => rfl) fun c h => if_pos ?_
    generalize pass dt c = c at *
    obtain ⟨hcause, ⟨hoff, hboot⟩ | hfail | hheat⟩ := h
    · simp [mayBoot, hcause, hoff, hboot]
    · simp [mayBoot, hcause, hfail]
    · simp [mayBoot, hcause, Option.isNone_eq_false_iff.2 hheat]
  case heater =>
    exact takes_of_lift (f := evPowerUp dt r) (fun _ => rfl) fun c ⟨hcause, hoff, hfail, hheat, hcx⟩ =>
      (evPowerUp_off rfl hcause hoff hfail hheat).trans (if_pos (by rw [hheater, hcx]; rfl))
  case boots =>
    obtain ⟨dt, heat, hdoes⟩ := boots_of hi
    refine ⟨fun h1 h2 => hdoes _ ?_, fun hok => ?_⟩
    · obtain ⟨hst, hfail, hserve, hmem, hsets, hout⟩ := bootFailed_fields (supplied r (pass dt s.chip))
      rw [boot_eq, if_pos (by rw [h1, h2]; rfl)]
      generalize bootFailed (supplied r (pass dt s.chip)) = d at *
      exact ⟨hst, hfail, hserve, hmem.trans (pass_mem dt s.chip), hsets.trans (pass_sets dt s.chip), hout.trans (pass_out dt s.chip)⟩
    · have hboot : boot r heat (pass dt s.chip) = booted r heat (pass dt s.chip) :=
        (boot_eq r heat _).trans (if_neg (by rcases hok with h | h <;> simp [h]))
      refine ⟨fun hfatal => hdoes _ (hboot ▸ booted_fatal hfatal heat _), fun hfatal htcxo hce hse hces hses => hdoes _ ?_⟩
      have hsound : EnginesSound (pass dt s.chip) :=
        EnginesSound.of_engines (c := s.chip) ⟨hces, hses⟩ (by rw [pass_hlth]) (by rw [pass_hlth])
      obtain ⟨e, heq, hstand, hret⟩ := booted_eq (heat := heat) htcxo hfatal hce hse hsound
      have hmem := pass_mem dt s.chip
      have hstored : storedSet (pass dt s.chip) = storedSet s.chip := by rw [storedSet, hmem, storedSet]
      have hlive : live (pass dt s.chip) 0x2010 1 1 0 = live s.chip 0x2010 1 1 0 := live_congr (by rw [pass_sets]) _ _ _ _
      rw [hboot, heq]
      generalize pass dt s.chip = c at *
      have hfoot := footing_decided (storedMain r c).2 e
      have htasks := tasks_decided (storedMain r c).2 e
      have hwait := decided_roleWait (storedMain r c).2 (bootTasks e)
      obtain ⟨-, -, -, -, -, helive, -⟩ := Chip.stand_fields hstand
      have hcold : (storedMain r c).2 = true → live c 0x2010 1 1 0 = 1 → (decided (storedMain r c).2 (bootTasks e)).sup.restart = 1 := fun h hl => by
        rw [h]
        exact restart_decided_cold ((live_congr helive _ _ _ _).trans hl)
      have hnone : (storedMain r c).2 = false → (decided (storedMain r c).2 (bootTasks e)).sup.restart = 0 := fun h => by
        rw [h]
        exact decided_refused (bootTasks e)
      obtain ⟨hst, hserve, hclock, hservo, hmain, -, hglb⟩ := Chip.stand_fields ((congrArg Prod.fst hfoot).trans hstand)
      have hretE : (decided (storedMain r c).2 (bootTasks e)).mem.ret = e.mem.ret := ret_of_footing hfoot
      generalize decided (storedMain r c).2 (bootTasks e) = f at *
      refine ⟨hst, hwait, hserve, by rw [hclock, hmem], hservo, fun cs hcs hok' hbad => ?_, fun hbad => ?_, fun t _ => ?_, fun hcopy => ?_,
        by rw [hglb, hmem]⟩
      · have hgood := storedMain_good (r := r) (c := c) (hstored.trans hcs) hok' hbad
        rw [hgood] at hmain hcold
        exact ⟨hmain, fun hl => hcold rfl (hlive.trans hl)⟩
      · have hempty := storedMain_bad (r := r) (c := c) (by rw [hstored]; exact hbad)
        rw [hempty] at hmain hnone
        exact ⟨hmain, hnone rfl⟩
      · rw [task, htasks]
        exact freshTasks_unstarted e.sets.main t
      · rw [hretE, hret (by rw [hmem, hcopy]), hmem]
  case roles =>
    refine does_of_lift (f := evRoleNegotiation dt h) rfl ?_
    rw [evRoleNegotiation_takes hst hwait]
    have hmstate := mstate_reachStop (takeRole h (pass dt s.chip))
    have hpost := Chip.posture_fields (posture_negotiated h (pass dt s.chip))
    have hauto := autoWait_negotiated h (pass dt s.chip)
    have hao := fun ch hch => committed_ao_negotiated h (pass dt s.chip) (ch := ch) hch
    have hdo := fun ch hch => committed_dov_negotiated h (pass dt s.chip) (ch := ch) hch
    have hsets := pass_sets dt s.chip
    have hmem := pass_mem dt s.chip
    have htasks' := pass_tasks dt s.chip
    have hlive : live (pass dt s.chip) 0x7800 1 0 0 = live s.chip 0x7800 1 0 0 := live_congr (by rw [hsets]) _ _ _ _
    have haos : ∀ ch, aoSafe (pass dt s.chip) ch = aoSafe s.chip ch := fun ch => aoSafe_congr (by rw [hsets]) (by rw [ao, pass_io, ao])
    have hdos : ∀ ch, doSafe (pass dt s.chip) ch = doSafe s.chip ch := fun ch => by rw [doSafe, cfgb, hsets, doSafe, cfgb]
    generalize pass dt s.chip = c at *
    generalize reachStop (takeRole h c) = e at *
    obtain ⟨hrole, hconf, hrw, hrestart, hst', hwd, -, -, hglb, hret, htasks⟩ := hpost
    rw [conflict_roleTaken] at hconf
    rw [restart_roleTaken] at hrestart
    rw [st_roleTaken] at hst'
    rw [withdrawn_roleTaken] at hwd
    rw [role_roleTaken] at hrole
    rw [hsets] at *
    have hiff := pairRole_iff s.chip.sets.main
    refine ⟨hmstate, hrw, hrole, by rw [hconf, Bool.and_eq_true, hiff], fun h3 => ?_, fun hp h3 => ?_, fun hp hsame => ?_, by rw [hauto, hlive],
      fun ch hch => by rw [hao ch hch, haos], fun ch hch => by rw [hdo ch hch, hdos], hglb.trans (congrArg Memories.glb hmem),
      hret.trans (congrArg Memories.ret hmem), htasks.trans htasks'⟩
    · have hno : pairRole s.chip.sets.main = false := Bool.eq_false_iff.2 fun ht => by rcases hiff.1 ht with h | h <;> omega
      rw [hst', hno, (roleOf_reserve_iff _).2 h3]
      rfl
    · have hno : pairRole s.chip.sets.main = false := Bool.eq_false_iff.2 fun ht => hp (hiff.1 ht)
      rw [hst', hno, roleOf_solo hp h3]
      rfl
    · have hyes := hiff.2 hp
      have hpair := roleOf_of_pairRole hyes
      rw [hyes, hsame, Bool.and_false, if_neg (by decide)] at hst'
      rw [hyes, hsame, Bool.and_false, Bool.not_false, Bool.true_and] at hwd
      rw [hyes, hsame, Bool.and_false, Bool.not_false, Bool.true_and, Bool.true_and] at hrestart
      refine ⟨fun hh => ?_, fun hh b hb => ?_, fun hh hb => ?_, fun hh => ?_⟩
      · rw [hst', hwd, negotiated_heartbeat hpair hh]
        exact ⟨rfl, rfl⟩
      · rw [hst', hwd, negotiated_beacon hpair hh hb]
        exact ⟨rfl, by rw [Bool.or_eq_true, beq_iff_eq, beq_iff_eq, roleOf_pairB_iff]⟩
      · rw [hst', negotiated_silence hpair hh hb]
      · rw [hrestart, hh]
        rfl
  case settled =>
    refine takes_of_lift (f := evRoleNegotiation dt h) (fun _ => rfl) fun c ⟨hself, hstop⟩ => ?_
    exact (if_neg hself).trans (if_neg hstop)
  case conflict => exact takes_of_lift (f := evRoleConflict dt) (fun _ => rfl) fun c h => by rw [evRoleConflict, conflictNow, h, when_true]
  case noConflict => exact takes_of_lift (f := evRoleConflict dt) (fun _ => rfl) fun c h => by rw [evRoleConflict, conflictNow, h, when_false]; rfl
  case auto =>
    refine takes_of_lift (f := evAutoRun dt) (fun _ => rfl) fun c ⟨hmay, hdue⟩ => ?_
    rw [evAutoRun_may rfl hmay]
    refine if_neg fun ⟨hno, hpair⟩ => ?_
    rcases hdue with h | ⟨hp, hr⟩
    · exact h hno
    · simp [hp, hr] at hpair
  case autoLapsed =>
    refine takes_of_lift (f := evAutoRun dt) (fun _ => rfl) fun c ⟨hmay, hno, hpair⟩ => ?_
    rw [evAutoRun_may rfl hmay]
    exact if_pos ⟨hno, by rcases hpair with h | h <;> simp [h]⟩
  case autoWaits => exact takes_of_lift (f := evAutoRun dt) (fun _ => rfl) fun c h => evAutoRun_waits h
  case late =>
    refine takes_of_lift (f := evAutorunTimeout dt) (fun _ => rfl) fun c ⟨hst, hok, t, ht, hlate⟩ => ?_
    unfold evAutorunTimeout
    generalize pass dt c = c at *
    dsimp only
    rw [ht]
    exact if_neg (by simp [hst, hok, hlate.not_gt])
  case notLate =>
    refine takes_of_lift (f := evAutorunTimeout dt) (fun _ => rfl) fun c h => ?_
    unfold evAutorunTimeout
    generalize pass dt c = c at *
    dsimp only
    cases ht : c.sup.autoWait with
    | none => rfl
    | some t =>
      refine if_pos ?_
      by_contra hno
      simp only [Bool.or_eq_true, not_or, Bool.not_eq_true, bne_eq_false_iff_eq, decide_eq_false_iff_not, not_lt] at hno
      exact h ⟨hno.1.1, hno.1.2, t, ht, hno.2⟩
  case wrapped => exact takes_of_lift (f := evCntWrap dt n) (fun _ => rfl) fun c h => if_pos (List.contains_iff_mem.2 h)
  case notWrapped => exact takes_of_lift (f := evCntWrap dt n) (fun _ => rfl) fun c h => if_neg fun hin => h (List.contains_iff_mem.1 hin)
  case allowed => exact takes_of_lift (f := evParamRegisterWrite dt ix sub v.toNat) (fun _ => rfl) fun c h => evParamRegisterWrite_allowed h
  case refused => exact takes_of_lift (f := evParamRegisterWrite dt ix sub v.toNat) (fun _ => rfl) fun c h => evParamRegisterWrite_refused h

end Sys2Proof.Machine
end
